-- ==== Sys2Proof/Word.lean ====
section
/-! DEFINITION. The number types of the 720 and the plainest operations on them.
Bit vectors stand where the manual counts modulo a power of two or numbers bits; other counts are `Nat` or `Int`. -/

namespace Sys2Proof

/-- One byte of a frame (R1). -/
abbrev Byte := BitVec 8

/-- A seven-bit frame address (section 1.1). -/
abbrev Addr := BitVec 7

/-- A counter: 32 bits, wrapping (R18, R35, R56, R73, R96, R113, R135, R147, R169, R184, R190). -/
abbrev Counter := BitVec 32

/-- The rope odometer, in 1/256 mm, modulo 2^48 (section 4.2). -/
abbrev Odo := BitVec 48

/-- A timer: stopped (`none`), or running with the time in ms it was started with. -/
abbrev Timer := Option Nat

/-- A tower post by index: index `i` is post `i + 1` (R3). -/
abbrev Post := Fin 48

/-- The post number, 1 to 48, of a post index. -/
def postNumber (p : Post) : Nat := p.val + 1

/-- One element of a vector changed by a function. -/
def upd {α : Type} {n : Nat} (v : Vector α n) (i : Fin n) (f : α → α) : Vector α n := v.set i (f v[i])

/-- A count that stays at its limit ("Saturating at", Conventions). -/
def satAdd (limit a b : Nat) : Nat := min limit (a + b)

/-- A value clamped to a range ("Clamped to", Conventions). -/
def clampInt (lo hi x : Int) : Int := max lo (min hi x)

/-- One pair of values, one for each track (UP and DOWN). -/
structure PerTrack (α : Type) where
  up : α
  down : α
  deriving DecidableEq, Repr

end Sys2Proof
end

