-- ==== Sys2Proof/Syntax.lean ====
section
/-! DEFINITION. The 720's vocabulary and its commands: one constructor of `Instr` for each row of spec/opcode_table.json.
A parameter the manual ranges over numbers is a `Nat` as the request carries it, so that a value outside its range
can be named and refused; a parameter the manual ranges over names is an `Option`, `none` being a value outside them
(log 23); a parameter that is yes or no, or on or off, is a `Bool` and has no third value (log 49). -/

namespace Sys2Proof

/-! ## Frames and ports (chapters 1 and 2) -/

/-- The two ports (section 1.3). -/
inductive Port where
  | station
  | line
  deriving DecidableEq, Repr

/-- The port states (section 1.3). -/
inductive PortMode where
  | active
  | warned
  | muted
  | detached
  | rejoining
  deriving DecidableEq, Repr

/-- The assigned frame kinds, codes 0 to 12 in this order (R4). -/
inductive Kind where
  | roll
  | mark
  | ask
  | report
  | beat
  | terminalEvent
  | call
  | voice
  | adminRequest
  | adminAnswer
  | notice
  | postClear
  | data
  deriving DecidableEq, Repr

/-- The actions of a class table entry (R26). -/
inductive ClassAction where
  | drop
  | forward
  | forwardCopy
  | redirect
  deriving DecidableEq, Repr

/-- The unknown-address mask (R25): T, L, both, neither. -/
inductive Mask where
  | t
  | l
  | both
  | neither
  deriving DecidableEq, Repr

/-- The arbiter's scheduler mode (section 2.5). -/
inductive Scheduler where
  | strict
  | mixed
  deriving DecidableEq, Repr

/-! ## Posts, seats and the rope (chapters 3 and 4) -/

/-- The two tracks of the line. -/
inductive Track where
  | up
  | down
  deriving DecidableEq, Repr

/-- The compare modes of a seat (section 3.6). -/
inductive Compare where
  | off
  | band
  | above
  | below
  deriving DecidableEq, Repr

/-- The level of the tachometer's direction input (R59). -/
inductive Direction where
  | forward
  | reverse
  deriving DecidableEq, Repr

/-! ## Cabins, station and doors (chapters 5 to 7) -/

/-- Track modes (R84). -/
inductive TrackMode where
  | untracked
  | tracked
  deriving DecidableEq, Repr

/-- Cabin classes (R75). -/
inductive CabinClass where
  | passenger
  | goods
  | service
  deriving DecidableEq, Repr

/-- Door modes (R75). -/
inductive DoorMode where
  | auto
  | keepClosed
  | manual
  deriving DecidableEq, Repr

/-- A cabin's profile: class and door mode (R75). -/
structure Profile where
  cls : CabinClass
  door : DoorMode
  deriving DecidableEq, Repr

/-- Kinds of cabin table entry (R75). -/
inductive CabinKind where
  | static
  | learned
  deriving DecidableEq, Repr

/-- Cabin locations (R75). -/
inductive Location where
  | nowhere
  | station
  | up
  | down
  | summit
  deriving DecidableEq, Repr

/-- The lists LIST-READ names (R82). -/
inductive ListName where
  | up
  | down
  | station
  deriving DecidableEq, Repr

/-- The nine detectors: eight bays and the lock-check detector (section 6.1). -/
inductive Detector where
  | bay (k : Fin 8)
  | lck
  deriving DecidableEq, Repr

/-- Detector polarity (section 6.1). -/
inductive Polarity where
  | presentHigh
  | presentLow
  deriving DecidableEq, Repr

/-- Door states of a station list record (R102); `opened` is the manual's OPEN. -/
inductive DoorState where
  | assumedClosed
  | opening
  | opened
  | openFailed
  | closing
  | closedLocked
  | jammed
  | unknown
  deriving DecidableEq, Repr

/-- Channel roles NONE, OPEN, CLOSE and GATE (section 7.1). -/
inductive Role where
  | none
  | openDoor
  | closeDoor
  | gate
  deriving DecidableEq, Repr

/-- A channel's switching: one of the two groups, or its own switch (section 7.1). -/
inductive Switching where
  | group (g : Fin 2)
  | individual
  deriving DecidableEq, Repr

/-! ## Summit, telephony and stop chain (chapters 8 to 10) -/

/-- The stop categories in rising order (section 10.1). -/
inductive Category where
  | none
  | service
  | fast
  | emergency
  deriving DecidableEq, Repr

/-- The rank of a category in the rising order of section 10.1. -/
def Category.rank : Category → Nat
  | .none => 0
  | .service => 1
  | .fast => 2
  | .emergency => 3

/-- The higher of two categories. -/
def Category.sup (a b : Category) : Category := if a.rank < b.rank then b else a

/-- The two events of a TERMINAL_EVENT (R7). -/
inductive TerminalKind where
  | arrival
  | departure
  deriving DecidableEq, Repr

/-- The sub-kinds of a CALL, codes 0 to 6 in this order (R8). -/
inductive CallSub where
  | request
  | ringing
  | answer
  | clear
  | hold
  | resume
  | priority
  deriving DecidableEq, Repr

/-- Call priorities in rising order (R8). -/
inductive Priority where
  | routine
  | operations
  | emergency
  deriving DecidableEq, Repr

/-- The rank of a priority in its rising order (R151). -/
def Priority.rank : Priority → Nat
  | .routine => 0
  | .operations => 1
  | .emergency => 2

/-- The clear reasons in the order of R8. -/
inductive ClearReason where
  | normal
  | busy
  | noAnswer
  | noResponse
  | preempted
  | lineLost
  | refused
  deriving DecidableEq, Repr

/-- The two voice channels (R8). -/
inductive VoiceName where
  | a
  | b
  deriving DecidableEq, Repr

/-- The five filtered inputs of the stop chain (R171). -/
inductive StopInput where
  | stop (k : Fin 4)
  | driveFault
  deriving DecidableEq, Repr

/-- The blocks COUNTERS-READ names (R190). -/
inductive Block where
  | stationPort
  | linePort
  | frameSwitch
  | postPoller
  | ropeTravel
  | cabinTracker
  | stationRail
  | doorChannels
  | summitLink
  | telephony
  | stopChain
  | adminResponder
  deriving DecidableEq, Repr

/-- The result codes, in the order of their table (section 11.1). -/
inductive Result where
  | done
  | partially
  | notPermitted
  | inMotion
  | badRequest
  | badValue
  | tableFull
  | inUse
  | notFound
  | endOfTable
  | lineBusy
  deriving DecidableEq, Repr

/-! ## Admin requests (chapter 11) -/

/-- Where an admin request came from: its arrival port and its source address (R185). -/
structure Requester where
  port : Port
  src : Addr
  deriving DecidableEq, Repr

/-- The table entries TABLE-READ names (R187); `other` is a table outside the ten. -/
inductive TableRef where
  | part
  | cls (port : Option Port) (kind : Nat)
  | post (number : Nat)
  | seat (post seat : Nat)
  | rope
  | station (entry : Option Detector)
  | channel (number : Nat)
  | group (number : Nat)
  | cause (code : Nat)
  | telephony
  | cabin
  | other
  deriving DecidableEq, Repr

/-- The fields of a part table write (R188). The notice enable is a `Bool` (log 49). -/
structure PartFields where
  console : Nat
  mask : Option Mask
  scheduler : Option Scheduler
  rollPeriod : Nat
  samplePeriod : Nat
  rejoinStation : Nat
  rejoinLine : Nat
  notices : Bool
  deriving DecidableEq, Repr

/-- The written fields of a seat entry (section 3.6). Fitted and supervised are `Bool` (log 49). -/
structure SeatFields where
  fitted : Bool
  track : Option Track
  position : Nat
  window : Nat
  compare : Option Compare
  warn : Nat
  stop : Nat
  confirm : Nat
  supervised : Bool
  deriving DecidableEq, Repr

/-- The fields of the rope table (section 4.1). Reverse permitted is a `Bool` (log 49). -/
structure RopeFields where
  pitch : Nat
  overspeed : Nat
  reversePermitted : Bool
  tachSilent : Nat
  launchUp : Nat
  launchDown : Nat
  lengthUp : Nat
  lengthDown : Nat
  arrivalWindow : Nat
  slipLimit : Nat
  stopTime : Nat
  deriving DecidableEq, Repr

/-- The fields of a station table entry (section 6.1). Fitted is a `Bool` (log 49). -/
structure StationFields where
  fitted : Bool
  polarity : Option Polarity
  debounce : Nat
  deriving DecidableEq, Repr

/-- A write of the channel table: a channel entry or a group entry (R115). -/
inductive ChannelWrite where
  | channel (number : Nat) (role : Option Role) (switching : Option Switching)
      (powerGood driveTime reverseTime attempts : Nat)
  | group (number powerGood : Nat)
  deriving DecidableEq, Repr

/-- The fields of a cause table write (R172). The call and notice flags are `Bool` (log 49). -/
structure CauseFields where
  category : Option Category
  call : Bool
  notice : Bool
  deriving DecidableEq, Repr

/-- The fields of the telephony table (R150). The fallback is a `Bool` (log 49). -/
structure TelephonyFields where
  hotline : Nat
  help : Nat
  operations : Nat
  fallback : Bool
  deriving DecidableEq, Repr

/-- The cabin settings of a write (R75). Learning is a `Bool` (log 49). -/
structure CabinSettingsFields where
  learning : Bool
  ageTime : Nat
  cls : Option CabinClass
  door : Option DoorMode
  deriving DecidableEq, Repr

/-- The remote CALL-PLACE names (R155). -/
inductive PlaceRemote where
  | summit (line : Nat)
  | localLine
  | other
  deriving DecidableEq, Repr

/-- The admin requests with their parameters (section 11.1). Fitted, clear and on or off are `Bool` (log 49). -/
inductive Request where
  | identify
  | statusRead
  | causesRead (position : Nat)
  | stop (category : Option Category)
  | countersRead (block : Option Block) (start : Nat) (clear : Bool)
  | tableRead (table : TableRef)
  | partWrite (f : PartFields)
  | classWrite (port : Option Port) (kind : Nat) (action : Option ClassAction) (cls : Nat)
  | postWrite (number : Nat) (fitted : Bool)
  | seatWrite (post seat : Nat) (f : SeatFields)
  | ropeWrite (f : RopeFields)
  | stationWrite (entry : Option Detector) (f : StationFields)
  | channelWrite (w : ChannelWrite)
  | causeWrite (code : Nat) (f : CauseFields)
  | telephonyWrite (f : TelephonyFields)
  | cabinSettingsWrite (f : CabinSettingsFields)
  | otherWrite
  | cabinLoad (id : Nat) (cls : Option CabinClass) (door : Option DoorMode)
  | cabinPurge (id : Nat)
  | cabinFlushLearned
  | cabinFind (id : Nat)
  | cabinNext (id : Nat)
  | listRead (list : Option ListName) (position : Nat)
  | trackOn (track : Option Track)
  | trackOff (track : Option Track)
  | channelPower (channel : Nat) (on : Bool)
  | groupPower (group : Nat) (on : Bool)
  | channelReset (channel : Nat)
  | channelLockout (channel : Nat) (on : Bool)
  | channelRead (channel : Nat)
  | postClear (post : Nat)
  | restartPermit
  | causesClearNotices
  | callPlace (remote : PlaceRemote) (priority : Option Priority)
  | callClear (record : Nat)
  | restartPart
  deriving DecidableEq, Repr

/-- The request codes of section 11.1; `other` is an unknown code. A code is one byte, a width the manual does not give
(log 48). -/
inductive RequestCode where
  | identify
  | statusRead
  | causesRead
  | stop
  | countersRead
  | tableRead
  | tableWrite
  | cabinLoad
  | cabinPurge
  | cabinFlushLearned
  | cabinFind
  | cabinNext
  | listRead
  | trackOn
  | trackOff
  | channelPower
  | groupPower
  | channelReset
  | channelLockout
  | channelRead
  | postClear
  | restartPermit
  | causesClearNotices
  | callPlace
  | callClear
  | restartPart
  | other (code : Byte)
  deriving DecidableEq, Repr

/-- What an ADMIN_REQUEST payload long enough for a code and a tag says: a request with fitting parameters, or a code
with none that fit it (an unknown code among them). -/
inductive AdminReading where
  | fits (request : Request)
  | misfit (code : RequestCode)
  deriving DecidableEq, Repr

/-- The contents a received payload carries, for the kinds whose byte layout the manual does not give
(section 1.2; log 5). `unread` says that the payload carries no such contents; whether an ADMIN_REQUEST's is long enough for
a code and a tag, its bytes say (R185; log 48). -/
inductive Contents where
  | unread
  | beat (number : Byte) (request : Option Category)
  | terminal (event : Option TerminalKind) (cabin age : Nat)
  | call (ref : Byte) (valleyLine summitLine : Nat) (priority : Option Priority)
      (channel : Option (Option VoiceName)) (reason : Option ClearReason)
  | voice (channel : Option VoiceName) (seq : Byte) (samples : List Byte)
  | admin (tag : Byte) (reading : AdminReading)
  deriving DecidableEq, Repr

/-! ## The commands -/

/-- The commands of the 720, one constructor for each row of spec/opcode_table.json. -/
inductive Instr where
  | hardReset
  | frameReceived (port : Port) (bytes : List Byte) (contents : Contents)
  | rejoinTimerExpiry (port : Port)
  | arbiterPick (port : Port)
  | frameLeaves (port : Port)
  | rollPeriodExpiry
  | rollDeadlineExpiry
  | samplePeriodExpiry
  | askSend
  | askDeadlineExpiry
  | tachometerPulse (dir : Direction)
  | gateExpiry
  | driveRunChange (level : Bool)
  | tachSilentTimerExpiry
  | ageSweepExpiry
  | detectorLevelChange (det : Detector) (high : Bool)
  | detectorDebounceExpiry (det : Detector)
  | arrRead (read : Option Nat)
  | lchRead (read : Option Nat)
  | openEndChange (ch : Fin 8) (level : Bool)
  | lockedChange (ch : Fin 8) (level : Bool)
  | driveTimerExpiry (ch : Fin 8)
  | reverseTimerExpiry (ch : Fin 8)
  | powerGoodExpiry (ch : Fin 8)
  | overcurrent (ch : Fin 8) (level : Bool)
  | localKeyChange (ch : Fin 8) (level : Bool)
  | localOpenChange (ch : Fin 8) (level : Bool)
  | localCloseChange (ch : Fin 8) (level : Bool)
  | localDriveTimerExpiry (ch : Fin 8)
  | earlyGuardExpiry
  | lateTimerExpiry
  | valleyBeatTimerExpiry
  | offHook (line : Fin 2)
  | onHook (line : Fin 2)
  | helpButton
  | callTimerExpiry (record : Fin 4)
  | codecBlock (line : Fin 2) (samples : List Byte)
  | playoutTimerExpiry (channel : VoiceName)
  | stopFilterLevelChange (input : StopInput) (level : Bool)
  | stopFilterDebounceExpiry (input : StopInput)
  | stopTimerExpiry
  | identify (rq : Requester) (tag : Byte)
  | statusRead (rq : Requester) (tag : Byte)
  | causesRead (rq : Requester) (tag : Byte) (position : Nat)
  | stop (rq : Requester) (tag : Byte) (category : Option Category)
  | countersRead (rq : Requester) (tag : Byte) (block : Option Block) (start : Nat) (clear : Bool)
  | tableRead (rq : Requester) (tag : Byte) (table : TableRef)
  | partTableWrite (rq : Requester) (tag : Byte) (f : PartFields)
  | classTableWrite (rq : Requester) (tag : Byte) (port : Option Port) (kind : Nat) (action : Option ClassAction) (cls : Nat)
  | postTableWrite (rq : Requester) (tag : Byte) (number : Nat) (fitted : Bool)
  | seatTableWrite (rq : Requester) (tag : Byte) (post seat : Nat) (f : SeatFields)
  | ropeTableWrite (rq : Requester) (tag : Byte) (f : RopeFields)
  | stationTableWrite (rq : Requester) (tag : Byte) (entry : Option Detector) (f : StationFields)
  | channelTableWrite (rq : Requester) (tag : Byte) (w : ChannelWrite)
  | causeTableWrite (rq : Requester) (tag : Byte) (code : Nat) (f : CauseFields)
  | telephonyTableWrite (rq : Requester) (tag : Byte) (f : TelephonyFields)
  | cabinSettingsWrite (rq : Requester) (tag : Byte) (f : CabinSettingsFields)
  | cabinLoad (rq : Requester) (tag : Byte) (id : Nat) (cls : Option CabinClass) (door : Option DoorMode)
  | cabinPurge (rq : Requester) (tag : Byte) (id : Nat)
  | cabinFlushLearned (rq : Requester) (tag : Byte)
  | cabinFind (rq : Requester) (tag : Byte) (id : Nat)
  | cabinNext (rq : Requester) (tag : Byte) (id : Nat)
  | listRead (rq : Requester) (tag : Byte) (list : Option ListName) (position : Nat)
  | trackOn (rq : Requester) (tag : Byte) (track : Option Track)
  | trackOff (rq : Requester) (tag : Byte) (track : Option Track)
  | channelPower (rq : Requester) (tag : Byte) (channel : Nat) (on : Bool)
  | groupPower (rq : Requester) (tag : Byte) (group : Nat) (on : Bool)
  | channelReset (rq : Requester) (tag : Byte) (channel : Nat)
  | channelLockout (rq : Requester) (tag : Byte) (channel : Nat) (on : Bool)
  | channelRead (rq : Requester) (tag : Byte) (channel : Nat)
  | postClear (rq : Requester) (tag : Byte) (post : Nat)
  | restartPermit (rq : Requester) (tag : Byte)
  | causesClearNotices (rq : Requester) (tag : Byte)
  | callPlace (rq : Requester) (tag : Byte) (remote : PlaceRemote) (priority : Option Priority)
  | callClear (rq : Requester) (tag : Byte) (record : Nat)
  | restartPart (rq : Requester) (tag : Byte)
  | resetPinAsserted
  deriving DecidableEq, Repr

end Sys2Proof
end

