-- ==== Sys2Proof/Machine/Data.lean ====
section
/-! DEFINITION. The records the 720's blocks hold, the frames its queues hold and the contents of what it sends.
One structure for each block of section "Functional overview"; `Sys2Proof.Machine.State` puts them together. -/

namespace Sys2Proof.Machine

/-! ## Stop chain (chapter 10) -/

/-- The 39 cause codes, 0 to 38 in this order (R173). -/
inductive Cause where
  | resetLatch
  | consoleStop
  | stopInput0
  | stopInput1
  | stopInput2
  | stopInput3
  | driveFault
  | stopOverrun
  | overspeed
  | reverseMotion
  | ropeSlip
  | tachSilent
  | seatWarn
  | seatLimit
  | seatSwitch
  | postAbsent
  | postSilent
  | lineBroken
  | lineDetached
  | passageMismatch
  | missedPassage
  | unexpectedPassage
  | orderFault
  | unknownCabin
  | trackFull
  | arrivalMismatch
  | tagUnread
  | stationFull
  | phantomAtBay
  | baySkipped
  | bayUnserved
  | doorOpenFail
  | doorJam
  | doorNotLocked
  | channelFault
  | summitSilent
  | summitStop
  | consoleLink
  | callUnanswered
  deriving DecidableEq, Repr

/-- A cause table entry (R172). -/
structure CauseEntry where
  category : Category
  call : Bool
  notice : Bool
  deriving DecidableEq, Repr

/-- The detail of a raise (section 10.4): each field present as the raising rule gives it. -/
structure Detail where
  post : Option Nat := none
  seat : Option Nat := none
  channel : Option Nat := none
  cabin : Option Nat := none
  line : Option Nat := none
  requested : Option Category := none
  deriving DecidableEq, Repr

/-- A record of the active cause set (section 10.4). -/
structure CauseRecord where
  code : Cause
  category : Category
  detail : Detail
  occurrences : Nat
  present : Bool
  deriving DecidableEq, Repr

/-- A filtered input of the stop chain (R171): whether its input is at its active level, its filtered state and its
debounce timer. -/
structure StopFilter where
  level : Bool
  active : Bool
  timer : Timer
  deriving DecidableEq, Repr

/-- The stop chain's state (chapter 10). The demanded category and the stop lines are computed from it. -/
structure StopChain where
  table : Vector CauseEntry 39
  causes : List CauseRecord
  asserted : Category
  timer : Timer
  filters : Vector StopFilter 5
  counters : Vector Counter 50
  deriving DecidableEq, Repr

/-! ## Posts and seats (chapter 3) -/

/-- Whether an outstanding roll or ask has left the port (section 3.2, section 3.4). -/
inductive Phase where
  | queued
  | awaiting
  deriving DecidableEq, Repr

/-- A post table entry, with the post's shares of POST_ABSENT and POST_SILENT (section 3.1, R49). -/
structure PostEntry where
  fitted : Bool
  absent : Nat
  missed : Nat
  attention : Bool
  absentShare : Bool
  silentShare : Bool
  deriving DecidableEq, Repr

/-- A seat table entry, with the seat's shares of SEAT_LIMIT and SEAT_SWITCH (section 3.6, R49). -/
structure SeatEntry where
  fitted : Bool
  track : Track
  position : Nat
  window : Nat
  compare : Compare
  warn : Nat
  stop : Nat
  confirm : Nat
  supervised : Bool
  beyond : Nat
  limitShare : Bool
  switchShare : Bool
  deriving DecidableEq, Repr

/-- The outstanding ask (section 3.4); `serial` names the ASK frame offered for it (R44; the model's own field).
`unfitted` says that a write has taken its target out of service since it was sent: R36 has it end with the unfitted case
of R45 and R46 (log 42). -/
structure OutstandingAsk where
  post : Post
  phase : Phase
  serial : Nat
  deadline : Timer
  unfitted : Bool
  deriving DecidableEq, Repr

/-- The state of the post poller and the seat checker (chapter 3). -/
structure Poller where
  posts : Vector PostEntry 48
  rollNumber : Byte
  roll : Option (Byte × Phase)
  rollDeadline : Timer
  lost : Nat
  rollTimer : Nat
  sampleTimer : Nat
  markNumber : Byte
  attention : List Post
  sweep : List Post
  ask : Option OutstandingAsk
  askSerial : Nat
  seats : Vector SeatEntry 192
  counters : Vector Counter 259
  deriving DecidableEq, Repr

/-! ## Rope (chapter 4) -/

/-- The rope travel unit's state (chapter 4). -/
structure Rope where
  table : RopeFields
  odo : Odo
  gate : Int
  speed : Int
  zeros : Nat
  standstill : Bool
  gateTimer : Nat
  tachTimer : Timer
  slip : Int
  overspeed : Bool
  reverse : Bool
  silent : Bool
  slipping : Bool
  driveRun : Bool
  direction : Direction
  counters : Vector Counter 7
  deriving DecidableEq, Repr

/-! ## Cabins (chapter 5) -/

/-- A cabin table entry (R75). A STATIC entry has no idle time. -/
structure CabinEntry where
  id : Nat
  kind : CabinKind
  profile : Profile
  location : Location
  trips : Nat
  idle : Option Nat
  deriving DecidableEq, Repr

/-- The cabin settings (R75). -/
structure CabinSettings where
  learning : Bool
  ageTime : Nat
  profile : Profile
  deriving DecidableEq, Repr

/-- A train list record (R83). -/
structure TrainRecord where
  cabin : Option Nat
  inferred : Bool
  departure : Odo
  next : Nat
  profile : Profile
  deriving DecidableEq, Repr

/-- A seat of a seat sequence (R86). -/
structure SeatRef where
  post : Post
  seat : Fin 4
  deriving DecidableEq, Repr

/-- The cabin tracker's state (chapter 5). The cabin table is a list in rising order of ID. -/
structure Tracker where
  cabins : List CabinEntry
  settings : CabinSettings
  lists : PerTrack (List TrainRecord)
  modes : PerTrack TrackMode
  seqs : PerTrack (List SeatRef)
  ageTimer : Nat
  counters : Vector Counter 22
  deriving DecidableEq, Repr

/-! ## Station rail (chapter 6) -/

/-- A station table entry (section 6.1). -/
structure StationEntry where
  fitted : Bool
  polarity : Polarity
  debounce : Nat
  deriving DecidableEq, Repr

/-- A detector: its table entry, raw level, filtered state and debounce timer (R98, R99). -/
structure DetectorUnit where
  entry : StationEntry
  level : Bool
  present : Bool
  timer : Timer
  deriving DecidableEq, Repr

/-- A station list record (R102). -/
structure StationRecord where
  number : BitVec 16
  cabin : Option Nat
  inferred : Bool
  profile : Profile
  progress : Nat
  door : DoorState
  deriving DecidableEq, Repr

/-- The station rail unit's state (chapter 6). -/
structure StationRail where
  detectors : Vector DetectorUnit 9
  cabins : List StationRecord
  generator : BitVec 16
  counters : Vector Counter 49
  deriving DecidableEq, Repr

/-! ## Door channels (chapter 7) -/

/-- A channel table entry (section 7.1). -/
structure ChannelEntry where
  role : Role
  switching : Switching
  powerGood : Nat
  driveTime : Nat
  reverseTime : Nat
  attempts : Nat
  deriving DecidableEq, Repr

/-- Channel states (section 7.2). -/
inductive ChannelState where
  | unpowered
  | powering
  | ready
  | opening
  | closing
  | reversing
  | halted
  | fault
  deriving DecidableEq, Repr

/-- Channel modes (section 7.2). -/
inductive ChannelMode where
  | remote
  | local_
  | remoteLocked
  deriving DecidableEq, Repr

/-- The automatic actions (section 7.2). -/
inductive ActionKind where
  | openDoor
  | closeDoor
  | openGate
  | closeGate
  deriving DecidableEq, Repr

/-- An action in flight with the role, times and attempts taken at its start (section 7.2). -/
structure Action where
  kind : ActionKind
  role : Role
  driveTime : Nat
  reverseTime : Nat
  attempts : Nat
  deriving DecidableEq, Repr

/-- The served cabin (section 7.2), with the channel's role at its offer (R115; log 17) and the door state this channel
last wrote for it (R127). -/
structure Served where
  number : BitVec 16
  cabin : Option Nat
  profile : Profile
  role : Role
  lastWrote : Option DoorState
  deriving DecidableEq, Repr

/-- A direction of a local drive (R131). -/
inductive DriveDir where
  | opening
  | closing
  deriving DecidableEq, Repr

/-- Why a channel is in FAULT (section 7.2). -/
inductive FaultKind where
  | overcurrent
  deriving DecidableEq, Repr

/-- The change set of a channel (R134). -/
structure ChangeSet where
  sensor : Bool
  state : Bool
  power : Bool
  overcurrent : Bool
  mode : Bool
  deriving DecidableEq, Repr

/-- The levels of a channel's inputs (R116). -/
structure ChannelPins where
  openEnd : Bool
  locked : Bool
  overcurrent : Bool
  key : Bool
  localOpen : Bool
  localClose : Bool
  deriving DecidableEq, Repr

/-- A door channel: table entry, individual switch, record and inputs (sections 7.1 to 7.3). -/
structure Channel where
  entry : ChannelEntry
  ownOn : Bool
  state : ChannelState
  mode : ChannelMode
  served : Option Served
  action : Option Action
  attemptsLeft : Nat
  driveTimer : Timer
  reverseTimer : Timer
  powerTimer : Timer
  localDrive : Option DriveDir
  localTimer : Timer
  gateOpen : Bool
  fault : Option FaultKind
  groupOff : Bool
  changes : ChangeSet
  pins : ChannelPins
  deriving DecidableEq, Repr

/-- The door channel unit's state (chapter 7). The CHANNEL_FAULT share set is the set of channels in FAULT. -/
structure Doors where
  channels : Vector Channel 8
  groupTimes : Vector Nat 2
  groupOn : Vector Bool 2
  counters : Vector Counter 96
  deriving DecidableEq, Repr

/-! ## Summit link (chapter 8) -/

/-- Summit link states (section 8.1). -/
inductive LinkState where
  | linked
  | silent
  | recovering
  deriving DecidableEq, Repr

/-- The summit link supervisor's state (section 8.1). -/
structure LinkUnit where
  state : LinkState
  guard : Timer
  late : Timer
  lastBeat : Option Byte
  request : Category
  valleyNumber : Byte
  valleyTimer : Nat
  counters : Vector Counter 10
  deriving DecidableEq, Repr

/-! ## Telephony (chapter 9) -/

/-- Call record states (R151). -/
inductive CallState where
  | free
  | setup
  | ringingOut
  | ringingIn
  | connected
  | held
  deriving DecidableEq, Repr

/-- The remote of a call record (R151). -/
inductive Remote where
  | summit (line : Fin 4)
  | localLine (line : Fin 2)
  | none
  deriving DecidableEq, Repr

/-- A call record (R151). -/
structure CallRecord where
  state : CallState
  line : Fin 2
  remote : Remote
  priority : Priority
  outgoing : Bool
  ref : Byte
  channel : Option VoiceName
  auto : Bool
  order : Option Nat
  known : Bool
  timer : Timer
  deriving DecidableEq, Repr

/-- A voice channel: transmit sequence number, jitter queue and playout (R156, R166 to R168). -/
structure VoiceUnit where
  txSeq : Byte
  jitter : List (Byte × List Byte)
  playing : Bool
  expected : Option Byte
  last : Option (List Byte)
  replayUsed : Bool
  empties : Nat
  timer : Timer
  deriving DecidableEq, Repr

/-- The telephony unit's state (chapter 9). The stack is newest on top, its head the top. -/
structure Telephony where
  table : TelephonyFields
  records : Vector CallRecord 4
  stack : List (Fin 4)
  voices : Vector VoiceUnit 2
  hooks : Vector Bool 2
  codec : Vector (List Byte) 2
  order : Nat
  counters : Vector Counter 38
  deriving DecidableEq, Repr

/-! ## Admin responder (chapter 11) -/

/-- The part table (R188). -/
structure PartTable where
  console : Addr
  mask : Mask
  scheduler : Scheduler
  rollPeriod : Nat
  samplePeriod : Nat
  rejoinStation : Nat
  rejoinLine : Nat
  notices : Bool
  deriving DecidableEq, Repr

/-- The admin responder's state (section 11.3, R188). -/
structure Admin where
  part : PartTable
  counters : Vector Counter 16
  deriving DecidableEq, Repr

/-! ## What the 720 sends -/

/-- A class table entry (R26). -/
structure ClassEntry where
  action : ClassAction
  cls : Fin 4
  deriving DecidableEq, Repr

/-- The part's identity and capacities (R189). -/
structure Identity where
  vendor : String
  partCode : Nat
  revision : Nat
  posts : Nat
  seatsPerPost : Nat
  trainList : Nat
  stationList : Nat
  cabinTable : Nat
  channels : Nat
  groups : Nat
  calls : Nat
  voices : Nat
  causes : Nat
  deriving DecidableEq, Repr

/-- One call record as STATUS-READ gives it (R189). -/
structure CallView where
  state : CallState
  line : Fin 2
  remote : Remote
  priority : Priority
  deriving DecidableEq, Repr

/-- The snapshot of STATUS-READ (R189). -/
structure StatusView where
  asserted : Category
  demanded : Category
  station : PortMode
  line : PortMode
  up : TrackMode
  down : TrackMode
  speed : Int
  standstill : Bool
  odo : Odo
  slip : Int
  link : LinkState
  channels : List ChannelState
  calls : List CallView
  deriving DecidableEq, Repr

/-- The status items a block returns with its counters (R18, R147, R190). -/
inductive BlockItems where
  | none
  | port (errors : Nat) (mode : PortMode)
  | link (state : LinkState) (last : Option Byte) (request : Category)
  deriving DecidableEq, Repr

/-- What TABLE-READ returns, table by table (R187 and each table's rule). -/
inductive TableData where
  | part (t : PartTable)
  | cls (e : ClassEntry)
  | post (fitted : Bool) (absent missed : Nat) (attention : Bool)
  | seat (e : SeatEntry)
  | rope (t : RopeFields)
  | station (e : StationEntry) (present : Option Bool)
  | channel (e : ChannelEntry) (state : ChannelState) (mode : ChannelMode)
  | group (powerGood : Nat) (on : Bool)
  | cause (e : CauseEntry) (minimum : Category)
  | telephony (t : TelephonyFields)
  | cabin (s : CabinSettings)
  deriving DecidableEq, Repr

/-- What CHANNEL-READ returns (R134). -/
structure ChannelView where
  state : ChannelState
  mode : ChannelMode
  served : Option (BitVec 16 × Option Nat)
  action : Option ActionKind
  attemptsLeft : Nat
  gateOpen : Bool
  fault : Option FaultKind
  groupOff : Bool
  changes : ChangeSet
  pins : ChannelPins
  driveOpen : Bool
  driveClose : Bool
  deriving DecidableEq, Repr

/-- A train list record as LIST-READ returns it (R82). -/
structure TrainView where
  record : TrainRecord
  position : Int
  deriving DecidableEq, Repr

/-- The data of an ADMIN_ANSWER, by the rule that owns the request. -/
inductive AnswerData where
  | empty
  | identity (i : Identity)
  | status (v : StatusView)
  | causes (asserted demanded : Category) (count : Nat) (records : List CauseRecord)
  | asserted (a : Category)
  | counters (total : Nat) (values : List Counter) (items : BlockItems)
  | table (d : TableData)
  | causeTaken (clamped : Bool) (category : Category)
  | permit (left : Nat) (asserted : Category)
  | removed (count : Nat)
  | cabin (e : CabinEntry)
  | length (n : Nat)
  | trains (length : Nat) (records : List TrainView)
  | stations (length : Nat) (records : List StationRecord)
  | wasFault (b : Bool)
  | channel (v : ChannelView)
  | appended (b : Bool)
  | record (n : Nat)
  deriving DecidableEq, Repr

/-- The reason of a NOTICE with its detail (R191). -/
inductive NoticeReason where
  | category (old new : Category)
  | causeEntry (r : CauseRecord)
  | channelFault (ch : Fin 8)
  | trackMode (track : Track) (mode : TrackMode)
  | portState (port : Port) (old new : PortMode) (errors : Nat)
  deriving DecidableEq, Repr

/-- The status summary of a NOTICE (R191). -/
structure Summary where
  asserted : Category
  demanded : Category
  count : Nat
  station : PortMode
  line : PortMode
  up : TrackMode
  down : TrackMode
  link : LinkState
  deriving DecidableEq, Repr

/-- The contents of the frames the 720 builds, for the kinds whose byte layout the manual does not give (section 1.2). -/
inductive Built where
  | mark (number : Byte)
  | beat (number : Byte) (asserted : Category) (up down : TrackMode)
  | call (ref : Byte) (line : Fin 2) (summitLine : Fin 4) (priority : Priority) (channel : Option VoiceName)
      (reason : ClearReason)
  | voice (channel : VoiceName) (seq : Byte) (samples : List Byte)
  | answer (code : RequestCode) (tag : Byte) (result : Result) (data : AnswerData)
  | notice (reason : NoticeReason) (summary : Summary)
  deriving DecidableEq, Repr

/-- A frame's payload: bytes (a frame passed on, ROLL, ASK and POST_CLEAR), or the named contents of a frame the 720
built. -/
inductive Payload where
  | raw (bytes : List Byte)
  | built (contents : Built)
  deriving DecidableEq, Repr

/-- Who made a frame: the port tells the poller when a ROLL or ASK it offered leaves or is dropped (R38, R44). -/
inductive Origin where
  | switched
  | own
  | roll (number : Byte)
  | ask (serial : Nat)
  deriving DecidableEq, Repr

/-- A frame in a transmit queue: header bytes 0 to 2 and the payload (section 1.1). -/
structure Frame where
  b0 : Byte
  b1 : Byte
  b2 : Byte
  payload : Payload
  origin : Origin
  deriving DecidableEq, Repr

/-- The state of one port (section 1.3); the pattern position is 0 for turn 1 (R34). -/
structure PortUnit where
  mode : PortMode
  errors : Nat
  goodRun : Nat
  rejoin : Timer
  queues : Vector (List Frame) 4
  inFlight : Option (Fin 4 × Frame)
  turn : Fin 7
  counters : Vector Counter 21
  deriving DecidableEq, Repr

/-- The frame switch's state (chapter 2). -/
structure SwitchUnit where
  classes : Vector ClassEntry 26
  counters : Vector Counter 28
  deriving DecidableEq, Repr

end Sys2Proof.Machine
end

