-- ==== Sys2Proof/Config.lean ====
section
/-! DEFINITION. What the manual fixes for every 720 (capacities, fixed times) and what it leaves open for every part: how the
contents of a payload without a byte layout are laid out (log 6), and the code and tag of a request that the operand does not
read (log 48). -/

namespace Sys2Proof.Config

/-- The payload bytes the 720 writes for named contents. The manual gives no byte layout for these kinds (00 "Frames and
tables"), so this is an opaque constant: nothing about it can be proved (log 6). -/
opaque payloadLayout : Machine.Built → List Byte

/-- The request code that stands in a received ADMIN_REQUEST payload of at least a code and a tag, which the operand of
FRAME_RECEIVED does not read. R9 gives no byte layout, so this is an opaque constant (log 48). -/
opaque requestCode : List Byte → Byte

/-- The tag that stands in such a payload; opaque for the same reason (log 48). -/
opaque requestTag : List Byte → Byte

/-- "A frame the 720 originates never has a payload longer than 64 bytes" (R1). -/
def maxPayload : Nat := 64

/-- Capacities of the transmit queues, classes 0 to 3 (section 2.4). -/
def queueCapacity (c : Fin 4) : Nat := if c.val < 2 then 8 else 16

/-- Records a train list holds (R83). -/
def trainCapacity : Nat := 96

/-- Records the station list holds (R102). -/
def stationCapacity : Nat := 12

/-- Entries the cabin table holds (R75). -/
def cabinCapacity : Nat := 192

/-- Calls the hold stack holds (R163). -/
def stackCapacity : Nat := 2

/-- Frames a jitter queue holds (R167). -/
def jitterCapacity : Nat := 8

/-- Reply deadline of a roll, ms (R38). -/
def rollDeadline : Nat := 60

/-- Reply deadline of an ask, ms (R44). -/
def askDeadline : Nat := 20

/-- Period of the speed gate, ms (section 4.2). -/
def gatePeriod : Nat := 100

/-- Period of the age sweep, ms: once a minute (R77). -/
def agePeriod : Nat := 60000

/-- Early guard of the beat window, ms (R137). -/
def earlyGuard : Nat := 100

/-- Late timer of the beat window, ms (R137). -/
def lateTime : Nat := 400

/-- Period of the valley beat, ms (R142). -/
def valleyPeriod : Nat := 200

/-- Debounce of the stop chain's input filters, ms (R171). -/
def stopDebounce : Nat := 10

/-- Time of a call in SETUP, ms (R151). -/
def setupTime : Nat := 2000

/-- Time of a ringing call, ms (R151). -/
def ringTime : Nat := 30000

/-- Time of a HELD call, ms (R151). -/
def holdTime : Nat := 120000

/-- Playout period of a voice channel, ms (R167). -/
def playoutPeriod : Nat := 5

/-- Samples in a voice block (R8). -/
def blockSamples : Nat := 40

/-- 40 samples of silence, sample value 128 (R149, R168). -/
def silence : List Byte := List.replicate blockSamples 128

end Sys2Proof.Config
end

