-- ==== Sys2Proof/Machine/Tables.lean ====
section
/-! DEFINITION. The code tables and defaults of the manual: kind codes (R4), the class table defaults (R26), the
cause codes with their fixed minimums and default entries (R173), and the default entries of the other tables. -/

namespace Sys2Proof.Machine

/-! ## Codes -/

/-- The code of a frame kind (R4). -/
def kindCode : Kind → Fin 13
  | .roll => 0
  | .mark => 1
  | .ask => 2
  | .report => 3
  | .beat => 4
  | .terminalEvent => 5
  | .call => 6
  | .voice => 7
  | .adminRequest => 8
  | .adminAnswer => 9
  | .notice => 10
  | .postClear => 11
  | .data => 12

/-- The kind of a code; codes 13 to 15 are unassigned (R4). -/
def kindOfCode : Nat → Option Kind
  | 0 => some .roll
  | 1 => some .mark
  | 2 => some .ask
  | 3 => some .report
  | 4 => some .beat
  | 5 => some .terminalEvent
  | 6 => some .call
  | 7 => some .voice
  | 8 => some .adminRequest
  | 9 => some .adminAnswer
  | 10 => some .notice
  | 11 => some .postClear
  | 12 => some .data
  | _ => none

/-- The code of a CALL sub-kind (R8). -/
def subCode : CallSub → Nat
  | .request => 0
  | .ringing => 1
  | .answer => 2
  | .clear => 3
  | .hold => 4
  | .resume => 5
  | .priority => 6

/-- The CALL sub-kind of a code; 7 to 15 are none (R8). -/
def subOfCode : Nat → Option CallSub
  | 0 => some .request
  | 1 => some .ringing
  | 2 => some .answer
  | 3 => some .clear
  | 4 => some .hold
  | 5 => some .resume
  | 6 => some .priority
  | _ => none

/-- The code of a cause (R173). -/
def causeCode : Cause → Fin 39
  | .resetLatch => 0
  | .consoleStop => 1
  | .stopInput0 => 2
  | .stopInput1 => 3
  | .stopInput2 => 4
  | .stopInput3 => 5
  | .driveFault => 6
  | .stopOverrun => 7
  | .overspeed => 8
  | .reverseMotion => 9
  | .ropeSlip => 10
  | .tachSilent => 11
  | .seatWarn => 12
  | .seatLimit => 13
  | .seatSwitch => 14
  | .postAbsent => 15
  | .postSilent => 16
  | .lineBroken => 17
  | .lineDetached => 18
  | .passageMismatch => 19
  | .missedPassage => 20
  | .unexpectedPassage => 21
  | .orderFault => 22
  | .unknownCabin => 23
  | .trackFull => 24
  | .arrivalMismatch => 25
  | .tagUnread => 26
  | .stationFull => 27
  | .phantomAtBay => 28
  | .baySkipped => 29
  | .bayUnserved => 30
  | .doorOpenFail => 31
  | .doorJam => 32
  | .doorNotLocked => 33
  | .channelFault => 34
  | .summitSilent => 35
  | .summitStop => 36
  | .consoleLink => 37
  | .callUnanswered => 38

/-- The cause of a code (R173). -/
def causeOfCode : Nat → Option Cause
  | 0 => some .resetLatch
  | 1 => some .consoleStop
  | 2 => some .stopInput0
  | 3 => some .stopInput1
  | 4 => some .stopInput2
  | 5 => some .stopInput3
  | 6 => some .driveFault
  | 7 => some .stopOverrun
  | 8 => some .overspeed
  | 9 => some .reverseMotion
  | 10 => some .ropeSlip
  | 11 => some .tachSilent
  | 12 => some .seatWarn
  | 13 => some .seatLimit
  | 14 => some .seatSwitch
  | 15 => some .postAbsent
  | 16 => some .postSilent
  | 17 => some .lineBroken
  | 18 => some .lineDetached
  | 19 => some .passageMismatch
  | 20 => some .missedPassage
  | 21 => some .unexpectedPassage
  | 22 => some .orderFault
  | 23 => some .unknownCabin
  | 24 => some .trackFull
  | 25 => some .arrivalMismatch
  | 26 => some .tagUnread
  | 27 => some .stationFull
  | 28 => some .phantomAtBay
  | 29 => some .baySkipped
  | 30 => some .bayUnserved
  | 31 => some .doorOpenFail
  | 32 => some .doorJam
  | 33 => some .doorNotLocked
  | 34 => some .channelFault
  | 35 => some .summitSilent
  | 36 => some .summitStop
  | 37 => some .consoleLink
  | 38 => some .callUnanswered
  | _ => none

/-- The fixed minimum category of a cause (R173). -/
def causeMinimum : Cause → Category
  | .resetLatch => .emergency
  | .consoleStop => .service
  | .stopInput0 => .service
  | .stopInput1 => .service
  | .stopInput2 => .service
  | .stopInput3 => .service
  | .driveFault => .fast
  | .stopOverrun => .emergency
  | .overspeed => .fast
  | .reverseMotion => .service
  | .ropeSlip => .fast
  | .tachSilent => .fast
  | .seatWarn => .none
  | .seatLimit => .service
  | .seatSwitch => .emergency
  | .postAbsent => .service
  | .postSilent => .service
  | .lineBroken => .fast
  | .lineDetached => .fast
  | .passageMismatch => .service
  | .missedPassage => .service
  | .unexpectedPassage => .none
  | .orderFault => .service
  | .unknownCabin => .none
  | .trackFull => .fast
  | .arrivalMismatch => .service
  | .tagUnread => .none
  | .stationFull => .fast
  | .phantomAtBay => .service
  | .baySkipped => .service
  | .bayUnserved => .service
  | .doorOpenFail => .none
  | .doorJam => .service
  | .doorNotLocked => .fast
  | .channelFault => .none
  | .summitSilent => .fast
  | .summitStop => .service
  | .consoleLink => .none
  | .callUnanswered => .none

/-- The default cause table entry of a cause: default category, call flag, notice flag set (R173). -/
def causeDefault : Cause → CauseEntry
  | .resetLatch => ⟨.emergency, false, true⟩
  | .consoleStop => ⟨.service, false, true⟩
  | .stopInput0 => ⟨.emergency, false, true⟩
  | .stopInput1 => ⟨.fast, false, true⟩
  | .stopInput2 => ⟨.service, false, true⟩
  | .stopInput3 => ⟨.service, false, true⟩
  | .driveFault => ⟨.fast, false, true⟩
  | .stopOverrun => ⟨.emergency, true, true⟩
  | .overspeed => ⟨.fast, false, true⟩
  | .reverseMotion => ⟨.service, false, true⟩
  | .ropeSlip => ⟨.fast, false, true⟩
  | .tachSilent => ⟨.fast, false, true⟩
  | .seatWarn => ⟨.none, false, true⟩
  | .seatLimit => ⟨.fast, false, true⟩
  | .seatSwitch => ⟨.emergency, true, true⟩
  | .postAbsent => ⟨.service, false, true⟩
  | .postSilent => ⟨.service, false, true⟩
  | .lineBroken => ⟨.fast, true, true⟩
  | .lineDetached => ⟨.fast, false, true⟩
  | .passageMismatch => ⟨.fast, false, true⟩
  | .missedPassage => ⟨.service, false, true⟩
  | .unexpectedPassage => ⟨.service, false, true⟩
  | .orderFault => ⟨.service, false, true⟩
  | .unknownCabin => ⟨.service, false, true⟩
  | .trackFull => ⟨.fast, false, true⟩
  | .arrivalMismatch => ⟨.service, false, true⟩
  | .tagUnread => ⟨.none, false, true⟩
  | .stationFull => ⟨.fast, false, true⟩
  | .phantomAtBay => ⟨.service, false, true⟩
  | .baySkipped => ⟨.service, false, true⟩
  | .bayUnserved => ⟨.service, false, true⟩
  | .doorOpenFail => ⟨.none, false, true⟩
  | .doorJam => ⟨.service, false, true⟩
  | .doorNotLocked => ⟨.fast, false, true⟩
  | .channelFault => ⟨.service, false, true⟩
  | .summitSilent => ⟨.fast, true, true⟩
  | .summitStop => ⟨.service, false, true⟩
  | .consoleLink => ⟨.service, false, true⟩
  | .callUnanswered => ⟨.none, false, true⟩

/-- The cause a stop chain input raises (R171). -/
def stopInputCause : StopInput → Cause
  | .stop 0 => .stopInput0
  | .stop 1 => .stopInput1
  | .stop 2 => .stopInput2
  | .stop 3 => .stopInput3
  | .driveFault => .driveFault

/-- The place of a stop chain input: stop inputs 0 to 3, then drive fault (R190). -/
def stopInputIndex : StopInput → Fin 5
  | .stop k => k.castSucc
  | .driveFault => 4

/-- The place of a detector: bays 0 to 7, then LCK (R190). -/
def detectorIndex : Detector → Fin 9
  | .bay k => k.castSucc
  | .lck => 8

/-- The place of a voice channel: A before B (R190). -/
def voiceIndex : VoiceName → Fin 2
  | .a => 0
  | .b => 1

/-- The place of a port: the station port before the line port (R190). -/
def portIndex : Port → Fin 2
  | .station => 0
  | .line => 1

/-- The place of a track: UP before DOWN (R190). -/
def trackIndex : Track → Fin 2
  | .up => 0
  | .down => 1

/-- The place of a result in the result code table (section 11.1). -/
def resultIndex : Result → Fin 11
  | .done => 0
  | .partially => 1
  | .notPermitted => 2
  | .inMotion => 3
  | .badRequest => 4
  | .badValue => 5
  | .tableFull => 6
  | .inUse => 7
  | .notFound => 8
  | .endOfTable => 9
  | .lineBusy => 10

/-- The place of a clear reason in the order of R8. -/
def reasonIndex : ClearReason → Fin 7
  | .normal => 0
  | .busy => 1
  | .noAnswer => 2
  | .noResponse => 3
  | .preempted => 4
  | .lineLost => 5
  | .refused => 6

/-- The class table place of an arrival port and a kind (section 2.3). -/
def classIndex (p : Port) (k : Kind) : Fin 26 :=
  ⟨(portIndex p).val * 13 + (kindCode k).val, by have := (portIndex p).isLt; have := (kindCode k).isLt; omega⟩

/-- The seat table place of a post and seat (section 3.6). -/
def seatIndex (p : Post) (s : Fin 4) : Fin 192 := ⟨p.val * 4 + s.val, by omega⟩

/-! ## Table defaults -/

/-- The default class of a kind (R26). -/
def classDefault : Kind → Fin 4
  | .beat => 0
  | .call | .voice => 1
  | .report | .terminalEvent => 2
  | .roll | .mark | .ask | .adminRequest | .adminAnswer | .notice | .postClear | .data => 3

/-- The kinds in the order of their codes (R4). -/
def allKinds : List Kind :=
  [.roll, .mark, .ask, .report, .beat, .terminalEvent, .call, .voice, .adminRequest, .adminAnswer, .notice, .postClear, .data]

/-- The class table after a hard reset: FORWARD everywhere, the same for both arrival ports (R26). -/
def classTableDefault : Vector ClassEntry 26 :=
  ⟨((allKinds ++ allKinds).map fun k => (⟨.forward, classDefault k⟩ : ClassEntry)).toArray, by rfl⟩

/-- The causes in the order of their codes (R173). -/
def allCauses : List Cause :=
  [.resetLatch, .consoleStop, .stopInput0, .stopInput1, .stopInput2,
   .stopInput3, .driveFault, .stopOverrun, .overspeed, .reverseMotion,
   .ropeSlip, .tachSilent, .seatWarn, .seatLimit, .seatSwitch,
   .postAbsent, .postSilent, .lineBroken, .lineDetached, .passageMismatch,
   .missedPassage, .unexpectedPassage, .orderFault, .unknownCabin, .trackFull,
   .arrivalMismatch, .tagUnread, .stationFull, .phantomAtBay, .baySkipped,
   .bayUnserved, .doorOpenFail, .doorJam, .doorNotLocked, .channelFault,
   .summitSilent, .summitStop, .consoleLink, .callUnanswered]

/-- The cause table after a hard reset (R173). -/
def causeTableDefault : Vector CauseEntry 39 := ⟨(allCauses.map causeDefault).toArray, by rfl⟩

/-- A post table entry after a hard reset (section 3.1). -/
def postDefault : PostEntry := ⟨false, 0, 0, false, false, false⟩

/-- A seat table entry after a hard reset (section 3.6). -/
def seatDefault : SeatEntry := ⟨false, .up, 0, 0, .off, 0, 0, 1, false, 0, false, false⟩

/-- The rope table after a hard reset (section 4.1). -/
def ropeDefault : RopeFields := ⟨256, 1000, false, 2000, 0, 0, 1000000, 1000000, 2000, 3000, 30⟩

/-- The cabin settings after a hard reset (R75). -/
def cabinSettingsDefault : CabinSettings := ⟨false, 60, ⟨.passenger, .auto⟩⟩

/-- A station table entry after a hard reset (section 6.1). -/
def stationDefault : StationEntry := ⟨false, .presentHigh, 20⟩

/-- A channel table entry after a hard reset (section 7.1). -/
def channelDefault : ChannelEntry := ⟨.none, .individual, 25, 40, 10, 3⟩

/-- A group's power-good time after a hard reset, in 2 ms steps (section 7.1). -/
def groupTimeDefault : Nat := 50

/-- The telephony table after a hard reset (R150). -/
def telephonyDefault : TelephonyFields := ⟨0, 0, 0, true⟩

/-- The part table after a hard reset (R188). -/
def partDefault : PartTable := ⟨64, .neither, .mixed, 250, 500, 1000, 1000, true⟩

/-- What IDENTIFY answers (R189). -/
def identity : Identity := ⟨"Estramid", 720, 1, 48, 4, 96, 12, 192, 8, 2, 4, 2, 39⟩

end Sys2Proof.Machine
end

