-- ==== Sys2Proof/Machine/Initial.lean ====
section
/-! DEFINITION. What each block holds after a hard reset and after a soft restart (the reset tables of sections 1.3,
2.6, 3.9, 4.5, 5.7, 6.9, 7.10, 8.1, 9.9, 10.8 and R188). Input levels are pins: a reset does not change them. -/

namespace Sys2Proof.Machine

/-- A port after every reset (section 1.3, R18, R34). -/
def portInitial : PortUnit :=
  { mode := .rejoining, errors := 0, goodRun := 0, rejoin := none, queues := Vector.replicate 4 [], inFlight := none,
    turn := 0, counters := Vector.replicate 21 0 }

/-- The frame switch after a hard reset (section 2.6). -/
def switchInitial : SwitchUnit := { classes := classTableDefault, counters := Vector.replicate 28 0 }

/-- The frame switch after a soft restart: the class table kept (R26). -/
def switchSoft (u : SwitchUnit) : SwitchUnit := { u with counters := Vector.replicate 28 0 }

/-- The poller and seat checker after a hard reset, timers started with the part table's periods (R57). -/
def pollerInitial (t : PartTable) : Poller :=
  { posts := Vector.replicate 48 postDefault, rollNumber := 0, roll := none, rollDeadline := none, lost := 0,
    rollTimer := t.rollPeriod, sampleTimer := t.samplePeriod, markNumber := 0, attention := [], sweep := [],
    ask := none, askSerial := 0, seats := Vector.replicate 192 seatDefault, counters := Vector.replicate 259 0 }

/-- All posts in ascending order. -/
def allPosts : List Post := List.finRange 48

/-- All seats, post by post. -/
def allSeats : List SeatRef := allPosts.flatMap fun p => (List.finRange 4).map fun s => ⟨p, s⟩

/-- One function applied to every element of a vector. -/
def vecMap {α : Type} {n : Nat} (f : α → α) (v : Vector α n) : Vector α n :=
  ⟨(v.toList.map f).toArray, by simp⟩

/-- The poller and seat checker after a soft restart: fitted fields and written seat fields kept (R57). -/
def pollerSoft (t : PartTable) (u : Poller) : Poller :=
  { pollerInitial t with
    posts := vecMap (fun e => { postDefault with fitted := e.fitted }) u.posts
    seats := vecMap (fun e => { e with beyond := 0, limitShare := false, switchShare := false }) u.seats }

/-- The rope travel unit after a hard reset (R74). -/
def ropeInitial (driveRun : Bool) (dir : Direction) : Rope :=
  { table := ropeDefault, odo := 0, gate := 0, speed := 0, zeros := 0, standstill := false,
    gateTimer := Config.gatePeriod, tachTimer := none, slip := 0, overspeed := false, reverse := false, silent := false,
    slipping := false, driveRun := driveRun, direction := dir, counters := Vector.replicate 7 0 }

/-- The rope travel unit after a soft restart: the rope table and the measurement kept, the tach-silent timer started at
once when the rope is in STANDSTILL with drive-run asserted (R74). -/
def ropeSoft (u : Rope) : Rope :=
  { u with
    tachTimer := if u.standstill && u.driveRun then some u.table.tachSilent else none
    slip := 0, overspeed := false, reverse := false, silent := false, slipping := false
    counters := Vector.replicate 7 0 }

/-- Whether a seat belongs to the seat sequence of a track (R86). -/
def inSequence (u : Poller) (t : Track) (r : SeatRef) : Bool :=
  let e := u.seats[seatIndex r.post r.seat]
  e.fitted && (u.posts[r.post]).fitted && decide (e.track = t) && decide (e.window ≠ 0)

/-- A seat put into a list of seats in ascending order of position. -/
def insertSeat (pos : SeatRef → Nat) (r : SeatRef) : List SeatRef → List SeatRef
  | [] => [r]
  | x :: xs => if pos r < pos x then r :: x :: xs else x :: insertSeat pos r xs

/-- The position of a seat (section 3.6). -/
def seatPosition (u : Poller) (r : SeatRef) : Nat := (u.seats[seatIndex r.post r.seat]).position

/-- The seat sequence of a track, built from the post and seat tables in ascending order of position (R86). -/
def buildSequence (u : Poller) (t : Track) : List SeatRef :=
  (allSeats.filter (inSequence u t)).foldl (fun l r => insertSeat (seatPosition u) r l) []

/-- The cabin tracker after a hard reset (R97). -/
def trackerInitial : Tracker :=
  { cabins := [], settings := cabinSettingsDefault, lists := ⟨[], []⟩, modes := ⟨.untracked, .untracked⟩,
    seqs := ⟨[], []⟩, ageTimer := Config.agePeriod, counters := Vector.replicate 22 0 }

/-- The cabin tracker after a soft restart: STATIC entries kept with location NONE and their trips, settings kept, seat
sequences rebuilt (R97). -/
def trackerSoft (p : Poller) (u : Tracker) : Tracker :=
  { trackerInitial with
    cabins := (u.cabins.filter fun e => decide (e.kind = .static)).map fun e => { e with location := .nowhere }
    settings := u.settings
    seqs := ⟨buildSequence p .up, buildSequence p .down⟩ }

/-- Whether a raw level means that a cabin is present (R99). -/
def levelPresent (pol : Polarity) (high : Bool) : Bool :=
  match pol with
  | .presentHigh => high
  | .presentLow => !high

/-- A detector's filter set afresh: timer stopped, state from the level, no edge (R100). -/
def detectorAfresh (d : DetectorUnit) : DetectorUnit :=
  { d with present := d.entry.fitted && levelPresent d.entry.polarity d.level, timer := none }

/-- A detector after a hard reset: unfitted, its level a pin (section 6.9). -/
def detectorInitial (high : Bool) : DetectorUnit := ⟨stationDefault, high, false, none⟩

/-- The station rail unit after a hard reset (R114). -/
def railInitial (levels : Vector Bool 9) : StationRail :=
  { detectors := ⟨(levels.toList.map detectorInitial).toArray, by simp⟩, cabins := [], generator := 0,
    counters := Vector.replicate 49 0 }

/-- The station rail unit after a soft restart: the table kept, every filter set afresh (R100, R114). -/
def railSoft (u : StationRail) : StationRail :=
  { detectors := vecMap detectorAfresh u.detectors, cabins := [], generator := 0, counters := Vector.replicate 49 0 }

/-- An empty change set (R136). -/
def noChanges : ChangeSet := ⟨false, false, false, false, false⟩

/-- A channel after a reset, with its table entry and its pins (R136). -/
def channelReset (e : ChannelEntry) (pins : ChannelPins) : Channel :=
  { entry := e, ownOn := false, state := .unpowered, mode := .remote, served := none, action := none, attemptsLeft := 0,
    driveTimer := none, reverseTimer := none, powerTimer := none, localDrive := none, localTimer := none,
    gateOpen := false, fault := none, groupOff := false, changes := noChanges, pins := pins }

/-- The door channel unit after a hard reset (R136). -/
def doorsInitial (pins : Vector ChannelPins 8) : Doors :=
  { channels := ⟨(pins.toList.map (channelReset channelDefault)).toArray, by simp⟩
    groupTimes := Vector.replicate 2 groupTimeDefault, groupOn := Vector.replicate 2 false
    counters := Vector.replicate 96 0 }

/-- The door channel unit after a soft restart: the channel table and group entries kept (R136). -/
def doorsSoft (u : Doors) : Doors :=
  { channels := vecMap (fun c => channelReset c.entry c.pins) u.channels
    groupTimes := u.groupTimes, groupOn := Vector.replicate 2 false, counters := Vector.replicate 96 0 }

/-- The summit link supervisor after every reset (section 8.1, R148). -/
def linkInitial : LinkUnit :=
  { state := .silent, guard := none, late := none, lastBeat := none, request := .none, valleyNumber := 0,
    valleyTimer := Config.valleyPeriod, counters := Vector.replicate 10 0 }

/-- A FREE call record after a reset (R169; the fields of a FREE record are log 36). -/
def callFree : CallRecord := ⟨.free, 0, .none, .routine, true, 0, none, false, none, false, none⟩

/-- A voice channel after a reset (R169). -/
def voiceInitial : VoiceUnit := ⟨0, [], false, none, none, false, 0, none⟩

/-- The telephony unit after a reset, with its table and its hook inputs (R169). -/
def telephonyReset (t : TelephonyFields) (hooks : Vector Bool 2) : Telephony :=
  { table := t, records := Vector.replicate 4 callFree, stack := [], voices := Vector.replicate 2 voiceInitial,
    hooks := hooks, codec := Vector.replicate 2 Config.silence, order := 0, counters := Vector.replicate 38 0 }

/-- A stop chain filter after a reset: INACTIVE, and an active level starts the debounce at once (R171). -/
def filterReset (level : Bool) : StopFilter := ⟨level, false, if level then some Config.stopDebounce else none⟩

/-- The record of RESET_LATCH that a reset appends (R183). -/
def resetLatchRecord (table : Vector CauseEntry 39) : CauseRecord :=
  ⟨.resetLatch, (table[causeCode .resetLatch]).category, {}, 1, true⟩

/-- The stop chain after a reset, with its table and its input levels (R183). -/
def chainReset (table : Vector CauseEntry 39) (levels : Vector Bool 5) : StopChain :=
  { table := table, causes := [resetLatchRecord table], asserted := .emergency, timer := none
    filters := ⟨(levels.toList.map filterReset).toArray, by simp⟩, counters := Vector.replicate 50 0 }

/-- The admin responder after a hard reset (R188, R190). -/
def adminInitial : Admin := { part := partDefault, counters := Vector.replicate 16 0 }

/-- The admin responder after a soft restart: the part table kept (R188). -/
def adminSoft (u : Admin) : Admin := { u with counters := Vector.replicate 16 0 }

end Sys2Proof.Machine
end

