-- ==== Sys2Proof/Machine/State.lean ====
section
/-! DEFINITION. The state of the whole 720, its stops, and the state right after reset. -/

namespace Sys2Proof.Machine

/-- Why a command could stop with a fault. The manual describes no event that stops the part: no meaning of this model
raises one (safe: nothing is cut short). The one constructor stands for a state the manual excludes. -/
inductive Fault where
  /-- Raised by no meaning; it names a stop the manual does not have. Safe. -/
  | outsideManual
  deriving DecidableEq, Repr

/-- Why a command could be refused. -/
inductive Refusal where
  /-- Raised only by an arm of `exec` whose command has no meaning yet; no arm is in that case. Safe. -/
  | notModelled (mnemonic : String)
  deriving DecidableEq, Repr

/-- The state of the Otefra 720: the thirteen blocks of section "Functional overview" (the poller holds the seat
checker's state with its own), the reset pin, and the queue of commands that are waiting (log 1). -/
structure State where
  /-- the station port (chapter 1) -/
  station : PortUnit
  /-- the line port (chapter 1) -/
  line : PortUnit
  /-- the frame switch (chapter 2) -/
  switch : SwitchUnit
  /-- the post poller and the seat checker (chapter 3) -/
  poller : Poller
  /-- the rope travel unit (chapter 4) -/
  rope : Rope
  /-- the cabin tracker (chapter 5) -/
  tracker : Tracker
  /-- the station rail unit (chapter 6) -/
  rail : StationRail
  /-- the door channel unit (chapter 7) -/
  doors : Doors
  /-- the summit link supervisor (chapter 8) -/
  link : LinkUnit
  /-- the telephony unit (chapter 9) -/
  tel : Telephony
  /-- the stop chain (chapter 10) -/
  chain : StopChain
  /-- the admin responder (chapter 11) -/
  admin : Admin
  /-- whether the reset pin is held (R192) -/
  pinHeld : Bool
  /-- the commands waiting, oldest first (the model's own; log 1) -/
  pending : List Instr
  deriving DecidableEq, Repr

/-- A channel's input levels at power-on (log 8). -/
def pinsInitial : ChannelPins := ⟨false, false, false, false, false, false⟩

/-- The stop call that the entry of SUMMIT_SILENT rings on LINE 0 after a reset with the handset on-hook (R165). -/
def resetStopCall : CallRecord :=
  ⟨.ringingIn, 0, .none, .operations, true, 0, none, true, none, false, some Config.ringTime⟩

/-- The record of SUMMIT_SILENT that follows RESET_LATCH after every reset (R148). -/
def summitSilentRecord : CauseRecord := ⟨.summitSilent, .fast, {}, 1, true⟩

/-- The machine right after power-on: every block at its hard reset values, and the effects that the reset's own entries
hand on (R148, R165, R183, R192; log 8, 9, 10). The three notices are built and dropped at the REJOINING station
port. -/
def State.reset : State :=
  { station := { portInitial with counters := upd portInitial.counters 19 fun _ => 3 }
    line := portInitial
    switch := switchInitial
    poller := pollerInitial partDefault
    rope := ropeInitial false .forward
    tracker := trackerInitial
    rail := railInitial (Vector.replicate 9 false)
    doors := doorsInitial (Vector.replicate 8 pinsInitial)
    link := linkInitial
    tel :=
      { telephonyReset telephonyDefault (Vector.replicate 2 false) with
        records := upd (Vector.replicate 4 callFree) 0 fun _ => resetStopCall
        counters := upd (Vector.replicate 38 0) 9 fun _ => 1 }
    chain :=
      { chainReset causeTableDefault (Vector.replicate 5 false) with
        causes := [resetLatchRecord causeTableDefault, summitSilentRecord]
        counters := upd (Vector.replicate 50 0) 35 fun _ => 1 }
    admin := { adminInitial with counters := upd (Vector.replicate 16 0) 14 fun _ => 3 }
    pinHeld := false
    pending := [] }

end Sys2Proof.Machine
end

