-- ==== Sys2Proof/Machine/Counters.lean ====
section
/-! DEFINITION. The place of every counter in the order its block's chapter lists them, as COUNTERS-READ reads them
(R190): a counter kept per item is one counter for each item, in ascending item number. -/

namespace Sys2Proof.Machine

/-! ## Port counters (R18) -/

/-- good frames -/
def Ctr.good : Fin 21 := 0

/-- bad frames, SHORT -/
def Ctr.short : Fin 21 := 1

/-- bad frames, LONG -/
def Ctr.long : Fin 21 := 2

/-- bad frames, LENGTH -/
def Ctr.length : Fin 21 := 3

/-- bad frames, CHECK -/
def Ctr.check : Fin 21 := 4

/-- good frames of kinds 13 to 15 (R4) -/
def Ctr.unassigned : Fin 21 := 5

/-- frames received while DETACHED -/
def Ctr.detachedDiscard : Fin 21 := 6

/-- good frames discarded while REJOINING -/
def Ctr.rejoinDiscard : Fin 21 := 7

/-- entries to DETACHED -/
def Ctr.detachEntries : Fin 21 := 8

/-- frames that left the port, per class -/
def Ctr.transmitted (i : Fin 4) : Fin 21 := ⟨9 + i.val, by omega⟩

/-- frames flushed or refused under R14, per class -/
def Ctr.mutedDrop (i : Fin 4) : Fin 21 := ⟨13 + i.val, by omega⟩

/-- frames flushed or refused under R15 and R16, per class -/
def Ctr.detachDrop (i : Fin 4) : Fin 21 := ⟨17 + i.val, by omega⟩

/-! ## Frame switch counters, per arrival port (R35) -/

/-- R20, per arrival port -/
def Ctr.protectedDrop (i : Fin 2) : Fin 28 := ⟨0 + i.val, by omega⟩

/-- R21, per arrival port -/
def Ctr.consumed (i : Fin 2) : Fin 28 := ⟨2 + i.val, by omega⟩

/-- R22, per arrival port -/
def Ctr.wrongSource (i : Fin 2) : Fin 28 := ⟨4 + i.val, by omega⟩

/-- R22, per arrival port -/
def Ctr.noConsumer (i : Fin 2) : Fin 28 := ⟨6 + i.val, by omega⟩

/-- R24, per arrival port -/
def Ctr.hairpin (i : Fin 2) : Fin 28 := ⟨8 + i.val, by omega⟩

/-- R25, per arrival port -/
def Ctr.unknownAddress (i : Fin 2) : Fin 28 := ⟨10 + i.val, by omega⟩

/-- R27, per arrival port -/
def Ctr.classDrop (i : Fin 2) : Fin 28 := ⟨12 + i.val, by omega⟩

/-- R27, R28, per arrival port -/
def Ctr.forwarded (i : Fin 2) : Fin 28 := ⟨14 + i.val, by omega⟩

/-- R29, per arrival port -/
def Ctr.redirected (i : Fin 2) : Fin 28 := ⟨16 + i.val, by omega⟩

/-- R23, R28, per arrival port -/
def Ctr.copied (i : Fin 2) : Fin 28 := ⟨18 + i.val, by omega⟩

/-- frames removed or refused by R31 and R32 at the station port, per class -/
def Ctr.fullDropStation (i : Fin 4) : Fin 28 := ⟨20 + i.val, by omega⟩

/-- the same at the line port -/
def Ctr.fullDropLine (i : Fin 4) : Fin 28 := ⟨24 + i.val, by omega⟩

/-! ## Post poller and seat checker counters (R56) -/

/-- rolls built -/
def Ctr.rollsBuilt : Fin 259 := 0

/-- unsent rolls -/
def Ctr.unsentRoll : Fin 259 := 1

/-- skipped rolls -/
def Ctr.skippedRoll : Fin 259 := 2

/-- lost rolls -/
def Ctr.lostRoll : Fin 259 := 3

/-- stale rolls -/
def Ctr.staleRoll : Fin 259 := 4

/-- malformed rolls -/
def Ctr.malformedRoll : Fin 259 := 5

/-- unfitted posts answering -/
def Ctr.unfittedAnswer : Fin 259 := 6

/-- returned rolls with summit PRESENT clear -/
def Ctr.summitUnmarked : Fin 259 := 7

/-- marks built -/
def Ctr.marksBuilt : Fin 259 := 8

/-- asks ended by a flush -/
def Ctr.unsentAsk : Fin 259 := 9

/-- asks ended without a missed count -/
def Ctr.suspendedAsk : Fin 259 := 10

/-- malformed reports -/
def Ctr.malformedReport : Fin 259 := 11

/-- reports from a target unfitted during its ask -/
def Ctr.unfittedReport : Fin 259 := 12

/-- POST_CLEAR frames built -/
def Ctr.postClearBuilt : Fin 259 := 13

/-- passages handed to the tracker -/
def Ctr.passagesHanded : Fin 259 := 14

/-- asks, per post -/
def Ctr.asks (i : Fin 48) : Fin 259 := ⟨15 + i.val, by omega⟩

/-- reports, per post -/
def Ctr.reports (i : Fin 48) : Fin 259 := ⟨63 + i.val, by omega⟩

/-- missed asks, per post -/
def Ctr.missedAsks (i : Fin 48) : Fin 259 := ⟨111 + i.val, by omega⟩

/-- stale reports, per post -/
def Ctr.staleReports (i : Fin 48) : Fin 259 := ⟨159 + i.val, by omega⟩

/-- passages-lost flags, per post -/
def Ctr.passagesLost (i : Fin 48) : Fin 259 := ⟨207 + i.val, by omega⟩

/-- entries for unfitted seats -/
def Ctr.unfittedSeat : Fin 259 := 255

/-- sensor fault entries -/
def Ctr.sensorFault : Fin 259 := 256

/-- entries beyond the warn limit -/
def Ctr.warned : Fin 259 := 257

/-- supervised entries with a switch open -/
def Ctr.switchOpen : Fin 259 := 258

/-! ## Rope travel counters (R73) -/

/-- forward pulses -/
def Ctr.forwardPulses : Fin 7 := 0

/-- reverse pulses -/
def Ctr.reversePulses : Fin 7 := 1

/-- pulses that found the gate count at its limit -/
def Ctr.gateSaturation : Fin 7 := 2

/-- gates whose speed was clamped -/
def Ctr.speedClamp : Fin 7 := 3

/-- deviations applied -/
def Ctr.deviationsApplied : Fin 7 := 4

/-- deviations discarded -/
def Ctr.deviationsDiscarded : Fin 7 := 5

/-- slip clamps -/
def Ctr.slipClamp : Fin 7 := 6

/-! ## Cabin tracker counters (R96) -/

/-- entries learned -/
def Ctr.learned : Fin 22 := 0

/-- entries aged out -/
def Ctr.agedOut : Fin 22 := 1

/-- unresolved IDs -/
def Ctr.unknownCabin : Fin 22 := 2

/-- records appended by R88 -/
def Ctr.launches : Fin 22 := 3

/-- records appended by R91 -/
def Ctr.departures : Fin 22 := 4

/-- records removed by R89, per track -/
def Ctr.arrivals (i : Fin 2) : Fin 22 := ⟨5 + i.val, by omega⟩

/-- arrivals taking no record, per track -/
def Ctr.unknownArrivals (i : Fin 2) : Fin 22 := ⟨7 + i.val, by omega⟩

/-- launches and departures refused by a full list, per track -/
def Ctr.trackFull (i : Fin 2) : Fin 22 := ⟨9 + i.val, by omega⟩

/-- matched passages, per track -/
def Ctr.matched (i : Fin 2) : Fin 22 := ⟨11 + i.val, by omega⟩

/-- mismatched passages, per track -/
def Ctr.mismatched (i : Fin 2) : Fin 22 := ⟨13 + i.val, by omega⟩

/-- unexpected passages, per track -/
def Ctr.unexpected (i : Fin 2) : Fin 22 := ⟨15 + i.val, by omega⟩

/-- passages from seats in no sequence -/
def Ctr.unsequenced : Fin 22 := 17

/-- missed passages, per track -/
def Ctr.missedPassages (i : Fin 2) : Fin 22 := ⟨18 + i.val, by omega⟩

/-- causes replaced by a count (R85), per track -/
def Ctr.untrackedEvents (i : Fin 2) : Fin 22 := ⟨20 + i.val, by omega⟩

/-! ## Station rail counters (R113) -/

/-- arrival edges, per detector -/
def Ctr.arrivalEdges (i : Fin 9) : Fin 49 := ⟨0 + i.val, by omega⟩

/-- clear edges, per detector -/
def Ctr.clearEdges (i : Fin 9) : Fin 49 := ⟨9 + i.val, by omega⟩

/-- reads, ARR then LCH -/
def Ctr.reads (i : Fin 2) : Fin 49 := ⟨18 + i.val, by omega⟩

/-- unreadable reads, ARR then LCH -/
def Ctr.unreadable (i : Fin 2) : Fin 49 := ⟨20 + i.val, by omega⟩

/-- recorded arrivals -/
def Ctr.recorded : Fin 49 := 22

/-- arrivals refused by R105 -/
def Ctr.stationFull : Fin 49 := 23

/-- phantom edges, per bay and LCK -/
def Ctr.phantom (i : Fin 9) : Fin 49 := ⟨24 + i.val, by omega⟩

/-- skipped bays, per bay -/
def Ctr.skipped (i : Fin 8) : Fin 49 := ⟨33 + i.val, by omega⟩

/-- lock checks passed -/
def Ctr.lockPass : Fin 49 := 41

/-- lock checks failed -/
def Ctr.lockFail : Fin 49 := 42

/-- launches handed to the tracker -/
def Ctr.railLaunches : Fin 49 := 43

/-- ORDER_FAULT judgements at LCH -/
def Ctr.launchOrder : Fin 49 := 44

/-- launches formed by R110 -/
def Ctr.unlisted : Fin 49 := 45

/-- launches below progress 9 with LCK fitted -/
def Ctr.unchecked : Fin 49 := 46

/-- records removed by R112 -/
def Ctr.placementRemoval : Fin 49 := 47

/-- door state writes naming no record -/
def Ctr.staleDoor : Fin 49 := 48

/-! ## Door channel counters, per channel (R135) -/

/-- served offers, per channel -/
def Ctr.servedOffer (i : Fin 8) : Fin 96 := ⟨0 + i.val, by omega⟩

/-- unserved offers, per channel -/
def Ctr.unservedOffer (i : Fin 8) : Fin 96 := ⟨8 + i.val, by omega⟩

/-- open actions done, per channel -/
def Ctr.openDone (i : Fin 8) : Fin 96 := ⟨16 + i.val, by omega⟩

/-- open actions failed, per channel -/
def Ctr.openFail (i : Fin 8) : Fin 96 := ⟨24 + i.val, by omega⟩

/-- close actions done, per channel -/
def Ctr.closeDone (i : Fin 8) : Fin 96 := ⟨32 + i.val, by omega⟩

/-- reversals, per channel -/
def Ctr.reversal (i : Fin 8) : Fin 96 := ⟨40 + i.val, by omega⟩

/-- close actions with attempts exhausted, per channel -/
def Ctr.jam (i : Fin 8) : Fin 96 := ⟨48 + i.val, by omega⟩

/-- abandoned actions, per channel -/
def Ctr.abandoned (i : Fin 8) : Fin 96 := ⟨56 + i.val, by omega⟩

/-- actions abandoned by EMERGENCY, per channel -/
def Ctr.halt (i : Fin 8) : Fin 96 := ⟨64 + i.val, by omega⟩

/-- overcurrent rises taken, per channel -/
def Ctr.overcurrent (i : Fin 8) : Fin 96 := ⟨72 + i.val, by omega⟩

/-- overcurrent rises not taken, per channel -/
def Ctr.ignoredOvercurrent (i : Fin 8) : Fin 96 := ⟨80 + i.val, by omega⟩

/-- local drives started, per channel -/
def Ctr.localDrive (i : Fin 8) : Fin 96 := ⟨88 + i.val, by omega⟩

/-! ## Summit link counters (R147) -/

/-- accepted beats -/
def Ctr.acceptedBeat : Fin 10 := 0

/-- early beats -/
def Ctr.earlyBeat : Fin 10 := 1

/-- malformed beats -/
def Ctr.malformedBeat : Fin 10 := 2

/-- beat gaps -/
def Ctr.beatGap : Fin 10 := 3

/-- entries to SILENT at late timer expiry -/
def Ctr.silentEntry : Fin 10 := 4

/-- entries to LINKED -/
def Ctr.recovery : Fin 10 := 5

/-- valley beats built -/
def Ctr.valleyBeat : Fin 10 := 6

/-- arrivals handed to the tracker -/
def Ctr.arrivalEvent : Fin 10 := 7

/-- departures handed to the tracker -/
def Ctr.departureEvent : Fin 10 := 8

/-- malformed terminal events -/
def Ctr.malformedEvent : Fin 10 := 9

/-! ## Telephony counters (R169) -/

/-- malformed calls -/
def Ctr.malformedCall : Fin 38 := 0

/-- stale calls -/
def Ctr.staleCall : Fin 38 := 1

/-- unexpected calls -/
def Ctr.unexpectedCall : Fin 38 := 2

/-- repeat requests -/
def Ctr.repeatRequest : Fin 38 := 3

/-- refused hotline calls -/
def Ctr.refusedCall : Fin 38 := 4

/-- help presses on an EMERGENCY record -/
def Ctr.helpRepeat : Fin 38 := 5

/-- holds -/
def Ctr.heldCalls : Fin 38 := 6

/-- resumptions -/
def Ctr.resumedCalls : Fin 38 := 7

/-- fallbacks -/
def Ctr.fallback : Fin 38 := 8

/-- stop calls opened -/
def Ctr.stopCall : Fin 38 := 9

/-- stop-call triggers ignored -/
def Ctr.stopCallIgnored : Fin 38 := 10

/-- malformed voice frames -/
def Ctr.malformedVoice : Fin 38 := 11

/-- voice frames not offered -/
def Ctr.voiceSuppressed : Fin 38 := 12

/-- cleared calls, per reason -/
def Ctr.cleared (i : Fin 7) : Fin 38 := ⟨13 + i.val, by omega⟩

/-- voice frames offered, per voice channel -/
def Ctr.voiceSent (i : Fin 2) : Fin 38 := ⟨20 + i.val, by omega⟩

/-- voice frames for no CONNECTED call, per voice channel -/
def Ctr.notConnected (i : Fin 2) : Fin 38 := ⟨22 + i.val, by omega⟩

/-- late voice frames, per voice channel -/
def Ctr.lateVoice (i : Fin 2) : Fin 38 := ⟨24 + i.val, by omega⟩

/-- duplicate voice frames, per voice channel -/
def Ctr.duplicateVoice (i : Fin 2) : Fin 38 := ⟨26 + i.val, by omega⟩

/-- overflow drops, per voice channel -/
def Ctr.overflowVoice (i : Fin 2) : Fin 38 := ⟨28 + i.val, by omega⟩

/-- frames played, per voice channel -/
def Ctr.played (i : Fin 2) : Fin 38 := ⟨30 + i.val, by omega⟩

/-- replays, per voice channel -/
def Ctr.replayed (i : Fin 2) : Fin 38 := ⟨32 + i.val, by omega⟩

/-- silences played, per voice channel -/
def Ctr.silent (i : Fin 2) : Fin 38 := ⟨34 + i.val, by omega⟩

/-- returns to PREFILL, per voice channel -/
def Ctr.prefillReturn (i : Fin 2) : Fin 38 := ⟨36 + i.val, by omega⟩

/-! ## Stop chain counters (R184) -/

/-- raises, per code -/
def Ctr.raises (i : Fin 39) : Fin 50 := ⟨0 + i.val, by omega⟩

/-- filter changes to ACTIVE, per stop input and drive fault -/
def Ctr.activation (i : Fin 5) : Fin 50 := ⟨39 + i.val, by omega⟩

/-- withdrawals for codes not in the set -/
def Ctr.strayWithdrawal : Fin 50 := 44

/-- clamped cause table writes -/
def Ctr.clamp : Fin 50 := 45

/-- permits taken -/
def Ctr.permit : Fin 50 := 46

/-- permits refused -/
def Ctr.refusedPermit : Fin 50 := 47

/-- starts of the stop timer -/
def Ctr.stopTimer : Fin 50 := 48

/-- STOP_OVERRUN raises at timer expiry -/
def Ctr.overrun : Fin 50 := 49

/-! ## Admin responder counters (R190) -/

/-- requests, per result -/
def Ctr.request (i : Fin 11) : Fin 16 := ⟨0 + i.val, by omega⟩

/-- not permitted -/
def Ctr.notPermitted : Fin 16 := 11

/-- malformed requests -/
def Ctr.malformedRequest : Fin 16 := 12

/-- unanswerable requests -/
def Ctr.unanswerable : Fin 16 := 13

/-- notices built -/
def Ctr.noticeBuilt : Fin 16 := 14

/-- notices suppressed -/
def Ctr.noticeSuppressed : Fin 16 := 15

end Sys2Proof.Machine
end

