-- ==== Sys2Proof/Machine/Operands.lean ====
section
/-! DEFINITION. Reading and writing frames: the header, the check word, the ROLL and REPORT layouts, the bytes on the
wire (sections 1.1 and 1.2). -/

namespace Sys2Proof.Machine

/-! ## The header (R1) -/

/-- Bits 6..0 of byte 0: the destination address. -/
def Frame.dst (f : Frame) : Addr := f.b0.extractLsb' 0 7

/-- Bit 7 of byte 0: the RETURN flag. -/
def Frame.returning (f : Frame) : Bool := f.b0.getLsbD 7

/-- Bits 6..0 of byte 1: the source address, "whatever bit 7 holds". -/
def Frame.src (f : Frame) : Addr := f.b1.extractLsb' 0 7

/-- Bits 7..4 of byte 2: the kind code. -/
def Frame.kindNibble (f : Frame) : Nat := f.b2.toNat / 16

/-- Bits 3..0 of byte 2: the sub-kind. -/
def Frame.sub (f : Frame) : Nat := f.b2.toNat % 16

/-- The same frame with another destination: RETURN flag and every other byte unchanged (R23, R29). -/
def Frame.readdressed (f : Frame) (dst : Addr) : Frame :=
  { f with b0 := (BitVec.ofBool f.returning ++ dst), origin := .switched }

/-- A frame the 720 originates: source 0, RETURN flag 0, bit 7 of byte 1 0 (R1, R3). -/
def ownFrame (dst : Addr) (k : Kind) (sub : Nat) (payload : Payload) (origin : Origin) : Frame :=
  { b0 := (0 : BitVec 1) ++ dst, b1 := 0, b2 := BitVec.ofNat 8 ((kindCode k).val * 16 + sub), payload := payload,
    origin := origin }

/-- The address of a post (R3). -/
def postAddr (p : Post) : Addr := BitVec.ofNat 7 (postNumber p)

/-- The summit terminal (R3). -/
def summitAddr : Addr := 63

/-- The broadcast address (R3). -/
def broadcastAddr : Addr := 127

/-! ## The check word (R2) -/

/-- One data bit: the register shifts left, and the generator is added when the bit shifted out differs from it. -/
def crcBit (r : BitVec 16) (b : Bool) : BitVec 16 :=
  if (r.getLsbD 15) != b then (r <<< 1) ^^^ 0x1021#16 else r <<< 1

/-- One byte, most significant bit first. -/
def crcByte (r : BitVec 16) (b : Byte) : BitVec 16 :=
  [7, 6, 5, 4, 3, 2, 1, 0].foldl (fun r i => crcBit r (b.getLsbD i)) r

/-- The check register over bytes, from all ones, without inversion. -/
def crc (bytes : List Byte) : BitVec 16 := bytes.foldl crcByte 0xFFFF#16

/-- The two check word bytes, high byte first. -/
def crcBytes (bytes : List Byte) : List Byte := [(crc bytes).extractLsb' 8 8, (crc bytes).extractLsb' 0 8]

/-! ## Bytes on the wire -/

/-- The payload bytes of a frame; a payload the 720 builds is at most 64 bytes (R1; log 6). -/
def Frame.payloadBytes (f : Frame) : List Byte :=
  match f.payload with
  | .raw b => b
  | .built c => (Config.payloadLayout c).take Config.maxPayload

/-- The bytes of a frame before its check word (section 1.1). -/
def Frame.body (f : Frame) : List Byte :=
  [f.b0, f.b1, f.b2, BitVec.ofNat 8 f.payloadBytes.length] ++ f.payloadBytes

/-- The bytes a port sends for a frame: a fresh check word over the bytes as sent (R2, R17). -/
def Frame.wire (f : Frame) : List Byte := f.body ++ crcBytes f.body

/-- A good received frame as the switch carries it: header bytes as received and the payload bytes (R11, R27). -/
def receivedFrame (bytes : List Byte) : Frame :=
  { b0 := bytes.getD 0 0, b1 := bytes.getD 1 0, b2 := bytes.getD 2 0,
    payload := .raw ((bytes.drop 4).take (bytes.length - 6)), origin := .switched }

/-! ## ROLL (R5) -/

/-- The payload of a ROLL the poller builds: the number, every answer bit 0. -/
def rollPayload (n : Byte) : List Byte := n :: List.replicate 13 0

/-- The ROLL the poller builds (R5, R37). -/
def rollFrame (n : Byte) : Frame := ownFrame broadcastAddr .roll 0 (.raw (rollPayload n)) (.roll n)

/-- PRESENT of post `4j + i + 1`: bit `7 - 2i` of payload byte `1 + j`. -/
def rollPresent (payload : List Byte) (p : Post) : Bool :=
  (payload.getD (1 + p.val / 4) 0).getLsbD (7 - 2 * (p.val % 4))

/-- ATTENTION of post `4j + i + 1`: bit `6 - 2i` of payload byte `1 + j`. -/
def rollAttention (payload : List Byte) (p : Post) : Bool :=
  (payload.getD (1 + p.val / 4) 0).getLsbD (6 - 2 * (p.val % 4))

/-- Summit PRESENT: bit 7 of payload byte 13. -/
def rollSummit (payload : List Byte) : Bool := (payload.getD 13 0).getLsbD 7

/-! ## REPORT (R6) -/

/-- A seat entry of a REPORT. -/
structure SeatReport where
  seat : Fin 4
  derail : Bool
  wire : Bool
  offset : Int
  deriving DecidableEq, Repr

/-- A passage entry of a REPORT. -/
structure PassageReport where
  seat : Fin 4
  age : Nat
  deriving DecidableEq, Repr

/-- What a well-formed REPORT carries. -/
structure ReportReading where
  mark : Byte
  lost : Bool
  seats : List SeatReport
  passages : List PassageReport
  deriving DecidableEq, Repr

/-- A seat number in bits 7..6 of a byte. -/
def topSeat (b : Byte) : Fin 4 := ⟨b.toNat / 64, by have := b.isLt; omega⟩

/-- A signed 16-bit number, high byte first. -/
def signed16 (hi lo : Byte) : Int := (hi ++ lo : BitVec 16).toInt

/-- Seat entry `i` of a REPORT payload, at payload byte `2 + 3i`. -/
def seatReport (payload : List Byte) (i : Nat) : SeatReport :=
  let b := payload.getD (2 + 3 * i) 0
  ⟨topSeat b, b.getLsbD 5, b.getLsbD 4, signed16 (payload.getD (3 + 3 * i) 0) (payload.getD (4 + 3 * i) 0)⟩

/-- Passage entry `k` of a REPORT payload with `s` seat entries, at payload byte `2 + 3s + 2k`. -/
def passageReport (payload : List Byte) (s k : Nat) : PassageReport :=
  let b := payload.getD (2 + 3 * s + 2 * k) 0
  ⟨topSeat b, b.toNat % 4 * 256 + (payload.getD (3 + 3 * s + 2 * k) 0).toNat⟩

/-- A REPORT payload read; none when it is malformed (R46): s or p above 4, or a length other than 2 + 3s + 2p. A ten-bit
age is never above 1023. -/
def readReport (payload : List Byte) : Option ReportReading :=
  let b1 := payload.getD 1 0
  let s := b1.toNat / 16 % 8
  let p := b1.toNat % 8
  if 2 ≤ payload.length ∧ s ≤ 4 ∧ p ≤ 4 ∧ payload.length = 2 + 3 * s + 2 * p then
    some ⟨payload.getD 0 0, b1.getLsbD 7, (List.range s).map (seatReport payload),
      (List.range p).map (passageReport payload s)⟩
  else none

/-- The bytes of a seat entry (R6): seat in bits 7..6, DERAIL in bit 5, WIRE in bit 4, then the offset, high byte first. -/
def seatBytes (e : SeatReport) : List Byte :=
  let o := BitVec.ofInt 16 e.offset
  [BitVec.ofNat 8 (e.seat.val * 64 + e.derail.toNat * 32 + e.wire.toNat * 16), o.extractLsb' 8 8, o.extractLsb' 0 8]

/-- The bytes of a passage entry (R6): seat in bits 7..6, the age in bits 1..0 and the next byte. -/
def passageBytes (e : PassageReport) : List Byte :=
  [BitVec.ofNat 8 (e.seat.val * 64 + e.age / 256), BitVec.ofNat 8 (e.age % 256)]

/-- The payload of a REPORT that carries a reading (R6). -/
def writeReport (r : ReportReading) : List Byte :=
  [r.mark, BitVec.ofNat 8 (r.lost.toNat * 128 + r.seats.length * 16 + r.passages.length)] ++
    r.seats.flatMap seatBytes ++ r.passages.flatMap passageBytes

end Sys2Proof.Machine
end

