-- ==== Sys2Proof/Machine/Ops.lean ====
section
/-! DEFINITION. The operations every block shares: block updates and counters, the transmit queues and the arbiter
(chapter 2), the asker (R43) and notices (R191). -/

namespace Sys2Proof

/-- One of a pair kept per track. -/
def PerTrack.get {α : Type} (v : PerTrack α) : Track → α
  | .up => v.up
  | .down => v.down

/-- A pair kept per track with one of the two changed. -/
def PerTrack.set {α : Type} (v : PerTrack α) (t : Track) (a : α) : PerTrack α :=
  match t with
  | .up => { v with up := a }
  | .down => { v with down := a }

end Sys2Proof

namespace Sys2Proof.Machine

/-- What a command answers. -/
abbrev Out := Host.Outcome State Fault Refusal

/-- The effect of a command while the part runs; while the reset pin is held the part stays at its reset values (R192;
log 11). -/
def State.live (s : State) (f : State → State) : Out := .next (if s.pinHeld then s else f s)

/-- The effect of an input's change: the level is stored first, also while the reset pin is held (log 11). -/
def State.liveInput (s : State) (store f : State → State) : Out := .next (if s.pinHeld then store s else f (store s))

/-! ## Updating one block -/

/-- The state with its frame switch changed. -/
def State.modSwitch (s : State) (f : SwitchUnit → SwitchUnit) : State := { s with switch := f s.switch }

/-- The state with its poller changed. -/
def State.modPoller (s : State) (f : Poller → Poller) : State := { s with poller := f s.poller }

/-- The state with its rope travel unit changed. -/
def State.modRope (s : State) (f : Rope → Rope) : State := { s with rope := f s.rope }

/-- The state with its cabin tracker changed. -/
def State.modTracker (s : State) (f : Tracker → Tracker) : State := { s with tracker := f s.tracker }

/-- The state with its station rail unit changed. -/
def State.modRail (s : State) (f : StationRail → StationRail) : State := { s with rail := f s.rail }

/-- The state with its door channel unit changed. -/
def State.modDoors (s : State) (f : Doors → Doors) : State := { s with doors := f s.doors }

/-- The state with its summit link supervisor changed. -/
def State.modLink (s : State) (f : LinkUnit → LinkUnit) : State := { s with link := f s.link }

/-- The state with its telephony unit changed. -/
def State.modTel (s : State) (f : Telephony → Telephony) : State := { s with tel := f s.tel }

/-- The state with its stop chain changed. -/
def State.modChain (s : State) (f : StopChain → StopChain) : State := { s with chain := f s.chain }

/-- The state with its admin responder changed. -/
def State.modAdmin (s : State) (f : Admin → Admin) : State := { s with admin := f s.admin }

/-- One of the two ports. -/
def State.port (s : State) : Port → PortUnit
  | .station => s.station
  | .line => s.line

/-- The state with one port changed. -/
def State.modPort (s : State) (p : Port) (f : PortUnit → PortUnit) : State :=
  match p with
  | .station => { s with station := f s.station }
  | .line => { s with line := f s.line }

/-- The other port. -/
def otherPort : Port → Port
  | .station => .line
  | .line => .station

/-! ## Counters -/

/-- One event counted: 32 bits, wrapping. -/
def bump {n : Nat} (v : Vector Counter n) (i : Fin n) : Vector Counter n := upd v i (· + 1)

/-- One event in a port's counter. -/
def State.countPort (s : State) (p : Port) (i : Fin 21) : State :=
  s.modPort p fun u => { u with counters := bump u.counters i }

/-- One event in a switch counter. -/
def State.countSwitch (s : State) (i : Fin 28) : State := s.modSwitch fun u => { u with counters := bump u.counters i }

/-- One event in a poller or seat checker counter. -/
def State.countPoller (s : State) (i : Fin 259) : State := s.modPoller fun u => { u with counters := bump u.counters i }

/-- One event in a rope travel counter. -/
def State.countRope (s : State) (i : Fin 7) : State := s.modRope fun u => { u with counters := bump u.counters i }

/-- One event in a cabin tracker counter. -/
def State.countTracker (s : State) (i : Fin 22) : State := s.modTracker fun u => { u with counters := bump u.counters i }

/-- One event in a station rail counter. -/
def State.countRail (s : State) (i : Fin 49) : State := s.modRail fun u => { u with counters := bump u.counters i }

/-- One event in a door channel counter. -/
def State.countDoors (s : State) (i : Fin 96) : State := s.modDoors fun u => { u with counters := bump u.counters i }

/-- One event in a summit link counter. -/
def State.countLink (s : State) (i : Fin 10) : State := s.modLink fun u => { u with counters := bump u.counters i }

/-- One event in a telephony counter. -/
def State.countTel (s : State) (i : Fin 38) : State := s.modTel fun u => { u with counters := bump u.counters i }

/-- One event in a stop chain counter. -/
def State.countChain (s : State) (i : Fin 50) : State := s.modChain fun u => { u with counters := bump u.counters i }

/-- One event in an admin responder counter. -/
def State.countAdmin (s : State) (i : Fin 16) : State := s.modAdmin fun u => { u with counters := bump u.counters i }

/-! ## The output arbiter (section 2.5) -/

/-- The classes a port state permits to be sent (R33). -/
def permitted (m : PortMode) (c : Fin 4) : Bool :=
  match m with
  | .active | .warned => true
  | .muted => decide (c = 0)
  | .detached | .rejoining => false

/-- Whether a class is permitted and its queue holds a frame. -/
def PortUnit.readyClass (u : PortUnit) (c : Fin 4) : Bool := permitted u.mode c && !(u.queues[c]).isEmpty

/-- The class of a turn of the MIXED pattern, turn 1 being index 0 (R34). -/
def turnClass : Fin 7 → Fin 4
  | 0 => 1
  | 1 => 2
  | 2 => 1
  | 3 => 3
  | 4 => 1
  | 5 => 2
  | 6 => 1

/-- The walk of the MIXED pattern from a turn, at most `k` turns: the class of the first turn whose queue holds a frame,
with the turn after it (R34). -/
def PortUnit.walk (u : PortUnit) : Nat → Fin 7 → Option (Fin 4 × Fin 7)
  | 0, _ => none
  | k + 1, t => if u.readyClass (turnClass t) then some (turnClass t, t + 1) else u.walk k (t + 1)

/-- The class of the next pick and the pattern position after it; none when no permitted queue holds a frame (R33,
R34). -/
def PortUnit.pickClass (u : PortUnit) (mode : Scheduler) : Option (Fin 4 × Fin 7) :=
  match mode with
  | .strict => (([0, 1, 2, 3] : List (Fin 4)).find? u.readyClass).map fun c => (c, u.turn)
  | .mixed => if u.readyClass 0 then some (0, u.turn) else u.walk 7 u.turn

/-- A port after a pick: the head frame of the chosen queue is the frame in transmission (R30, R33). -/
def PortUnit.picked (u : PortUnit) (c : Fin 4) (t : Fin 7) : PortUnit :=
  match u.queues[c] with
  | [] => u
  | f :: rest => { u with queues := u.queues.set c rest, inFlight := some (c, f), turn := t }

/-- The arbiter's pick, when one is due: the link is free and a permitted queue holds a frame (R33). -/
def PortUnit.duePick (u : PortUnit) (mode : Scheduler) : PortUnit :=
  match u.inFlight with
  | some _ => u
  | none =>
    match u.pickClass mode with
    | none => u
    | some (c, t) => u.picked c t

/-- The arbiter of a port makes the pick that is due, if one is (R33). -/
def State.duePick (s : State) (p : Port) : State := s.modPort p fun u => u.duePick s.admin.part.scheduler

/-! ## Transmit queues (section 2.4) -/

/-- The port's report that a ROLL was dropped without leaving (R38): it ends the outstanding roll when it names that
roll's number while the roll is in QUEUED. -/
def State.rollDropped (s : State) (n : Byte) : State :=
  if s.poller.roll = some (n, .queued) then
    (s.modPoller fun u => { u with roll := none }).countPoller Ctr.unsentRoll
  else s

/-- The port's report that an ASK was flushed (R44): it ends the outstanding ask it was offered for. -/
def State.askFlushed (s : State) (serial : Nat) : State :=
  match s.poller.ask with
  | some a =>
    if a.serial = serial ∧ a.phase = .queued then
      (s.modPoller fun u => { u with ask := none }).countPoller Ctr.unsentAsk
    else s
  | none => s

/-- What the port tells the poller of a frame dropped without leaving (R38, R44). -/
def State.frameDropped (s : State) (f : Frame) : State :=
  match f.origin with
  | .roll n => s.rollDropped n
  | .ask k => s.askFlushed k
  | .switched | .own => s

/-- Whether a frame is of a kind code (R31). -/
def Frame.hasKind (k : Nat) (g : Frame) : Bool := g.kindNibble == k

/-- The frame a full class 0 queue removes for an offered one: the oldest of its kind, else the oldest (R31). -/
def classZeroVictim (q : List Frame) (f : Frame) : Option Frame :=
  match q.find? (Frame.hasKind f.kindNibble) with
  | some g => some g
  | none => q.head?

/-- A full class 0 queue after it has made room (R31). -/
def classZeroRoom (q : List Frame) (f : Frame) : List Frame :=
  if q.any (Frame.hasKind f.kindNibble) then q.eraseP (Frame.hasKind f.kindNibble) else q.tail

/-- The full-drop counter of a port and class (R35). -/
def fullDropCounter (p : Port) (c : Fin 4) : Fin 28 :=
  match p with
  | .station => Ctr.fullDropStation c
  | .line => Ctr.fullDropLine c

/-- Whether a port's queue of a class has room (R32). -/
def PortUnit.hasRoom (u : PortUnit) (c : Fin 4) : Bool := decide ((u.queues[c]).length < Config.queueCapacity c)

/-- A port with a queue replaced. -/
def PortUnit.withQueue (u : PortUnit) (c : Fin 4) (q : List Frame) : PortUnit := { u with queues := u.queues.set c q }

/-- Whether a port in this state takes a frame of a class at the offer (R14, R15, R16, R30). -/
def takesOffer (m : PortMode) (c : Fin 4) : Bool :=
  match m with
  | .active | .warned => true
  | .muted => decide (c = 0)
  | .detached | .rejoining => false

/-- The counter of a frame refused at the offer by the port state: muted-drop in MUTED, detach-drop otherwise (R14 to
R16). -/
def refusalCounter (m : PortMode) (c : Fin 4) : Fin 21 :=
  match m with
  | .muted => Ctr.mutedDrop c
  | .active | .warned | .detached | .rejoining => Ctr.detachDrop c

/-- A frame offered to a port's queue of a class, no pick being due: the port state, then the queue's room, then the
full-queue policy (R30 to R32). The Bool says whether the frame was appended. -/
def State.push (s : State) (p : Port) (c : Fin 4) (f : Frame) : State × Bool :=
  let u := s.port p
  if takesOffer u.mode c = false then
    ((s.countPort p (refusalCounter u.mode c)).frameDropped f, false)
  else if u.hasRoom c then
    (s.modPort p fun u => u.withQueue c (u.queues[c] ++ [f]), true)
  else
    let s := s.countSwitch (fullDropCounter p c)
    if c = 0 then
      let s := s.modPort p fun u => u.withQueue c (classZeroRoom u.queues[c] f ++ [f])
      match classZeroVictim u.queues[c] f with
      | some g => (s.frameDropped g, true)
      | none => (s, true)
    else if c = 1 then
      (s.modPort p fun u => u.withQueue c (u.queues[c].tail ++ [f]), true)
    else
      (s.frameDropped f, false)

/-! ## The asker (section 3.4) -/

/-- Whether the asker sends an ask: none outstanding, the line port ACTIVE or WARNED with room in class 2, and a post
waiting (R43). -/
def State.askReady (s : State) : Bool :=
  s.poller.ask.isNone && (decide (s.line.mode = .active) || decide (s.line.mode = .warned)) && s.line.hasRoom 2 &&
    (!s.poller.attention.isEmpty || !s.poller.sweep.isEmpty)

/-- The post the asker takes: the head of the attention queue, or of the sweep queue when that is empty (R43). -/
def Poller.nextAsk (u : Poller) : Option Post :=
  match u.attention with
  | p :: _ => some p
  | [] => u.sweep.head?

/-- The ASK for a post (R3, R7). -/
def askFrame (p : Post) (serial : Nat) : Frame := ownFrame (postAddr p) .ask 0 (.raw []) (.ask serial)

/-- The poller once it has taken a post to ask: the post leaves both queues, its attention flag is cleared, and it is the
target of the outstanding ask in QUEUED (R43). -/
def Poller.asked (u : Poller) (p : Post) : Poller :=
  { u with
    attention := u.attention.filter (· != p)
    sweep := u.sweep.filter (· != p)
    posts := upd u.posts p fun e => { e with attention := false }
    askSerial := u.askSerial + 1
    ask := some ⟨p, .queued, u.askSerial, none, false⟩ }

/-- The asker sends an ask to the post that waits first (R43). -/
def State.sendAsk (s : State) : State :=
  match s.poller.nextAsk with
  | none => s
  | some p =>
    let f := askFrame p s.poller.askSerial
    (((s.modPoller (·.asked p)).countPoller (Ctr.asks p)).push .line 2 f).1

/-- The asker acts if an ask is due; the line port's own due pick comes first, since it makes the room (R43; log 4). -/
def State.dueAsk (s : State) : State :=
  let s := s.duePick .line
  if s.askReady then s.sendAsk else s

/-- What is due on a port before its next event: the line port's ask, then the port's pick (R33, R43; log 4). -/
def State.settle (s : State) (p : Port) : State :=
  match p with
  | .station => s.duePick .station
  | .line => (s.dueAsk).duePick .line

/-- A frame offered to a port's transmit queue (R30): a pick or ask already due comes before it (log 4). -/
def State.offerSaying (s : State) (p : Port) (c : Fin 4) (f : Frame) : State × Bool := (s.settle p).push p c f

/-- A frame offered to a port's transmit queue, whether or not it is appended (R30). -/
def State.offer (s : State) (p : Port) (c : Fin 4) (f : Frame) : State := (s.offerSaying p c f).1

/-! ## Categories and notices -/

/-- The highest category of a list of records, NONE for none (R176). -/
def demandedOf (l : List CauseRecord) : Category := l.foldr (fun r m => r.category.sup m) .none

/-- The demanded category M (R176). -/
def State.demanded (s : State) : Category := demandedOf s.chain.causes

/-- The three stop lines, asserted or not: service, fast, emergency (R170). -/
def State.stopLines (s : State) : Bool × Bool × Bool :=
  (decide (1 ≤ s.chain.asserted.rank), decide (2 ≤ s.chain.asserted.rank), decide (3 ≤ s.chain.asserted.rank))

/-- The status summary of a NOTICE (R191). -/
def State.summary (s : State) : Summary :=
  { asserted := s.chain.asserted, demanded := s.demanded, count := s.chain.causes.length, station := s.station.mode,
    line := s.line.mode, up := s.tracker.modes.up, down := s.tracker.modes.down, link := s.link.state }

/-- A NOTICE of an event: built, counted and offered to the station port in class 2; suppressed when notices are off
(R191). -/
def State.notice (s : State) (r : NoticeReason) : State :=
  if s.admin.part.notices then
    let f := ownFrame s.admin.part.console .notice 0 (.built (.notice r s.summary)) .own
    (s.countAdmin Ctr.noticeBuilt).offer .station 2 f
  else s.countAdmin Ctr.noticeSuppressed

end Sys2Proof.Machine
end

