-- ==== Sys2Proof/Machine/DoorOps.lean ====
section
/-! DEFINITION. The operations of the door channels that other blocks cause: door state writes (R103, R116), the halt at
EMERGENCY and the release below it (R132, R133), the release of a cabin whose record has left (R129), and the channel's
outputs (R116). -/

namespace Sys2Proof.Machine

/-- One door channel. -/
def State.channel (s : State) (k : Fin 8) : Channel := s.doors.channels[k]

/-- The state with one door channel changed. -/
def State.modChannel (s : State) (k : Fin 8) (f : Channel → Channel) : State :=
  s.modDoors fun u => { u with channels := upd u.channels k f }

/-- The eight channels in ascending order. -/
def allChannels : List (Fin 8) := [0, 1, 2, 3, 4, 5, 6, 7]

/-- Drive-open: OPENING, REVERSING, or a local OPEN drive in READY (R116). -/
def Channel.driveOpen (c : Channel) : Bool :=
  match c.state with
  | .opening | .reversing => true
  | .ready => decide (c.localDrive = some .opening)
  | .unpowered | .powering | .closing | .halted | .fault => false

/-- Drive-close: CLOSING, or a local CLOSE drive in READY (R116). -/
def Channel.driveClose (c : Channel) : Bool :=
  match c.state with
  | .closing => true
  | .ready => decide (c.localDrive = some .closing)
  | .unpowered | .powering | .opening | .reversing | .halted | .fault => false

/-- A channel in a new state; a change of state adds STATE to the change set (R116). -/
def Channel.enter (c : Channel) (st : ChannelState) : Channel :=
  { c with state := st, changes := if c.state = st then c.changes else { c.changes with state := true } }

/-- A channel with its local drive stopped (R131). -/
def Channel.stopLocal (c : Channel) : Channel := { c with localDrive := none, localTimer := none }

/-- A channel with its drive, reverse and local drive timers stopped and no local drive (R120, R132). -/
def Channel.stopDrives (c : Channel) : Channel := { c.stopLocal with driveTimer := none, reverseTimer := none }

/-- The role in force for what a channel is doing: of the action in flight, else of the served cabin's offer, else of the
table (R115; log 17). -/
def Channel.roleNow (c : Channel) : Role :=
  match c.action with
  | some a => a.role
  | none =>
    match c.served with
    | some v => v.role
    | none => c.entry.role

/-- Whether a role writes the cabin's door state (R116). -/
def writesDoor : Role → Bool
  | .openDoor | .closeDoor => true
  | .none | .gate => false

/-- A door state write naming a record by its arrival number: the record takes it, or it is discarded and counted
(R103). -/
def State.doorWrite (s : State) (n : BitVec 16) (d : DoorState) : State :=
  if s.rail.cabins.any (fun r => decide (r.number = n)) then
    s.modRail fun u =>
      { u with cabins := u.cabins.map fun r => if r.number = n then { r with door := d } else r }
  else s.countRail Ctr.staleDoor

/-- A channel's door state write for its served cabin, made for role OPEN or CLOSE (R116). -/
def State.channelWrite (s : State) (k : Fin 8) (d : DoorState) : State :=
  match (s.channel k).served with
  | none => s
  | some v =>
    if writesDoor v.role then
      (s.doorWrite v.number d).modChannel k fun c => { c with served := some { v with lastWrote := some d } }
    else s

/-- The action a channel starts, with the role, times and attempts of its table entry (section 7.2). -/
def Channel.newAction (c : Channel) (k : ActionKind) : Action :=
  ⟨k, c.entry.role, c.entry.driveTime, c.entry.reverseTime, c.entry.attempts⟩

/-- A close drive of an action: CLOSING with the drive timer started (R125). -/
def Channel.closeDrive (c : Channel) (a : Action) : Channel :=
  { c.enter .closing with driveTimer := some (a.driveTime * 100), reverseTimer := none }

/-- CLOSE_GATE: with LOCKED asserted the gate-open flag is cleared and nothing is driven; otherwise the action starts
with the attempts of the table (R126). -/
def Channel.closeGate (c : Channel) : Channel :=
  if c.pins.locked then
    { c.enter .ready with gateOpen := false, action := none, driveTimer := none, reverseTimer := none }
  else
    let a := { c.newAction .closeGate with role := .gate }
    ({ c with action := some a, attemptsLeft := a.attempts }).closeDrive a

/-- Whether the halt takes a channel: READY, OPENING, CLOSING and REVERSING (R132). -/
def ChannelState.halts : ChannelState → Bool
  | .ready | .opening | .closing | .reversing => true
  | .unpowered | .powering | .halted | .fault => false

/-- The halt of one channel at EMERGENCY: outputs and timers stop, an action in flight is abandoned and counted, the door
of a cabin served under it is written UNKNOWN, the served cabin stays served (R132). The attempts left of an abandoned
close keep their last value (log 47). -/
def State.haltChannel (s : State) (k : Fin 8) : State :=
  let c := s.channel k
  if c.state.halts then
    let s := if c.action.isSome then (s.countDoors (Ctr.halt k)).channelWrite k .unknown else s
    s.modChannel k fun c => { c.stopDrives.enter .halted with action := none }
  else s

/-- The rise of the asserted category to EMERGENCY reaches every channel (R132). -/
def State.haltAll (s : State) : State := allChannels.foldl State.haltChannel s

/-- The release of one HALTED channel below EMERGENCY: READY, the served cabin released, and an open gate closed unless
the channel is in LOCAL (R133). -/
def Channel.release (c : Channel) : Channel :=
  if c.state = .halted then
    let c := { c.enter .ready with served := none }
    if c.entry.role = .gate ∧ c.gateOpen ∧ c.mode ≠ .local_ then c.closeGate else c
  else c

/-- The fall of the asserted category below EMERGENCY reaches every channel (R133). -/
def State.releaseAll (s : State) : State :=
  s.modDoors fun u => { u with channels := vecMap Channel.release u.channels }

/-- A record has left the station list: each channel serving it releases it, and an action in flight runs on (R129). -/
def State.recordLeft (s : State) (n : BitVec 16) : State :=
  s.modDoors fun u =>
    { u with
      channels := vecMap (fun c =>
        match c.served with
        | some v => if v.number = n then { c with served := none } else c
        | none => c) u.channels }

end Sys2Proof.Machine
end

