-- ==== Sys2Proof/Machine/CallOps.lean ====
section
/-! DEFINITION. The operations on call records: lines, channels, frames, freeing, preemption, resumption, the opening of a
summit call and stop calls (R149 to R165). -/

namespace Sys2Proof.Machine

/-- The four call records in ascending order. -/
def allRecords : List (Fin 4) := [0, 1, 2, 3]

/-- The state with one call record changed. -/
def State.modRecord (s : State) (i : Fin 4) (f : CallRecord → CallRecord) : State :=
  s.modTel fun u => { u with records := upd u.records i f }

/-- The state with one voice channel changed. -/
def State.modVoice (s : State) (v : VoiceName) (f : VoiceUnit → VoiceUnit) : State :=
  s.modTel fun u => { u with voices := upd u.voices (voiceIndex v) f }

/-- Whether a record's remote is SUMMIT (R151). -/
def Remote.isSummit : Remote → Bool
  | .summit _ => true
  | .localLine _ | .none => false

/-- Whether a record is neither FREE nor HELD (R151). -/
def CallState.live : CallState → Bool
  | .free | .held => false
  | .setup | .ringingOut | .ringingIn | .connected => true

/-- Whether a line is active in a record (R151). -/
def CallRecord.activeOn (r : CallRecord) (l : Fin 2) : Bool :=
  r.state.live && (decide (r.line = l) || decide (r.remote = .localLine l))

/-- The record a line is active in (R151). -/
def Telephony.activeRecord (u : Telephony) (l : Fin 2) : Option (Fin 4) :=
  allRecords.find? fun i => (u.records[i]).activeOn l

/-- Whether a record rings a line (R149). -/
def CallRecord.rings (r : CallRecord) (l : Fin 2) : Bool :=
  match r.state with
  | .ringingIn => decide (r.line = l)
  | .ringingOut => decide (r.remote = .localLine l)
  | .free | .setup | .connected | .held => false

/-- The record that rings a line (R149). -/
def Telephony.ringingRecord (u : Telephony) (l : Fin 2) : Option (Fin 4) :=
  allRecords.find? fun i => (u.records[i]).rings l

/-- The ring output of a line; none while the reset pin is held (R149, R192). -/
def State.ringOutput (s : State) (l : Fin 2) : Bool := !s.pinHeld && (s.tel.ringingRecord l).isSome

/-- Whether a voice channel is held by no call (R151). -/
def Telephony.channelFree (u : Telephony) (v : VoiceName) : Bool :=
  allRecords.all fun i => decide ((u.records[i]).channel ≠ some v)

/-- A free voice channel, A before B (R156). -/
def Telephony.freeChannel (u : Telephony) : Option VoiceName :=
  if u.channelFree .a then some .a else if u.channelFree .b then some .b else none

/-- The lowest-numbered FREE record (R151). -/
def Telephony.freeRecord (u : Telephony) : Option (Fin 4) :=
  allRecords.find? fun i => decide ((u.records[i]).state = .free)

/-- What a line's codec port plays: the playout or the other line while the line is active in a CONNECTED call, silence
otherwise (R149). -/
def State.codecPlays (s : State) (l : Fin 2) : List Byte :=
  match s.tel.activeRecord l with
  | some i => if (s.tel.records[i]).state = .connected then s.tel.codec[l] else Config.silence
  | none => Config.silence

/-- A CALL frame to the summit (R8, R152). -/
def callFrame (sub : CallSub) (ref : Byte) (line : Fin 2) (summitLine : Fin 4) (priority : Priority)
    (channel : Option VoiceName) (reason : ClearReason) : Frame :=
  ownFrame summitAddr .call (subCode sub) (.built (.call ref line summitLine priority channel reason)) .own

/-- The CALL frame of a record: its reference, lines, priority, channel (none for HOLD) and a reason (R152). None for a
record whose remote is not SUMMIT. -/
def CallRecord.frame (r : CallRecord) (sub : CallSub) (reason : ClearReason) : Option Frame :=
  match r.remote with
  | .summit l => some (callFrame sub r.ref r.line l r.priority (if sub = .hold then none else r.channel) reason)
  | .localLine _ | .none => none

/-- A CALL offered to the line port in class 1 (R152). -/
def State.offerCall (s : State) (f : Option Frame) : State :=
  match f with
  | some f => s.offer .line 1 f
  | none => s

/-- A record's CALL of a sub-kind sent with reason NORMAL (R152). -/
def State.sendCall (s : State) (i : Fin 4) (sub : CallSub) : State :=
  s.offerCall ((s.tel.records[i]).frame sub .normal)

/-- A voice channel released: queue emptied, playout stopped in PREFILL, expected sequence and last frame discarded (R160
step 2). -/
def VoiceUnit.released (v : VoiceUnit) : VoiceUnit :=
  { v with jitter := [], playing := false, expected := none, last := none, replayUsed := false, timer := none }

/-- The channel a record holds is released (R160 step 2). -/
def State.releaseChannel (s : State) (i : Fin 4) : State :=
  match (s.tel.records[i]).channel with
  | some v => (s.modVoice v VoiceUnit.released).modRecord i fun r => { r with channel := none }
  | none => s

/-- A record claims a voice channel, which is reset (R156). -/
def State.claim (s : State) (i : Fin 4) (v : VoiceName) : State :=
  (s.modVoice v fun _ => voiceInitial).modRecord i fun r => { r with channel := some v }

/-- The codec ports of a record's lines start in silence at its entry to CONNECTED (R149, R156). -/
def Telephony.quietLines (u : Telephony) (r : CallRecord) : Telephony :=
  let c := upd u.codec r.line fun _ => Config.silence
  match r.remote with
  | .localLine l => { u with codec := upd c l fun _ => Config.silence }
  | .summit _ | .none => { u with codec := c }

/-- A record enters CONNECTED: timer stopped, a new connection order (R151, R157). -/
def State.connect (s : State) (i : Fin 4) : State :=
  (s.modTel fun u => { u.quietLines u.records[i] with order := u.order + 1 }).modRecord i fun r =>
    { r with state := .connected, timer := none, order := some (s.tel.order + 1) }

/-- A record enters RINGING_IN with its 30 s timer (R151). -/
def State.ringIn (s : State) (i : Fin 4) : State :=
  s.modRecord i fun r => { r with state := .ringingIn, timer := some Config.ringTime }

/-! ## Freeing (R160) -/

/-- A record is freed with a reason: its channel is released, it leaves the hold stack, it becomes FREE, the freeing is
counted, and a CLEAR is sent for a record known to the summit unless `quiet` (R160). -/
def State.freeCore (s : State) (i : Fin 4) (reason : ClearReason) (quiet : Bool) : State :=
  let r := s.tel.records[i]
  let f := if r.known && !quiet then r.frame .clear reason else none
  let s := s.releaseChannel i
  let s := s.modTel fun u => { u with stack := u.stack.filter (· != i) }
  let s := s.modRecord i fun r => { r with state := .free, timer := none }
  (s.countTel (Ctr.cleared (reasonIndex reason))).offerCall f

/-! ## Resumption (R163) -/

/-- A record that has left the hold stack is resumed on a free channel: CONNECTED with RESUME when its line is off-hook,
else RINGING_IN as a recalled call (R163). -/
def State.resumeRecord (s : State) (i : Fin 4) (v : VoiceName) : State :=
  let s := (s.claim i v).countTel Ctr.resumedCalls
  if s.tel.hooks[(s.tel.records[i]).line] then (s.connect i).sendCall i .resume else s.ringIn i

/-- The first record from the top of the stack whose local line is not active (R163). -/
def Telephony.resumable (u : Telephony) : Option (Fin 4) :=
  u.stack.find? fun i => (u.activeRecord (u.records[i]).line).isNone

/-- Resumption is tried while a free channel and a suitable record both remain, at most `k` times (R163). -/
def State.resumeHeld (s : State) : Nat → State
  | 0 => s
  | k + 1 =>
    match s.tel.resumable, s.tel.freeChannel with
    | some i, some v =>
      let s := s.modTel fun u => { u with stack := u.stack.filter (· != i) }
      (s.resumeRecord i v).resumeHeld k
    | _, _ => s

/-- Resumption; the stack holds at most two records (R163). -/
def State.resumption (s : State) : State := s.resumeHeld Config.stackCapacity

/-! ## Preemption (R162) -/

/-- Whether a record is a CONNECTED summit call of a priority below EMERGENCY (R162). -/
def CallRecord.channelVictim (r : CallRecord) : Bool :=
  decide (r.state = .connected) && r.remote.isSummit && decide (r.priority.rank < Priority.emergency.rank)

/-- Whether one channel victim is chosen before another: lower priority, then higher connection order (R162). -/
def CallRecord.victimBefore (a b : CallRecord) : Bool :=
  decide (a.priority.rank < b.priority.rank) ||
    (decide (a.priority.rank = b.priority.rank) && decide (b.order.getD 0 < a.order.getD 0))

/-- The channel victim (R162). -/
def Telephony.chooseVictim (u : Telephony) : Option (Fin 4) :=
  (allRecords.filter fun i => (u.records[i]).channelVictim).foldl
    (fun best i =>
      match best with
      | none => some i
      | some j => if (u.records[i]).victimBefore u.records[j] then some i else some j) none

/-- The victims of an EMERGENCY call on a line, in order, and the channel it gets; none when preemption finds no victim
(R162). `self` is the call's own record, when it has one. -/
def Telephony.preemption (u : Telephony) (self : Option (Fin 4)) (l : Fin 2) : Option (List (Fin 4) × VoiceName) :=
  let byChannel (first : List (Fin 4)) : Option (List (Fin 4) × VoiceName) :=
    match u.freeChannel with
    | some v => some (first, v)
    | none =>
      match u.chooseVictim with
      | some j => (u.records[j]).channel.map fun v => (first ++ [j], v)
      | none => none
  match u.activeRecord l with
  | none => byChannel []
  | some j =>
    if self = some j then byChannel []
    else if (u.records[j]).priority = .emergency then none
    else
      match (u.records[j]).channel with
      | some v => some ([j], v)
      | none => byChannel [j]

/-- A victim is put on hold when it is a CONNECTED summit call and the stack has room; otherwise it is freed with
PREEMPTED (R162). Its channel is not offered to resumption. -/
def State.takeVictim (s : State) (j : Fin 4) : State :=
  let r := s.tel.records[j]
  if r.state = .connected ∧ r.remote.isSummit ∧ s.tel.stack.length < Config.stackCapacity then
    let s := s.releaseChannel j
    let s := s.modRecord j fun r => { r with state := .held, timer := some Config.holdTime }
    let s := s.modTel fun u => { u with stack := j :: u.stack }
    (s.countTel Ctr.heldCalls).sendCall j .hold
  else s.freeCore j .preempted false

/-! ## Opening a summit call (R156) -/

/-- A summit call that has its channel enters SETUP, is known to the summit and sends REQUEST (R156). -/
def State.setupCall (s : State) (i : Fin 4) (r : CallRecord) (v : VoiceName) : State :=
  let s := s.modRecord i fun _ => { r with state := .setup, timer := some Config.setupTime, known := true, channel := none }
  (s.claim i v).sendCall i .request

/-- A summit call opened at the valley in record `i`, judged against the link and the channels (R156). The reason is that
of a refusal, none when the call is opened. -/
def State.openSummit (s : State) (i : Fin 4) (r : CallRecord) : State × Option ClearReason :=
  if s.link.state = .silent then (s, some .lineLost)
  else
    match s.tel.freeChannel with
    | some v => (s.setupCall i r v, none)
    | none =>
      if r.priority = .emergency then
        match s.tel.preemption (some i) r.line with
        | some (victims, v) => (((victims.foldl State.takeVictim s).setupCall i r v).resumption, none)
        | none => (s, some .busy)
      else (s, some .busy)

/-- A new record of a call opened at the valley; its reference is the record number (R151). -/
def newCall (i : Fin 4) (l : Fin 2) (remote : Remote) (p : Priority) : CallRecord :=
  ⟨.setup, l, remote, p, true, BitVec.ofNat 8 i.val, none, false, none, false, none⟩

/-! ## Stop calls (R165) -/

/-- A summit line number of the telephony table as a line (R150 keeps it below 4). -/
def summitLineOf (n : Nat) : Fin 4 := ⟨n % 4, by omega⟩

/-- A stop call becomes a summit call to the operations summit line; a refused one is freed with the reason of the
refusal, without a frame (R165). -/
def State.stopCallToSummit (s : State) (i : Fin 4) : State :=
  let r := { s.tel.records[i] with remote := .summit (summitLineOf s.tel.table.operations) }
  match s.openSummit i r with
  | (s, none) => s
  | (s, some reason) => ((s.modRecord i fun _ => r).freeCore i reason true).resumption

/-- The stop call record: LINE 0, remote NONE, OPERATIONS, auto, in RINGING_IN with its 30 s timer (R165). -/
def stopCallRecord (i : Fin 4) : CallRecord :=
  { newCall i 0 .none .operations with state := .ringingIn, auto := true, timer := some Config.ringTime }

/-- Whether a stop-call trigger opens a stop call: LINE 0 active in no record and the local line of no HELD record
(R165). -/
def Telephony.stopCallAllowed (u : Telephony) : Bool :=
  (u.activeRecord 0).isNone &&
    allRecords.all fun i => !(decide ((u.records[i]).state = .held) && decide ((u.records[i]).line = 0))

/-- The stop chain's stop-call trigger (R165). -/
def State.stopCallTrigger (s : State) : State :=
  match s.tel.stopCallAllowed, s.tel.freeRecord with
  | true, some i =>
    let s := (s.modRecord i fun _ => stopCallRecord i).countTel Ctr.stopCall
    if s.tel.hooks[(0 : Fin 2)] then s.stopCallToSummit i else s
  | _, _ => s.countTel Ctr.stopCallIgnored

end Sys2Proof.Machine
end

