-- ==== Sys2Proof/Machine/StopOps.lean ====
section
/-! DEFINITION. The stop chain's shared operations: raises, withdrawals and changes of the asserted category (R174 to
R177, R181). -/

namespace Sys2Proof.Machine

/-- Whether the stop timer is started at a change of A: a rise from NONE while the rope is not at standstill (R181). -/
def stopTimerStarts (old new : Category) (standstill : Bool) : Bool :=
  decide (old = .none) && decide (new ≠ .none) && !standstill

/-- A change of A reaches the stop timer (R181). -/
def State.judgeStopTimer (s : State) (old new : Category) : State :=
  if stopTimerStarts old new s.rope.standstill then
    (s.modChain fun u => { u with timer := some (s.rope.table.stopTime * 1000) }).countChain Ctr.stopTimer
  else s

/-- A change of A reaches the door channels: the rise to EMERGENCY and the fall below it (R132, R133). -/
def State.tellDoors (s : State) (old new : Category) : State :=
  if new = .emergency ∧ old ≠ .emergency then s.haltAll
  else if new ≠ .emergency ∧ old = .emergency then s.releaseAll
  else s

/-- A takes a new value: the stop lines follow it, then the door channels, the stop timer and the notice, in that order
(R176). Nothing happens when the value is the one A has. -/
def State.setAsserted (s : State) (new : Category) : State :=
  let old := s.chain.asserted
  if new = old then s
  else
    (((s.modChain fun u => { u with asserted := new }).tellDoors old new).judgeStopTimer old new).notice
      (.category old new)

/-- A follows M upward at once (R176). -/
def State.judgeRise (s : State) : State :=
  if s.chain.asserted.rank < s.demanded.rank then s.setAsserted s.demanded else s

/-- A record of the set after one more raise of its code: occurrences up, effective category raised to the table's or the
requested one where higher, condition present for a raise that holds one (R174). -/
def CauseRecord.again (r : CauseRecord) (table : Category) (d : Detail) (momentary : Bool) : CauseRecord :=
  { r with
    occurrences := satAdd 255 r.occurrences 1
    category := (r.category.sup table).sup (d.requested.getD .none)
    present := r.present || !momentary }

/-- The record a raise appends (R174). -/
def newRecord (c : Cause) (table : Category) (d : Detail) (momentary : Bool) : CauseRecord :=
  ⟨c, table.sup (d.requested.getD .none), d, 1, !momentary⟩

/-- The entry of a record into the set is handed on: the notice, then the stop-call trigger, by the code's flags
(R177). -/
def State.handOnEntry (s : State) (r : CauseRecord) : State :=
  let e := s.chain.table[causeCode r.code]
  let s := if e.notice then s.notice (.causeEntry r) else s
  if e.call then s.stopCallTrigger else s

/-- A raise taken by the stop chain (R174): the code's record rises, or a record is appended; A is judged (R176), and a new
record's entry is handed on (R177). -/
def State.raise (s : State) (c : Cause) (d : Detail) (momentary : Bool) : State :=
  let s := s.countChain (Ctr.raises (causeCode c))
  let table := (s.chain.table[causeCode c]).category
  if s.chain.causes.any (fun r => decide (r.code = c)) then
    (s.modChain fun u =>
      { u with causes := u.causes.map fun r => if r.code = c then r.again table d momentary else r }).judgeRise
  else
    let r := newRecord c table d momentary
    ((s.modChain fun u => { u with causes := u.causes ++ [r] }).judgeRise).handOnEntry r

/-- A raise of a momentary cause: its condition is gone at its entry (R173). -/
def State.raiseMomentary (s : State) (c : Cause) (d : Detail) : State := s.raise c d true

/-- A raise of a cause that holds its condition present (R173). -/
def State.raiseHeld (s : State) (c : Cause) (d : Detail) : State := s.raise c d false

/-- A withdrawal: the code's record has its condition gone; a code not in the set is counted (R175). -/
def State.withdraw (s : State) (c : Cause) : State :=
  if s.chain.causes.any (fun r => decide (r.code = c)) then
    s.modChain fun u => { u with causes := u.causes.map fun r => if r.code = c then { r with present := false } else r }
  else s.countChain Ctr.strayWithdrawal

/-- A record is freed by a rule of chapter 9: freeing (R160), then the resumption its channel and line are offered to
(R163), then CALL_UNANSWERED for an EMERGENCY record that never entered CONNECTED, unless `excused` (R160; log 16). -/
def State.freeCall (s : State) (i : Fin 4) (reason : ClearReason) (quiet excused : Bool) : State :=
  let r := s.tel.records[i]
  let s := (s.freeCore i reason quiet).resumption
  if r.priority = .emergency ∧ r.order = none ∧ excused = false then
    s.raiseMomentary .callUnanswered { line := some r.line.val }
  else s

end Sys2Proof.Machine
end

