-- ==== Sys2Proof/Machine/Ports.lean ====
section
/-! DEFINITION. The two ports: error counts and states (R12 to R16), transmission (R17) and the commands of a port. -/

namespace Sys2Proof.Machine

/-! ## Port states -/

/-- The cause a port holds present while it is DETACHED (R15). -/
def portCause : Port → Cause
  | .station => .consoleLink
  | .line => .lineDetached

/-- The rejoin delay of a port (R188). -/
def PartTable.rejoinDelay (t : PartTable) : Port → Nat
  | .station => t.rejoinStation
  | .line => t.rejoinLine

/-- One transmit queue flushed: each frame is counted and the poller told of it (R14, R15, R38, R44). -/
def State.flushClass (s : State) (p : Port) (counter : Fin 4 → Fin 21) (c : Fin 4) : State :=
  ((s.port p).queues[c]).foldl (fun s f => (s.countPort p (counter c)).frameDropped f)
    (s.modPort p fun u => u.withQueue c [])

/-- A port state set after what is due on the port is done (log 4). -/
def State.enterMode (s : State) (p : Port) (m : PortMode) : State :=
  (s.settle p).modPort p fun u => { u with mode := m }

/-- A change of port state reported to the admin responder (R13, R191). -/
def State.reportMode (s : State) (p : Port) (old : PortMode) : State :=
  s.notice (.portState p old (s.port p).mode (s.port p).errors)

/-- Entry to DETACHED: all queues flushed, the rejoin timer started, the entry counted and reported, the cause raised
(R15). -/
def State.enterDetached (s : State) (p : Port) : State :=
  let old := (s.port p).mode
  let s := s.enterMode p .detached
  let s := ([0, 1, 2, 3] : List (Fin 4)).foldl (fun s c => s.flushClass p Ctr.detachDrop c) s
  let s := s.modPort p fun u => { u with rejoin := some (s.admin.part.rejoinDelay p), goodRun := 0 }
  ((s.countPort p Ctr.detachEntries).reportMode p old).raiseHeld (portCause p) {}

/-- A change of port state by R13: MUTED flushes classes 1 to 3 (R14), DETACHED is entered as R15 states. -/
def State.changeMode (s : State) (p : Port) (m : PortMode) : State :=
  let old := (s.port p).mode
  match m with
  | .detached => s.enterDetached p
  | .muted =>
    (([1, 2, 3] : List (Fin 4)).foldl (fun s c => s.flushClass p Ctr.mutedDrop c) (s.enterMode p .muted)).reportMode p old
  | .active | .warned | .rejoining => (s.enterMode p m).reportMode p old

/-- The port state the error count calls for, one step at a time (R13). -/
def followErrors (m : PortMode) (errors : Nat) : PortMode :=
  match m with
  | .active => if 96 ≤ errors then .warned else .active
  | .warned => if 128 ≤ errors then .muted else if errors < 96 then .active else .warned
  | .muted => if 192 ≤ errors then .detached else if errors < 128 then .warned else .muted
  | .detached => .detached
  | .rejoining => .rejoining

/-- Whether the error count of a port follows events (R12): frozen in DETACHED and REJOINING. -/
def errorsCounted : PortMode → Bool
  | .active | .warned | .muted => true
  | .detached | .rejoining => false

/-- A change of a port's error count, and of its state after it (R12, R13). -/
def State.changeErrors (s : State) (p : Port) (f : Nat → Nat) : State :=
  if errorsCounted (s.port p).mode then
    let s := s.modPort p fun u => { u with errors := f u.errors }
    let u := s.port p
    let m := followErrors u.mode u.errors
    if m = u.mode then s else s.changeMode p m
  else s

/-- A rise of the error count by 8, saturating at 255: a bad frame or a lost roll (R12). -/
def State.errorUp (s : State) (p : Port) : State := s.changeErrors p fun e => satAdd 255 e 8

/-- A fall of the error count by 1, stopping at 0: a good frame (R12). -/
def State.errorDown (s : State) (p : Port) : State := s.changeErrors p fun e => e - 1

/-! ## Reception -/

/-- The first check a received frame fails, as the counter of its cause; none for a good frame (R11). -/
def frameCheck (bytes : List Byte) : Option (Fin 21) :=
  if bytes.length < 6 then some Ctr.short
  else if 70 < bytes.length then some Ctr.long
  else if (bytes.getD 3 0).toNat + 6 ≠ bytes.length then some Ctr.length
  else if crc bytes ≠ 0 then some Ctr.check
  else none

/-- A bad frame: counted once in the counter of its cause; it acts on the error count, or sends a REJOINING port back to
DETACHED (R11, R12, R16). -/
def State.badFrame (s : State) (p : Port) (cause : Fin 21) : State :=
  let s := s.countPort p cause
  if (s.port p).mode = .rejoining then s.enterDetached p else s.errorUp p

/-- A good frame in REJOINING: the run grows and the frame is discarded; the sixteenth takes the port to ACTIVE with both
counts at 0 (R16). -/
def State.rejoinGood (s : State) (p : Port) : State :=
  let s := (s.modPort p fun u => { u with goodRun := satAdd 16 u.goodRun 1 }).countPort p Ctr.rejoinDiscard
  if 16 ≤ (s.port p).goodRun then
    let s := (s.enterMode p .active).modPort p fun u => { u with errors := 0, goodRun := 0 }
    s.reportMode p .rejoining
  else s

/-- Expiry of a DETACHED port's rejoin timer: REJOINING with the run at 0, the DETACHED cause withdrawn (R16). -/
def State.rejoinExpiry (s : State) (p : Port) : State :=
  let u := s.port p
  if u.mode = .detached ∧ u.rejoin.isSome then
    let s := (s.enterMode p .rejoining).modPort p fun u => { u with goodRun := 0, rejoin := none }
    (s.withdraw (portCause p)).reportMode p .detached
  else s

/-! ## Transmission -/

/-- The outstanding roll leaves the line port: AWAITING, with its 60 ms reply deadline (R38). -/
def State.rollLeaves (s : State) (n : Byte) : State :=
  if s.poller.roll = some (n, .queued) then
    s.modPoller fun u => { u with roll := some (n, .awaiting), rollDeadline := some Config.rollDeadline }
  else s

/-- The outstanding ASK leaves the line port: AWAITING, with its 20 ms reply deadline (R44). -/
def State.askLeaves (s : State) (serial : Nat) : State :=
  match s.poller.ask with
  | some a =>
    if a.serial = serial ∧ a.phase = .queued then
      s.modPoller fun u => { u with ask := some { a with phase := .awaiting, deadline := some Config.askDeadline } }
    else s
  | none => s

/-- What the port tells the poller of a frame that leaves (R38, R44). -/
def State.frameLeft (s : State) (f : Frame) : State :=
  match f.origin with
  | .roll n => s.rollLeaves n
  | .ask k => s.askLeaves k
  | .switched | .own => s

/-- The frame in transmission leaves the port: the link is free, the frame is counted, the poller is told (R17, R38,
R44). -/
def State.leave (s : State) (p : Port) : State :=
  match (s.port p).inFlight with
  | none => s
  | some (c, f) =>
    ((s.modPort p fun u => { u with inFlight := none }).countPort p (Ctr.transmitted c)).frameLeft f

/-- The bytes on a port's link: those of the frame in transmission (R17). -/
def State.onLink (s : State) (p : Port) : Option (List Byte) := (s.port p).inFlight.map fun x => x.2.wire

/-! ## Commands -/

/-- REJOIN_TIMER_EXPIRY (R16). -/
def execRejoinTimerExpiry (p : Port) (s : State) : Out := s.live fun s => s.rejoinExpiry p

/-- ARBITER_PICK (R33, R34). -/
def execArbiterPick (p : Port) (s : State) : Out := s.live fun s => s.duePick p

/-- FRAME_LEAVES (R17). -/
def execFrameLeaves (p : Port) (s : State) : Out := s.live fun s => s.leave p

end Sys2Proof.Machine
end

