-- ==== Sys2Proof/Machine/RopeTravel.lean ====
section
/-! DEFINITION. The rope travel unit: positions and back-dating (R66 to R69), the slip estimate (R70 to R72), the odometer
(R59), motion supervision (R60 to R64) and the missed-passage sweep a gate ends with (R65, R95). -/

namespace Sys2Proof.Machine

/-! ## Positions -/

/-- The launch offset of a track (section 4.1). -/
def launchOffset (t : RopeFields) : Track → Nat
  | .up => t.launchUp
  | .down => t.launchDown

/-- The length of a track (section 4.1). -/
def trackLength (t : RopeFields) : Track → Nat
  | .up => t.lengthUp
  | .down => t.lengthDown

/-- The rope travel since a departure odometer, in mm: the difference modulo 2^48 read as signed, divided by 256,
truncated (R66). -/
def ropeTravel (o d : Odo) : Int := (o - d).toInt.tdiv 256

/-- The corrected position of a record on a track, in mm (R66). -/
def Rope.position (u : Rope) (t : Track) (r : TrainRecord) : Int :=
  (launchOffset u.table t : Int) + ropeTravel u.odo r.departure - u.slip

/-- The back-dating term of an event of age a, in mm (R67). -/
def backTerm (v : Int) (age : Nat) : Int := (v * age).tdiv 1000

/-- The departure odometer of a summit departure of age a; an unknown age counts as 0 (R68, R69). -/
def Rope.departureOdo (u : Rope) (age : Nat) : Odo :=
  if age = 1023 then u.odo else u.odo - BitVec.ofInt 48 ((u.speed * age * 256).tdiv 1000)

/-! ## Conditions and the slip estimate -/

/-- A condition judged: raised when it passes from gone to present, withdrawn when it passes from present to gone (R62,
R63, R71). -/
def State.judge (s : State) (c : Cause) (was now : Bool) : State :=
  if now && !was then s.raiseHeld c {} else if was && !now then s.withdraw c else s

/-- ROPE_SLIP judged: present when the magnitude of S is greater than the slip limit (R71). -/
def State.judgeSlip (s : State) : State :=
  let now := decide (s.rope.table.slipLimit < s.rope.slip.natAbs)
  (s.modRope fun u => { u with slipping := now }).judge .ropeSlip s.rope.slipping now

/-- S set to 0 when neither track is left TRACKED (R72). -/
def State.clearSlip (s : State) : State := (s.modRope fun u => { u with slip := 0 }).judgeSlip

/-- A deviation offered for a track: a quarter of it is added to S and the sum clamped; an offer for an UNTRACKED track is
discarded (R70). -/
def State.offerDeviation (s : State) (t : Track) (d : Int) : State :=
  match s.tracker.modes.get t with
  | .untracked => s.countRope Ctr.deviationsDiscarded
  | .tracked =>
    let sum := s.rope.slip + d.tdiv 4
    let slip := clampInt (-65535) 65535 sum
    let s := s.countRope Ctr.deviationsApplied
    let s := if slip = sum then s else s.countRope Ctr.slipClamp
    (s.modRope fun u => { u with slip := slip }).judgeSlip

/-! ## Causes for a track (R85) -/

/-- A cause raised for a track: raised when the track is TRACKED, counted when it is UNTRACKED (R85). -/
def State.trackRaise (s : State) (t : Track) (c : Cause) (d : Detail) : State :=
  match s.tracker.modes.get t with
  | .tracked => s.raiseMomentary c d
  | .untracked => s.countTracker (Ctr.untrackedEvents (trackIndex t))

/-- A train list's record changed in place. -/
def State.modTrain (s : State) (t : Track) (i : Nat) (f : TrainRecord → TrainRecord) : State :=
  s.modTracker fun u => { u with lists := u.lists.set t ((u.lists.get t).modify i f) }

/-- MISSED_PASSAGE for one seat passed by a record of a track, one occurrence each (R89, R95). -/
def State.missSeat (s : State) (t : Track) (cabin : Option Nat) (r : SeatRef) : State :=
  (s.trackRaise t .missedPassage { post := some (postNumber r.post), seat := some r.seat.val, cabin := cabin }).countTracker
    (Ctr.missedPassages (trackIndex t))

/-- The sweep of one record at position x over the seats it still expects: each seat it is beyond the window of is missed,
and the record advances (R95). -/
def State.sweepSeats (s : State) (t : Track) (i : Nat) (cabin : Option Nat) (x : Int) : List SeatRef → State
  | [] => s
  | r :: rs =>
    let e := s.poller.seats[seatIndex r.post r.seat]
    if (e.position : Int) + e.window < x then
      ((s.missSeat t cabin r).modTrain t i fun r => { r with next := r.next + 1 }).sweepSeats t i cabin x rs
    else s

/-- The sweep of one record of a list (R95). -/
def State.sweepRecord (t : Track) (s : State) (i : Nat) : State :=
  match (s.tracker.lists.get t)[i]? with
  | none => s
  | some r => s.sweepSeats t i r.cabin (s.rope.position t r) ((s.tracker.seqs.get t).drop r.next)

/-- The sweep of one train list, oldest record first (R95). -/
def State.sweepList (s : State) (t : Track) : State :=
  (List.range (s.tracker.lists.get t).length).foldl (State.sweepRecord t) s

/-- The missed-passage sweep: the UP list, then the DOWN list (R95). -/
def State.sweepLists (s : State) : State := (s.sweepList .up).sweepList .down

/-! ## The odometer and the gate -/

/-- A tachometer pulse (R59). -/
def Rope.pulse (u : Rope) (dir : Direction) : Rope :=
  let q := BitVec.ofNat 48 u.table.pitch
  match dir with
  | .forward => { u with direction := dir, odo := u.odo + q, gate := if u.gate = 32767 then u.gate else u.gate + 1 }
  | .reverse => { u with direction := dir, odo := u.odo - q, gate := if u.gate = -32768 then u.gate else u.gate - 1 }

/-- Whether a pulse finds the gate count at its limit (R59). -/
def Rope.saturated (u : Rope) : Direction → Bool
  | .forward => decide (u.gate = 32767)
  | .reverse => decide (u.gate = -32768)

/-- The counter of a pulse's direction (R59). -/
def pulseCounter : Direction → Fin 7
  | .forward => Ctr.forwardPulses
  | .reverse => Ctr.reversePulses

/-- A tachometer pulse with its counters (R59). -/
def State.pulse (s : State) (dir : Direction) : State :=
  let s' := (s.modRope fun u => u.pulse dir).countRope (pulseCounter dir)
  if s.rope.saturated dir then s'.countRope Ctr.gateSaturation else s'

/-- The speed of a gate before the clamp: n × q × 10 ÷ 256, truncated toward zero (R60). -/
def gateSpeed (n : Int) (q : Nat) : Int := (n * q * 10).tdiv 256

/-- The rope's zero-gate count and standstill after a gate that ended with n (R61). -/
def Rope.judgeStandstill (u : Rope) : Rope :=
  if u.gate = 0 then
    let z := satAdd 2 u.zeros 1
    { u with zeros := z, standstill := u.standstill || decide (2 ≤ z) }
  else { u with zeros := 0, standstill := false }

/-- The stop chain told of the entry to STANDSTILL: the stop timer is stopped (R181). -/
def State.stopTimerStop (s : State) : State := s.modChain fun u => { u with timer := none }

/-- The tach-silent timer stopped, and TACH_SILENT withdrawn if it was present (R64). -/
def State.tachStop (s : State) : State :=
  (s.modRope fun u => { u with tachTimer := none, silent := false }).judge .tachSilent s.rope.silent false

/-- The tach-silent timer started with the tach-silent time (R64). -/
def State.tachStart (s : State) : State := s.modRope fun u => { u with tachTimer := some u.table.tachSilent }

/-- The speed of the gate that ended set, clamped and counted (R60). -/
def State.setSpeed (s : State) : State :=
  let raw := gateSpeed s.rope.gate s.rope.table.pitch
  let v := clampInt (-20000) 20000 raw
  let s := s.modRope fun u => { u with speed := v }
  if v = raw then s else s.countRope Ctr.speedClamp

/-- OVERSPEED judged on the clamped speed (R62). -/
def State.judgeOverspeed (s : State) : State :=
  let now := decide (s.rope.table.overspeed < s.rope.speed.natAbs)
  (s.modRope fun u => { u with overspeed := now }).judge .overspeed s.rope.overspeed now

/-- REVERSE_MOTION judged (R63). -/
def State.judgeReverse (s : State) : State :=
  let now := decide (s.rope.speed < 0) && !s.rope.table.reversePermitted
  (s.modRope fun u => { u with reverse := now }).judge .reverseMotion s.rope.reverse now

/-- The tach-silent timer when standstill has changed: started on entry to STANDSTILL with drive-run asserted, stopped on
entry to MOVING (R64). -/
def State.judgeTach (s : State) (was : Bool) : State :=
  if s.rope.standstill && !was then (if s.rope.driveRun then s.tachStart else s)
  else if was && !s.rope.standstill then s.tachStop
  else s

/-- A gate expiry: speed, standstill, OVERSPEED, REVERSE_MOTION, the tach-silent timer, the new gate, the sweep (R60 to
R65). -/
def State.gate (s : State) : State :=
  let was := s.rope.standstill
  let s := s.setSpeed.modRope Rope.judgeStandstill
  let s := if s.rope.standstill && !was then s.stopTimerStop else s
  let s := (s.judgeOverspeed.judgeReverse).judgeTach was
  (s.modRope fun u => { u with gate := 0, gateTimer := Config.gatePeriod }).sweepLists

/-- A change of the drive-run input (R64). -/
def State.driveRunChanged (s : State) : State :=
  if s.rope.driveRun then (if s.rope.standstill then s.tachStart else s) else s.tachStop

/-- The expiry of the tach-silent timer (R64). -/
def State.tachExpiry (s : State) : State :=
  if s.rope.tachTimer.isSome then
    (s.modRope fun u => { u with tachTimer := none, silent := true }).raiseHeld .tachSilent {}
  else s

/-! ## Commands -/

/-- TACHOMETER_PULSE (R59). -/
def execTachometerPulse (dir : Direction) (s : State) : Out := s.live fun s => s.pulse dir

/-- GATE_EXPIRY (R60). -/
def execGateExpiry (s : State) : Out := s.live State.gate

/-- DRIVE_RUN_CHANGE (R64). A level the input already has is no change. -/
def execDriveRunChange (level : Bool) (s : State) : Out :=
  s.liveInput (fun s => s.modRope fun u => { u with driveRun := level })
    (fun t => if s.rope.driveRun = level then t else t.driveRunChanged)

/-- TACH_SILENT_TIMER_EXPIRY (R64). -/
def execTachSilentTimerExpiry (s : State) : Out := s.live State.tachExpiry

end Sys2Proof.Machine
end

