-- ==== Sys2Proof/Machine/Tracker.lean ====
section
/-! DEFINITION. The cabin tracker: the cabin table and its age sweep (R75 to R77), the seat sequences (R86), placement
(R87), launches, arrivals and departures (R88 to R92) and passages (R93, R94). -/

namespace Sys2Proof.Machine

/-! ## The cabin table -/

/-- The entry of a cabin ID (R75). -/
def Tracker.entry (u : Tracker) (id : Nat) : Option CabinEntry := u.cabins.find? fun e => decide (e.id = id)

/-- An entry put into the table in rising order of ID. -/
def insertCabin (e : CabinEntry) : List CabinEntry → List CabinEntry
  | [] => [e]
  | x :: xs => if e.id < x.id then e :: x :: xs else x :: insertCabin e xs

/-- The entry of an ID changed; an ID without an entry changes nothing. -/
def Tracker.modEntry (u : Tracker) (id : Nat) (f : CabinEntry → CabinEntry) : Tracker :=
  { u with cabins := u.cabins.map fun e => if e.id = id then f e else e }

/-- The location of a cabin's entry written (R75). -/
def State.locate (s : State) (id : Nat) (l : Location) : State :=
  s.modTracker fun u => u.modEntry id fun e => { e with location := l }

/-- The location of the cabin of a record written, if it has one. -/
def State.locateSome (s : State) (cabin : Option Nat) (l : Location) : State :=
  match cabin with
  | some id => s.locate id l
  | none => s

/-- The profile of a cabin: its entry's, or the default profile for an anonymous cabin (R83). -/
def Tracker.profileOf (u : Tracker) (cabin : Option Nat) : Profile :=
  match cabin.bind u.entry with
  | some e => e.profile
  | none => u.settings.profile

/-- A LEARNED entry as R76 makes it. -/
def learnedEntry (id : Nat) (p : Profile) : CabinEntry := ⟨id, .learned, p, .nowhere, 0, some 0⟩

/-- A tag ID resolved: whether it is given (R76). -/
def State.resolve (s : State) (id : Nat) : State × Bool :=
  if (s.tracker.entry id).isSome then
    (s.modTracker fun u => u.modEntry id fun e => { e with idle := e.idle.map fun _ => 0 }, true)
  else if s.tracker.settings.learning && decide (s.tracker.cabins.length < Config.cabinCapacity) then
    ((s.modTracker fun u => { u with cabins := insertCabin (learnedEntry id u.settings.profile) u.cabins }).countTracker
      Ctr.learned, true)
  else ((s.raiseMomentary .unknownCabin { cabin := some id }).countTracker Ctr.unknownCabin, false)

/-- Whether an entry ages: LEARNED with location NONE (R77). -/
def CabinEntry.ages (e : CabinEntry) : Bool := decide (e.kind = .learned) && decide (e.location = .nowhere)

/-- An entry after one more minute (R77). -/
def CabinEntry.older (e : CabinEntry) : CabinEntry :=
  if e.ages then { e with idle := e.idle.map fun i => satAdd 1440 i 1 } else e

/-- Whether the age sweep removes an entry (R77). -/
def CabinEntry.agedOut (e : CabinEntry) (ageTime : Nat) : Bool :=
  e.ages && decide (ageTime ≠ 0) && decide (ageTime ≤ e.idle.getD 0)

/-- The age sweep (R77). -/
def State.ageSweep (s : State) : State :=
  s.modTracker fun u =>
    let aged := u.cabins.map CabinEntry.older
    let gone := (aged.filter fun e => e.agedOut u.settings.ageTime).length
    { u with
      cabins := aged.filter fun e => !e.agedOut u.settings.ageTime
      ageTimer := Config.agePeriod
      counters := upd u.counters Ctr.agedOut (· + BitVec.ofNat 32 gone) }

/-! ## Seat sequences -/

/-- The next expected seat index of a record after a rebuild: the first seat whose position is not less than the record's
corrected position, else the sequence length (R86). -/
def newIndex (p : Poller) (seq : List SeatRef) (x : Int) : Nat :=
  seq.findIdx fun r => decide (x ≤ (seatPosition p r : Int))

/-- One seat sequence rebuilt; the records of a track whose sequence has changed take new indices (R86). -/
def State.rebuildTrack (s : State) (t : Track) : State :=
  let seq := buildSequence s.poller t
  if seq = s.tracker.seqs.get t then s
  else
    s.modTracker fun u =>
      { u with
        seqs := u.seqs.set t seq
        lists := u.lists.set t ((u.lists.get t).map fun r =>
          { r with next := newIndex s.poller seq (s.rope.position t r) }) }

/-- Both seat sequences rebuilt from the post and seat tables (R86). -/
def State.rebuildSequences (s : State) : State := (s.rebuildTrack .up).rebuildTrack .down

/-! ## Placement -/

/-- The station list's record of a cabin removed at the tracker's request, which the door channels are told of (R87, R112,
R129). The Bool says whether there was one. -/
def State.removeFromStation (s : State) (id : Nat) : State × Bool :=
  match s.rail.cabins.find? fun r => decide (r.cabin = some id) with
  | some r =>
    (((s.modRail fun u => { u with cabins := u.cabins.filter fun r => decide (r.cabin ≠ some id) }).countRail
      Ctr.placementRemoval).recordLeft r.number, true)
  | none => (s, false)

/-- A train list's record of a cabin removed (R87). The Bool says whether there was one. -/
def State.removeFromTrain (s : State) (t : Track) (id : Nat) : State × Bool :=
  if (s.tracker.lists.get t).any fun r => decide (r.cabin = some id) then
    (s.modTracker fun u =>
      { u with lists := u.lists.set t ((u.lists.get t).filter fun r => decide (r.cabin ≠ some id)) }, true)
  else (s, false)

/-- ORDER_FAULT for a track when a removal calls for it (R87). -/
def State.orderFaultIf (s : State) (b : Bool) (t : Track) (cabin : Option Nat) : State :=
  if b then s.trackRaise t .orderFault { cabin := cabin } else s

/-- What placement removed: from the station list, the UP list, the DOWN list (R87). -/
structure Removed where
  station : Bool
  up : Bool
  down : Bool
  deriving DecidableEq, Repr

/-- Every record of a cabin removed from the three lists (R87). -/
def State.removeEverywhere (s : State) (id : Nat) : State × Removed :=
  let a := s.removeFromStation id
  let b := a.1.removeFromTrain .up id
  let c := b.1.removeFromTrain .down id
  (c.1, ⟨a.2, b.2, c.2⟩)

/-- A cabin placed at a location: its other records removed, ORDER_FAULT for each removal, its location set (R87). -/
def State.place (s : State) (id : Nat) (l : Location) : State :=
  let r := s.removeEverywhere id
  (((r.1.orderFaultIf r.2.station .up (some id)).orderFaultIf r.2.up .up (some id)).orderFaultIf r.2.down .down
    (some id)).locate id l

/-- A cabin placed, when the event has one (R87). -/
def State.placeSome (s : State) (cabin : Option Nat) (l : Location) : State :=
  match cabin with
  | some id => s.place id l
  | none => s

/-! ## Launches -/

/-- A record appended to a train list, or TRACK_FULL with the cabin's location NONE; the event is counted in `counter` or
in the track-full counter (R88, R91). -/
def State.appendTrain (s : State) (t : Track) (r : TrainRecord) (counter : Fin 22) : State :=
  if (s.tracker.lists.get t).length < Config.trainCapacity then
    (s.modTracker fun u => { u with lists := u.lists.set t (u.lists.get t ++ [r]) }).countTracker counter
  else
    ((s.raiseMomentary .trackFull { cabin := r.cabin }).locateSome r.cabin .nowhere).countTracker
      (Ctr.trackFull (trackIndex t))

/-- The trips of a launched cabin rise (R88). -/
def State.countTrip (s : State) (cabin : Option Nat) : State :=
  match cabin with
  | some id => s.modTracker fun u => u.modEntry id fun e => { e with trips := satAdd 65535 e.trips 1 }
  | none => s

/-- A valley launch handed on by the station rail unit (R88). -/
def State.valleyLaunch (s : State) (cabin : Option Nat) (inferred : Bool) (p : Profile) : State :=
  let s := (s.countTrip cabin).placeSome cabin .up
  s.appendTrain .up ⟨cabin, inferred, s.rope.odo, 0, p⟩ Ctr.launches

/-! ## Arrivals -/

/-- The place of a cabin's record in a train list. -/
def Tracker.placeOf (u : Tracker) (t : Track) (id : Nat) : Option Nat :=
  (u.lists.get t).findIdx? fun r => decide (r.cabin = some id)

/-- Whether the oldest record of a train list is anonymous; false for an empty list (R90, R92). -/
def Tracker.oldestAnonymous (u : Tracker) (t : Track) : Bool :=
  match u.lists.get t with
  | r :: _ => r.cabin.isNone
  | [] => false

/-- Step 2 of the arrival checks: the deviation of a record of known age offered, or ARRIVAL_MISMATCH (R89). -/
def State.checkArrivalPosition (s : State) (t : Track) (r : TrainRecord) (age : Nat) : State :=
  if age = 1023 then s
  else
    let d := s.rope.position t r - backTerm s.rope.speed age - (trackLength s.rope.table t : Int)
    if d.natAbs ≤ s.rope.table.arrivalWindow then s.offerDeviation t d
    else s.trackRaise t .arrivalMismatch { cabin := r.cabin }

/-- The arrival checks of the record at place `i` of a track's list, and its removal (R89). -/
def State.arrivalChecks (s : State) (t : Track) (i : Nat) (age : Nat) : State :=
  match (s.tracker.lists.get t)[i]? with
  | none => s
  | some r =>
    let s := s.orderFaultIf (decide (i ≠ 0)) t r.cabin
    let s := s.checkArrivalPosition t r age
    let s := ((s.tracker.seqs.get t).drop r.next).foldl (fun s x => s.missSeat t r.cabin x) s
    (s.modTracker fun u => { u with lists := u.lists.set t ((u.lists.get t).eraseIdx i) }).countTracker
      (Ctr.arrivals (trackIndex t))

/-- An unknown arrival: counted, and ORDER_FAULT for its track (R90, R92; the detail is log 19). -/
def State.unknownArrival (s : State) (t : Track) (cabin : Option Nat) : State :=
  (s.countTracker (Ctr.unknownArrivals (trackIndex t))).trackRaise t .orderFault { cabin := cabin }

/-- An unknown summit arrival of a given cabin, placed at SUMMIT: ORDER_FAULT at most once for each track (R90). -/
def State.unknownSummitArrival (s : State) (id : Nat) : State :=
  let r := s.removeEverywhere id
  ((r.1.unknownArrival .up (some id)).orderFaultIf r.2.down .down (some id)).locate id .summit

/-- A summit ARRIVAL carrying cabin ID 0 (R90; log 15). -/
def State.summitArrivalUnread (s : State) (age : Nat) : State :=
  match s.tracker.lists.up with
  | r :: _ =>
    ((s.arrivalChecks .up 0 age).raiseMomentary .tagUnread { cabin := r.cabin }).locateSome r.cabin .summit
  | [] => (s.raiseMomentary .tagUnread {}).unknownArrival .up none

/-- A summit ARRIVAL of a given cabin (R90). Where the oldest record is anonymous and is taken for the cabin, the arrival
checks of R89 are done and raise before the cabin is placed and its placement raises (log 44). -/
def State.summitArrivalGiven (s : State) (id age : Nat) : State :=
  match s.tracker.placeOf .up id with
  | some i => (s.arrivalChecks .up i age).locate id .summit
  | none =>
    if s.tracker.oldestAnonymous .up then (s.arrivalChecks .up 0 age).place id .summit
    else s.unknownSummitArrival id

/-- A summit ARRIVAL whose ID is unresolved (R90). -/
def State.summitArrivalUnresolved (s : State) (age : Nat) : State :=
  if s.tracker.oldestAnonymous .up then s.arrivalChecks .up 0 age else s.unknownArrival .up none

/-- A TERMINAL_EVENT with event ARRIVAL (R90). -/
def State.summitArrival (s : State) (cabin age : Nat) : State :=
  if cabin = 0 then s.summitArrivalUnread age
  else
    match s.resolve cabin with
    | (s, true) => s.summitArrivalGiven cabin age
    | (s, false) => s.summitArrivalUnresolved age

/-! ## Departures -/

/-- Whether a departure of a given cabin is out of order: its location is not SUMMIT (R91). -/
def Tracker.departsWrongly (u : Tracker) (id : Nat) : Bool :=
  match u.entry id with
  | some e => decide (e.location ≠ .summit)
  | none => true

/-- A given cabin's departure judged and the cabin placed at DOWN; ORDER_FAULT at most once for the DOWN track (R91). -/
def State.placeDeparture (s : State) (id : Nat) : State :=
  let wrong := s.tracker.departsWrongly id
  let s := s.orderFaultIf wrong .down (some id)
  let r := s.removeEverywhere id
  (((r.1.orderFaultIf r.2.station .up (some id)).orderFaultIf r.2.up .up (some id)).orderFaultIf (r.2.down && !wrong) .down
    (some id)).locate id .down

/-- The record of a summit departure appended to the DOWN list (R91). -/
def State.appendDeparture (s : State) (cabin : Option Nat) (age : Nat) : State :=
  s.appendTrain .down ⟨cabin, false, s.rope.departureOdo age, 0, s.tracker.profileOf cabin⟩ Ctr.departures

/-- A TERMINAL_EVENT with event DEPARTURE (R91). -/
def State.summitDeparture (s : State) (cabin age : Nat) : State :=
  if cabin = 0 then (s.raiseMomentary .tagUnread {}).appendDeparture none age
  else
    match s.resolve cabin with
    | (s, true) => (s.placeDeparture cabin).appendDeparture (some cabin) age
    | (s, false) => s.appendDeparture none age

/-! ## Valley arrivals -/

/-- What the tracker hands the station rail unit for an arrival read (R92). -/
structure Handed where
  cabin : Option Nat
  inferred : Bool
  profile : Profile
  deriving DecidableEq, Repr

/-- A valley arrival of a given cabin: the record taken, or an unknown arrival, before the cabin is placed (R92). -/
def State.valleyArrivalGiven (s : State) (id : Nat) : State :=
  match s.tracker.placeOf .down id with
  | some i => s.arrivalChecks .down i 0
  | none => if s.tracker.oldestAnonymous .down then s.arrivalChecks .down 0 0 else s.unknownArrival .down (some id)

/-- A valley arrival whose ID is unresolved (R92). -/
def State.valleyArrivalUnresolved (s : State) : State :=
  if s.tracker.oldestAnonymous .down then s.arrivalChecks .down 0 0 else s.unknownArrival .down none

/-- The record an arrival read takes, with the identity it hands on (R92). -/
def State.valleyArrivalTake (s : State) (read : Option Nat) : State × Option Nat × Bool :=
  match read with
  | some id =>
    match s.resolve id with
    | (s, true) => (s.valleyArrivalGiven id, some id, false)
    | (s, false) => (s.valleyArrivalUnresolved, none, false)
  | none =>
    match s.tracker.lists.down with
    | r :: _ => (s.arrivalChecks .down 0 0, r.cabin, true)
    | [] => (s, none, false)

/-- The valley arrival of a read at ARR (R92): the record taken, the cabin placed at STATION, the identity and profile
handed on. -/
def State.valleyArrival (s : State) (read : Option Nat) : State × Handed :=
  match s.valleyArrivalTake read with
  | (s, cabin, inferred) =>
    let s := s.placeSome cabin .station
    (s, ⟨cabin, inferred, s.tracker.profileOf cabin⟩)

/-! ## Passages -/

/-- The track and index of a seat in the seat sequences; none for an unsequenced seat (R93). -/
def Tracker.sequenced (u : Tracker) (r : SeatRef) : Option (Track × Nat) :=
  match u.seqs.up.findIdx? fun x => decide (x = r) with
  | some k => some (.up, k)
  | none => (u.seqs.down.findIdx? fun x => decide (x = r)).map fun k => (.down, k)

/-- The deviation of a matched passage of known age offered, or PASSAGE_MISMATCH (R94). -/
def State.judgePassage (s : State) (t : Track) (r : TrainRecord) (seat : SeatRef) (age : Nat) : State :=
  if age = 1023 then s
  else
    let e := s.poller.seats[seatIndex seat.post seat.seat]
    let d := s.rope.position t r - backTerm s.rope.speed age - (e.position : Int)
    if d.natAbs ≤ e.window then s.offerDeviation t d
    else
      (s.trackRaise t .passageMismatch
        { post := some (postNumber seat.post), seat := some seat.seat.val, cabin := r.cabin }).countTracker
        (Ctr.mismatched (trackIndex t))

/-- A passage of the seat at index k of a track's sequence: the oldest record expecting it advances and its deviation is
judged, or the passage is unexpected (R93, R94). -/
def State.matchPassage (s : State) (t : Track) (k : Nat) (seat : SeatRef) (age : Nat) : State :=
  match (s.tracker.lists.get t).findIdx? fun r => decide (r.next = k) with
  | none =>
    (s.trackRaise t .unexpectedPassage
      { post := some (postNumber seat.post), seat := some seat.seat.val }).countTracker (Ctr.unexpected (trackIndex t))
  | some i =>
    match (s.tracker.lists.get t)[i]? with
    | none => s
    | some r =>
      ((s.modTrain t i fun r => { r with next := k + 1 }).countTracker (Ctr.matched (trackIndex t))).judgePassage t r seat
        age

/-- A passage handed on by the post poller (R93). -/
def State.passage (s : State) (seat : SeatRef) (age : Nat) : State :=
  match s.tracker.sequenced seat with
  | none => s.countTracker Ctr.unsequenced
  | some (t, k) => s.matchPassage t k seat age

/-! ## Track modes -/

/-- A track's mode changed and reported to the admin responder (R84). -/
def State.changeTrackMode (s : State) (t : Track) (m : TrackMode) : State :=
  (s.modTracker fun u => { u with modes := u.modes.set t m }).notice (.trackMode t m)

/-- A taken TRACK-OFF of a TRACKED track: S is set to 0 when neither track stays TRACKED (R72, R84). -/
def State.takeTrackOff (s : State) (t : Track) : State :=
  let s := s.changeTrackMode t .untracked
  if s.tracker.modes.up = .untracked ∧ s.tracker.modes.down = .untracked then s.clearSlip else s

/-! ## Commands -/

/-- AGE_SWEEP_EXPIRY (R77). -/
def execAgeSweepExpiry (s : State) : Out := s.live State.ageSweep

end Sys2Proof.Machine
end

