-- ==== Sys2Proof/Machine/Doors.lean ====
section
/-! DEFINITION. The door channels: power (R117 to R120), overcurrent (R121, R122), offers, actions and sensors (R123 to
R128), modes and local drive (R130, R131). -/

namespace Sys2Proof.Machine

/-! ## Parts of a channel's record -/

/-- A member added to a channel's change set: SENSOR (R134). -/
def Channel.noteSensor (c : Channel) : Channel := { c with changes := { c.changes with sensor := true } }

/-- POWER added to the change set (section 7.3). -/
def Channel.notePower (c : Channel) : Channel := { c with changes := { c.changes with power := true } }

/-- OVERCURRENT added to the change set (R121). -/
def Channel.noteOvercurrent (c : Channel) : Channel := { c with changes := { c.changes with overcurrent := true } }

/-- A channel in a new mode; a change of mode adds MODE to the change set (R116). -/
def Channel.setMode (c : Channel) (m : ChannelMode) : Channel :=
  { c with mode := m, changes := if c.mode = m then c.changes else { c.changes with mode := true } }

/-- The end of an action: its timers stop and the channel enters READY (R124 to R128). -/
def Channel.endAction (c : Channel) : Channel :=
  { c.enter .ready with action := none, driveTimer := none, reverseTimer := none }

/-- Whether a channel has power (R121). -/
def ChannelState.powered : ChannelState → Bool
  | .powering | .ready | .opening | .closing | .reversing | .halted => true
  | .unpowered | .fault => false

/-- The cabin a channel serves, if it serves one with an ID. -/
def Channel.cabin (c : Channel) : Option Nat := c.served.bind fun v => v.cabin

/-- The kind of the action in flight. -/
def Channel.actionKind (c : Channel) : Option ActionKind := c.action.map fun a => a.kind

/-- The detail of a cause of channel k: the channel, and the cabin it serves (R124, R125). -/
def State.channelDetail (s : State) (k : Fin 8) : Detail := { channel := some k.val, cabin := (s.channel k).cabin }

/-- The members of a group (R115). -/
def Channel.inGroup (g : Fin 2) (c : Channel) : Bool := decide (c.entry.switching = .group g)

/-- The members of a group by number. -/
def State.members (s : State) (g : Fin 2) : List (Fin 8) := allChannels.filter fun k => (s.channel k).inGroup g

/-! ## Power -/

/-- A channel leaves POWERING: READY below EMERGENCY, else HALTED (R119). -/
def Channel.powerGood (emergency : Bool) (c : Channel) : Channel :=
  { c.enter (if emergency then .halted else .ready) with powerTimer := none }

/-- A channel switched on: POWERING with its timer; a time of 0 makes the expiry at once (R117 to R119). -/
def Channel.powerOn (emergency : Bool) (time : Nat) (c : Channel) : Channel :=
  let c := { c.notePower.enter .powering with powerTimer := some (time * 2) }
  if time = 0 then c.powerGood emergency else c

/-- R120's steps 1 to 4: outputs and timers dropped, the action in flight abandoned and counted, the served cabin's door
written UNKNOWN, the served cabin released. The attempts left of an abandoned close keep their last value (log 47). -/
def State.powerDown (s : State) (k : Fin 8) : State :=
  let s := if (s.channel k).action.isSome then s.countDoors (Ctr.abandoned k) else s
  let s := s.channelWrite k .unknown
  s.modChannel k fun c => { c.stopDrives.notePower with powerTimer := none, action := none, served := none }

/-- A channel entering UNPOWERED by a power-off; one in FAULT is left, one already UNPOWERED has no change (R120; log
27). -/
def State.cutPower (s : State) (k : Fin 8) : State :=
  if (s.channel k).state.powered then (s.powerDown k).modChannel k fun c => c.enter .unpowered else s

/-- Whether the asserted category is EMERGENCY. -/
def State.inEmergency (s : State) : Bool := decide (s.chain.asserted = .emergency)

/-- A group switched on: every member loses its group-off flag and enters POWERING (R117). -/
def State.groupOn (s : State) (g : Fin 2) : State :=
  let e := s.inEmergency
  s.modDoors fun u =>
    { u with
      groupOn := u.groupOn.set g true
      channels := vecMap (fun c =>
        if c.inGroup g then { c with groupOff := false }.powerOn e u.groupTimes[g] else c) u.channels }

/-- A group switched off: every member not in FAULT enters UNPOWERED (R117, R120). -/
def State.groupOff (s : State) (g : Fin 2) : State :=
  (s.members g).foldl State.cutPower (s.modDoors fun u => { u with groupOn := u.groupOn.set g false })

/-- An INDIVIDUAL channel switched on (R118). -/
def State.channelOn (s : State) (k : Fin 8) : State :=
  let e := s.inEmergency
  s.modChannel k fun c => { c with ownOn := true }.powerOn e c.entry.powerGood

/-- An INDIVIDUAL channel switched off (R118). -/
def State.channelOff (s : State) (k : Fin 8) : State := (s.modChannel k fun c => { c with ownOn := false }).cutPower k

/-- The expiry of a power-good timer (R119). -/
def State.powerGoodExpiry (s : State) (k : Fin 8) : State :=
  let e := s.inEmergency
  s.modChannel k fun c => if c.powerTimer.isSome ∧ c.state = .powering then c.powerGood e else c

/-! ## Overcurrent -/

/-- The other members of the sensing channel's group lose power and take the group-off flag (R121). -/
def State.dropMember (s : State) (k : Fin 8) : State :=
  if (s.channel k).state = .fault then s else (s.cutPower k).modChannel k fun c => { c with groupOff := true }

/-- The switch of the sensing channel goes off, with the other members of its group (R121). -/
def State.dropSupply (s : State) (k : Fin 8) : State :=
  match (s.channel k).entry.switching with
  | .individual => s.modChannel k fun c => { c with ownOn := false }
  | .group g =>
    ((s.members g).filter (· != k)).foldl State.dropMember (s.modDoors fun u => { u with groupOn := u.groupOn.set g false })

/-- The sensing channel enters FAULT (R121). -/
def State.enterFault (s : State) (k : Fin 8) : State :=
  (s.powerDown k).modChannel k fun c => { c.noteOvercurrent.enter .fault with fault := some .overcurrent }

/-- A rise of the overcurrent input (R121): taken where the channel has power; the raise comes before the notice. -/
def State.overcurrentRise (s : State) (k : Fin 8) : State :=
  if (s.channel k).state.powered then
    ((((s.countDoors (Ctr.overcurrent k)).enterFault k).dropSupply k).raiseHeld .channelFault
      { channel := some k.val }).notice (.channelFault k)
  else s.countDoors (Ctr.ignoredOvercurrent k)

/-- The channels in FAULT: the share set of CHANNEL_FAULT (R122). -/
def State.faultShares (s : State) : List (Fin 8) := allChannels.filter fun k => decide ((s.channel k).state = .fault)

/-- A channel in FAULT is taken out of it; the condition of CHANNEL_FAULT goes with the last share (R122). -/
def State.resetFault (s : State) (k : Fin 8) : State :=
  let s := s.modChannel k fun c => { c.enter .unpowered with fault := none }
  if s.faultShares.isEmpty then s.withdraw .channelFault else s

/-! ## Actions -/

/-- OPEN_DOOR started: OPENING, the drive timer, door state OPENING (R124). -/
def State.startOpenDoor (s : State) (k : Fin 8) : State :=
  (s.modChannel k fun c =>
    let a := c.newAction .openDoor
    { c.enter .opening with action := some a, driveTimer := some (a.driveTime * 100) }).channelWrite k .opening

/-- CLOSE_DOOR started: attempts from the table, the first close drive, door state CLOSING (R125). -/
def State.startCloseDoor (s : State) (k : Fin 8) : State :=
  (s.modChannel k fun c =>
    let a := c.newAction .closeDoor
    ({ c with action := some a, attemptsLeft := a.attempts }).closeDrive a).channelWrite k .closing

/-- OPEN_GATE started: the gate-open flag set, OPENING, the drive timer (R126). -/
def State.startOpenGate (s : State) (k : Fin 8) : State :=
  s.modChannel k fun c =>
    let a := c.newAction .openGate
    { c.enter .opening with gateOpen := true, action := some a, driveTimer := some (a.driveTime * 100) }

/-- DOOR_OPEN_FAIL of a channel (R124, R126, R128). -/
def State.raiseOpenFail (s : State) (k : Fin 8) : State := s.raiseMomentary .doorOpenFail (s.channelDetail k)

/-- The judgement of a served cabin on a channel of role OPEN (R124). -/
def State.judgeOpen (s : State) (k : Fin 8) (p : Profile) : State :=
  if (s.channel k).pins.openEnd then s.channelWrite k .opened
  else
    match p.door with
    | .auto => s.startOpenDoor k
    | .keepClosed | .manual => s

/-- The judgement of a served cabin on a channel of role CLOSE (R125). -/
def State.judgeClose (s : State) (k : Fin 8) (p : Profile) : State :=
  if (s.channel k).pins.locked then s.channelWrite k .closedLocked
  else
    match p.door with
    | .auto | .keepClosed => s.startCloseDoor k
    | .manual => s

/-- The door state of the station list record of an arrival number (R126). -/
def State.doorState (s : State) (n : BitVec 16) : Option DoorState :=
  (s.rail.cabins.find? fun r => decide (r.number = n)).map fun r => r.door

/-- The judgement of a served cabin on a channel of role GATE (R126). -/
def State.judgeGate (s : State) (k : Fin 8) (n : BitVec 16) (p : Profile) : State :=
  if p.cls = .passenger ∧ s.doorState n = some .opened then s.startOpenGate k else s

/-- The action of a newly served cabin in REMOTE or REMOTE_LOCKED, by the channel's role (R123). -/
def State.judgeOffer (s : State) (k : Fin 8) (n : BitVec 16) (p : Profile) : State :=
  match (s.channel k).entry.role with
  | .none => s
  | .openDoor => s.judgeOpen k p
  | .closeDoor => s.judgeClose k p
  | .gate => s.judgeGate k n p

/-- The sensor read at an offer in LOCAL (R127). -/
def State.readSensor (s : State) (k : Fin 8) : State :=
  let c := s.channel k
  match c.entry.role with
  | .openDoor => if c.pins.openEnd then s.channelWrite k .opened else s
  | .closeDoor => if c.pins.locked then s.channelWrite k .closedLocked else s
  | .none | .gate => s

/-- The offered cabin becomes the served cabin (R123). -/
def State.serve (s : State) (k : Fin 8) (r : StationRecord) : State :=
  s.modChannel k fun c => { c with served := some ⟨r.number, r.cabin, r.profile, c.entry.role, none⟩ }

/-- An offer of a station list record to channel k (R123). -/
def State.offerCabin (s : State) (k : Fin 8) (r : StationRecord) : State :=
  let c := s.channel k
  if c.state = .ready then
    let s := (s.countDoors (Ctr.servedOffer k)).serve k r
    match c.mode with
    | .remote | .remoteLocked => s.judgeOffer k r.number r.profile
    | .local_ => s.readSensor k
  else
    let s := s.countDoors (Ctr.unservedOffer k)
    if c.entry.role = .none then s
    else s.raiseMomentary .bayUnserved { channel := some k.val, cabin := r.cabin }

/-! ## Timers of an action -/

/-- An open drive reaches its drive time (R124, R126). -/
def State.openExpired (s : State) (k : Fin 8) : State :=
  let isDoor := decide ((s.channel k).actionKind = some .openDoor)
  let s := (s.modChannel k Channel.endAction).countDoors (Ctr.openFail k)
  let s := if isDoor then s.channelWrite k .openFailed else s
  s.raiseOpenFail k

/-- A close drive reaches its drive time with attempts left: REVERSING (R125). -/
def Channel.reverse (c : Channel) (a : Action) (left : Nat) : Channel :=
  { c.enter .reversing with attemptsLeft := left, driveTimer := none, reverseTimer := some (a.reverseTime * 100) }

/-- The last close drive reaches its drive time: the action ends in READY with DOOR_JAM, JAMMED for a door (R125,
R126). -/
def State.jam (s : State) (k : Fin 8) (kind : ActionKind) : State :=
  let s := (s.modChannel k fun c => { c.endAction with attemptsLeft := 0 }).countDoors (Ctr.jam k)
  match kind with
  | .closeGate => s.raiseMomentary .doorJam { channel := some k.val }
  | .closeDoor | .openDoor | .openGate => (s.channelWrite k .jammed).raiseMomentary .doorJam (s.channelDetail k)

/-- A close drive reaches its drive time (R125). -/
def State.closeExpired (s : State) (k : Fin 8) : State :=
  let c := s.channel k
  match c.action with
  | none => s
  | some a =>
    let left := c.attemptsLeft - 1
    if left = 0 then s.jam k a.kind else (s.modChannel k fun c => c.reverse a left).countDoors (Ctr.reversal k)

/-- The expiry of a channel's drive timer (R124 to R126). -/
def State.driveExpiry (s : State) (k : Fin 8) : State :=
  let c := s.channel k
  if c.driveTimer.isSome then
    match c.state with
    | .opening => s.openExpired k
    | .closing => s.closeExpired k
    | .unpowered | .powering | .ready | .reversing | .halted | .fault => s
  else s

/-- The next close drive of an action after its reversal (R125). It begins with its drive timer whatever level LOCKED
has: a level that rose in REVERSING is not read at its start, and the drive ends at a new rise of LOCKED or at its timer
(log 45). -/
def Channel.closeAgain (c : Channel) : Channel :=
  match c.action with
  | some a => c.closeDrive a
  | none => c

/-- The expiry of a channel's reverse timer (R125). -/
def State.reverseExpiry (s : State) (k : Fin 8) : State :=
  s.modChannel k fun c => if c.reverseTimer.isSome ∧ c.state = .reversing then c.closeAgain else c

/-! ## Sensors -/

/-- Whether a channel serves a cabin under role OPEN or CLOSE (R127). -/
def Channel.watches (c : Channel) : Bool :=
  match c.served with
  | some v => writesDoor v.role
  | none => false

/-- A local drive stopped when it runs in a direction (R131). -/
def Channel.stopDirection (c : Channel) (d : DriveDir) : Channel := if c.localDrive = some d then c.stopLocal else c

/-- The gate-open flag follows a rise of a gate's sensor (R126). -/
def Channel.noteGate (c : Channel) (b : Bool) : Channel := if c.roleNow = .gate then { c with gateOpen := b } else c

/-- A rise of OPEN_END in a state (R124 to R127, R131). -/
def State.openEndRise (s : State) (k : Fin 8) : State :=
  let c := s.channel k
  let s := s.modChannel k fun c => c.noteGate true
  match c.state with
  | .opening =>
    let s := (s.modChannel k Channel.endAction).countDoors (Ctr.openDone k)
    if c.actionKind = some .openDoor then s.channelWrite k .opened else s
  | .reversing => s.modChannel k Channel.closeAgain
  | .ready => (s.modChannel k fun c => c.stopDirection .opening).channelWrite k .opened
  | .unpowered | .powering | .closing | .halted | .fault => s

/-- A rise of LOCKED in a state (R125 to R127, R131). -/
def State.lockedRise (s : State) (k : Fin 8) : State :=
  let c := s.channel k
  let s := s.modChannel k fun c => c.noteGate false
  match c.state with
  | .closing =>
    let s := (s.modChannel k Channel.endAction).countDoors (Ctr.closeDone k)
    if c.actionKind = some .closeGate then s.modChannel k fun c => { c with gateOpen := false }
    else s.channelWrite k .closedLocked
  | .ready => (s.modChannel k fun c => c.stopDirection .closing).channelWrite k .closedLocked
  | .unpowered | .powering | .opening | .reversing | .halted | .fault => s

/-- The door state a channel last wrote for its served cabin (R127). -/
def Channel.lastWrote (c : Channel) : Option DoorState := c.served.bind fun v => v.lastWrote

/-- A fall of LOCKED in READY writes UNKNOWN when CLOSED_LOCKED was the last door state written (R127). -/
def State.lockedFall (s : State) (k : Fin 8) : State :=
  let c := s.channel k
  if c.state = .ready ∧ c.lastWrote = some .closedLocked then s.channelWrite k .unknown else s

/-- A change of OPEN_END taken, its level already stored (R116). -/
def State.openEndChanged (s : State) (k : Fin 8) : State :=
  let s := s.modChannel k Channel.noteSensor
  if (s.channel k).pins.openEnd then s.openEndRise k else s

/-- A change of LOCKED taken, its level already stored (R116). -/
def State.lockedChanged (s : State) (k : Fin 8) : State :=
  let s := s.modChannel k Channel.noteSensor
  if (s.channel k).pins.locked then s.lockedRise k else s.lockedFall k

/-! ## Clear edges -/

/-- An action abandoned by a clear edge: counted, and the channel READY (R128). The attempts left of an abandoned close
keep their last value (log 47). -/
def State.abandon (s : State) (k : Fin 8) : State := (s.modChannel k Channel.endAction).countDoors (Ctr.abandoned k)

/-- What a clear edge does in REMOTE or REMOTE_LOCKED, before the served cabin is released (R128). -/
def State.clearActs (s : State) (k : Fin 8) : State :=
  let c := s.channel k
  match c.state with
  | .opening =>
    if c.actionKind = some .openGate then (s.abandon k).modChannel k Channel.closeGate
    else ((s.abandon k).channelWrite k .openFailed).raiseOpenFail k
  | .closing | .reversing =>
    if c.actionKind = some .closeGate then s else (s.abandon k).channelWrite k .unknown
  | .ready => if c.entry.role = .gate ∧ c.gateOpen then s.modChannel k Channel.closeGate else s
  | .unpowered | .powering | .halted | .fault => s

/-- The served cabin released by a clear edge, in every powered state (R128). -/
def Channel.releaseServed (c : Channel) : Channel := if c.state.powered then { c with served := none } else c

/-- A clear edge of the bay reaches its channel (R128). -/
def State.clearEdge (s : State) (k : Fin 8) : State :=
  let s := if (s.channel k).mode = .local_ then s else s.clearActs k
  s.modChannel k Channel.releaseServed

/-! ## Modes and local drive -/

/-- A channel moves to LOCAL: an automatic action is abandoned and counted, the channel enters READY and the door of a
cabin served for it is written UNKNOWN (R130). The attempts left of an abandoned close keep their last value (log 47). -/
def State.moveToLocal (s : State) (k : Fin 8) : State :=
  let s := s.modChannel k fun c => c.setMode .local_
  if (s.channel k).action.isSome then (s.abandon k).channelWrite k .unknown else s

/-- The local key turned, its level already stored (R130). -/
def State.keyTurned (s : State) (k : Fin 8) : State :=
  let c := s.channel k
  match c.mode with
  | .remote => if c.pins.key then s.moveToLocal k else s
  | .local_ => if c.pins.key then s else s.modChannel k fun c => (c.setMode .remote).stopLocal
  | .remoteLocked => s

/-- CHANNEL-LOCKOUT on or off (R130). Lockout off reads the key's level, also when the key has been on since before a
reset (log 46). -/
def State.lockout (s : State) (k : Fin 8) (on : Bool) : State :=
  let c := s.channel k
  if on then s.modChannel k fun c => (c.setMode .remoteLocked).stopLocal
  else
    match c.mode with
    | .remoteLocked => if c.pins.key then s.moveToLocal k else s.modChannel k fun c => c.setMode .remote
    | .remote | .local_ => s

/-- Whether the local inputs are read: LOCAL and READY (R131). -/
def Channel.readsLocal (c : Channel) : Bool := decide (c.mode = .local_) && decide (c.state = .ready)

/-- A local drive started with the drive time (R131). -/
def Channel.startLocal (c : Channel) (d : DriveDir) : Channel :=
  { c with localDrive := some d, localTimer := some (c.entry.driveTime * 100) }

/-- A press of a local input: `other` tells whether the other direction is held, `atEnd` whether the direction's sensor is
asserted (R131). -/
def State.press (s : State) (k : Fin 8) (d : DriveDir) (other atEnd : Bool) : State :=
  if (s.channel k).readsLocal then
    if other then s.modChannel k Channel.stopLocal
    else if atEnd then s
    else (s.modChannel k fun c => c.startLocal d).countDoors (Ctr.localDrive k)
  else s

/-- A release of a local input (R131). -/
def State.letGo (s : State) (k : Fin 8) (d : DriveDir) : State :=
  s.modChannel k fun c => if c.readsLocal then c.stopDirection d else c

/-- A change of local-open, its level already stored (R131). -/
def State.localOpenChanged (s : State) (k : Fin 8) : State :=
  let p := (s.channel k).pins
  if p.localOpen then s.press k .opening p.localClose p.openEnd else s.letGo k .opening

/-- A change of local-close, its level already stored (R131). -/
def State.localCloseChanged (s : State) (k : Fin 8) : State :=
  let p := (s.channel k).pins
  if p.localClose then s.press k .closing p.localOpen p.locked else s.letGo k .closing

/-- The expiry of a local drive timer (R131). -/
def State.localExpiry (s : State) (k : Fin 8) : State :=
  s.modChannel k fun c => if c.localTimer.isSome then c.stopLocal else c

/-! ## Commands -/

/-- The state with a channel's input levels changed (R116). -/
def State.modPins (s : State) (k : Fin 8) (f : ChannelPins → ChannelPins) : State :=
  s.modChannel k fun c => { c with pins := f c.pins }

/-- OPEN_END_CHANGE (R116, R124 to R127). A level the input already has is no change. -/
def execOpenEndChange (k : Fin 8) (level : Bool) (s : State) : Out :=
  s.liveInput (fun s => s.modPins k fun p => { p with openEnd := level })
    (fun t => if (s.channel k).pins.openEnd = level then t else t.openEndChanged k)

/-- LOCKED_CHANGE (R116, R125 to R127). -/
def execLockedChange (k : Fin 8) (level : Bool) (s : State) : Out :=
  s.liveInput (fun s => s.modPins k fun p => { p with locked := level })
    (fun t => if (s.channel k).pins.locked = level then t else t.lockedChanged k)

/-- DRIVE_TIMER_EXPIRY (R124, R125). -/
def execDriveTimerExpiry (k : Fin 8) (s : State) : Out := s.live fun s => s.driveExpiry k

/-- REVERSE_TIMER_EXPIRY (R125). -/
def execReverseTimerExpiry (k : Fin 8) (s : State) : Out := s.live fun s => s.reverseExpiry k

/-- POWER_GOOD_EXPIRY (R119). -/
def execPowerGoodExpiry (k : Fin 8) (s : State) : Out := s.live fun s => s.powerGoodExpiry k

/-- OVERCURRENT (R121). A fall of the input has no effect. -/
def execOvercurrent (k : Fin 8) (level : Bool) (s : State) : Out :=
  s.liveInput (fun s => s.modPins k fun p => { p with overcurrent := level })
    (fun t => if level && !(s.channel k).pins.overcurrent then t.overcurrentRise k else t)

/-- LOCAL_KEY_CHANGE (R130). -/
def execLocalKeyChange (k : Fin 8) (level : Bool) (s : State) : Out :=
  s.liveInput (fun s => s.modPins k fun p => { p with key := level })
    (fun t => if (s.channel k).pins.key = level then t else t.keyTurned k)

/-- LOCAL_OPEN_CHANGE (R131). -/
def execLocalOpenChange (k : Fin 8) (level : Bool) (s : State) : Out :=
  s.liveInput (fun s => s.modPins k fun p => { p with localOpen := level })
    (fun t => if (s.channel k).pins.localOpen = level then t else t.localOpenChanged k)

/-- LOCAL_CLOSE_CHANGE (R131). -/
def execLocalCloseChange (k : Fin 8) (level : Bool) (s : State) : Out :=
  s.liveInput (fun s => s.modPins k fun p => { p with localClose := level })
    (fun t => if (s.channel k).pins.localClose = level then t else t.localCloseChanged k)

/-- LOCAL_DRIVE_TIMER_EXPIRY (R131). -/
def execLocalDriveTimerExpiry (k : Fin 8) (s : State) : Out := s.live fun s => s.localExpiry k

end Sys2Proof.Machine
end

