-- ==== Sys2Proof/Machine/StationRail.lean ====
section
/-! DEFINITION. The station rail unit: detector filters (R99, R100), arrivals at ARR (R104, R105), bays (R106, R107), the
lock check (R108) and launches at LCH (R109 to R111). -/

namespace Sys2Proof.Machine

/-- The state with one detector changed. -/
def State.modDetector (s : State) (d : Fin 9) (f : DetectorUnit → DetectorUnit) : State :=
  s.modRail fun u => { u with detectors := upd u.detectors d f }

/-- Whether the detector of a bay or of LCK is fitted. -/
def State.fitted (s : State) (d : Fin 9) : Bool := (s.rail.detectors[d]).entry.fitted

/-! ## Bays (R106, R107) -/

/-- The place of the oldest record whose progress is not above k (R106, R108). -/
def StationRail.oldestNotAbove (u : StationRail) (k : Nat) : Option Nat :=
  u.cabins.findIdx? fun r => decide (r.progress ≤ k)

/-- The progress of a record written (R106, R108). -/
def State.setProgress (s : State) (i : Nat) (p : Nat) : State :=
  s.modRail fun u => { u with cabins := u.cabins.modify i fun r => { r with progress := p } }

/-- The eight bays in ascending order. -/
def allBays : List (Fin 8) := [0, 1, 2, 3, 4, 5, 6, 7]

/-- The lowest fitted bay from progress p up to below bay k (R106). -/
def State.skippedBay (s : State) (p : Nat) (k : Fin 8) : Option (Fin 8) :=
  allBays.find? fun j => decide (p ≤ j.val) && decide (j.val < k.val) && s.fitted j.castSucc

/-- BAY_SKIPPED for the lowest skipped bay, if there is one (R106). -/
def State.judgeSkip (s : State) (p : Nat) (k : Fin 8) (cabin : Option Nat) : State :=
  match s.skippedBay p k with
  | some j => (s.raiseMomentary .baySkipped { channel := some j.val, cabin := cabin }).countRail (Ctr.skipped j)
  | none => s

/-- A bay arrival edge: the oldest record not yet past the bay advances and is offered to the channel, or the edge is a
phantom (R106, R107). -/
def State.bayArrival (s : State) (k : Fin 8) : State :=
  match s.rail.oldestNotAbove k.val with
  | none => (s.raiseMomentary .phantomAtBay { channel := some k.val }).countRail (Ctr.phantom k.castSucc)
  | some i =>
    match s.rail.cabins[i]? with
    | none => s
    | some r => ((s.judgeSkip r.progress k r.cabin).setProgress i (k.val + 1)).offerCabin k r

/-! ## The lock check (R108) -/

/-- DOOR_NOT_LOCKED with a record's cabin (R108, R111). -/
def State.raiseNotLocked (s : State) (cabin : Option Nat) : State := s.raiseMomentary .doorNotLocked { cabin := cabin }

/-- An LCK arrival edge (R108). -/
def State.lockCheck (s : State) : State :=
  match s.rail.oldestNotAbove 8 with
  | none => (s.raiseMomentary .phantomAtBay {}).countRail (Ctr.phantom 8)
  | some i =>
    match s.rail.cabins[i]? with
    | none => s
    | some r =>
      let s := s.setProgress i 9
      if r.door = .closedLocked then s.countRail Ctr.lockPass
      else (s.raiseNotLocked r.cabin).countRail Ctr.lockFail

/-! ## Detector filters (R99) -/

/-- An edge handed to the rule that owns it (R99). -/
def State.handEdge (s : State) (d : Detector) (arrival : Bool) : State :=
  match d with
  | .bay k => if arrival then s.bayArrival k else s.clearEdge k
  | .lck => if arrival then s.lockCheck else s

/-- The filtered state of a detector takes the state its level stands for, making one edge, which is counted and handed on
(R99). -/
def State.makeEdge (s : State) (d : Detector) : State :=
  let i := detectorIndex d
  let u := s.rail.detectors[i]
  let now := levelPresent u.entry.polarity u.level
  ((s.modDetector i fun u => { u with present := now, timer := none }).countRail
    (if now then Ctr.arrivalEdges i else Ctr.clearEdges i)).handEdge d now

/-- A change of a fitted detector's level, the level already stored (R99). -/
def State.levelChanged (s : State) (d : Detector) : State :=
  let i := detectorIndex d
  let u := s.rail.detectors[i]
  if u.entry.fitted = false then s
  else if levelPresent u.entry.polarity u.level = u.present then s.modDetector i fun u => { u with timer := none }
  else if u.entry.debounce = 0 then s.makeEdge d
  else s.modDetector i fun u => { u with timer := some u.entry.debounce }

/-- The expiry of a detector's debounce timer (R99). -/
def State.debounceExpiry (s : State) (d : Detector) : State :=
  if (s.rail.detectors[detectorIndex d]).timer.isSome then s.makeEdge d else s

/-! ## Arrivals (R104, R105) -/

/-- A reported value outside 1 to 4095 is taken as unreadable (R101). -/
def readable (read : Option Nat) : Option Nat := read.filter fun id => decide (1 ≤ id) && decide (id ≤ 4095)

/-- A read counted at its reader: 0 for ARR, 1 for LCH (R101). -/
def State.countRead (s : State) (reader : Fin 2) (read : Option Nat) : State :=
  let s := s.countRail (Ctr.reads reader)
  if read.isNone then s.countRail (Ctr.unreadable reader) else s

/-- A record appended to the station list with the next arrival number (R102, R104). -/
def State.appendStation (s : State) (h : Handed) : State :=
  (s.modRail fun u =>
    { u with
      cabins := u.cabins ++ [⟨u.generator, h.cabin, h.inferred, h.profile, 0, .assumedClosed⟩]
      generator := u.generator + 1 }).countRail Ctr.recorded

/-- A full station list refuses the arrival (R105). -/
def State.stationFull (s : State) (cabin : Option Nat) : State :=
  ((s.raiseMomentary .stationFull { cabin := cabin }).countRail Ctr.stationFull).locateSome cabin .nowhere

/-- A read from ARR, already judged readable or not (R104, R105). -/
def State.arrRead (s : State) (read : Option Nat) : State :=
  match (s.countRead 0 read).valleyArrival read with
  | (s, h) =>
    let s := if read.isNone then s.raiseMomentary .tagUnread { cabin := h.cabin } else s
    if s.rail.cabins.length < Config.stationCapacity then s.appendStation h else s.stationFull h.cabin

/-! ## Launches (R109 to R111) -/

/-- What a read at LCH gave after resolution (R109). -/
inductive LaunchRead where
  | given (id : Nat)
  | unresolved
  | unreadable
  deriving DecidableEq, Repr

/-- The cabin a launch read gives. -/
def LaunchRead.cabin : LaunchRead → Option Nat
  | .given id => some id
  | .unresolved | .unreadable => none

/-- The place of the record a launch read takes; none for a new arrival (R109). -/
def StationRail.launchPlace (u : StationRail) (read : LaunchRead) : Option Nat :=
  match read with
  | .given id => u.cabins.findIdx? fun r => decide (r.cabin = some id)
  | .unresolved =>
    match u.cabins with
    | r :: _ => if r.cabin = none then some 0 else none
    | [] => none
  | .unreadable => if u.cabins.isEmpty then none else some 0

/-- Whether a launch read calls for ORDER_FAULT: a younger record, or no record (R109). -/
def launchOutOfOrder (place : Option Nat) : Bool := decide (place ≠ some 0)

/-- TAG_UNREAD at LCH, with the cabin of the oldest record if it has one (R109). -/
def State.launchUnread (s : State) (read : LaunchRead) : State :=
  match read with
  | .unreadable => s.raiseMomentary .tagUnread { cabin := s.rail.cabins.head?.bind fun r => r.cabin }
  | .given _ | .unresolved => s

/-- The record formed for a launch that finds none: progress 0, door ASSUMED_CLOSED (R110). -/
def State.formedLaunch (s : State) (read : LaunchRead) : StationRecord :=
  ⟨0, read.cabin, false, s.tracker.profileOf read.cabin, 0, .assumedClosed⟩

/-- The launched record: the chosen one, or one formed by R110, which is counted. -/
def State.launchRecord (s : State) (place : Option Nat) (read : LaunchRead) : State × StationRecord :=
  match place.bind fun i => s.rail.cabins[i]? with
  | some r => (s, r)
  | none => (s.countRail Ctr.unlisted, s.formedLaunch read)

/-- A chosen record leaves the station list and the door channels are told (R111 step 3). -/
def State.removeChosen (s : State) (place : Option Nat) (r : StationRecord) : State :=
  match place with
  | some i => (s.modRail fun u => { u with cabins := u.cabins.eraseIdx i }).recordLeft r.number
  | none => s

/-- The inferred flag of a launch: set for an unreadable read that takes a record (R109, R110). -/
def launchInferred (place : Option Nat) (read : LaunchRead) : Bool := decide (read = .unreadable) && place.isSome

/-- The launch of a chosen or formed record: door check, lock-check record, removal, hand-off (R111). -/
def State.completeLaunch (s : State) (place : Option Nat) (read : LaunchRead) : State :=
  match s.launchRecord place read with
  | (s, r) =>
    let s := if r.door = .closedLocked then s else s.raiseNotLocked r.cabin
    let s := if s.fitted 8 && decide (r.progress < 9) then s.countRail Ctr.unchecked else s
    let s := (s.removeChosen place r).countRail Ctr.railLaunches
    s.valleyLaunch r.cabin (launchInferred place read) r.profile

/-- A read at LCH after resolution: the causes of the choice, then the launch (R109 to R111). -/
def State.launch (s : State) (read : LaunchRead) : State :=
  let place := s.rail.launchPlace read
  let s := s.launchUnread read
  let s :=
    if launchOutOfOrder place then
      (s.countRail Ctr.launchOrder).trackRaise .up .orderFault { cabin := read.cabin }
    else s
  s.completeLaunch place read

/-- A read from LCH, already judged readable or not (R101, R109). -/
def State.lchRead (s : State) (read : Option Nat) : State :=
  let s := s.countRead 1 read
  match read with
  | some id =>
    match s.resolve id with
    | (s, true) => s.launch (.given id)
    | (s, false) => s.launch .unresolved
  | none => s.launch .unreadable

/-! ## Commands -/

/-- DETECTOR_LEVEL_CHANGE (R99). A level the input already has is no change. -/
def execDetectorLevelChange (d : Detector) (high : Bool) (s : State) : Out :=
  s.liveInput (fun s => s.modDetector (detectorIndex d) fun u => { u with level := high })
    (fun t => if (s.rail.detectors[detectorIndex d]).level = high then t else t.levelChanged d)

/-- DETECTOR_DEBOUNCE_EXPIRY (R99). -/
def execDetectorDebounceExpiry (d : Detector) (s : State) : Out := s.live fun s => s.debounceExpiry d

/-- ARR_READ (R101, R104). -/
def execArrRead (read : Option Nat) (s : State) : Out := s.live fun s => s.arrRead (readable read)

/-- LCH_READ (R101, R109). -/
def execLchRead (read : Option Nat) (s : State) : Out := s.live fun s => s.lchRead (readable read)

end Sys2Proof.Machine
end

