-- ==== Sys2Proof/Machine/Poller.lean ====
section
/-! DEFINITION. The post poller and the seat checker: rolls (R37 to R41), marks (R42), asks and reports (R43 to R47),
POST_CLEAR (R48), the post and seat tables (R36, R49) and the seat checks (R50 to R54). -/

namespace Sys2Proof.Machine

/-- The state with one post table entry changed. -/
def State.modPost (s : State) (p : Post) (f : PostEntry → PostEntry) : State :=
  s.modPoller fun u => { u with posts := upd u.posts p f }

/-- The state with one seat table entry changed. -/
def State.modSeat (s : State) (r : SeatRef) (f : SeatEntry → SeatEntry) : State :=
  s.modPoller fun u => { u with seats := upd u.seats (seatIndex r.post r.seat) f }

/-- A post table entry. -/
def State.post (s : State) (p : Post) : PostEntry := s.poller.posts[p]

/-- A seat table entry. -/
def State.seat (s : State) (r : SeatRef) : SeatEntry := s.poller.seats[seatIndex r.post r.seat]

/-! ## Share sets (R49) -/

/-- Whether any post holds a share of POST_ABSENT (R40). -/
def Poller.anyAbsent (u : Poller) : Bool := allPosts.any fun p => (u.posts[p]).absentShare

/-- Whether any post holds a share of POST_SILENT (R45). -/
def Poller.anySilent (u : Poller) : Bool := allPosts.any fun p => (u.posts[p]).silentShare

/-- Whether any seat holds a share of SEAT_LIMIT (R49). -/
def Poller.anyLimit (u : Poller) : Bool := allSeats.any fun r => (u.seats[seatIndex r.post r.seat]).limitShare

/-- Whether any seat holds a share of SEAT_SWITCH (R49). -/
def Poller.anySwitch (u : Poller) : Bool := allSeats.any fun r => (u.seats[seatIndex r.post r.seat]).switchShare

/-- A post's share of POST_ABSENT withdrawn; the condition goes with the last share (R40, R49). -/
def State.dropAbsent (s : State) (p : Post) : State :=
  if (s.post p).absentShare then
    let s := s.modPost p fun e => { e with absentShare := false }
    if s.poller.anyAbsent then s else s.withdraw .postAbsent
  else s

/-- A post's share of POST_SILENT withdrawn (R46, R49). -/
def State.dropSilent (s : State) (p : Post) : State :=
  if (s.post p).silentShare then
    let s := s.modPost p fun e => { e with silentShare := false }
    if s.poller.anySilent then s else s.withdraw .postSilent
  else s

/-- A seat's share of SEAT_LIMIT withdrawn (R49, R52). -/
def State.dropLimit (s : State) (r : SeatRef) : State :=
  if (s.seat r).limitShare then
    let s := s.modSeat r fun e => { e with limitShare := false }
    if s.poller.anyLimit then s else s.withdraw .seatLimit
  else s

/-- A seat's share of SEAT_SWITCH withdrawn (R49, R54). -/
def State.dropSwitch (s : State) (r : SeatRef) : State :=
  if (s.seat r).switchShare then
    let s := s.modSeat r fun e => { e with switchShare := false }
    if s.poller.anySwitch then s else s.withdraw .seatSwitch
  else s

/-- The detail of a cause of a seat: its post and seat (R51, R52, R54). -/
def seatDetail (r : SeatRef) : Detail := { post := some (postNumber r.post), seat := some r.seat.val }

/-! ## Rolls -/

/-- A new roll built, offered in class 0 and made the outstanding roll in QUEUED (R37). -/
def State.buildRoll (s : State) : State :=
  let n := s.poller.rollNumber + 1
  ((s.modPoller fun u => { u with rollNumber := n, roll := some (n, .queued) }).countPoller Ctr.rollsBuilt).offer .line 0
    (rollFrame n)

/-- The outstanding roll in QUEUED abandoned (R37). -/
def State.abandonRoll (s : State) : State :=
  (s.modPoller fun u => { u with roll := none }).countPoller Ctr.unsentRoll

/-- The expiry of the roll period timer (R37). -/
def State.rollPeriod (s : State) : State :=
  let s := s.modPoller fun u => { u with rollTimer := s.admin.part.rollPeriod }
  match s.poller.roll with
  | none => s.buildRoll
  | some (_, .queued) => s.abandonRoll.buildRoll
  | some (_, .awaiting) => s.countPoller Ctr.skippedRoll

/-- The consecutive lost count after one more lost roll, with LINE_BROKEN on the rise from 1 to 2 (R41). -/
def State.raiseLost (s : State) : State :=
  let was := s.poller.lost
  let s := s.modPoller fun u => { u with lost := satAdd 2 was 1 }
  if was = 1 then s.raiseHeld .lineBroken {} else s

/-- The expiry of the roll's reply deadline: the roll is lost (R41). -/
def State.rollDeadline (s : State) : State :=
  if s.poller.rollDeadline.isSome then
    (((s.modPoller fun u => { u with roll := none, rollDeadline := none }).countPoller Ctr.lostRoll).errorUp
      .line).raiseLost
  else s

/-- PRESENT of a fitted post: its absent count and its share of POST_ABSENT (R40). -/
def State.judgePresent (s : State) (p : Post) (present : Bool) : State :=
  let was := (s.post p).absent
  if present then (s.modPost p fun e => { e with absent := 0 }).dropAbsent p
  else
    let s := s.modPost p fun e => { e with absent := satAdd 2 was 1 }
    if was = 1 then
      (s.modPost p fun e => { e with absentShare := true }).raiseHeld .postAbsent { post := some (postNumber p) }
    else s

/-- ATTENTION of a fitted post: it waits in the attention queue, its flag set, and leaves the sweep queue (R40). -/
def State.takeAttention (s : State) (p : Post) : State :=
  s.modPoller fun u =>
    { u with
      attention := if u.attention.contains p then u.attention else u.attention ++ [p]
      sweep := u.sweep.filter (· != p)
      posts := upd u.posts p fun e => { e with attention := true } }

/-- The answer bits of one post (R40). -/
def State.rollAnswer (payload : List Byte) (s : State) (p : Post) : State :=
  let present := rollPresent payload p
  let attention := rollAttention payload p
  if (s.post p).fitted then
    let s := s.judgePresent p present
    if attention then s.takeAttention p else s
  else if present || attention then s.countPoller Ctr.unfittedAnswer
  else s

/-- The answer field of a roll that has returned: posts 1 to 48, then the summit's PRESENT (R40). -/
def State.rollAnswers (s : State) (payload : List Byte) : State :=
  let s := allPosts.foldl (State.rollAnswer payload) s
  if rollSummit payload then s else s.countPoller Ctr.summitUnmarked

/-- The outstanding roll has returned: it ends, its deadline stops, and LINE_BROKEN's condition goes (R39). -/
def State.rollReturned (s : State) : State :=
  let broken := decide (s.poller.lost = 2)
  let s := s.modPoller fun u => { u with roll := none, rollDeadline := none, lost := 0 }
  if broken then s.withdraw .lineBroken else s

/-- Whether a returning ROLL of a number is the outstanding roll, in QUEUED or AWAITING (R39). -/
def Poller.matchesRoll (u : Poller) (n : Byte) : Bool :=
  match u.roll with
  | some (m, _) => decide (m = n)
  | none => false

/-- A returning ROLL reaches the poller (R39). -/
def State.takeRoll (s : State) (payload : List Byte) : State :=
  if payload.length ≠ 14 then s.countPoller Ctr.malformedRoll
  else if s.poller.matchesRoll (payload.getD 0 0) then s.rollReturned.rollAnswers payload
  else s.countPoller Ctr.staleRoll

/-! ## Marks (R42) -/

/-- The MARK of a number (R3, R7). -/
def markFrame (n : Byte) : Frame := ownFrame broadcastAddr .mark 0 (.built (.mark n)) .own

/-- The fitted posts that do not stand in the sweep queue, in ascending order (R42). -/
def Poller.toSweep (u : Poller) : List Post := allPosts.filter fun p => (u.posts[p]).fitted && !u.sweep.contains p

/-- The expiry of the sample period timer (R42). -/
def State.samplePeriod (s : State) : State :=
  let n := s.poller.markNumber + 1
  let s := s.modPoller fun u => { u with markNumber := n, sampleTimer := s.admin.part.samplePeriod }
  let s := (s.countPoller Ctr.marksBuilt).offer .line 0 (markFrame n)
  s.modPoller fun u => { u with sweep := u.sweep ++ u.toSweep }

/-! ## Asks (R45) -/

/-- Whether the line port is ACTIVE or WARNED (R43, R45). -/
def State.lineCarries (s : State) : Bool := decide (s.line.mode = .active) || decide (s.line.mode = .warned)

/-- A missed ask of a fitted post: its count rises, with POST_SILENT on the rise from 2 to 3 (R45). -/
def State.missAsk (s : State) (p : Post) : State :=
  let was := (s.post p).missed
  let s := (s.modPost p fun e => { e with missed := satAdd 3 was 1 }).countPoller (Ctr.missedAsks p)
  if was = 2 then
    (s.modPost p fun e => { e with silentShare := true }).raiseHeld .postSilent { post := some (postNumber p) }
  else s

/-- The outstanding ask ended. -/
def State.endAsk (s : State) : State := s.modPoller fun u => { u with ask := none }

/-- Whether an outstanding ask ends with the unfitted case of R45 and R46: its target is unfitted, or a write took it out
of service while the ask was outstanding, even if a later write fitted it again (R36; log 42). -/
def State.askUnfitted (s : State) (a : OutstandingAsk) : Bool := a.unfitted || !(s.post a.post).fitted

/-- The expiry of the ask's reply deadline (R45; the unfitted case as R36 gives it, log 42). -/
def State.askDeadline (s : State) : State :=
  match s.poller.ask with
  | none => s
  | some a =>
    if a.deadline.isSome then
      (if s.lineCarries && !s.askUnfitted a then s.missAsk a.post else s.countPoller Ctr.suspendedAsk).endAsk
    else s

/-! ## Seat checks (R50 to R54) -/

/-- The tested value of an offset in a compare mode; none in mode OFF (R50). -/
def testedValue (m : Compare) (o : Int) : Option Int :=
  match m with
  | .off => none
  | .band => some o.natAbs
  | .above => some o
  | .below => some (-o)

/-- Whether a tested value is beyond a limit (R50). -/
def beyondLimit (t : Int) (limit : Nat) : Bool := decide ((limit : Int) < t)

/-- An entry beyond the stop limit: the beyond-stop count rises, and at the confirm count the seat's share of SEAT_LIMIT
becomes present (R52). -/
def State.beyondStop (s : State) (r : SeatRef) : State :=
  let e := s.seat r
  let n := satAdd e.confirm e.beyond 1
  let s := s.modSeat r fun e => { e with beyond := n }
  if n = e.confirm ∧ e.limitShare = false then
    (s.modSeat r fun e => { e with limitShare := true }).raiseHeld .seatLimit (seatDetail r)
  else s

/-- An entry within the stop limit (R52). -/
def State.withinStop (s : State) (r : SeatRef) : State := (s.modSeat r fun e => { e with beyond := 0 }).dropLimit r

/-- An entry beyond the warn limit (R51). -/
def State.beyondWarn (s : State) (r : SeatRef) : State :=
  (s.countPoller Ctr.warned).raiseMomentary .seatWarn (seatDetail r)

/-- The offset judgement of an entry of a fitted seat (R50 to R52). A sensor fault is beyond both limits in every mode
that judges an offset; in mode OFF the entry passes without an offset judgement, and the model neither counts nor judges a
sensor fault there, a point R50 leaves open (log 43). -/
def State.judgeOffset (s : State) (r : SeatRef) (o : Int) : State :=
  let e := s.seat r
  match testedValue e.compare o with
  | none => s
  | some t =>
    if o = -32768 then ((s.countPoller Ctr.sensorFault).beyondWarn r).beyondStop r
    else
      let s := if beyondLimit t e.warn then s.beyondWarn r else s
      if beyondLimit t e.stop then s.beyondStop r else s.withinStop r

/-- The switch check of an entry of a fitted seat (R54). -/
def State.judgeSwitches (s : State) (r : SeatRef) (anyOpen : Bool) : State :=
  let e := s.seat r
  if e.supervised = false then s
  else if anyOpen then
    let s := s.countPoller Ctr.switchOpen
    if e.switchShare then s
    else (s.modSeat r fun e => { e with switchShare := true }).raiseHeld .seatSwitch (seatDetail r)
  else s.dropSwitch r

/-- One seat entry of a fresh report (R50, R53). -/
def State.seatEntry (p : Post) (s : State) (e : SeatReport) : State :=
  let r : SeatRef := ⟨p, e.seat⟩
  if (s.seat r).fitted then (s.judgeOffset r e.offset).judgeSwitches r (e.derail || e.wire)
  else s.countPoller Ctr.unfittedSeat

/-! ## Reports (R46, R47, R55) -/

/-- One passage entry handed to the cabin tracker (R55). -/
def State.handPassage (p : Post) (s : State) (e : PassageReport) : State :=
  (s.countPoller Ctr.passagesHanded).passage ⟨p, e.seat⟩ e.age

/-- A fresh report handed on: seat entries, passage entries, then the passages-lost flag (R47). -/
def State.handReport (s : State) (p : Post) (r : ReportReading) : State :=
  let s := r.seats.foldl (State.seatEntry p) s
  let s := r.passages.foldl (State.handPassage p) s
  if r.lost then s.countPoller (Ctr.passagesLost p) else s

/-- Whether a report's mark number is fresh: a distance of 0 or 1 (R46). -/
def Poller.fresh (u : Poller) (mark : Byte) : Bool := decide ((u.markNumber - mark).toNat ≤ 1)

/-- A fresh report of a fitted target (R46). -/
def State.freshReport (s : State) (p : Post) (r : ReportReading) : State :=
  ((s.modPost p fun e => { e with missed := 0 }).dropSilent p).handReport p r

/-- A stale report of a fitted target: it acts as a missed ask (R46). -/
def State.staleReport (s : State) (p : Post) : State :=
  let s := s.countPoller (Ctr.staleReports p)
  if s.lineCarries then s.missAsk p else s

/-- A well-formed report that answers an outstanding ask, judged (R46; the unfitted case as R36 gives it, log 42). -/
def State.judgeReport (s : State) (a : OutstandingAsk) (r : ReportReading) : State :=
  let s := s.countPoller (Ctr.reports a.post)
  if s.askUnfitted a then s.countPoller Ctr.unfittedReport
  else if s.poller.fresh r.mark then s.freshReport a.post r
  else s.staleReport a.post

/-- A REPORT of the outstanding ask's target reaches the poller; the next ask waits until it has been dealt with
(R46). -/
def State.takeReport (s : State) (payload : List Byte) : State :=
  match readReport payload, s.poller.ask with
  | some r, some a => (s.judgeReport a r).endAsk
  | some _, none => s
  | none, _ => s.countPoller Ctr.malformedReport

/-! ## POST_CLEAR (R48) -/

/-- A POST_CLEAR built for a post and offered to the line port; whether it was appended (R48). -/
def State.sendPostClear (s : State) (p : Post) : State × Bool :=
  (s.countPoller Ctr.postClearBuilt).offerSaying .line 2 (ownFrame (postAddr p) .postClear 0 (.raw []) .own)

/-! ## Table writes (R36, R49, R86) -/

/-- The four seats of a post. -/
def seatsOf (p : Post) : List SeatRef := [⟨p, 0⟩, ⟨p, 1⟩, ⟨p, 2⟩, ⟨p, 3⟩]

/-- Whether the seats of each sequence the tables give have distinct positions (R49, R86). -/
def Poller.distinctPositions (u : Poller) : Bool :=
  decide ((((allSeats.filter (inSequence u .up)).map (seatPosition u)).Nodup) ∧
    ((allSeats.filter (inSequence u .down)).map (seatPosition u)).Nodup)

/-- A seat's beyond-stop count set to 0 and its shares withdrawn (R36, R49). -/
def State.clearSeat (s : State) (r : SeatRef) : State :=
  ((s.modSeat r fun e => { e with beyond := 0 }).dropLimit r).dropSwitch r

/-- An outstanding ask after a write has taken a post out of service: it runs on, and is marked when the post is its
target (R36; log 42). -/
def OutstandingAsk.unfit (p : Post) (a : OutstandingAsk) : OutstandingAsk :=
  { a with unfitted := a.unfitted || decide (a.post = p) }

/-- A post taken out of service (R36). -/
def State.unfitPost (s : State) (p : Post) : State :=
  let s := s.modPoller fun u =>
    { u with
      ask := u.ask.map (·.unfit p)
      attention := u.attention.filter (· != p)
      sweep := u.sweep.filter (· != p)
      posts := upd u.posts p fun e => { e with fitted := false, absent := 0, missed := 0, attention := false } }
  (seatsOf p).foldl State.clearSeat ((s.dropAbsent p).dropSilent p)

/-- A taken post table write (R36, R86). An ask already due is sent before the write (log 4). -/
def State.takePostWrite (s : State) (p : Post) (fitted : Bool) : State :=
  if (s.post p).fitted = fitted then s
  else
    let s := s.dueAsk
    (if fitted then s.modPost p fun e => { e with fitted := true } else s.unfitPost p).rebuildSequences

/-- A seat entry with its written fields replaced; the status fields stay (R49). -/
def SeatEntry.written (e : SeatEntry) (f : SeatFields) (t : Track) (m : Compare) : SeatEntry :=
  { e with
    fitted := f.fitted, track := t, position := f.position, window := f.window, compare := m, warn := f.warn,
    stop := f.stop, confirm := f.confirm, supervised := f.supervised }

/-- A taken seat table write (R49, R86). -/
def State.takeSeatWrite (s : State) (r : SeatRef) (f : SeatFields) (t : Track) (m : Compare) : State :=
  ((s.clearSeat r).modSeat r fun e => e.written f t m).rebuildSequences

/-! ## Commands -/

/-- ROLL_PERIOD_EXPIRY (R37). -/
def execRollPeriodExpiry (s : State) : Out := s.live State.rollPeriod

/-- ROLL_DEADLINE_EXPIRY (R41). -/
def execRollDeadlineExpiry (s : State) : Out := s.live State.rollDeadline

/-- SAMPLE_PERIOD_EXPIRY (R42). -/
def execSamplePeriodExpiry (s : State) : Out := s.live State.samplePeriod

/-- ASK_SEND (R43). -/
def execAskSend (s : State) : Out := s.live State.dueAsk

/-- ASK_DEADLINE_EXPIRY (R45). -/
def execAskDeadlineExpiry (s : State) : Out := s.live State.askDeadline

end Sys2Proof.Machine
end

