-- ==== Sys2Proof/Machine/Telephony.lean ====
section
/-! DEFINITION. The telephony unit: hooks, the help button and CALL-PLACE (R153 to R158), CALL frames (R152, R157, R159,
R161), line loss and fallback (R164), voice (R166 to R168). -/

namespace Sys2Proof.Machine

/-- The other local line. -/
def otherLine (l : Fin 2) : Fin 2 := if l = 0 then 1 else 0

/-- A call record. -/
def State.record (s : State) (i : Fin 4) : CallRecord := s.tel.records[i]

/-! ## Local calls and fallback (R158, R164) -/

/-- A record made a local call: RINGING_OUT with its 30 s timer, or CONNECTED at once when the remote line is off-hook
(R158). -/
def State.openLocal (s : State) (i : Fin 4) (r : CallRecord) (remote : Fin 2) : State :=
  let s := s.modRecord i fun _ =>
    { r with state := .ringingOut, remote := .localLine remote, timer := some Config.ringTime }
  if s.tel.hooks[remote] then s.connect i else s

/-- Whether a record is a help call for the summit: OUTGOING, EMERGENCY, from LINE 1 (R154). -/
def CallRecord.isHelp (r : CallRecord) : Bool :=
  r.outgoing && decide (r.priority = .emergency) && decide (r.line = 1)

/-- A help call turned into the local fallback, or freed with a reason and without a frame when fallback is off or LINE 0 is
active (R164). -/
def State.fallback (s : State) (i : Fin 4) (reason : ClearReason) : State :=
  if s.tel.table.fallback && (s.tel.activeRecord 0).isNone then
    let s := (s.releaseChannel i).countTel Ctr.fallback
    s.openLocal i (s.record i) 0
  else s.freeCall i reason true false

/-! ## Opening calls at the valley (R153 to R156) -/

/-- A hotline call from LINE 1; a refused one is freed and counted (R153). -/
def State.openHotline (s : State) : State :=
  match s.tel.freeRecord with
  | none => s.countTel Ctr.refusedCall
  | some i =>
    let r := newCall i 1 (.summit (summitLineOf s.tel.table.hotline)) .routine
    match s.openSummit i r with
    | (s, none) => s
    | (s, some reason) => ((s.modRecord i fun _ => r).freeCall i reason true false).countTel Ctr.refusedCall

/-- A help call from LINE 1: to the local fallback at once while the link is SILENT or when R156 refuses it (R154). -/
def State.openHelp (s : State) : State :=
  match s.tel.freeRecord with
  | none => s
  | some i =>
    let r := newCall i 1 (.summit (summitLineOf s.tel.table.help)) .emergency
    if s.link.state = .silent then (s.modRecord i fun _ => r).fallback i .lineLost
    else
      match s.openSummit i r with
      | (s, none) => s
      | (s, some reason) => (s.modRecord i fun _ => r).fallback i reason

/-- A record's priority raised by the help button: PRIORITY is sent when the record is known to the summit (R154,
R161). -/
def State.raiseByButton (s : State) (i : Fin 4) : State :=
  let s := s.modRecord i fun r => { r with priority := .emergency }
  if (s.record i).known then s.sendCall i .priority else s

/-- A press of the help button (R154). -/
def State.helpPressed (s : State) : State :=
  match s.tel.activeRecord 1 with
  | some i => if (s.record i).priority = .emergency then s.countTel Ctr.helpRepeat else s.raiseByButton i
  | none => s.openHelp

/-- The ringing record of a line answered by an off-hook (R153, R165). -/
def State.answer (s : State) (i : Fin 4) : State :=
  let r := s.record i
  match r.remote with
  | .summit _ => (s.connect i).sendCall i (if r.order.isNone then .answer else .resume)
  | .localLine _ => s.connect i
  | .none => s.stopCallToSummit i

/-- An off-hook change on a line (R153). -/
def State.wentOffHook (s : State) (l : Fin 2) : State :=
  match s.tel.ringingRecord l with
  | some i => s.answer i
  | none => if l = 1 ∧ s.tel.activeRecord 1 = none then s.openHotline else s

/-- An on-hook change on a line frees the record it is active in, with NORMAL; the record's own line is its local line
(R153, R160; log 32). -/
def State.wentOnHook (s : State) (l : Fin 2) : State :=
  match s.tel.activeRecord l with
  | some i => s.freeCall i .normal false (decide ((s.record i).line = l))
  | none => s

/-- CALL-PLACE to LINE 1 (R155 step 4, R158). -/
def State.placeLocal (s : State) (p : Priority) : State × Result × Option (Fin 4) :=
  if (s.tel.activeRecord 1).isSome then (s, .lineBusy, none)
  else
    match s.tel.freeRecord with
    | none => (s, .inUse, none)
    | some i => (s.openLocal i (newCall i 0 (.localLine 1) p) 1, .done, some i)

/-- CALL-PLACE to a summit line (R155 steps 5 and 6). -/
def State.placeSummit (s : State) (line : Fin 4) (p : Priority) : State × Result × Option (Fin 4) :=
  if s.link.state = .silent then (s, .badRequest, none)
  else
    match s.tel.freeRecord with
    | none => (s, .inUse, none)
    | some i =>
      match s.openSummit i (newCall i 0 (.summit line) p) with
      | (s, none) => (s, .done, some i)
      | (s, some _) => (s, .inUse, none)

/-- CALL-PLACE with a remote and priority inside their values (R155 steps 2 to 6). -/
def State.placeCall (s : State) (remote : Option (Fin 4)) (p : Priority) : State × Result × Option (Fin 4) :=
  if s.tel.hooks[(0 : Fin 2)] = false then (s, .badRequest, none)
  else if (s.tel.activeRecord 0).isSome then (s, .lineBusy, none)
  else
    match remote with
    | none => s.placeLocal p
    | some line => s.placeSummit line p

/-! ## Call timers (R151) -/

/-- The expiry of a record's timer, by its state (R151, R157 to R159, R163, R165). -/
def State.callExpiry (s : State) (i : Fin 4) : State :=
  let r := s.record i
  if r.timer.isSome then
    match r.state with
    | .setup => s.freeCall i .noResponse false false
    | .ringingOut | .ringingIn => s.freeCall i .noAnswer false false
    | .held => s.freeCall i .preempted false false
    | .free | .connected => s
  else s

/-! ## CALL frames from the summit (R152) -/

/-- A well-formed CALL (R8, R152). -/
structure CallReading where
  ref : Byte
  line : Fin 2
  summitLine : Fin 4
  priority : Priority
  channel : Option VoiceName
  reason : ClearReason
  deriving DecidableEq, Repr

/-- The contents of a CALL read; none when they are malformed (R152). -/
def readCall (c : Contents) : Option CallReading :=
  match c with
  | .call ref v sl (some p) (some ch) (some reason) =>
    if h : v < 2 ∧ sl < 4 then some ⟨ref, ⟨v, h.1⟩, ⟨sl, h.2⟩, p, ch, reason⟩ else none
  | _ => none

/-- The CLEAR that answers a REQUEST without using a record, under the REQUEST's reference and lines (R159; its priority and
channel are log 29). -/
def State.answerClear (s : State) (c : CallReading) (reason : ClearReason) : State :=
  s.offer .line 1 (callFrame .clear c.ref c.line c.summitLine c.priority none reason)

/-- The record of an incoming call (R151, R159). -/
def incomingRecord (c : CallReading) : CallRecord :=
  ⟨.setup, c.line, .summit c.summitLine, c.priority, false, c.ref, none, false, none, true, none⟩

/-- An incoming call that has its line and channel: CONNECTED with RINGING and ANSWER when the line is off-hook, else
RINGING_IN with RINGING (R159). -/
def State.openIncoming (s : State) (c : CallReading) (v : VoiceName) : State :=
  match s.tel.freeRecord with
  | none => s.answerClear c .busy
  | some i =>
    let s := (s.modRecord i fun _ => incomingRecord c).claim i v
    if s.tel.hooks[c.line] then ((s.connect i).sendCall i .ringing).sendCall i .answer
    else (s.ringIn i).sendCall i .ringing

/-- An EMERGENCY REQUEST that takes its line and channel by preemption (R159, R162). -/
def State.requestByPreemption (s : State) (c : CallReading) : State :=
  match s.tel.preemption none c.line with
  | some (victims, v) => ((victims.foldl State.takeVictim s).openIncoming c v).resumption
  | none => s.answerClear c .busy

/-- Whether a REQUEST repeats one the valley line already has a record for (R159 step 1). -/
def Telephony.repeats (u : Telephony) (c : CallReading) : Bool :=
  allRecords.any fun i =>
    let r := u.records[i]
    decide (r.state ≠ .free) && r.known && decide (r.line = c.line) && decide (r.ref = c.ref)

/-- A well-formed REQUEST (R159). -/
def State.takeRequest (s : State) (c : CallReading) : State :=
  if c.ref.toNat < 4 then s.answerClear c .refused
  else if s.tel.repeats c then s.countTel Ctr.repeatRequest
  else if s.link.state = .silent then s.answerClear c .refused
  else
    match s.tel.activeRecord c.line, s.tel.freeChannel with
    | none, some v => s.openIncoming c v
    | _, _ => if c.priority = .emergency then s.requestByPreemption c else s.answerClear c .busy

/-- The record a CALL other than REQUEST matches (R152). -/
def Telephony.matchCall (u : Telephony) (c : CallReading) : Option (Fin 4) :=
  allRecords.find? fun i =>
    let r := u.records[i]
    r.known && decide (r.state ≠ .free) && r.remote.isSummit && decide (r.line = c.line) && decide (r.ref = c.ref)

/-- A matched frame its rule does not accept (R152). -/
def State.unexpectedCall (s : State) : State := s.countTel Ctr.unexpectedCall

/-- A matched RINGING (R157). -/
def State.callRinging (s : State) (i : Fin 4) : State :=
  if (s.record i).state = .setup then
    s.modRecord i fun r => { r with state := .ringingOut, timer := some Config.ringTime }
  else s.unexpectedCall

/-- A matched ANSWER (R157). -/
def State.callAnswer (s : State) (i : Fin 4) : State :=
  match (s.record i).state with
  | .setup | .ringingOut => s.connect i
  | .free | .ringingIn | .connected | .held => s.unexpectedCall

/-- A HELD record raised to EMERGENCY leaves the stack and seeks its line and a channel by preemption; without a victim it is
freed with BUSY (R161). -/
def State.raiseHeldRecord (s : State) (i : Fin 4) : State :=
  let s := s.modTel fun u => { u with stack := u.stack.filter (· != i) }
  let s := s.modRecord i fun r => { r with priority := .emergency, timer := none }
  match s.tel.preemption (some i) (s.record i).line with
  | some (victims, v) => ((victims.foldl State.takeVictim s).resumeRecord i v).resumption
  | none => s.freeCall i .busy false false

/-- A matched PRIORITY (R161). -/
def State.callPriority (s : State) (i : Fin 4) (p : Priority) : State :=
  let r := s.record i
  if p.rank ≤ r.priority.rank then s.unexpectedCall
  else if r.state = .held ∧ p = .emergency then s.raiseHeldRecord i
  else s.modRecord i fun r => { r with priority := p }

/-- A CALL matched to a record acts by its sub-kind (R152). -/
def State.matchedCall (s : State) (i : Fin 4) (sub : CallSub) (c : CallReading) : State :=
  match sub with
  | .request => s
  | .ringing => s.callRinging i
  | .answer => s.callAnswer i
  | .clear => s.freeCall i c.reason true false
  | .priority => s.callPriority i c.priority
  | .hold | .resume => s.unexpectedCall

/-- A CALL consumed from the summit (R152). -/
def State.takeCall (s : State) (sub : Nat) (contents : Contents) : State :=
  match subOfCode sub, readCall contents with
  | some .request, some c => s.takeRequest c
  | some sub, some c =>
    match s.tel.matchCall c with
    | some i => s.matchedCall i sub c
    | none => s.countTel Ctr.staleCall
  | _, _ => s.countTel Ctr.malformedCall

/-! ## Line loss (R164) -/

/-- Every held record freed with LINE_LOST, the stack emptied first (R164 step 1). -/
def State.loseHeld (s : State) : State :=
  s.tel.stack.foldl (fun s i => s.freeCall i .lineLost true false) (s.modTel fun u => { u with stack := [] })

/-- One record at the loss of the line: a summit call other than a help call is freed (R164 step 2). -/
def State.loseRecord (s : State) (i : Fin 4) : State :=
  let r := s.record i
  if r.state ≠ .free ∧ r.remote.isSummit ∧ r.isHelp = false then s.freeCall i .lineLost true false else s

/-- One help call at the loss of the line (R164 step 3). -/
def State.turnHelp (s : State) (i : Fin 4) : State :=
  let r := s.record i
  if r.state.live ∧ r.remote.isSummit ∧ r.isHelp then s.fallback i .lineLost else s

/-- The line to the summit is lost (R164). The records of a step are taken in an order of the model's: the stack from its top,
then steps 2 and 3 by ascending record number, which settles whose line the first CALL_UNANSWERED carries (log 50). A stop
call that its entry triggers is opened at once, so that the fallback of step 3 may find LINE 0 active (log 53). -/
def State.lineLost (s : State) : State :=
  allRecords.foldl State.turnHelp (allRecords.foldl State.loseRecord s.loseHeld)

/-! ## Voice (R166 to R168) -/

/-- The VOICE frame of a block (R8, R166). -/
def voiceFrame (v : VoiceName) (seq : Byte) (samples : List Byte) : Frame :=
  ownFrame summitAddr .voice 0 (.built (.voice v seq samples)) .own

/-- A block of a CONNECTED summit call packed into a VOICE frame, offered when the line port is ACTIVE or WARNED (R166). -/
def State.sendVoice (s : State) (v : VoiceName) (samples : List Byte) : State :=
  let seq := (s.tel.voices[voiceIndex v]).txSeq
  let s := s.modVoice v fun u => { u with txSeq := seq + 1 }
  if s.lineCarries then (s.countTel (Ctr.voiceSent (voiceIndex v))).offer .line 1 (voiceFrame v seq samples)
  else s.countTel Ctr.voiceSuppressed

/-- What a line's codec port plays next, stored (R149, R168). -/
def State.play (s : State) (l : Fin 2) (samples : List Byte) : State :=
  s.modTel fun u => { u with codec := upd u.codec l fun _ => samples }

/-- A block of 40 samples from a line's handset (R149, R166). -/
def State.codecBlock (s : State) (l : Fin 2) (samples : List Byte) : State :=
  match s.tel.activeRecord l with
  | none => s
  | some i =>
    let r := s.record i
    if r.state = .connected then
      match r.remote, r.channel with
      | .summit _, some v => s.sendVoice v samples
      | .localLine _, _ => s.play (otherLine l) samples
      | _, _ => s
    else s

/-- The CONNECTED call that holds a voice channel (R167). -/
def Telephony.callOn (u : Telephony) (v : VoiceName) : Option (Fin 4) :=
  allRecords.find? fun i =>
    let r := u.records[i]
    decide (r.state = .connected) && decide (r.channel = some v)

/-- The distance of a sequence number from the expected one (R167). -/
def seqDistance (expected seq : Byte) : Nat := (seq - expected).toNat

/-- A frame inserted into a jitter queue at its distance (R167). -/
def insertVoice (expected : Byte) (f : Byte × List Byte) : List (Byte × List Byte) → List (Byte × List Byte)
  | [] => [f]
  | g :: gs =>
    if seqDistance expected f.1 < seqDistance expected g.1 then f :: g :: gs else g :: insertVoice expected f gs

/-- What becomes of an arriving voice frame (R167). -/
inductive VoiceFate where
  | late
  | duplicate
  | queued (overflow : Bool) (queue : List (Byte × List Byte))
  | dropped
  deriving DecidableEq, Repr

/-- An arriving frame judged against the jitter queue and the expected sequence (R167). -/
def judgeVoice (expected : Byte) (q : List (Byte × List Byte)) (f : Byte × List Byte) : VoiceFate :=
  if 128 ≤ seqDistance expected f.1 then .late
  else if q.any fun g => decide (g.1 = f.1) then .duplicate
  else if q.length < Config.jitterCapacity then .queued false (insertVoice expected f q)
  else
    match q.getLast? with
    | some g =>
      if seqDistance expected f.1 < seqDistance expected g.1 then .queued true (insertVoice expected f q.dropLast)
      else .dropped
    | none => .dropped

/-- A channel in PREFILL whose queue holds 2 frames enters PLAYING (R167). -/
def VoiceUnit.startPlaying (v : VoiceUnit) : VoiceUnit :=
  if v.playing = false ∧ 2 ≤ v.jitter.length then
    { v with playing := true, timer := some Config.playoutPeriod, empties := 0 }
  else v

/-- A voice frame for a channel of a CONNECTED call (R167). -/
def State.insertFrame (s : State) (v : VoiceName) (f : Byte × List Byte) : State :=
  let u := s.tel.voices[voiceIndex v]
  let k := voiceIndex v
  match judgeVoice (u.expected.getD f.1) u.jitter f with
  | .late => s.countTel (Ctr.lateVoice k)
  | .duplicate => s.countTel (Ctr.duplicateVoice k)
  | .dropped => s.countTel (Ctr.overflowVoice k)
  | .queued overflow q =>
    let s := if overflow then s.countTel (Ctr.overflowVoice k) else s
    s.modVoice v fun u => { u with jitter := q, expected := some (u.expected.getD f.1) }.startPlaying

/-- A VOICE consumed from the summit (R167). -/
def State.takeVoice (s : State) (contents : Contents) : State :=
  match contents with
  | .voice (some v) seq samples =>
    if samples.length ≠ Config.blockSamples then s.countTel Ctr.malformedVoice
    else if (s.tel.callOn v).isNone then s.countTel (Ctr.notConnected (voiceIndex v))
    else s.insertFrame v (seq, samples)
  | _ => s.countTel Ctr.malformedVoice

/-- What an expiry plays: the block, the channel after it, and the counter of what it was (R168). -/
def VoiceUnit.playOne (u : VoiceUnit) (k : Fin 2) : List Byte × VoiceUnit × Fin 38 :=
  let missing : List Byte × VoiceUnit × Fin 38 :=
    match u.last with
    | some b =>
      if u.replayUsed then (Config.silence, u, Ctr.silent k) else (b, { u with replayUsed := true }, Ctr.replayed k)
    | none => (Config.silence, u, Ctr.silent k)
  match u.jitter with
  | g :: rest =>
    if u.expected = some g.1 then
      (g.2, { u with jitter := rest, last := some g.2, replayUsed := false }, Ctr.played k)
    else missing
  | [] => missing

/-- A channel after an expiry: the expected sequence rises, the empty-expiry count follows what the expiry found, the timer
restarts (R168). -/
def VoiceUnit.advance (u : VoiceUnit) (foundEmpty : Bool) : VoiceUnit :=
  { u with
    expected := u.expected.map (· + 1)
    empties := if foundEmpty then satAdd 8 u.empties 1 else 0
    timer := some Config.playoutPeriod }

/-- A channel back in PREFILL after eight empty expiries (R168). -/
def VoiceUnit.toPrefill (u : VoiceUnit) : VoiceUnit :=
  { u with playing := false, timer := none, expected := none, last := none, replayUsed := false }

/-- A block played to the codec port of the call that holds a channel (R168). -/
def State.playOn (s : State) (v : VoiceName) (samples : List Byte) : State :=
  match s.tel.callOn v with
  | some i => s.play (s.record i).line samples
  | none => s

/-- The expiry of a PLAYING channel's playout timer (R168). -/
def State.playout (s : State) (v : VoiceName) : State :=
  let k := voiceIndex v
  let u := s.tel.voices[k]
  if u.playing && u.timer.isSome then
    match u.playOne k with
    | (block, u', counter) =>
      let u' := u'.advance u.jitter.isEmpty
      let s := (s.countTel counter).playOn v block
      if u'.empties = 8 then
        ((s.modVoice v fun _ => u'.toPrefill).countTel (Ctr.prefillReturn k)).playOn v Config.silence
      else s.modVoice v fun _ => u'
  else s

/-! ## Commands -/

/-- A hook level stored (R149). -/
def State.setHook (s : State) (l : Fin 2) (off : Bool) : State :=
  s.modTel fun u => { u with hooks := u.hooks.set l off }

/-- OFF_HOOK (R153). A line that is off-hook already has no change. -/
def execOffHook (l : Fin 2) (s : State) : Out :=
  s.liveInput (fun s => s.setHook l true) (fun t => if s.tel.hooks[l] then t else t.wentOffHook l)

/-- ON_HOOK (R153). A line that is on-hook already has no change. -/
def execOnHook (l : Fin 2) (s : State) : Out :=
  s.liveInput (fun s => s.setHook l false) (fun t => if s.tel.hooks[l] then t.wentOnHook l else t)

/-- HELP_BUTTON (R154). -/
def execHelpButton (s : State) : Out := s.live State.helpPressed

/-- CALL_TIMER_EXPIRY (R151). -/
def execCallTimerExpiry (i : Fin 4) (s : State) : Out := s.live fun s => s.callExpiry i

/-- CODEC_BLOCK (R166). A block not of 40 samples is no complete block and has no effect (log 28). -/
def execCodecBlock (l : Fin 2) (samples : List Byte) (s : State) : Out :=
  s.live fun s => if samples.length = Config.blockSamples then s.codecBlock l samples else s

/-- PLAYOUT_TIMER_EXPIRY (R168). -/
def execPlayoutTimerExpiry (v : VoiceName) (s : State) : Out := s.live fun s => s.playout v

end Sys2Proof.Machine
end

