-- ==== Sys2Proof/Machine/SummitLink.lean ====
section
/-! DEFINITION. The summit link supervisor: summit beats (R137 to R141), the valley beat (R142), terminal events (R144) and
line loss (R146). -/

namespace Sys2Proof.Machine

/-! ## Beats -/

/-- Whether an accepted beat's number leaves a gap (R137 step 3). -/
def beatGap (last : Option Byte) (n : Byte) : Bool :=
  match last with
  | some m => decide (n ≠ m + 1)
  | none => false

/-- An accepted beat changes the link state (R138). -/
def State.followLink (s : State) : State :=
  match s.link.state with
  | .silent => s.modLink fun u => { u with state := .recovering }
  | .recovering => ((s.modLink fun u => { u with state := .linked }).countLink Ctr.recovery).withdraw .summitSilent
  | .linked => s

/-- The requested category of an accepted beat (R140). -/
def State.readRequest (s : State) (c : Category) : State :=
  let held := s.link.request
  let s := s.modLink fun u => { u with request := c }
  if held.rank < c.rank then s.raiseHeld .summitStop { requested := some c }
  else if held ≠ .none ∧ c = .none then s.withdraw .summitStop
  else s

/-- An accepted beat: timers, number, link state, request (R137). -/
def State.acceptBeat (s : State) (n : Byte) (c : Category) : State :=
  let gap := beatGap s.link.lastBeat n
  let s := s.modLink fun u =>
    { u with guard := some Config.earlyGuard, late := some Config.lateTime, lastBeat := some n }
  let s := s.countLink Ctr.acceptedBeat
  let s := if gap then s.countLink Ctr.beatGap else s
  s.followLink.readRequest c

/-- A BEAT consumed from the summit: malformed, early or accepted (R137). -/
def State.takeBeat (s : State) (payloadLength : Nat) (contents : Contents) : State :=
  match contents with
  | .beat n (some c) =>
    if payloadLength ≠ 2 then s.countLink Ctr.malformedBeat
    else if s.link.guard.isSome then s.countLink Ctr.earlyBeat
    else s.acceptBeat n c
  | _ => s.countLink Ctr.malformedBeat

/-- The expiry of the early guard (R137). -/
def State.guardExpiry (s : State) : State := s.modLink fun u => { u with guard := none }

/-- The link enters SILENT at an expiry of the late timer (R139). -/
def State.enterSilent (s : State) : State :=
  let was := s.link.state
  let s := (s.modLink fun u => { u with state := .silent, late := none, guard := none, lastBeat := none }).countLink
    Ctr.silentEntry
  (if was = .linked then s.raiseHeld .summitSilent {} else s).lineLost

/-- The expiry of the late timer (R139, R146). -/
def State.lateExpiry (s : State) : State := if s.link.late.isSome then s.enterSilent else s

/-! ## The valley beat (R142) -/

/-- The valley BEAT of a number with the category and track modes as they stand (R7, R142). -/
def State.valleyFrame (s : State) (n : Byte) : Frame :=
  ownFrame summitAddr .beat 0
    (.built (.beat n s.chain.asserted s.tracker.modes.up s.tracker.modes.down)) .own

/-- The expiry of the valley beat timer (R142). -/
def State.valleyBeat (s : State) : State :=
  let n := s.link.valleyNumber + 1
  let s := s.modLink fun u => { u with valleyNumber := n, valleyTimer := Config.valleyPeriod }
  (s.countLink Ctr.valleyBeat).offer .line 0 (s.valleyFrame n)

/-! ## Terminal events (R144) -/

/-- A TERMINAL_EVENT consumed from the summit: malformed, or handed to the cabin tracker (R144). -/
def State.takeTerminal (s : State) (contents : Contents) : State :=
  match contents with
  | .terminal (some event) cabin age =>
    if 4095 < cabin ∨ 1023 < age then s.countLink Ctr.malformedEvent
    else
      match event with
      | .arrival => (s.countLink Ctr.arrivalEvent).summitArrival cabin age
      | .departure => (s.countLink Ctr.departureEvent).summitDeparture cabin age
  | _ => s.countLink Ctr.malformedEvent

/-! ## Commands -/

/-- EARLY_GUARD_EXPIRY (R137). -/
def execEarlyGuardExpiry (s : State) : Out := s.live State.guardExpiry

/-- LATE_TIMER_EXPIRY (R139). -/
def execLateTimerExpiry (s : State) : Out := s.live State.lateExpiry

/-- VALLEY_BEAT_TIMER_EXPIRY (R142). -/
def execValleyBeatTimerExpiry (s : State) : Out := s.live State.valleyBeat

end Sys2Proof.Machine
end

