-- ==== Sys2Proof/Machine/StopChain.lean ====
section
/-! DEFINITION. The stop chain: its input filters (R171), the stop timer (R181), cause table writes (R172), restart permits
(R178), the clearing of notices (R179) and STOP (R180). -/

namespace Sys2Proof.Machine

/-! ## Input filters (R171) -/

/-- Whether a level means that an input is active: a stop input when it is low, the drive-fault input when the drive asserts
it (R171). -/
def inputActive (i : StopInput) (level : Bool) : Bool :=
  match i with
  | .stop _ => !level
  | .driveFault => level

/-- One filter of the stop chain. -/
def State.stopFilter (s : State) (i : StopInput) : StopFilter := s.chain.filters[stopInputIndex i]

/-- The state with one filter of the stop chain changed. -/
def State.modFilter (s : State) (i : StopInput) (f : StopFilter → StopFilter) : State :=
  s.modChain fun u => { u with filters := upd u.filters (stopInputIndex i) f }

/-- A change of level taken by a filter, the level already stored (R171). -/
def StopFilter.follow (f : StopFilter) : StopFilter :=
  { f with timer := if f.level = f.active then none else some Config.stopDebounce }

/-- The expiry of a filter's debounce timer: the filtered state takes the level's state, and the cause is raised or
withdrawn (R171). -/
def State.filterExpiry (s : State) (i : StopInput) : State :=
  let f := s.stopFilter i
  if f.timer.isSome then
    let s := s.modFilter i fun f => { f with active := f.level, timer := none }
    if f.level && !f.active then (s.countChain (Ctr.activation (stopInputIndex i))).raiseHeld (stopInputCause i) {}
    else if f.active && !f.level then s.withdraw (stopInputCause i)
    else s
  else s

/-! ## The stop timer (R181) -/

/-- The expiry of the stop timer raises STOP_OVERRUN (R181). -/
def State.stopTimerExpiry (s : State) : State :=
  if s.chain.timer.isSome then
    ((s.modChain fun u => { u with timer := none }).countChain Ctr.overrun).raiseMomentary .stopOverrun {}
  else s

/-! ## STOP (R180) -/

/-- A STOP of a category above NONE raises CONSOLE_STOP with it (R180). -/
def State.consoleStop (s : State) (c : Category) : State := s.raiseMomentary .consoleStop { requested := some c }

/-! ## Permits and clearing (R178, R179) -/

/-- The set after a permit: RESET_LATCH's condition ends, and every record whose condition is gone leaves (R178 steps 1 and
2). -/
def afterPermit (l : List CauseRecord) : List CauseRecord :=
  (l.map fun r => if r.code = .resetLatch then { r with present := false } else r).filter fun r => r.present

/-- A permit taken at standstill (R178). -/
def State.permit (s : State) : State :=
  let s := (s.modChain fun u => { u with causes := afterPermit u.causes }).countChain Ctr.permit
  s.setAsserted s.demanded

/-- Whether CAUSES-CLEAR-NOTICES removes a record: category NONE, condition gone (R179). -/
def CauseRecord.clearable (r : CauseRecord) : Bool := decide (r.category = .none) && !r.present

/-- The records of category NONE whose condition is gone removed (R179). -/
def State.clearNotices (s : State) : State :=
  s.modChain fun u => { u with causes := u.causes.filter fun r => !r.clearable }

/-! ## The cause table (R172) -/

/-- A taken cause table write: the entry is replaced, the code's record rises to the written category, A is judged
(R172). -/
def State.takeCauseWrite (s : State) (c : Cause) (e : CauseEntry) : State :=
  (s.modChain fun u =>
    { u with
      table := upd u.table (causeCode c) fun _ => e
      causes := u.causes.map fun r => if r.code = c then { r with category := r.category.sup e.category } else r }).judgeRise

/-! ## Commands -/

/-- STOP_FILTER_LEVEL_CHANGE (R171): `level` is high for a stop input, asserted for the drive-fault input. A level the input
already has is no change. -/
def execStopFilterLevelChange (i : StopInput) (level : Bool) (s : State) : Out :=
  s.liveInput (fun s => s.modFilter i fun f => { f with level := inputActive i level })
    (fun t => if (s.stopFilter i).level = inputActive i level then t else t.modFilter i StopFilter.follow)

/-- STOP_FILTER_DEBOUNCE_EXPIRY (R171). -/
def execStopFilterDebounceExpiry (i : StopInput) (s : State) : Out := s.live fun s => s.filterExpiry i

/-- STOP_TIMER_EXPIRY (R181). -/
def execStopTimerExpiry (s : State) : Out := s.live State.stopTimerExpiry

end Sys2Proof.Machine
end

