-- ==== Sys2Proof/Machine/Requests.lean ====
section
/-! DEFINITION. What each admin request does, by the rule that owns it: the state after it, its result and its answer's data
(R36, R48, R49, R58, R78 to R84, R98, R115 to R122, R130, R134, R150, R155, R172, R178 to R182, R187 to R190). -/

namespace Sys2Proof.Machine

/-- The outcome of a request's own rule: the state after it, the result, the data (R185 step 4). -/
abbrev Reply := State × Result × AnswerData

/-- A request refused or settled without any effect. -/
def State.refuse (s : State) (r : Result) : Reply := (s, r, .empty)

/-- A request taken with an effect and no data. -/
def State.done (s : State) : Reply := (s, .done, .empty)

/-- A number as an index below a bound. -/
def index? (n k : Nat) : Option (Fin k) := if h : n < k then some ⟨n, h⟩ else none

/-- A post number 1 to 48 as a post index (R36). -/
def post? (number : Nat) : Option Post := if 1 ≤ number then index? (number - 1) 48 else none

/-! ## Identity, status, causes (R182, R189) -/

/-- IDENTIFY (R189). -/
def State.doIdentify (s : State) : Reply := (s, .done, .identity identity)

/-- The snapshot of STATUS-READ (R189). -/
def State.status (s : State) : StatusView :=
  { asserted := s.chain.asserted, demanded := s.demanded, station := s.station.mode, line := s.line.mode,
    up := s.tracker.modes.up, down := s.tracker.modes.down, speed := s.rope.speed, standstill := s.rope.standstill,
    odo := s.rope.odo, slip := s.rope.slip, link := s.link.state,
    channels := s.doors.channels.toList.map fun c => c.state,
    calls := s.tel.records.toList.map fun r => ⟨r.state, r.line, r.remote, r.priority⟩ }

/-- STATUS-READ (R189). -/
def State.doStatusRead (s : State) : Reply := (s, .done, .status s.status)

/-- CAUSES-READ (R182). -/
def State.doCausesRead (s : State) (position : Nat) : Reply :=
  let l := s.chain.causes
  if 39 ≤ position then s.refuse .badValue
  else if l.length ≤ position then s.refuse .endOfTable
  else (s, .done, .causes s.chain.asserted s.demanded l.length ((l.drop position).take 6))

/-- STOP (R180). -/
def State.doStop (s : State) (category : Option Category) : Reply :=
  match category with
  | none | some .none => s.refuse .badValue
  | some c =>
    let s := s.consoleStop c
    (s, .done, .asserted s.chain.asserted)

/-! ## Counters (R190) -/

/-- The counters of a block in the order its chapter lists them (R190). -/
def State.counters (s : State) : Block → List Counter
  | .stationPort => s.station.counters.toList
  | .linePort => s.line.counters.toList
  | .frameSwitch => s.switch.counters.toList
  | .postPoller => s.poller.counters.toList
  | .ropeTravel => s.rope.counters.toList
  | .cabinTracker => s.tracker.counters.toList
  | .stationRail => s.rail.counters.toList
  | .doorChannels => s.doors.counters.toList
  | .summitLink => s.link.counters.toList
  | .telephony => s.tel.counters.toList
  | .stopChain => s.chain.counters.toList
  | .adminResponder => s.admin.counters.toList

/-- The status items a block returns with its counters (R18, R147). -/
def State.items (s : State) : Block → BlockItems
  | .stationPort => .port s.station.errors s.station.mode
  | .linePort => .port s.line.errors s.line.mode
  | .summitLink => .link s.link.state s.link.lastBeat s.link.request
  | .frameSwitch | .postPoller | .ropeTravel | .cabinTracker | .stationRail | .doorChannels | .telephony | .stopChain
  | .adminResponder => .none

/-- Up to twelve counters from an index on set to 0 (R190). -/
def clearFrom {n : Nat} (v : Vector Counter n) (start : Nat) : Vector Counter n :=
  (List.range 12).foldl (fun v i => if h : start + i < n then v.set (start + i) 0 h else v) v

/-- The counters of an answer set to 0 after it has been built (R190). -/
def State.clearCounters (s : State) (b : Block) (start : Nat) : State :=
  match b with
  | .stationPort => s.modPort .station fun u => { u with counters := clearFrom u.counters start }
  | .linePort => s.modPort .line fun u => { u with counters := clearFrom u.counters start }
  | .frameSwitch => s.modSwitch fun u => { u with counters := clearFrom u.counters start }
  | .postPoller => s.modPoller fun u => { u with counters := clearFrom u.counters start }
  | .ropeTravel => s.modRope fun u => { u with counters := clearFrom u.counters start }
  | .cabinTracker => s.modTracker fun u => { u with counters := clearFrom u.counters start }
  | .stationRail => s.modRail fun u => { u with counters := clearFrom u.counters start }
  | .doorChannels => s.modDoors fun u => { u with counters := clearFrom u.counters start }
  | .summitLink => s.modLink fun u => { u with counters := clearFrom u.counters start }
  | .telephony => s.modTel fun u => { u with counters := clearFrom u.counters start }
  | .stopChain => s.modChain fun u => { u with counters := clearFrom u.counters start }
  | .adminResponder => s.modAdmin fun u => { u with counters := clearFrom u.counters start }

/-- COUNTERS-READ (R190); the answer is offered by `State.settleRequest` after the clear (log 51). -/
def State.doCountersRead (s : State) (block : Option Block) (start : Nat) (clear : Bool) : Reply :=
  match block with
  | none => s.refuse .badValue
  | some b =>
    let l := s.counters b
    if l.length ≤ start then s.refuse .endOfTable
    else
      (if clear then s.clearCounters b start else s, .done,
        .counters l.length ((l.drop start).take 12) (s.items b))

/-! ## TABLE-READ (R187) -/

/-- The class table entry of an arrival port and a kind (R26). -/
def SwitchUnit.entry (u : SwitchUnit) (p : Port) (k : Kind) : ClassEntry := u.classes[classIndex p k]

/-- The fields of the entry TABLE-READ names; none for an entry outside its table (R187). -/
def State.readTable (s : State) : TableRef → Option TableData
  | .part => some (.part s.admin.part)
  | .cls port kind =>
    match port, kindOfCode kind with
    | some p, some k => some (.cls (s.switch.entry p k))
    | _, _ => none
  | .post number => (post? number).map fun p =>
      let e := s.post p
      .post e.fitted e.absent e.missed e.attention
  | .seat post seat =>
    match post? post, index? seat 4 with
    | some p, some k => some (.seat (s.seat ⟨p, k⟩))
    | _, _ => none
  | .rope => some (.rope s.rope.table)
  | .station entry => entry.map fun d =>
      let u := s.rail.detectors[detectorIndex d]
      .station u.entry (if u.entry.fitted then some u.present else none)
  | .channel number => (index? number 8).map fun k =>
      let c := s.channel k
      .channel c.entry c.state c.mode
  | .group number => (index? number 2).map fun g => .group s.doors.groupTimes[g] s.doors.groupOn[g]
  | .cause code => (causeOfCode code).map fun c => .cause s.chain.table[causeCode c] (causeMinimum c)
  | .telephony => some (.telephony s.tel.table)
  | .cabin => some (.cabin s.tracker.settings)
  | .other => none

/-- TABLE-READ (R187). -/
def State.doTableRead (s : State) (t : TableRef) : Reply :=
  match s.readTable t with
  | some d => (s, .done, .table d)
  | none => s.refuse .badValue

/-! ## TABLE-WRITE (R187) -/

/-- The rope is at standstill (R61). -/
def State.still (s : State) : Bool := s.rope.standstill

/-- Whether a rejoin delay lies in its range: a multiple of 100 from 100 to 25500 (R188). -/
def rejoinInRange (n : Nat) : Bool := decide (100 ≤ n) && decide (n ≤ 25500) && decide (n % 100 = 0)

/-- The part table a write gives; none when a field lies outside its range (R188). -/
def readPart (f : PartFields) : Option PartTable :=
  match f.mask, f.scheduler with
  | some m, some sch =>
    if 64 ≤ f.console ∧ f.console ≤ 79 ∧ 100 ≤ f.rollPeriod ∧ f.rollPeriod ≤ 1000 ∧ 200 ≤ f.samplePeriod ∧
        f.samplePeriod ≤ 2000 ∧ rejoinInRange f.rejoinStation ∧ rejoinInRange f.rejoinLine then
      some ⟨BitVec.ofNat 7 f.console, m, sch, f.rollPeriod, f.samplePeriod, f.rejoinStation, f.rejoinLine, f.notices⟩
    else none
  | _, _ => none

/-- TABLE-WRITE on the part table (R188). The picks already due use the mode before the write (log 4). -/
def State.doPartWrite (s : State) (f : PartFields) : Reply :=
  match readPart f with
  | some t => (((s.settle .station).settle .line).modAdmin fun u => { u with part := t }).done
  | none => s.refuse .badValue

/-- TABLE-WRITE on a class table entry (R26). -/
def State.doClassWrite (s : State) (port : Option Port) (kind : Nat) (action : Option ClassAction) (cls : Nat) : Reply :=
  match port, kindOfCode kind, action, index? cls 4 with
  | some p, some k, some a, some c =>
    (s.modSwitch fun u => { u with classes := upd u.classes (classIndex p k) fun _ => ⟨a, c⟩ }).done
  | _, _, _, _ => s.refuse .badValue

/-- Whether a post write is refused: a newly fitted post's seats would clash (R86). -/
def State.postClashes (s : State) (p : Post) (fitted : Bool) : Bool :=
  fitted && !(s.modPost p fun e => { e with fitted := true }).poller.distinctPositions

/-- TABLE-WRITE on a post entry (R36, R86). -/
def State.doPostWrite (s : State) (number : Nat) (fitted : Bool) : Reply :=
  match post? number with
  | none => s.refuse .badValue
  | some p =>
    if s.postClashes p fitted then s.refuse .badValue
    else if (s.post p).fitted ≠ fitted ∧ s.still = false then s.refuse .inMotion
    else (s.takePostWrite p fitted).done

/-- Whether the number fields of a seat write lie in their ranges (section 3.6, R49). -/
def seatInRange (f : SeatFields) : Bool :=
  decide (f.position ≤ 8000000) && decide (f.window ≤ 65535) && decide (f.warn ≤ 32767) && decide (f.stop ≤ 32767) &&
    decide (1 ≤ f.confirm) && decide (f.confirm ≤ 4) && decide (f.warn ≤ f.stop)

/-- Whether a seat write clashes with the tables: a position not less than the track's length, or one that another seat of
the sequence has (R49). -/
def State.seatClashes (s : State) (r : SeatRef) (f : SeatFields) (t : Track) (m : Compare) : Bool :=
  decide (trackLength s.rope.table t ≤ f.position) ||
    !(s.modSeat r fun e => e.written f t m).poller.distinctPositions

/-- TABLE-WRITE on a seat entry (R49). -/
def State.doSeatWrite (s : State) (post seat : Nat) (f : SeatFields) : Reply :=
  match post? post, index? seat 4, f.track, f.compare with
  | some p, some k, some t, some m =>
    let r : SeatRef := ⟨p, k⟩
    if seatInRange f = false ∨ s.seatClashes r f t m then s.refuse .badValue
    else if (s.seat r).written f t m ≠ s.seat r ∧ s.still = false then s.refuse .inMotion
    else (s.takeSeatWrite r f t m).done
  | _, _, _, _ => s.refuse .badValue

/-- Whether the fields of a rope write lie in their ranges (section 4.1). -/
def ropeInRange (f : RopeFields) : Bool :=
  decide (1 ≤ f.pitch) && decide (f.pitch ≤ 65535) && decide (100 ≤ f.overspeed) && decide (f.overspeed ≤ 20000) &&
    decide (500 ≤ f.tachSilent) && decide (f.tachSilent ≤ 10000) && decide (f.launchUp ≤ 65535) &&
    decide (f.launchDown ≤ 65535) && decide (1000 ≤ f.lengthUp) && decide (f.lengthUp ≤ 8000000) &&
    decide (1000 ≤ f.lengthDown) && decide (f.lengthDown ≤ 8000000) && decide (f.arrivalWindow ≤ 65535) &&
    decide (1 ≤ f.slipLimit) && decide (f.slipLimit ≤ 65535) && decide (1 ≤ f.stopTime) && decide (f.stopTime ≤ 120)

/-- Whether a track length of a rope write is not greater than the position of a fitted seat of its track (R58). -/
def Poller.seatBeyond (u : Poller) (f : RopeFields) : Bool :=
  u.seats.toList.any fun e => e.fitted && decide (trackLength f e.track ≤ e.position)

/-- TABLE-WRITE on the rope table (R58, R71). -/
def State.doRopeWrite (s : State) (f : RopeFields) : Reply :=
  if ropeInRange f = false ∨ s.poller.seatBeyond f then s.refuse .badValue
  else if s.rope.table ≠ f ∧ s.still = false then s.refuse .inMotion
  else ((s.modRope fun u => { u with table := f }).judgeSlip).done

/-- A detector with its entry written; a change of fitted or polarity sets the filter afresh (R98, R100). -/
def DetectorUnit.written (d : DetectorUnit) (e : StationEntry) : DetectorUnit :=
  let w := { d with entry := e }
  if e.fitted = d.entry.fitted ∧ e.polarity = d.entry.polarity then w else detectorAfresh w

/-- TABLE-WRITE on a station table entry (R98). -/
def State.doStationWrite (s : State) (entry : Option Detector) (f : StationFields) : Reply :=
  match entry, f.polarity with
  | some d, some pol =>
    let e : StationEntry := ⟨f.fitted, pol, f.debounce⟩
    if 255 < f.debounce then s.refuse .badValue
    else if (s.rail.detectors[detectorIndex d]).entry ≠ e ∧ s.still = false then s.refuse .inMotion
    else (s.modDetector (detectorIndex d) fun u => u.written e).done
  | _, _ => s.refuse .badValue

/-- Whether a change of a channel's switching is refused: the channel has power, or the group named is on (R115). -/
def State.switchingInUse (s : State) (k : Fin 8) (w : Switching) : Bool :=
  let c := s.channel k
  decide (c.entry.switching ≠ w) &&
    (c.state.powered ||
      match w with
      | .group g => s.doors.groupOn[g]
      | .individual => false)

/-- A channel with its entry written; joining or leaving a group clears the group-off flag (R115). -/
def Channel.written (c : Channel) (e : ChannelEntry) : Channel :=
  { c with entry := e, groupOff := if e.switching = c.entry.switching then c.groupOff else false }

/-- TABLE-WRITE on a channel entry whose fields lie in their ranges (R115, R187). -/
def State.writeChannel (s : State) (k : Fin 8) (e : ChannelEntry) : Reply :=
  if (s.channel k).entry.role ≠ e.role ∧ s.still = false then s.refuse .inMotion
  else if s.switchingInUse k e.switching then s.refuse .inUse
  else (s.modChannel k fun c => c.written e).done

/-- TABLE-WRITE on the channel table (R115). -/
def State.doChannelWrite (s : State) (w : ChannelWrite) : Reply :=
  match w with
  | .channel number role switching powerGood driveTime reverseTime attempts =>
    match index? number 8, role, switching with
    | some k, some r, some sw =>
      if powerGood ≤ 255 ∧ 1 ≤ driveTime ∧ driveTime ≤ 255 ∧ 1 ≤ reverseTime ∧ reverseTime ≤ 50 ∧ 1 ≤ attempts ∧
          attempts ≤ 7 then
        s.writeChannel k ⟨r, sw, powerGood, driveTime, reverseTime, attempts⟩
      else s.refuse .badValue
    | _, _, _ => s.refuse .badValue
  | .group number powerGood =>
    match index? number 2 with
    | some g =>
      if powerGood ≤ 255 then (s.modDoors fun u => { u with groupTimes := u.groupTimes.set g powerGood }).done
      else s.refuse .badValue
    | none => s.refuse .badValue

/-- TABLE-WRITE on a cause table entry (R172): the category is clamped up to the fixed minimum. -/
def State.doCauseWrite (s : State) (code : Nat) (f : CauseFields) : Reply :=
  match causeOfCode code, f.category with
  | some c, some cat =>
    let clamped := decide (cat.rank < (causeMinimum c).rank)
    let taken := cat.sup (causeMinimum c)
    let s := if clamped then s.countChain Ctr.clamp else s
    if taken.rank < ((s.chain.table[causeCode c]).category).rank ∧ s.still = false then s.refuse .inMotion
    else (s.takeCauseWrite c ⟨taken, f.call, f.notice⟩, .done, .causeTaken clamped taken)
  | _, _ => s.refuse .badValue

/-- TABLE-WRITE on the telephony table (R150). -/
def State.doTelephonyWrite (s : State) (f : TelephonyFields) : Reply :=
  if f.hotline ≤ 3 ∧ f.help ≤ 3 ∧ f.operations ≤ 3 then (s.modTel fun u => { u with table := f }).done
  else s.refuse .badValue

/-- TABLE-WRITE on the cabin settings (R75). -/
def State.doSettingsWrite (s : State) (f : CabinSettingsFields) : Reply :=
  match f.cls, f.door with
  | some c, some d =>
    if f.ageTime ≤ 1440 then
      (s.modTracker fun u => { u with settings := ⟨f.learning, f.ageTime, ⟨c, d⟩⟩ }).done
    else s.refuse .badValue
  | _, _ => s.refuse .badValue

/-! ## Cabins and lists (R78 to R82) -/

/-- Whether a cabin ID lies in 1 to 4095 (R75). -/
def cabinInRange (id : Nat) : Bool := decide (1 ≤ id) && decide (id ≤ 4095)

/-- CABIN-LOAD with a fitting profile (R78). -/
def State.loadCabin (s : State) (id : Nat) (p : Profile) : Reply :=
  if (s.tracker.entry id).isSome then
    (s.modTracker fun u => u.modEntry id fun e => { e with kind := .static, profile := p, idle := none }).done
  else if s.tracker.cabins.length < Config.cabinCapacity then
    (s.modTracker fun u => { u with cabins := insertCabin ⟨id, .static, p, .nowhere, 0, none⟩ u.cabins }).done
  else s.refuse .tableFull

/-- CABIN-LOAD (R78). -/
def State.doCabinLoad (s : State) (id : Nat) (cls : Option CabinClass) (door : Option DoorMode) : Reply :=
  match cls, door with
  | some c, some d => if cabinInRange id then s.loadCabin id ⟨c, d⟩ else s.refuse .badValue
  | _, _ => s.refuse .badValue

/-- CABIN-PURGE (R79). -/
def State.doCabinPurge (s : State) (id : Nat) : Reply :=
  if cabinInRange id = false then s.refuse .badValue
  else
    match s.tracker.entry id with
    | none => s.refuse .notFound
    | some e =>
      if e.location ≠ .nowhere then s.refuse .inUse
      else (s.modTracker fun u => { u with cabins := u.cabins.filter fun e => decide (e.id ≠ id) }).done

/-- CABIN-FLUSH-LEARNED (R80). -/
def State.doFlushLearned (s : State) : Reply :=
  (s.modTracker fun u => { u with cabins := u.cabins.filter fun e => !e.ages }, .done,
    .removed (s.tracker.cabins.filter CabinEntry.ages).length)

/-- CABIN-FIND (R81). -/
def State.doCabinFind (s : State) (id : Nat) : Reply :=
  if cabinInRange id = false then s.refuse .badValue
  else
    match s.tracker.entry id with
    | some e => (s, .done, .cabin e)
    | none => s.refuse .notFound

/-- CABIN-NEXT (R81). The table is kept in rising order of ID. An ID above 4095 is refused (log 23). -/
def State.doCabinNext (s : State) (id : Nat) : Reply :=
  if 4095 < id then s.refuse .badValue
  else
    match s.tracker.cabins.find? fun e => decide (id < e.id) with
    | some e => (s, .done, .cabin e)
    | none => s.refuse .endOfTable

/-- Up to four train list records from a position on, with their corrected positions (R66, R82). -/
def State.trainViews (s : State) (t : Track) (position : Nat) : List TrainView :=
  (((s.tracker.lists.get t).drop position).take 4).map fun r => ⟨r, s.rope.position t r⟩

/-- LIST-READ of a train list (R82). -/
def State.readTrain (s : State) (t : Track) (position : Nat) : Reply :=
  let n := (s.tracker.lists.get t).length
  if Config.trainCapacity ≤ position then s.refuse .badValue
  else if n ≤ position then (s, .endOfTable, .length n)
  else (s, .done, .trains n (s.trainViews t position))

/-- LIST-READ of the station list (R82). -/
def State.readStation (s : State) (position : Nat) : Reply :=
  let l := s.rail.cabins
  if Config.stationCapacity ≤ position then s.refuse .badValue
  else if l.length ≤ position then (s, .endOfTable, .length l.length)
  else (s, .done, .stations l.length ((l.drop position).take 4))

/-- LIST-READ (R82). -/
def State.doListRead (s : State) (list : Option ListName) (position : Nat) : Reply :=
  match list with
  | none => s.refuse .badValue
  | some .up => s.readTrain .up position
  | some .down => s.readTrain .down position
  | some .station => s.readStation position

/-! ## Tracks (R84) -/

/-- TRACK-ON (R84). -/
def State.doTrackOn (s : State) (track : Option Track) : Reply :=
  match track with
  | none => s.refuse .badValue
  | some t => if s.tracker.modes.get t = .tracked then s.done else (s.changeTrackMode t .tracked).done

/-- TRACK-OFF (R84). A track other than UP and DOWN is refused with BAD_VALUE before the motion is judged, and the motion
is judged before the mode: the model's order (log 34). -/
def State.doTrackOff (s : State) (track : Option Track) : Reply :=
  match track with
  | none => s.refuse .badValue
  | some t =>
    if s.still = false then s.refuse .inMotion
    else if s.tracker.modes.get t = .untracked then s.done
    else (s.takeTrackOff t).done

/-! ## Door channels (R117, R118, R122, R130, R134) -/

/-- CHANNEL-POWER on an INDIVIDUAL channel (R118). -/
def State.powerChannel (s : State) (k : Fin 8) (on : Bool) : Reply :=
  let c := s.channel k
  if on then
    if c.state = .fault then s.refuse .badRequest
    else if c.state = .unpowered then (s.channelOn k).done
    else s.done
  else (s.channelOff k).done

/-- CHANNEL-POWER (R118). -/
def State.doChannelPower (s : State) (channel : Nat) (on : Bool) : Reply :=
  match index? channel 8 with
  | none => s.refuse .badValue
  | some k =>
    match (s.channel k).entry.switching with
    | .group _ => s.refuse .badRequest
    | .individual => s.powerChannel k on

/-- GROUP-POWER (R117). -/
def State.doGroupPower (s : State) (group : Nat) (on : Bool) : Reply :=
  match index? group 2 with
  | none => s.refuse .badValue
  | some g =>
    if on then
      if (s.members g).any fun k => decide ((s.channel k).state = .fault) then s.refuse .badRequest
      else if s.doors.groupOn[g] then s.done
      else (s.groupOn g).done
    else (s.groupOff g).done

/-- CHANNEL-RESET (R122). -/
def State.doChannelReset (s : State) (channel : Nat) : Reply :=
  match index? channel 8 with
  | none => s.refuse .badValue
  | some k =>
    if (s.channel k).state = .fault then (s.resetFault k, .done, .wasFault true) else (s, .done, .wasFault false)

/-- CHANNEL-LOCKOUT (R130). -/
def State.doChannelLockout (s : State) (channel : Nat) (on : Bool) : Reply :=
  match index? channel 8 with
  | none => s.refuse .badValue
  | some k => (s.lockout k on).done

/-- A channel's record as CHANNEL-READ returns it (R134); of an action in flight it returns the kind alone, without the role,
times and attempts of its start (log 52). -/
def Channel.view (c : Channel) : ChannelView :=
  { state := c.state, mode := c.mode, served := c.served.map fun v => (v.number, v.cabin), action := c.actionKind,
    attemptsLeft := c.attemptsLeft, gateOpen := c.gateOpen, fault := c.fault, groupOff := c.groupOff,
    changes := c.changes, pins := c.pins, driveOpen := c.driveOpen, driveClose := c.driveClose }

/-- CHANNEL-READ: the change set is emptied after the answer has been built (R134). -/
def State.doChannelRead (s : State) (channel : Nat) : Reply :=
  match index? channel 8 with
  | none => s.refuse .badValue
  | some k => (s.modChannel k fun c => { c with changes := noChanges }, .done, .channel (s.channel k).view)

/-! ## Posts, permits, calls (R48, R155, R178, R179) -/

/-- POST-CLEAR (R48). -/
def State.doPostClear (s : State) (post : Nat) : Reply :=
  match post? post with
  | none => s.refuse .badValue
  | some p =>
    match s.sendPostClear p with
    | (s, appended) => (s, .done, .appended appended)

/-- RESTART-PERMIT (R178). -/
def State.doRestartPermit (s : State) : Reply :=
  if s.still then
    let s := s.permit
    let left := s.chain.causes.length
    (s, if left = 0 then .done else .partially, .permit left s.chain.asserted)
  else (s.countChain Ctr.refusedPermit).refuse .inMotion

/-- CAUSES-CLEAR-NOTICES (R179). -/
def State.doClearNotices (s : State) : Reply :=
  (s.clearNotices, .done, .removed (s.chain.causes.filter CauseRecord.clearable).length)

/-- The remote CALL-PLACE names: a summit line, or LOCAL; none outside its values (R155). -/
def readRemote (r : PlaceRemote) : Option (Option (Fin 4)) :=
  match r with
  | .summit line => (index? line 4).map some
  | .localLine => some none
  | .other => none

/-- CALL-PLACE (R155). -/
def State.doCallPlace (s : State) (remote : PlaceRemote) (priority : Option Priority) : Reply :=
  match readRemote remote, priority with
  | some r, some p =>
    match s.placeCall r p with
    | (s, result, some i) => (s, result, .record i.val)
    | (s, result, none) => (s, result, .empty)
  | _, _ => s.refuse .badValue

/-- CALL-CLEAR (R155). -/
def State.doCallClear (s : State) (record : Nat) : Reply :=
  match index? record 4 with
  | none => s.refuse .badValue
  | some i =>
    if (s.record i).state = .free then s.refuse .notFound else (s.freeCall i .normal false true).done

end Sys2Proof.Machine
end

