-- ==== Sys2Proof/Machine/Resets.lean ====
section
/-! DEFINITION. The resets as whole sequences: hard reset and the reset pin (R192), soft restart (R193). -/

namespace Sys2Proof.Machine

/-- The states of the five stop chain inputs, kept through a reset (R171). -/
def StopChain.levels (u : StopChain) : Vector Bool 5 := ⟨(u.filters.toList.map fun f => f.level).toArray, by simp⟩

/-- The levels of the nine detector inputs, kept through a reset (R99). -/
def StationRail.levels (u : StationRail) : Vector Bool 9 := ⟨(u.detectors.toList.map fun d => d.level).toArray, by simp⟩

/-- The levels of the eight channels' inputs, kept through a reset (R116). -/
def Doors.pins (u : Doors) : Vector ChannelPins 8 := ⟨(u.channels.toList.map fun c => c.pins).toArray, by simp⟩

/-- Every block at its hard reset values; input levels and the waiting commands stay (R192). -/
def State.hardValues (s : State) : State :=
  { station := portInitial, line := portInitial, switch := switchInitial, poller := pollerInitial partDefault
    rope := ropeInitial s.rope.driveRun s.rope.direction
    tracker := trackerInitial, rail := railInitial s.rail.levels, doors := doorsInitial s.doors.pins, link := linkInitial
    tel := telephonyReset telephonyDefault s.tel.hooks
    chain := chainReset causeTableDefault s.chain.levels
    admin := adminInitial, pinHeld := s.pinHeld, pending := s.pending }

/-- Every block at its soft restart values (R193). -/
def State.softValues (s : State) : State :=
  { station := portInitial, line := portInitial, switch := switchSoft s.switch
    poller := pollerSoft s.admin.part s.poller
    rope := ropeSoft s.rope
    tracker := trackerSoft s.poller s.tracker, rail := railSoft s.rail, doors := doorsSoft s.doors, link := linkInitial
    tel := telephonyReset s.tel.table s.tel.hooks
    chain := chainReset s.chain.table s.chain.levels
    admin := adminSoft s.admin, pinHeld := s.pinHeld, pending := s.pending }

/-- What a reset hands on once every block has its values: the notice of A, the entry of RESET_LATCH, then SUMMIT_SILENT
(R148, R183; log 10). -/
def State.handOnReset (s : State) (old : Category) : State :=
  ((s.notice (.category old .emergency)).handOnEntry (resetLatchRecord s.chain.table)).raiseHeld .summitSilent {}

/-- A hard reset: power-on, or the release of the reset pin (R192). -/
def State.hardReset (s : State) : State :=
  State.handOnReset { s.hardValues with pinHeld := false } s.chain.asserted

/-- A soft restart (R193). -/
def State.softRestart (s : State) : State := s.softValues.handOnReset s.chain.asserted

/-- The reset pin is asserted: every block is held at its reset values (R192; log 11). -/
def State.holdReset (s : State) : State := { s.hardValues with pinHeld := true }

/-! ## Commands -/

/-- HARD_RESET (R192). -/
def execHardReset (s : State) : Out := .next s.hardReset

/-- RESET_PIN_ASSERTED (R192). -/
def execResetPinAsserted (s : State) : Out := .next s.holdReset

end Sys2Proof.Machine
end

