-- ==== Sys2Proof/Machine/Admin.lean ====
section
/-! DEFINITION. The admin responder: rights (R185), answers (R186), and the commands of the admin requests. Each command is
the request's taking at its consumption; FRAME_RECEIVED runs the same operation for a request it carries (log 7). -/

namespace Sys2Proof.Machine

/-! ## Rights and answers -/

/-- A console request: from the station port and the console address as it stands (R185 step 2). -/
def State.isConsole (s : State) (rq : Requester) : Bool :=
  decide (rq.port = .station) && decide (rq.src = s.admin.part.console)

/-- A summit request: from the line port and source 63 (R185 step 2). -/
def isSummitRequest (rq : Requester) : Bool := decide (rq.port = .line) && decide (rq.src = summitAddr)

/-- The requests the summit may use (R185 step 2). -/
def summitMay : RequestCode → Bool
  | .identify | .statusRead | .causesRead | .stop => true
  | .countersRead | .tableRead | .tableWrite | .cabinLoad | .cabinPurge | .cabinFlushLearned | .cabinFind | .cabinNext
  | .listRead | .trackOn | .trackOff | .channelPower | .groupPower | .channelReset | .channelLockout | .channelRead
  | .postClear | .restartPermit | .causesClearNotices | .callPlace | .callClear | .restartPart | .other _ => false

/-- Whether a requester has the right to a request (R185 step 2). -/
def State.mayRequest (s : State) (rq : Requester) (code : RequestCode) : Bool :=
  s.isConsole rq || (isSummitRequest rq && summitMay code)

/-- The port an answer to a source address leaves on; none for 0 and above 79 (R186). -/
def answerPort (src : Addr) : Option Port :=
  if 1 ≤ src.toNat ∧ src.toNat ≤ 63 then some .line
  else if 64 ≤ src.toNat ∧ src.toNat ≤ 79 then some .station
  else none

/-- The ADMIN_ANSWER of a request (R3, R9, R186). -/
def answerFrame (src : Addr) (code : RequestCode) (tag : Byte) (result : Result) (data : AnswerData) : Frame :=
  ownFrame src .adminAnswer 0 (.built (.answer code tag result data)) .own

/-- One answer built for a judged request and offered in class 3, or the request counted as unanswerable (R186). -/
def State.answerTo (s : State) (src : Addr) (code : RequestCode) (tag : Byte) (result : Result) (data : AnswerData) :
    State :=
  match answerPort src with
  | some p => s.offer p 3 (answerFrame src code tag result data)
  | none => s.countAdmin Ctr.unanswerable

/-- A settled request is answered, and counted in the request counter of its result (R185, R186; log 14). -/
def State.settleRequest (rq : Requester) (code : RequestCode) (tag : Byte) (r : Reply) : State :=
  (r.1.answerTo rq.src code tag r.2.1 r.2.2).countAdmin (Ctr.request (resultIndex r.2.1))

/-- A request judged for its rights, then handed to its own rule (R185 steps 2 and 4). -/
def State.request (s : State) (rq : Requester) (code : RequestCode) (tag : Byte) (own : State → Reply) : State :=
  State.settleRequest rq code tag
    (if s.mayRequest rq code then own s else (s.countAdmin Ctr.notPermitted).refuse .notPermitted)

/-- A request with an unknown code, or parameters that do not fit its code (R185 steps 2 and 3). -/
def State.onMisfit (s : State) (rq : Requester) (tag : Byte) (code : RequestCode) : State :=
  s.request rq code tag fun s => s.refuse .badRequest

/-! ## The requests -/

/-- A IDENTIFY request (R185, R189). -/
def State.onIdentify (s : State) (rq : Requester) (tag : Byte) : State :=
  s.request rq .identify tag State.doIdentify

/-- A STATUS_READ request (R185, R189). -/
def State.onStatusRead (s : State) (rq : Requester) (tag : Byte) : State :=
  s.request rq .statusRead tag State.doStatusRead

/-- A CAUSES_READ request (R185, R182). -/
def State.onCausesRead (s : State) (rq : Requester) (tag : Byte) (position : Nat) : State :=
  s.request rq .causesRead tag (fun s => s.doCausesRead position)

/-- A STOP request (R185, R180). -/
def State.onStop (s : State) (rq : Requester) (tag : Byte) (category : Option Category) : State :=
  s.request rq .stop tag (fun s => s.doStop category)

/-- A COUNTERS_READ request (R185, R190). -/
def State.onCountersRead (s : State) (rq : Requester) (tag : Byte) (block : Option Block) (start : Nat) (clear : Bool) : State :=
  s.request rq .countersRead tag (fun s => s.doCountersRead block start clear)

/-- A TABLE_READ request (R185, R187). -/
def State.onTableRead (s : State) (rq : Requester) (tag : Byte) (table : TableRef) : State :=
  s.request rq .tableRead tag (fun s => s.doTableRead table)

/-- A PART_TABLE_WRITE request (R185, R188). -/
def State.onPartTableWrite (s : State) (rq : Requester) (tag : Byte) (f : PartFields) : State :=
  s.request rq .tableWrite tag (fun s => s.doPartWrite f)

/-- A CLASS_TABLE_WRITE request (R185, R26). -/
def State.onClassTableWrite (s : State) (rq : Requester) (tag : Byte) (port : Option Port) (kind : Nat) (action : Option ClassAction) (cls : Nat) : State :=
  s.request rq .tableWrite tag (fun s => s.doClassWrite port kind action cls)

/-- A POST_TABLE_WRITE request (R185, R36). -/
def State.onPostTableWrite (s : State) (rq : Requester) (tag : Byte) (number : Nat) (fitted : Bool) : State :=
  s.request rq .tableWrite tag (fun s => s.doPostWrite number fitted)

/-- A SEAT_TABLE_WRITE request (R185, R49). -/
def State.onSeatTableWrite (s : State) (rq : Requester) (tag : Byte) (post : Nat) (seat : Nat) (f : SeatFields) : State :=
  s.request rq .tableWrite tag (fun s => s.doSeatWrite post seat f)

/-- A ROPE_TABLE_WRITE request (R185, R58). -/
def State.onRopeTableWrite (s : State) (rq : Requester) (tag : Byte) (f : RopeFields) : State :=
  s.request rq .tableWrite tag (fun s => s.doRopeWrite f)

/-- A STATION_TABLE_WRITE request (R185, R98). -/
def State.onStationTableWrite (s : State) (rq : Requester) (tag : Byte) (entry : Option Detector) (f : StationFields) : State :=
  s.request rq .tableWrite tag (fun s => s.doStationWrite entry f)

/-- A CHANNEL_TABLE_WRITE request (R185, R115). -/
def State.onChannelTableWrite (s : State) (rq : Requester) (tag : Byte) (w : ChannelWrite) : State :=
  s.request rq .tableWrite tag (fun s => s.doChannelWrite w)

/-- A CAUSE_TABLE_WRITE request (R185, R172). -/
def State.onCauseTableWrite (s : State) (rq : Requester) (tag : Byte) (code : Nat) (f : CauseFields) : State :=
  s.request rq .tableWrite tag (fun s => s.doCauseWrite code f)

/-- A TELEPHONY_TABLE_WRITE request (R185, R150). -/
def State.onTelephonyTableWrite (s : State) (rq : Requester) (tag : Byte) (f : TelephonyFields) : State :=
  s.request rq .tableWrite tag (fun s => s.doTelephonyWrite f)

/-- A CABIN_SETTINGS_WRITE request (R185, R75). -/
def State.onCabinSettingsWrite (s : State) (rq : Requester) (tag : Byte) (f : CabinSettingsFields) : State :=
  s.request rq .tableWrite tag (fun s => s.doSettingsWrite f)

/-- A CABIN_LOAD request (R185, R78). -/
def State.onCabinLoad (s : State) (rq : Requester) (tag : Byte) (id : Nat) (cls : Option CabinClass) (door : Option DoorMode) : State :=
  s.request rq .cabinLoad tag (fun s => s.doCabinLoad id cls door)

/-- A CABIN_PURGE request (R185, R79). -/
def State.onCabinPurge (s : State) (rq : Requester) (tag : Byte) (id : Nat) : State :=
  s.request rq .cabinPurge tag (fun s => s.doCabinPurge id)

/-- A CABIN_FLUSH_LEARNED request (R185, R80). -/
def State.onCabinFlushLearned (s : State) (rq : Requester) (tag : Byte) : State :=
  s.request rq .cabinFlushLearned tag State.doFlushLearned

/-- A CABIN_FIND request (R185, R81). -/
def State.onCabinFind (s : State) (rq : Requester) (tag : Byte) (id : Nat) : State :=
  s.request rq .cabinFind tag (fun s => s.doCabinFind id)

/-- A CABIN_NEXT request (R185, R81). -/
def State.onCabinNext (s : State) (rq : Requester) (tag : Byte) (id : Nat) : State :=
  s.request rq .cabinNext tag (fun s => s.doCabinNext id)

/-- A LIST_READ request (R185, R82). -/
def State.onListRead (s : State) (rq : Requester) (tag : Byte) (list : Option ListName) (position : Nat) : State :=
  s.request rq .listRead tag (fun s => s.doListRead list position)

/-- A TRACK_ON request (R185, R84). -/
def State.onTrackOn (s : State) (rq : Requester) (tag : Byte) (track : Option Track) : State :=
  s.request rq .trackOn tag (fun s => s.doTrackOn track)

/-- A TRACK_OFF request (R185, R84). -/
def State.onTrackOff (s : State) (rq : Requester) (tag : Byte) (track : Option Track) : State :=
  s.request rq .trackOff tag (fun s => s.doTrackOff track)

/-- A CHANNEL_POWER request (R185, R118). -/
def State.onChannelPower (s : State) (rq : Requester) (tag : Byte) (channel : Nat) (on : Bool) : State :=
  s.request rq .channelPower tag (fun s => s.doChannelPower channel on)

/-- A GROUP_POWER request (R185, R117). -/
def State.onGroupPower (s : State) (rq : Requester) (tag : Byte) (group : Nat) (on : Bool) : State :=
  s.request rq .groupPower tag (fun s => s.doGroupPower group on)

/-- A CHANNEL_RESET request (R185, R122). -/
def State.onChannelReset (s : State) (rq : Requester) (tag : Byte) (channel : Nat) : State :=
  s.request rq .channelReset tag (fun s => s.doChannelReset channel)

/-- A CHANNEL_LOCKOUT request (R185, R130). -/
def State.onChannelLockout (s : State) (rq : Requester) (tag : Byte) (channel : Nat) (on : Bool) : State :=
  s.request rq .channelLockout tag (fun s => s.doChannelLockout channel on)

/-- A CHANNEL_READ request (R185, R134). -/
def State.onChannelRead (s : State) (rq : Requester) (tag : Byte) (channel : Nat) : State :=
  s.request rq .channelRead tag (fun s => s.doChannelRead channel)

/-- A POST_CLEAR request (R185, R48). -/
def State.onPostClear (s : State) (rq : Requester) (tag : Byte) (post : Nat) : State :=
  s.request rq .postClear tag (fun s => s.doPostClear post)

/-- A RESTART_PERMIT request (R185, R178). -/
def State.onRestartPermit (s : State) (rq : Requester) (tag : Byte) : State :=
  s.request rq .restartPermit tag State.doRestartPermit

/-- A CAUSES_CLEAR_NOTICES request (R185, R179). -/
def State.onCausesClearNotices (s : State) (rq : Requester) (tag : Byte) : State :=
  s.request rq .causesClearNotices tag State.doClearNotices

/-- A CALL_PLACE request (R185, R155). -/
def State.onCallPlace (s : State) (rq : Requester) (tag : Byte) (remote : PlaceRemote) (priority : Option Priority) : State :=
  s.request rq .callPlace tag (fun s => s.doCallPlace remote priority)

/-- A CALL_CLEAR request (R185, R155). -/
def State.onCallClear (s : State) (rq : Requester) (tag : Byte) (record : Nat) : State :=
  s.request rq .callClear tag (fun s => s.doCallClear record)

/-- A TABLE-WRITE on a table outside the ten (R187). -/
def State.onOtherWrite (s : State) (rq : Requester) (tag : Byte) : State :=
  s.request rq .tableWrite tag fun s => s.refuse .badValue

/-- A RESTART_PART request (R185, R193): refused with IN_MOTION, or answered DONE with the soft restart after the
answer. -/
def State.onRestartPart (s : State) (rq : Requester) (tag : Byte) : State :=
  if s.mayRequest rq .restartPart && s.still then
    (s.request rq .restartPart tag State.done).softRestart
  else s.request rq .restartPart tag fun s => s.refuse .inMotion

/-- A request with fitting parameters, from an ADMIN_REQUEST frame (R185). -/
def State.runRequest (s : State) (rq : Requester) (tag : Byte) : Request → State
  | .identify => s.onIdentify rq tag
  | .statusRead => s.onStatusRead rq tag
  | .causesRead position => s.onCausesRead rq tag position
  | .stop category => s.onStop rq tag category
  | .countersRead block start clear => s.onCountersRead rq tag block start clear
  | .tableRead table => s.onTableRead rq tag table
  | .partWrite f => s.onPartTableWrite rq tag f
  | .classWrite port kind action cls => s.onClassTableWrite rq tag port kind action cls
  | .postWrite number fitted => s.onPostTableWrite rq tag number fitted
  | .seatWrite post seat f => s.onSeatTableWrite rq tag post seat f
  | .ropeWrite f => s.onRopeTableWrite rq tag f
  | .stationWrite entry f => s.onStationTableWrite rq tag entry f
  | .channelWrite w => s.onChannelTableWrite rq tag w
  | .causeWrite code f => s.onCauseTableWrite rq tag code f
  | .telephonyWrite f => s.onTelephonyTableWrite rq tag f
  | .cabinSettingsWrite f => s.onCabinSettingsWrite rq tag f
  | .cabinLoad id cls door => s.onCabinLoad rq tag id cls door
  | .cabinPurge id => s.onCabinPurge rq tag id
  | .cabinFlushLearned => s.onCabinFlushLearned rq tag
  | .cabinFind id => s.onCabinFind rq tag id
  | .cabinNext id => s.onCabinNext rq tag id
  | .listRead list position => s.onListRead rq tag list position
  | .trackOn track => s.onTrackOn rq tag track
  | .trackOff track => s.onTrackOff rq tag track
  | .channelPower channel on => s.onChannelPower rq tag channel on
  | .groupPower group on => s.onGroupPower rq tag group on
  | .channelReset channel => s.onChannelReset rq tag channel
  | .channelLockout channel on => s.onChannelLockout rq tag channel on
  | .channelRead channel => s.onChannelRead rq tag channel
  | .postClear post => s.onPostClear rq tag post
  | .restartPermit => s.onRestartPermit rq tag
  | .causesClearNotices => s.onCausesClearNotices rq tag
  | .callPlace remote priority => s.onCallPlace rq tag remote priority
  | .callClear record => s.onCallClear rq tag record
  | .otherWrite => s.onOtherWrite rq tag
  | .restartPart => s.onRestartPart rq tag

/-- The least length of a payload that carries a request code and a tag (R185 step 1; log 48). -/
def leastRequest : Nat := 2

/-- An ADMIN_REQUEST consumed by the admin responder (R185). A payload too short for a code and a tag is malformed, whatever
the operand reads. A longer one that the operand does not read as a request carries an unknown code, and its code and tag
are what stands in it (log 48). -/
def State.takeAdmin (s : State) (rq : Requester) (payload : List Byte) (contents : Contents) : State :=
  if payload.length < leastRequest then s.countAdmin Ctr.malformedRequest
  else
    match contents with
    | .admin tag (.fits r) => s.runRequest rq tag r
    | .admin tag (.misfit code) => s.onMisfit rq tag code
    | .unread | .beat _ _ | .terminal _ _ _ | .call _ _ _ _ _ _ | .voice _ _ _ =>
      s.onMisfit rq (Config.requestTag payload) (.other (Config.requestCode payload))

/-! ## Commands -/

/-- IDENTIFY (R189). -/
def execIdentify (rq : Requester) (tag : Byte) (s : State) : Out :=
  s.live fun s => s.onIdentify rq tag

/-- STATUS_READ (R189). -/
def execStatusRead (rq : Requester) (tag : Byte) (s : State) : Out :=
  s.live fun s => s.onStatusRead rq tag

/-- CAUSES_READ (R182). -/
def execCausesRead (rq : Requester) (tag : Byte) (position : Nat) (s : State) : Out :=
  s.live fun s => s.onCausesRead rq tag position

/-- STOP (R180). -/
def execStop (rq : Requester) (tag : Byte) (category : Option Category) (s : State) : Out :=
  s.live fun s => s.onStop rq tag category

/-- COUNTERS_READ (R190). -/
def execCountersRead (rq : Requester) (tag : Byte) (block : Option Block) (start : Nat) (clear : Bool) (s : State) : Out :=
  s.live fun s => s.onCountersRead rq tag block start clear

/-- TABLE_READ (R187). -/
def execTableRead (rq : Requester) (tag : Byte) (table : TableRef) (s : State) : Out :=
  s.live fun s => s.onTableRead rq tag table

/-- PART_TABLE_WRITE (R188). -/
def execPartTableWrite (rq : Requester) (tag : Byte) (f : PartFields) (s : State) : Out :=
  s.live fun s => s.onPartTableWrite rq tag f

/-- CLASS_TABLE_WRITE (R26). -/
def execClassTableWrite (rq : Requester) (tag : Byte) (port : Option Port) (kind : Nat) (action : Option ClassAction) (cls : Nat) (s : State) : Out :=
  s.live fun s => s.onClassTableWrite rq tag port kind action cls

/-- POST_TABLE_WRITE (R36). -/
def execPostTableWrite (rq : Requester) (tag : Byte) (number : Nat) (fitted : Bool) (s : State) : Out :=
  s.live fun s => s.onPostTableWrite rq tag number fitted

/-- SEAT_TABLE_WRITE (R49). -/
def execSeatTableWrite (rq : Requester) (tag : Byte) (post : Nat) (seat : Nat) (f : SeatFields) (s : State) : Out :=
  s.live fun s => s.onSeatTableWrite rq tag post seat f

/-- ROPE_TABLE_WRITE (R58). -/
def execRopeTableWrite (rq : Requester) (tag : Byte) (f : RopeFields) (s : State) : Out :=
  s.live fun s => s.onRopeTableWrite rq tag f

/-- STATION_TABLE_WRITE (R98). -/
def execStationTableWrite (rq : Requester) (tag : Byte) (entry : Option Detector) (f : StationFields) (s : State) : Out :=
  s.live fun s => s.onStationTableWrite rq tag entry f

/-- CHANNEL_TABLE_WRITE (R115). -/
def execChannelTableWrite (rq : Requester) (tag : Byte) (w : ChannelWrite) (s : State) : Out :=
  s.live fun s => s.onChannelTableWrite rq tag w

/-- CAUSE_TABLE_WRITE (R172). -/
def execCauseTableWrite (rq : Requester) (tag : Byte) (code : Nat) (f : CauseFields) (s : State) : Out :=
  s.live fun s => s.onCauseTableWrite rq tag code f

/-- TELEPHONY_TABLE_WRITE (R150). -/
def execTelephonyTableWrite (rq : Requester) (tag : Byte) (f : TelephonyFields) (s : State) : Out :=
  s.live fun s => s.onTelephonyTableWrite rq tag f

/-- CABIN_SETTINGS_WRITE (R75). -/
def execCabinSettingsWrite (rq : Requester) (tag : Byte) (f : CabinSettingsFields) (s : State) : Out :=
  s.live fun s => s.onCabinSettingsWrite rq tag f

/-- CABIN_LOAD (R78). -/
def execCabinLoad (rq : Requester) (tag : Byte) (id : Nat) (cls : Option CabinClass) (door : Option DoorMode) (s : State) : Out :=
  s.live fun s => s.onCabinLoad rq tag id cls door

/-- CABIN_PURGE (R79). -/
def execCabinPurge (rq : Requester) (tag : Byte) (id : Nat) (s : State) : Out :=
  s.live fun s => s.onCabinPurge rq tag id

/-- CABIN_FLUSH_LEARNED (R80). -/
def execCabinFlushLearned (rq : Requester) (tag : Byte) (s : State) : Out :=
  s.live fun s => s.onCabinFlushLearned rq tag

/-- CABIN_FIND (R81). -/
def execCabinFind (rq : Requester) (tag : Byte) (id : Nat) (s : State) : Out :=
  s.live fun s => s.onCabinFind rq tag id

/-- CABIN_NEXT (R81). -/
def execCabinNext (rq : Requester) (tag : Byte) (id : Nat) (s : State) : Out :=
  s.live fun s => s.onCabinNext rq tag id

/-- LIST_READ (R82). -/
def execListRead (rq : Requester) (tag : Byte) (list : Option ListName) (position : Nat) (s : State) : Out :=
  s.live fun s => s.onListRead rq tag list position

/-- TRACK_ON (R84). -/
def execTrackOn (rq : Requester) (tag : Byte) (track : Option Track) (s : State) : Out :=
  s.live fun s => s.onTrackOn rq tag track

/-- TRACK_OFF (R84). -/
def execTrackOff (rq : Requester) (tag : Byte) (track : Option Track) (s : State) : Out :=
  s.live fun s => s.onTrackOff rq tag track

/-- CHANNEL_POWER (R118). -/
def execChannelPower (rq : Requester) (tag : Byte) (channel : Nat) (on : Bool) (s : State) : Out :=
  s.live fun s => s.onChannelPower rq tag channel on

/-- GROUP_POWER (R117). -/
def execGroupPower (rq : Requester) (tag : Byte) (group : Nat) (on : Bool) (s : State) : Out :=
  s.live fun s => s.onGroupPower rq tag group on

/-- CHANNEL_RESET (R122). -/
def execChannelReset (rq : Requester) (tag : Byte) (channel : Nat) (s : State) : Out :=
  s.live fun s => s.onChannelReset rq tag channel

/-- CHANNEL_LOCKOUT (R130). -/
def execChannelLockout (rq : Requester) (tag : Byte) (channel : Nat) (on : Bool) (s : State) : Out :=
  s.live fun s => s.onChannelLockout rq tag channel on

/-- CHANNEL_READ (R134). -/
def execChannelRead (rq : Requester) (tag : Byte) (channel : Nat) (s : State) : Out :=
  s.live fun s => s.onChannelRead rq tag channel

/-- POST_CLEAR (R48). -/
def execPostClear (rq : Requester) (tag : Byte) (post : Nat) (s : State) : Out :=
  s.live fun s => s.onPostClear rq tag post

/-- RESTART_PERMIT (R178). -/
def execRestartPermit (rq : Requester) (tag : Byte) (s : State) : Out :=
  s.live fun s => s.onRestartPermit rq tag

/-- CAUSES_CLEAR_NOTICES (R179). -/
def execCausesClearNotices (rq : Requester) (tag : Byte) (s : State) : Out :=
  s.live fun s => s.onCausesClearNotices rq tag

/-- CALL_PLACE (R155). -/
def execCallPlace (rq : Requester) (tag : Byte) (remote : PlaceRemote) (priority : Option Priority) (s : State) : Out :=
  s.live fun s => s.onCallPlace rq tag remote priority

/-- CALL_CLEAR (R155). -/
def execCallClear (rq : Requester) (tag : Byte) (record : Nat) (s : State) : Out :=
  s.live fun s => s.onCallClear rq tag record

/-- RESTART_PART (R193). -/
def execRestartPart (rq : Requester) (tag : Byte) (s : State) : Out := s.live fun s => s.onRestartPart rq tag

end Sys2Proof.Machine
end

