-- ==== Sys2Proof/Machine/Switch.lean ====
section
/-! DEFINITION. The frame switch (R19 to R29) and the reception of a frame by a port (R11, R12, R16), with every consumer
behind it. -/

namespace Sys2Proof.Machine

/-! ## The decision -/

/-- The four kinds the station port may not carry (R20). -/
def protectedKind : Kind → Bool
  | .roll | .mark | .ask | .postClear => true
  | .report | .beat | .terminalEvent | .call | .voice | .adminRequest | .adminAnswer | .notice | .data => false

/-- Whether a frame comes from the summit: on the line port from source 63 (R21). -/
def fromSummit (p : Port) (f : Frame) : Bool := decide (p = .line) && decide (f.src = summitAddr)

/-- Whether a frame comes on the line port from the post of the outstanding ask (R21). -/
def State.fromAsked (s : State) (p : Port) (f : Frame) : Bool :=
  decide (p = .line) &&
    match s.poller.ask with
    | some a => decide (f.src = postAddr a.post)
    | none => false

/-- What step 2 makes of a frame. -/
inductive Verdict where
  | consumed
  | wrongSource
  | noConsumer
  | through
  deriving DecidableEq, Repr

/-- Consumed when a test holds, else from the wrong source (R21, R22). -/
def consumedIf (b : Bool) : Verdict := if b then .consumed else .wrongSource

/-- Step 2: consumption, by kind (R21, R22). -/
def State.judgeConsumption (s : State) (p : Port) (k : Kind) (f : Frame) : Verdict :=
  match k with
  | .roll => consumedIf (decide (p = .line) && f.returning)
  | .report => consumedIf (s.fromAsked p f)
  | .beat | .terminalEvent => consumedIf (fromSummit p f)
  | .call | .voice => if f.dst = 0 then consumedIf (fromSummit p f) else .through
  | .adminRequest => if f.dst = 0 then .consumed else .through
  | .mark | .ask | .adminAnswer | .notice | .postClear | .data => if f.dst = 0 then .noConsumer else .through

/-- What step 3 makes of a frame: an out port, a hairpin, or an unknown address (R24, R25). -/
inductive Route where
  | out (p : Port)
  | hairpin
  | unknown
  deriving DecidableEq, Repr

/-- Whether the unknown-address mask names a port (R25). -/
def maskNames (m : Mask) (p : Port) : Bool :=
  match m, p with
  | .t, .station | .l, .line | .both, _ => true
  | .t, .line | .l, .station | .neither, _ => false

/-- A chosen out port, or a hairpin when it is the arrival port (R24). -/
def routeTo (arrival out : Port) : Route := if out = arrival then .hairpin else .out out

/-- Step 3: the out port by destination (R24, R25). -/
def routeOf (m : Mask) (arrival : Port) (dst : Addr) : Route :=
  let d := dst.toNat
  if (1 ≤ d ∧ d ≤ 48) ∨ d = 63 then routeTo arrival .line
  else if 64 ≤ d ∧ d ≤ 79 then routeTo arrival .station
  else if d = 127 then .out (otherPort arrival)
  else if maskNames m (otherPort arrival) then .out (otherPort arrival)
  else .unknown

/-! ## The console's copy (R23, R28) -/

/-- A copy of a line-port frame offered to the station port for the console, and counted (R23, R28). -/
def State.copyToConsole (s : State) (p : Port) (c : Fin 4) (f : Frame) : State :=
  (s.countSwitch (Ctr.copied (portIndex p))).offer .station c (f.readdressed s.admin.part.console)

/-- The copy of a consumed line-port frame under a FORWARD_COPY entry (R23). -/
def State.copyConsumed (s : State) (p : Port) (k : Kind) (f : Frame) : State :=
  let e := s.switch.entry p k
  if p = .line ∧ e.action = .forwardCopy then s.copyToConsole p e.cls f else s

/-- Whether FORWARD_COPY copies a forwarded frame: not where it reaches the console on its own (R28). -/
def copiesForwarded (console : Addr) (arrival out : Port) (dst : Addr) : Bool :=
  decide (arrival = .line) && !(decide (out = .station) && (decide (dst = console) || decide (dst = broadcastAddr)))

/-! ## Step 4 -/

/-- A frame forwarded: offered unchanged to the out port in the entry's class, and counted (R27). -/
def State.forwardFrame (s : State) (arrival out : Port) (c : Fin 4) (f : Frame) : State :=
  (s.countSwitch (Ctr.forwarded (portIndex arrival))).offer out c f

/-- Step 4: the class table's action (R27, R28, R29). -/
def State.applyClass (s : State) (arrival out : Port) (k : Kind) (f : Frame) : State :=
  let e := s.switch.entry arrival k
  match e.action with
  | .drop => s.countSwitch (Ctr.classDrop (portIndex arrival))
  | .forward => s.forwardFrame arrival out e.cls f
  | .forwardCopy =>
    let s := s.forwardFrame arrival out e.cls f
    if copiesForwarded s.admin.part.console arrival out f.dst then s.copyToConsole arrival e.cls f else s
  | .redirect =>
    (s.countSwitch (Ctr.redirected (portIndex arrival))).offer .station e.cls (f.readdressed s.admin.part.console)

/-- Steps 3 and 4 for a frame no block consumes (R24 to R29). -/
def State.routeFrame (s : State) (arrival : Port) (k : Kind) (f : Frame) : State :=
  match routeOf s.admin.part.mask arrival f.dst with
  | .hairpin => s.countSwitch (Ctr.hairpin (portIndex arrival))
  | .unknown => s.countSwitch (Ctr.unknownAddress (portIndex arrival))
  | .out out => s.applyClass arrival out k f

/-! ## Consumers (R21) -/

/-- A consumed frame handed whole to its block (R19, R21). -/
def State.consume (s : State) (p : Port) (k : Kind) (f : Frame) (contents : Contents) : State :=
  match k with
  | .roll => s.takeRoll f.payloadBytes
  | .report => s.takeReport f.payloadBytes
  | .beat => s.takeBeat f.payloadBytes.length contents
  | .terminalEvent => s.takeTerminal contents
  | .call => s.takeCall f.sub contents
  | .voice => s.takeVoice contents
  | .adminRequest => s.takeAdmin ⟨p, f.src⟩ f.payloadBytes contents
  | .mark | .ask | .adminAnswer | .notice | .postClear | .data => s

/-- The switch decides a frame of an assigned kind (R19); a consumed one is counted, then copied, then handed to its block, so
that a COUNTERS-READ it carries reads and clears its own count (log 13, log 51). -/
def State.switchFrame (s : State) (p : Port) (k : Kind) (f : Frame) (contents : Contents) : State :=
  if p = .station ∧ protectedKind k then s.countSwitch (Ctr.protectedDrop (portIndex p))
  else
    match s.judgeConsumption p k f with
    | .consumed =>
      ((s.countSwitch (Ctr.consumed (portIndex p))).copyConsumed p k f).consume p k f contents
    | .wrongSource => s.countSwitch (Ctr.wrongSource (portIndex p))
    | .noConsumer => s.countSwitch (Ctr.noConsumer (portIndex p))
    | .through => s.routeFrame p k f

/-- A good frame of a port in ACTIVE, WARNED or MUTED: dropped for an unassigned kind (R4), or switched; an ask already due
on the line goes first (log 4). -/
def State.handOnFrame (s : State) (p : Port) (f : Frame) (contents : Contents) : State :=
  match kindOfCode f.kindNibble with
  | none => s.countPort p Ctr.unassigned
  | some k => (if p = .line then s.dueAsk else s).switchFrame p k f contents

/-! ## Reception -/

/-- A good frame at a port that is not DETACHED (R11, R12, R16). -/
def State.goodFrame (s : State) (p : Port) (f : Frame) (contents : Contents) : State :=
  let s := s.countPort p Ctr.good
  if (s.port p).mode = .rejoining then s.rejoinGood p
  else (s.errorDown p).handOnFrame p f contents

/-- A port receives the bytes between two frame boundaries (R11, R15, R16). -/
def State.receive (s : State) (p : Port) (bytes : List Byte) (contents : Contents) : State :=
  if (s.port p).mode = .detached then s.countPort p Ctr.detachedDiscard
  else
    match frameCheck bytes with
    | some cause => s.badFrame p cause
    | none => s.goodFrame p (receivedFrame bytes) contents

/-! ## Commands -/

/-- FRAME_RECEIVED (R11, R19). `contents` reads a payload whose byte layout the manual does not give (log 5). -/
def execFrameReceived (p : Port) (bytes : List Byte) (contents : Contents) (s : State) : Out :=
  s.live fun s => s.receive p bytes contents

end Sys2Proof.Machine
end

