-- ==== Sys2Proof/Machine/Dispatch.lean ====
section
/-! DEFINITION. The meaning of every command: one arm per constructor of `Instr`, each a direct call of its meaning. -/

namespace Sys2Proof.Machine

open Sys2Proof

def exec (i : Instr) (s : State) : Host.Outcome State Fault Refusal :=
  match i with
  | .hardReset => Sys2Proof.Machine.execHardReset s
  | .frameReceived port bytes contents => Sys2Proof.Machine.execFrameReceived port bytes contents s
  | .rejoinTimerExpiry port => Sys2Proof.Machine.execRejoinTimerExpiry port s
  | .arbiterPick port => Sys2Proof.Machine.execArbiterPick port s
  | .frameLeaves port => Sys2Proof.Machine.execFrameLeaves port s
  | .rollPeriodExpiry => Sys2Proof.Machine.execRollPeriodExpiry s
  | .rollDeadlineExpiry => Sys2Proof.Machine.execRollDeadlineExpiry s
  | .samplePeriodExpiry => Sys2Proof.Machine.execSamplePeriodExpiry s
  | .askSend => Sys2Proof.Machine.execAskSend s
  | .askDeadlineExpiry => Sys2Proof.Machine.execAskDeadlineExpiry s
  | .tachometerPulse dir => Sys2Proof.Machine.execTachometerPulse dir s
  | .gateExpiry => Sys2Proof.Machine.execGateExpiry s
  | .driveRunChange level => Sys2Proof.Machine.execDriveRunChange level s
  | .tachSilentTimerExpiry => Sys2Proof.Machine.execTachSilentTimerExpiry s
  | .ageSweepExpiry => Sys2Proof.Machine.execAgeSweepExpiry s
  | .detectorLevelChange det high => Sys2Proof.Machine.execDetectorLevelChange det high s
  | .detectorDebounceExpiry det => Sys2Proof.Machine.execDetectorDebounceExpiry det s
  | .arrRead read => Sys2Proof.Machine.execArrRead read s
  | .lchRead read => Sys2Proof.Machine.execLchRead read s
  | .openEndChange ch level => Sys2Proof.Machine.execOpenEndChange ch level s
  | .lockedChange ch level => Sys2Proof.Machine.execLockedChange ch level s
  | .driveTimerExpiry ch => Sys2Proof.Machine.execDriveTimerExpiry ch s
  | .reverseTimerExpiry ch => Sys2Proof.Machine.execReverseTimerExpiry ch s
  | .powerGoodExpiry ch => Sys2Proof.Machine.execPowerGoodExpiry ch s
  | .overcurrent ch level => Sys2Proof.Machine.execOvercurrent ch level s
  | .localKeyChange ch level => Sys2Proof.Machine.execLocalKeyChange ch level s
  | .localOpenChange ch level => Sys2Proof.Machine.execLocalOpenChange ch level s
  | .localCloseChange ch level => Sys2Proof.Machine.execLocalCloseChange ch level s
  | .localDriveTimerExpiry ch => Sys2Proof.Machine.execLocalDriveTimerExpiry ch s
  | .earlyGuardExpiry => Sys2Proof.Machine.execEarlyGuardExpiry s
  | .lateTimerExpiry => Sys2Proof.Machine.execLateTimerExpiry s
  | .valleyBeatTimerExpiry => Sys2Proof.Machine.execValleyBeatTimerExpiry s
  | .offHook line => Sys2Proof.Machine.execOffHook line s
  | .onHook line => Sys2Proof.Machine.execOnHook line s
  | .helpButton => Sys2Proof.Machine.execHelpButton s
  | .callTimerExpiry record => Sys2Proof.Machine.execCallTimerExpiry record s
  | .codecBlock line samples => Sys2Proof.Machine.execCodecBlock line samples s
  | .playoutTimerExpiry channel => Sys2Proof.Machine.execPlayoutTimerExpiry channel s
  | .stopFilterLevelChange input level => Sys2Proof.Machine.execStopFilterLevelChange input level s
  | .stopFilterDebounceExpiry input => Sys2Proof.Machine.execStopFilterDebounceExpiry input s
  | .stopTimerExpiry => Sys2Proof.Machine.execStopTimerExpiry s
  | .identify rq tag => Sys2Proof.Machine.execIdentify rq tag s
  | .statusRead rq tag => Sys2Proof.Machine.execStatusRead rq tag s
  | .causesRead rq tag position => Sys2Proof.Machine.execCausesRead rq tag position s
  | .stop rq tag category => Sys2Proof.Machine.execStop rq tag category s
  | .countersRead rq tag block start clear => Sys2Proof.Machine.execCountersRead rq tag block start clear s
  | .tableRead rq tag table => Sys2Proof.Machine.execTableRead rq tag table s
  | .partTableWrite rq tag f => Sys2Proof.Machine.execPartTableWrite rq tag f s
  | .classTableWrite rq tag port kind action cls => Sys2Proof.Machine.execClassTableWrite rq tag port kind action cls s
  | .postTableWrite rq tag number fitted => Sys2Proof.Machine.execPostTableWrite rq tag number fitted s
  | .seatTableWrite rq tag post seat f => Sys2Proof.Machine.execSeatTableWrite rq tag post seat f s
  | .ropeTableWrite rq tag f => Sys2Proof.Machine.execRopeTableWrite rq tag f s
  | .stationTableWrite rq tag entry f => Sys2Proof.Machine.execStationTableWrite rq tag entry f s
  | .channelTableWrite rq tag w => Sys2Proof.Machine.execChannelTableWrite rq tag w s
  | .causeTableWrite rq tag code f => Sys2Proof.Machine.execCauseTableWrite rq tag code f s
  | .telephonyTableWrite rq tag f => Sys2Proof.Machine.execTelephonyTableWrite rq tag f s
  | .cabinSettingsWrite rq tag f => Sys2Proof.Machine.execCabinSettingsWrite rq tag f s
  | .cabinLoad rq tag id cls door => Sys2Proof.Machine.execCabinLoad rq tag id cls door s
  | .cabinPurge rq tag id => Sys2Proof.Machine.execCabinPurge rq tag id s
  | .cabinFlushLearned rq tag => Sys2Proof.Machine.execCabinFlushLearned rq tag s
  | .cabinFind rq tag id => Sys2Proof.Machine.execCabinFind rq tag id s
  | .cabinNext rq tag id => Sys2Proof.Machine.execCabinNext rq tag id s
  | .listRead rq tag list position => Sys2Proof.Machine.execListRead rq tag list position s
  | .trackOn rq tag track => Sys2Proof.Machine.execTrackOn rq tag track s
  | .trackOff rq tag track => Sys2Proof.Machine.execTrackOff rq tag track s
  | .channelPower rq tag channel on => Sys2Proof.Machine.execChannelPower rq tag channel on s
  | .groupPower rq tag group on => Sys2Proof.Machine.execGroupPower rq tag group on s
  | .channelReset rq tag channel => Sys2Proof.Machine.execChannelReset rq tag channel s
  | .channelLockout rq tag channel on => Sys2Proof.Machine.execChannelLockout rq tag channel on s
  | .channelRead rq tag channel => Sys2Proof.Machine.execChannelRead rq tag channel s
  | .postClear rq tag post => Sys2Proof.Machine.execPostClear rq tag post s
  | .restartPermit rq tag => Sys2Proof.Machine.execRestartPermit rq tag s
  | .causesClearNotices rq tag => Sys2Proof.Machine.execCausesClearNotices rq tag s
  | .callPlace rq tag remote priority => Sys2Proof.Machine.execCallPlace rq tag remote priority s
  | .callClear rq tag record => Sys2Proof.Machine.execCallClear rq tag record s
  | .restartPart rq tag => Sys2Proof.Machine.execRestartPart rq tag s
  | .resetPinAsserted => Sys2Proof.Machine.execResetPinAsserted s

end Sys2Proof.Machine
end

