-- ==== Sys2Proof/Safety.lean ====
section
/-! DEFINITION. What the statements about the 720 are made of: which blocks a command may change, what a sound state is,
and which commands are admin requests. -/

namespace Sys2Proof.Machine

/-! ## Frames of a command -/

/-- One block holds the same in both states. -/
def State.sameBlock (s t : State) : Block → Prop
  | .stationPort => t.station = s.station
  | .linePort => t.line = s.line
  | .frameSwitch => t.switch = s.switch
  | .postPoller => t.poller = s.poller
  | .ropeTravel => t.rope = s.rope
  | .cabinTracker => t.tracker = s.tracker
  | .stationRail => t.rail = s.rail
  | .doorChannels => t.doors = s.doors
  | .summitLink => t.link = s.link
  | .telephony => t.tel = s.tel
  | .stopChain => t.chain = s.chain
  | .adminResponder => t.admin = s.admin

/-- From `s` to `t` at most the listed blocks change; the reset pin and the waiting commands stay. -/
def State.changesOnly (s t : State) (l : List Block) : Prop :=
  (∀ b, b ∉ l → s.sameBlock t b) ∧ t.pinHeld = s.pinHeld ∧ t.pending = s.pending

/-- The blocks a raise can reach: the stop chain, the doors and the station list it halts, the calls it opens, and what
its frames pass through (R132, R165, R174, R177, R191). -/
def raiseReach : List Block :=
  [.stationPort, .linePort, .frameSwitch, .postPoller, .stationRail, .doorChannels, .telephony, .stopChain,
    .adminResponder]

/-! ## Sound ports (R13 to R16, section 2.4) -/

/-- The error counts a port state goes with (R13). -/
def errorBand (m : PortMode) (e : Nat) : Prop :=
  match m with
  | .active => e < 96
  | .warned => 96 ≤ e ∧ e < 128
  | .muted => 128 ≤ e ∧ e < 192
  | .detached | .rejoining => e ≤ 255

/-- A sound port: no queue above its capacity, the error count in the band of the port state, no frame in a queue that the
port state does not fill, the rejoin timer running exactly in DETACHED. -/
def PortUnit.Sound (u : PortUnit) : Prop :=
  (∀ c : Fin 4, (u.queues[c]).length ≤ Config.queueCapacity c) ∧ errorBand u.mode u.errors ∧
    (∀ c : Fin 4, takesOffer u.mode c = false → u.queues[c] = []) ∧ (u.rejoin.isSome = true ↔ u.mode = .detached)

/-! ## A sound stop chain (R172 to R176, R181) -/

/-- A sound stop chain: one record for each code, no category below its fixed minimum or above A, occurrences counted from 1
to 255, and no stop timer at standstill. -/
def State.ChainSound (s : State) : Prop :=
  (s.chain.causes.map fun r => r.code).Nodup ∧
    (∀ r ∈ s.chain.causes, (causeMinimum r.code).rank ≤ r.category.rank ∧ r.category.rank ≤ s.chain.asserted.rank ∧
      1 ≤ r.occurrences ∧ r.occurrences ≤ 255) ∧
    (∀ c : Cause, (causeMinimum c).rank ≤ ((s.chain.table[causeCode c]).category).rank) ∧
    (s.rope.standstill = true → s.chain.timer = none)

/-! ## A sound rope (section 4.2, R60, R61, R70, R72) -/

/-- A sound rope travel unit: speed, gate count, zero-gate count and slip estimate in their ranges, STANDSTILL exactly
after two zero gates and then at speed 0, and no slip estimate while neither track is TRACKED. -/
def State.RopeSound (s : State) : Prop :=
  s.rope.speed.natAbs ≤ 20000 ∧ (-32768 ≤ s.rope.gate ∧ s.rope.gate ≤ 32767) ∧ s.rope.zeros ≤ 2 ∧
    (s.rope.standstill = true ↔ s.rope.zeros = 2) ∧ (s.rope.standstill = true → s.rope.speed = 0) ∧
    s.rope.slip.natAbs ≤ 65535 ∧
    (s.tracker.modes.up = .untracked → s.tracker.modes.down = .untracked → s.rope.slip = 0)

/-! ## Sound lists (R75, R83, R87, R102) -/

/-- The cabin IDs of all the records the part keeps of cabins on the rail and on the two tracks. -/
def State.listedCabins (s : State) : List Nat :=
  (s.rail.cabins.filterMap fun r => r.cabin) ++ (s.tracker.lists.up.filterMap fun r => r.cabin) ++
    (s.tracker.lists.down.filterMap fun r => r.cabin)

/-- A sound cabin table entry: an ID in 1 to 4095, an idle time exactly for a LEARNED entry. -/
def CabinEntry.Sound (e : CabinEntry) : Prop := 1 ≤ e.id ∧ e.id ≤ 4095 ∧ (e.kind = .static ↔ e.idle = none)

/-- Sound lists: no list above its capacity, no cabin recorded twice on the rail and the tracks, the cabin table in rising
order of ID. -/
def State.ListsSound (s : State) : Prop :=
  s.tracker.lists.up.length ≤ Config.trainCapacity ∧ s.tracker.lists.down.length ≤ Config.trainCapacity ∧
    s.rail.cabins.length ≤ Config.stationCapacity ∧ s.tracker.cabins.length ≤ Config.cabinCapacity ∧
    s.listedCabins.Nodup ∧ s.tracker.cabins.Pairwise (fun a b => a.id < b.id) ∧ ∀ e ∈ s.tracker.cabins, e.Sound

/-! ## Sound telephony (R151, R162, R163, R167) -/

/-- Sound telephony: the hold stack holds the HELD records, each once, at most two, none of priority EMERGENCY; no voice
channel is held twice; no jitter queue is above its capacity. -/
def Telephony.Sound (u : Telephony) : Prop :=
  u.stack.Nodup ∧ u.stack.length ≤ Config.stackCapacity ∧
    (∀ i : Fin 4, (u.records[i]).state = .held ↔ i ∈ u.stack) ∧
    (∀ i ∈ u.stack, (u.records[i]).priority ≠ .emergency) ∧
    (∀ i j : Fin 4, ∀ v, (u.records[i]).channel = some v → (u.records[j]).channel = some v → i = j) ∧
    (∀ k : Fin 2, ((u.voices[k]).jitter).length ≤ Config.jitterCapacity)

/-! ## Sound doors (R116 to R121, R131, R132) -/

/-- The states a channel has while an automatic action is in flight. -/
def ChannelState.moving : ChannelState → Bool
  | .opening | .closing | .reversing => true
  | .unpowered | .powering | .ready | .halted | .fault => false

/-- Whether a channel's supply is on: its own switch, or its group. -/
def Doors.supplied (u : Doors) (c : Channel) : Bool :=
  match c.entry.switching with
  | .group g => u.groupOn[g]
  | .individual => c.ownOn

/-- A sound door channel: an action in flight exactly in OPENING, CLOSING and REVERSING; power only from a supply that is
on; a fault exactly in FAULT; a local drive only in LOCAL and READY. -/
def Doors.SoundChannel (u : Doors) (c : Channel) : Prop :=
  (c.action.isSome = c.state.moving) ∧ (c.state.powered = true → u.supplied c = true) ∧
    (c.fault.isSome = true ↔ c.state = .fault) ∧
    (c.localDrive.isSome = true → c.mode = .local_ ∧ c.state = .ready)

/-- Sound doors: every channel is sound, and at EMERGENCY none drives (R132). -/
def State.DoorsSound (s : State) : Prop :=
  ∀ k : Fin 8, s.doors.SoundChannel (s.channel k) ∧
    (s.chain.asserted = .emergency → (s.channel k).state.halts = false ∧ (s.channel k).driveOpen = false ∧
      (s.channel k).driveClose = false)

/-! ## Requests -/

/-- The requester, tag and code of a command that is an admin request (section 11.1). -/
def requestOf : Instr → Option (Requester × Byte × RequestCode)
  | .identify rq tag => some (rq, tag, .identify)
  | .statusRead rq tag => some (rq, tag, .statusRead)
  | .causesRead rq tag _ => some (rq, tag, .causesRead)
  | .stop rq tag _ => some (rq, tag, .stop)
  | .countersRead rq tag _ _ _ => some (rq, tag, .countersRead)
  | .tableRead rq tag _ => some (rq, tag, .tableRead)
  | .partTableWrite rq tag _ | .classTableWrite rq tag _ _ _ _ | .postTableWrite rq tag _ _
  | .seatTableWrite rq tag _ _ _ | .ropeTableWrite rq tag _ | .stationTableWrite rq tag _ _
  | .channelTableWrite rq tag _ | .causeTableWrite rq tag _ _ | .telephonyTableWrite rq tag _
  | .cabinSettingsWrite rq tag _ => some (rq, tag, .tableWrite)
  | .cabinLoad rq tag _ _ _ => some (rq, tag, .cabinLoad)
  | .cabinPurge rq tag _ => some (rq, tag, .cabinPurge)
  | .cabinFlushLearned rq tag => some (rq, tag, .cabinFlushLearned)
  | .cabinFind rq tag _ => some (rq, tag, .cabinFind)
  | .cabinNext rq tag _ => some (rq, tag, .cabinNext)
  | .listRead rq tag _ _ => some (rq, tag, .listRead)
  | .trackOn rq tag _ => some (rq, tag, .trackOn)
  | .trackOff rq tag _ => some (rq, tag, .trackOff)
  | .channelPower rq tag _ _ => some (rq, tag, .channelPower)
  | .groupPower rq tag _ _ => some (rq, tag, .groupPower)
  | .channelReset rq tag _ => some (rq, tag, .channelReset)
  | .channelLockout rq tag _ _ => some (rq, tag, .channelLockout)
  | .channelRead rq tag _ => some (rq, tag, .channelRead)
  | .postClear rq tag _ => some (rq, tag, .postClear)
  | .restartPermit rq tag => some (rq, tag, .restartPermit)
  | .causesClearNotices rq tag => some (rq, tag, .causesClearNotices)
  | .callPlace rq tag _ _ => some (rq, tag, .callPlace)
  | .callClear rq tag _ => some (rq, tag, .callClear)
  | .restartPart rq tag => some (rq, tag, .restartPart)
  | .hardReset | .frameReceived _ _ _ | .rejoinTimerExpiry _ | .arbiterPick _ | .frameLeaves _ | .rollPeriodExpiry
  | .rollDeadlineExpiry | .samplePeriodExpiry | .askSend | .askDeadlineExpiry | .tachometerPulse _ | .gateExpiry
  | .driveRunChange _ | .tachSilentTimerExpiry | .ageSweepExpiry | .detectorLevelChange _ _
  | .detectorDebounceExpiry _ | .arrRead _ | .lchRead _ | .openEndChange _ _ | .lockedChange _ _
  | .driveTimerExpiry _ | .reverseTimerExpiry _ | .powerGoodExpiry _ | .overcurrent _ _ | .localKeyChange _ _
  | .localOpenChange _ _ | .localCloseChange _ _ | .localDriveTimerExpiry _ | .earlyGuardExpiry | .lateTimerExpiry
  | .valleyBeatTimerExpiry | .offHook _ | .onHook _ | .helpButton | .callTimerExpiry _ | .codecBlock _ _
  | .playoutTimerExpiry _ | .stopFilterLevelChange _ _ | .stopFilterDebounceExpiry _ | .stopTimerExpiry
  | .resetPinAsserted => none

/-- The command that stands for a request's taking at the admin responder (log 7); none for a TABLE-WRITE of a table outside
the ten, which has no row of its own. -/
def commandOf (rq : Requester) (tag : Byte) : Request → Option Instr
  | .identify => some (.identify rq tag)
  | .statusRead => some (.statusRead rq tag)
  | .causesRead p => some (.causesRead rq tag p)
  | .stop c => some (.stop rq tag c)
  | .countersRead b s c => some (.countersRead rq tag b s c)
  | .tableRead x => some (.tableRead rq tag x)
  | .partWrite f => some (.partTableWrite rq tag f)
  | .classWrite p k a c => some (.classTableWrite rq tag p k a c)
  | .postWrite n f => some (.postTableWrite rq tag n f)
  | .seatWrite p k f => some (.seatTableWrite rq tag p k f)
  | .ropeWrite f => some (.ropeTableWrite rq tag f)
  | .stationWrite e f => some (.stationTableWrite rq tag e f)
  | .channelWrite w => some (.channelTableWrite rq tag w)
  | .causeWrite c f => some (.causeTableWrite rq tag c f)
  | .telephonyWrite f => some (.telephonyTableWrite rq tag f)
  | .cabinSettingsWrite f => some (.cabinSettingsWrite rq tag f)
  | .otherWrite => none
  | .cabinLoad i c d => some (.cabinLoad rq tag i c d)
  | .cabinPurge i => some (.cabinPurge rq tag i)
  | .cabinFlushLearned => some (.cabinFlushLearned rq tag)
  | .cabinFind i => some (.cabinFind rq tag i)
  | .cabinNext i => some (.cabinNext rq tag i)
  | .listRead l p => some (.listRead rq tag l p)
  | .trackOn x => some (.trackOn rq tag x)
  | .trackOff x => some (.trackOff rq tag x)
  | .channelPower c o => some (.channelPower rq tag c o)
  | .groupPower c o => some (.groupPower rq tag c o)
  | .channelReset c => some (.channelReset rq tag c)
  | .channelLockout c o => some (.channelLockout rq tag c o)
  | .channelRead c => some (.channelRead rq tag c)
  | .postClear p => some (.postClear rq tag p)
  | .restartPermit => some (.restartPermit rq tag)
  | .causesClearNotices => some (.causesClearNotices rq tag)
  | .callPlace r p => some (.callPlace rq tag r p)
  | .callClear r => some (.callClear rq tag r)
  | .restartPart => some (.restartPart rq tag)

/-- Whether a command is a RESTART-PERMIT from the console, as the console's address stands: the request itself (log 7), or
a good ADMIN_REQUEST frame on the station port, long enough for a code and a tag, that carries it from the console's address
to the 720's own. -/
def State.consolePermit (s : State) : Instr → Bool
  | .restartPermit rq _ => s.isConsole rq
  | .frameReceived p bytes (.admin _ (.fits .restartPermit)) =>
    let f := receivedFrame bytes
    decide (frameCheck bytes = none) && decide (kindOfCode f.kindNibble = some .adminRequest) && decide (f.dst = 0) &&
      decide (2 ≤ f.payloadBytes.length) && s.isConsole ⟨p, f.src⟩
  | _ => false

end Sys2Proof.Machine
end

