-- ==== Sys2Proof/Certificates/Slice0/Obligations.lean ====
section
/-! DEFINITION. What the model states of the 720: one closed proposition for each entry of OBLIGATIONS.json. -/

open Sys2Proof Sys2Proof.Machine

/-! ## The queue of commands and the resets -/

/-- A step takes the command at the front of the queue and runs its meaning with the queue's rest. On an empty queue the
block idles, which is the model's choice (log 1). -/
def Obligations.StepTakesTheFrontCommand : Prop :=
  (∀ (s : State) (c : Instr) (rest : List Instr),
    step { s with pending := c :: rest } = exec c { s with pending := rest }) ∧
    ∀ s : State, s.pending = [] → step s = .next s

/-- A hard reset always completes: every block has the values of its reset table, the reset pin is released, A is EMERGENCY
with RESET_LATCH and SUMMIT_SILENT in the set and the stop timer is stopped (R183, R192, reset tables of every chapter). The
counters are 0 but for what the reset's own entries count (log 9): three notices, which the station port in REJOINING
refuses, one raise and one stop call.

That stop call finds the four call records FREE and takes record 0. With the handset of LINE 0 on-hook it rings LINE 0 for
30 s. With the handset off-hook it is answered at once and, the link being SILENT, freed again with LINE_LOST, so that every
record is FREE (R165). The fields of a FREE record are log 36. -/
def Obligations.HardResetValues : Prop :=
  ∀ s : State, ∃ t : State, exec .hardReset s = .next t ∧ t.pinHeld = false ∧ t.pending = s.pending ∧
    (∀ p : Port,
      let u := t.port p
      u.mode = .rejoining ∧ u.errors = 0 ∧ u.goodRun = 0 ∧ u.rejoin = none ∧ u.inFlight = none ∧ u.turn = 0 ∧
        ∀ c : Fin 4, u.queues[c] = []) ∧
    t.station.counters = upd (Vector.replicate 21 0) (Ctr.detachDrop 2) (fun _ => 3) ∧
    t.line.counters = Vector.replicate 21 0 ∧
    t.switch = switchInitial ∧ t.poller = pollerInitial ⟨64, .neither, .mixed, 250, 500, 1000, 1000, true⟩ ∧
    t.rope = ropeInitial s.rope.driveRun s.rope.direction ∧ t.tracker = trackerInitial ∧
    t.rail = railInitial s.rail.levels ∧ t.doors = doorsInitial s.doors.pins ∧ t.link = linkInitial ∧
    t.admin.part = ⟨64, .neither, .mixed, 250, 500, 1000, 1000, true⟩ ∧
    t.admin.counters = upd (Vector.replicate 16 0) Ctr.noticeBuilt (fun _ => 3) ∧
    t.chain.table = causeTableDefault ∧ t.chain.asserted = .emergency ∧ t.chain.timer = none ∧
    t.chain.causes =
      [⟨.resetLatch, .emergency, {}, 1, true⟩, ⟨.summitSilent, .fast, {}, 1, true⟩] ∧
    t.chain.counters = upd (Vector.replicate 50 0) (Ctr.raises (causeCode .summitSilent)) (fun _ => 1) ∧
    (∀ i : StopInput, (t.stopFilter i).active = false ∧ (t.stopFilter i).level = (s.stopFilter i).level ∧
      (t.stopFilter i).timer = if (s.stopFilter i).level then some 10 else none) ∧
    t.tel.table = ⟨0, 0, 0, true⟩ ∧ t.tel.hooks = s.tel.hooks ∧ t.tel.stack = [] ∧ t.tel.order = 0 ∧
    t.tel.voices = Vector.replicate 2 ⟨0, [], false, none, none, false, 0, none⟩ ∧
    t.tel.codec = Vector.replicate 2 (List.replicate 40 128) ∧
    (∀ i : Fin 4, i ≠ 0 → t.record i = ⟨.free, 0, .none, .routine, true, 0, none, false, none, false, none⟩) ∧
    (s.tel.hooks[(0 : Fin 2)] = false →
      t.record 0 = ⟨.ringingIn, 0, .none, .operations, true, 0, none, true, none, false, some 30000⟩ ∧
        t.tel.counters = upd (Vector.replicate 38 0) Ctr.stopCall (fun _ => 1)) ∧
    (s.tel.hooks[(0 : Fin 2)] = true →
      (t.record 0).state = .free ∧ (t.record 0).channel = none ∧ (t.record 0).timer = none ∧
        t.tel.counters =
          upd (upd (Vector.replicate 38 0) Ctr.stopCall fun _ => 1) (Ctr.cleared (reasonIndex .lineLost)) (fun _ => 1))

/-- The reset pin holds every block at its hard reset values and keeps the input levels and the waiting commands (R192):
RESET_LATCH alone stands in the set and all three stop lines are asserted (R170, R183).

While the reset pin is held, a command other than its release and a new assertion completes with no effect but the
storing of an input's level (R192; log 11). -/
def Obligations.ResetPin : Prop :=
  (∀ s : State, ∃ t : State, exec .resetPinAsserted s = .next t ∧ t.pinHeld = true ∧ t.pending = s.pending ∧
      t.station = portInitial ∧ t.line = portInitial ∧ t.switch = switchInitial ∧
      t.poller = pollerInitial partDefault ∧ t.rope = ropeInitial s.rope.driveRun s.rope.direction ∧
      t.tracker = trackerInitial ∧ t.rail = railInitial s.rail.levels ∧ t.doors = doorsInitial s.doors.pins ∧
      t.link = linkInitial ∧ t.tel = telephonyReset ⟨0, 0, 0, true⟩ s.tel.hooks ∧ t.admin = adminInitial ∧
      t.chain.causes = [⟨.resetLatch, .emergency, {}, 1, true⟩] ∧ t.stopLines = (true, true, true)) ∧
  (∀ (s : State) (c : Instr), s.pinHeld = true → c ≠ .hardReset → c ≠ .resetPinAsserted →
      ∃ t : State, exec c s = .next t ∧
        s.changesOnly t [.ropeTravel, .stationRail, .doorChannels, .telephony, .stopChain] ∧
        t.rope = { s.rope with driveRun := t.rope.driveRun } ∧
        t.rail = { s.rail with detectors := t.rail.detectors } ∧
        (∀ d : Fin 9, t.rail.detectors[d] = { s.rail.detectors[d] with level := (t.rail.detectors[d]).level }) ∧
        t.doors = { s.doors with channels := t.doors.channels } ∧
        (∀ k : Fin 8, t.channel k = { s.channel k with pins := (t.channel k).pins }) ∧
        t.tel = { s.tel with hooks := t.tel.hooks } ∧
        t.chain = { s.chain with filters := t.chain.filters } ∧
        ∀ i : Fin 5, t.chain.filters[i] = { s.chain.filters[i] with level := (t.chain.filters[i]).level })

/-- RESTART-PART from the console while the rope moves is answered IN_MOTION and changes nothing. At standstill it completes
with a soft restart after its answer. The tables stay as written: the class table, the part table, the fitted posts, the
written fields of the seat table, the rope table, the cabin settings, the station table, the channel and group entries, the
telephony table and the cause table. The rope's measurement stays, its gate count and gate timer with it; STATIC cabins stay
with their trips. Everything else is at its reset values: the ports, the rolls, asks and queues of the poller, the shares,
the lists, the channels, the link, the calls, the stop chain, every block's counters but for what the reset's own entries
count (R193, reset tables of every chapter; log 9).

The set holds RESET_LATCH and SUMMIT_SILENT in the categories of the cause table; where one of the two has its call flag,
the stop call takes record 0 as it does after a hard reset (R165; the fields of a FREE record are log 36). -/
def Obligations.RestartPartKeepsTheTables : Prop :=
  ∀ (s : State) (rq : Requester) (tag : Byte), s.pinHeld = false → s.isConsole rq = true →
    (s.rope.standstill = false →
      exec (.restartPart rq tag) s = .next (State.settleRequest rq .restartPart tag (s, .inMotion, .empty))) ∧
    (s.rope.standstill = true →
      let latch := s.chain.table[causeCode .resetLatch]
      let silent := s.chain.table[causeCode .summitSilent]
      let notices := BitVec.ofNat 32 (1 + latch.notice.toNat + silent.notice.toNat)
      let calls := latch.call.toNat + silent.call.toNat
      ∃ t : State, exec (.restartPart rq tag) s = .next t ∧ t.pinHeld = false ∧ t.pending = s.pending ∧
        (∀ p : Port,
          let u := t.port p
          u.mode = .rejoining ∧ u.errors = 0 ∧ u.goodRun = 0 ∧ u.rejoin = none ∧ u.inFlight = none ∧ u.turn = 0 ∧
            ∀ c : Fin 4, u.queues[c] = []) ∧
        t.line.counters = Vector.replicate 21 0 ∧
        t.station.counters =
          (if s.admin.part.notices then upd (Vector.replicate 21 0) (Ctr.detachDrop 2) (fun _ => notices)
          else Vector.replicate 21 0) ∧
        t.switch = { s.switch with counters := Vector.replicate 28 0 } ∧ t.admin.part = s.admin.part ∧
        t.admin.counters =
          upd (Vector.replicate 16 0) (if s.admin.part.notices then Ctr.noticeBuilt else Ctr.noticeSuppressed)
            (fun _ => notices) ∧
        t.rope =
          { s.rope with
            tachTimer := if s.rope.driveRun then some s.rope.table.tachSilent else none
            slip := 0, overspeed := false, reverse := false, silent := false, slipping := false
            counters := Vector.replicate 7 0 } ∧
        (∀ p : Post, t.post p = ⟨(s.post p).fitted, 0, 0, false, false, false⟩) ∧
        (∀ r : SeatRef, t.seat r = { s.seat r with beyond := 0, limitShare := false, switchShare := false }) ∧
        (t.poller.rollNumber = 0 ∧ t.poller.roll = none ∧ t.poller.rollDeadline = none ∧ t.poller.lost = 0 ∧
          t.poller.rollTimer = s.admin.part.rollPeriod ∧ t.poller.sampleTimer = s.admin.part.samplePeriod ∧
          t.poller.markNumber = 0 ∧ t.poller.attention = [] ∧ t.poller.sweep = [] ∧ t.poller.ask = none ∧
          t.poller.counters = Vector.replicate 259 0) ∧
        t.tracker =
          { cabins :=
              (s.tracker.cabins.filter fun e => decide (e.kind = .static)).map fun e => { e with location := .nowhere }
            settings := s.tracker.settings, lists := ⟨[], []⟩, modes := ⟨.untracked, .untracked⟩
            seqs := ⟨buildSequence s.poller .up, buildSequence s.poller .down⟩, ageTimer := 60000
            counters := Vector.replicate 22 0 } ∧
        (∀ d : Fin 9,
          let u := s.rail.detectors[d]
          t.rail.detectors[d] =
            ⟨u.entry, u.level, u.entry.fitted && levelPresent u.entry.polarity u.level, none⟩) ∧
        t.rail.cabins = [] ∧ t.rail.generator = 0 ∧ t.rail.counters = Vector.replicate 49 0 ∧
        (∀ k : Fin 8, t.channel k = channelReset (s.channel k).entry (s.channel k).pins) ∧
        t.doors.groupTimes = s.doors.groupTimes ∧ t.doors.groupOn = Vector.replicate 2 false ∧
        t.doors.counters = Vector.replicate 96 0 ∧ t.link = linkInitial ∧
        t.chain.table = s.chain.table ∧ t.chain.asserted = .emergency ∧ t.chain.timer = none ∧
        t.chain.causes = [⟨.resetLatch, latch.category, {}, 1, true⟩, ⟨.summitSilent, silent.category, {}, 1, true⟩] ∧
        t.chain.counters = upd (Vector.replicate 50 0) (Ctr.raises (causeCode .summitSilent)) (fun _ => 1) ∧
        (∀ i : StopInput, (t.stopFilter i).active = false ∧ (t.stopFilter i).level = (s.stopFilter i).level ∧
          (t.stopFilter i).timer = if (s.stopFilter i).level then some 10 else none) ∧
        t.tel.table = s.tel.table ∧ t.tel.hooks = s.tel.hooks ∧ t.tel.stack = [] ∧ t.tel.order = 0 ∧
        t.tel.voices = Vector.replicate 2 ⟨0, [], false, none, none, false, 0, none⟩ ∧
        t.tel.codec = Vector.replicate 2 (List.replicate 40 128) ∧
        (∀ i : Fin 4, i ≠ 0 → t.record i = ⟨.free, 0, .none, .routine, true, 0, none, false, none, false, none⟩) ∧
        (calls = 0 → t.record 0 = ⟨.free, 0, .none, .routine, true, 0, none, false, none, false, none⟩) ∧
        (s.tel.hooks[(0 : Fin 2)] = false →
          (calls ≠ 0 →
            t.record 0 = ⟨.ringingIn, 0, .none, .operations, true, 0, none, true, none, false, some 30000⟩) ∧
          t.tel.counters =
            upd (upd (Vector.replicate 38 0) Ctr.stopCall fun _ => BitVec.ofNat 32 (min 1 calls)) Ctr.stopCallIgnored
              (fun _ => BitVec.ofNat 32 (calls - 1))) ∧
        (s.tel.hooks[(0 : Fin 2)] = true →
          (t.record 0).state = .free ∧ (t.record 0).channel = none ∧ (t.record 0).timer = none ∧
            t.tel.counters =
              upd (upd (Vector.replicate 38 0) Ctr.stopCall fun _ => BitVec.ofNat 32 calls)
                (Ctr.cleared (reasonIndex .lineLost)) (fun _ => BitVec.ofNat 32 calls)))

/-! ## The ports (chapter 1) -/

/-- The expiry of a DETACHED port's rejoin timer: REJOINING with the run at 0, the port's cause withdrawn, the change
noticed; an expiry of a stopped timer, or in another port state, does nothing (R15, R16; log 2).

The frame in transmission leaves the port: the link is free and the frame is counted in its class; a ROLL or an ASK
that is still the outstanding one in QUEUED goes to AWAITING with its reply deadline of 60 or 20 ms (R17, R38, R44). With
the link free nothing happens. -/
def Obligations.RejoinTimerAndFrameLeaves : Prop :=
  (∀ (s : State) (p : Port), s.pinHeld = false →
      (∀ n, (s.port p).mode = .detached → (s.port p).rejoin = some n →
        exec (.rejoinTimerExpiry p) s =
          .next (((s.modPort p fun u => { u with mode := .rejoining, goodRun := 0, rejoin := none }).withdraw
            (match p with
              | .station => .consoleLink
              | .line => .lineDetached)).notice (.portState p .detached .rejoining (s.port p).errors))) ∧
      ((s.port p).mode ≠ .detached ∨ (s.port p).rejoin = none → exec (.rejoinTimerExpiry p) s = .next s)) ∧
  (∀ (s : State) (p : Port), s.pinHeld = false →
      ((s.port p).inFlight = none → exec (.frameLeaves p) s = .next s) ∧
      ∀ (c : Fin 4) (f : Frame), (s.port p).inFlight = some (c, f) →
        let u := (s.modPort p fun u => { u with inFlight := none }).countPort p (Ctr.transmitted c)
        (f.origin = .own ∨ f.origin = .switched → exec (.frameLeaves p) s = .next u) ∧
        (∀ n, f.origin = .roll n →
          exec (.frameLeaves p) s =
            .next (if s.poller.roll = some (n, .queued) then
              u.modPoller fun v => { v with roll := some (n, .awaiting), rollDeadline := some 60 } else u)) ∧
        (∀ k a, f.origin = .ask k → s.poller.ask = some a →
          exec (.frameLeaves p) s =
            .next (if a.serial = k ∧ a.phase = .queued then
              u.modPoller fun v => { v with ask := some { a with phase := .awaiting, deadline := some 20 } } else u)) ∧
        (∀ k, f.origin = .ask k → s.poller.ask = none → exec (.frameLeaves p) s = .next u))

/-- In STRICT mode a pick on a free link takes the head of the lowest-numbered permitted queue that holds a frame; with
none the port stays as it is (R33).

In MIXED mode a pick on a free link takes class 0 when it holds a frame; otherwise the walk from the pattern position
takes the head of the first turn's queue that holds a frame and the position becomes the turn after it. The classes of
turns 1 to 7 are 1, 2, 1, 3, 1, 2, 1 (R34); the position is kept as 0 for turn 1. -/
def Obligations.ArbiterPick : Prop :=
  (∀ (s : State) (p : Port), s.pinHeld = false → (s.port p).inFlight = none → s.admin.part.scheduler = .strict →
      (∀ (c : Fin 4) (f : Frame) (rest : List Frame), (s.port p).queues[c] = f :: rest →
        (∀ d : Fin 4, d < c → (s.port p).queues[d] = []) →
        (s.port p).mode = .active ∨ (s.port p).mode = .warned ∨ ((s.port p).mode = .muted ∧ c = 0) →
        exec (.arbiterPick p) s =
          .next (s.modPort p fun u => { u with queues := u.queues.set c rest, inFlight := some (c, f) })) ∧
      ((s.port p).mode = .detached ∨ (s.port p).mode = .rejoining ∨ (∀ d : Fin 4, (s.port p).queues[d] = []) →
        exec (.arbiterPick p) s = .next s)) ∧
  (∀ (s : State) (p : Port), s.pinHeld = false → (s.port p).inFlight = none → s.admin.part.scheduler = .mixed →
      (∀ (f : Frame) (rest : List Frame), (s.port p).queues[(0 : Fin 4)] = f :: rest →
        (s.port p).mode = .active ∨ (s.port p).mode = .warned ∨ (s.port p).mode = .muted →
        exec (.arbiterPick p) s =
          .next (s.modPort p fun u => { u with queues := u.queues.set (0 : Fin 4) rest, inFlight := some (0, f) })) ∧
      (∀ (k : Fin 7) (f : Frame) (rest : List Frame), (s.port p).mode = .active ∨ (s.port p).mode = .warned →
        (s.port p).queues[(0 : Fin 4)] = [] →
        (∀ j : Fin 7, j < k → (s.port p).queues[([1, 2, 1, 3, 1, 2, 1] : List (Fin 4)).getD ((s.port p).turn + j).val 0] = []) →
        (s.port p).queues[([1, 2, 1, 3, 1, 2, 1] : List (Fin 4)).getD ((s.port p).turn + k).val 0] = f :: rest →
        exec (.arbiterPick p) s =
          .next (s.modPort p fun u =>
            { u with
              queues := u.queues.set (([1, 2, 1, 3, 1, 2, 1] : List (Fin 4)).getD (u.turn + k).val 0) rest
              inFlight := some (([1, 2, 1, 3, 1, 2, 1] : List (Fin 4)).getD (u.turn + k).val 0, f)
              turn := u.turn + k + 1 })))

/-- A bad frame is counted once, in the counter of the first check it fails, and raises the error count by 8, saturating at
255; the port state follows the count as R13 states, one step at a time (R11, R12, R13). A good frame lets the error count
fall by 1, stopping at 0, and the port state follows it in the same way; here it is one of an unassigned kind, which has no
other effect than its counter (R4, R12, R13).

A frame received by a DETACHED port is counted and discarded (R15). In REJOINING a good frame, one of an unassigned kind too
(log 37), is counted as good, counted as discarded and lengthens the run; the sixteenth takes the port to ACTIVE with the run
and the error count at 0, and the change is noticed. A bad frame takes a REJOINING port, its queues empty, back to DETACHED:
the run is 0, the rejoin timer starts with the port's rejoin delay, the entry is counted, noticed and its cause raised (R15,
R16).

The entry to MUTED, once nothing is due on the port (log 4), flushes classes 1 to 3, each frame counted in the muted-drop
counter of its class, and is noticed; class 0 stays (R14). The entry to DETACHED flushes all four, each frame counted in the
detach-drop counter of its class, starts the rejoin timer with the port's rejoin delay, is counted and noticed and raises the
port's cause (R15). The flush of the outstanding roll's or ask's own frame in QUEUED ends it as unsent (R38, R44). The other
changes of state only set it and are noticed (R13). The error count of a DETACHED or REJOINING port is frozen (R12). -/
def Obligations.Reception : Prop :=
  (∀ (s : State) (p : Port) (bytes : List Byte) (contents : Contents), s.pinHeld = false →
      (s.port p).mode = .active ∨ (s.port p).mode = .warned ∨ (s.port p).mode = .muted →
      let follow := fun (m : PortMode) (errors : Nat) =>
        match m with
        | .active => if 96 ≤ errors then PortMode.warned else .active
        | .warned => if 128 ≤ errors then .muted else if errors < 96 then .active else .warned
        | .muted => if 192 ≤ errors then .detached else if errors < 128 then .warned else .muted
        | .detached => .detached
        | .rejoining => .rejoining
      let moved := fun (errors : Nat) (cause : Fin 21) =>
        let u := s.modPort p fun u => { u with errors := errors, counters := bump u.counters cause }
        let m := follow (s.port p).mode errors
        if m = (s.port p).mode then u else u.changeMode p m
      (∀ cause : Fin 21,
        (bytes.length < 6 ∧ cause = Ctr.short) ∨ (70 < bytes.length ∧ cause = Ctr.long) ∨
          (6 ≤ bytes.length ∧ bytes.length ≤ 70 ∧ (bytes.getD 3 0).toNat + 6 ≠ bytes.length ∧ cause = Ctr.length) ∨
          (6 ≤ bytes.length ∧ bytes.length ≤ 70 ∧ (bytes.getD 3 0).toNat + 6 = bytes.length ∧ crc bytes ≠ 0 ∧
            cause = Ctr.check) →
        exec (.frameReceived p bytes contents) s = .next (moved (min 255 ((s.port p).errors + 8)) cause)) ∧
      (6 ≤ bytes.length → bytes.length ≤ 70 → (bytes.getD 3 0).toNat + 6 = bytes.length → crc bytes = 0 →
        12 < (bytes.getD 2 0).toNat / 16 →
        exec (.frameReceived p bytes contents) s =
          .next ((moved ((s.port p).errors - 1) Ctr.good).countPort p Ctr.unassigned))) ∧
  (∀ (s : State) (p : Port) (bytes : List Byte) (contents : Contents), s.pinHeld = false →
      ((s.port p).mode = .detached →
        exec (.frameReceived p bytes contents) s = .next (s.countPort p Ctr.detachedDiscard)) ∧
      ((s.port p).mode = .rejoining → frameCheck bytes = none → (s.port p).goodRun < 15 →
        exec (.frameReceived p bytes contents) s =
          .next (((s.countPort p Ctr.good).modPort p fun u => { u with goodRun := u.goodRun + 1 }).countPort p
            Ctr.rejoinDiscard)) ∧
      ((s.port p).mode = .rejoining → frameCheck bytes = none → 15 ≤ (s.port p).goodRun →
        exec (.frameReceived p bytes contents) s =
          .next ((s.modPort p fun u =>
            { u with
              mode := .active, errors := 0, goodRun := 0
              counters := bump (bump u.counters Ctr.good) Ctr.rejoinDiscard }).notice
                (.portState p .rejoining .active 0))) ∧
      (∀ cause, (s.port p).mode = .rejoining → frameCheck bytes = some cause → (∀ c : Fin 4, (s.port p).queues[c] = []) →
        exec (.frameReceived p bytes contents) s =
          .next (((s.modPort p fun u =>
            { u with
              mode := .detached, goodRun := 0
              rejoin := some (match p with
                | .station => s.admin.part.rejoinStation
                | .line => s.admin.part.rejoinLine)
              counters := bump (bump u.counters cause) Ctr.detachEntries }).notice
                (.portState p .rejoining .detached (s.port p).errors)).raiseHeld
                  (match p with
                    | .station => .consoleLink
                    | .line => .lineDetached) {}))) ∧
  (∀ (s : State) (p : Port) (m : PortMode), s.settle p = s →
      let u := s.port p
      let many := fun c : Fin 4 => BitVec.ofNat 32 u.queues[c].length
      let lost := fun frames : List Frame =>
        let roll := frames.any fun f => match f.origin with
          | .roll n => decide (s.poller.roll = some (n, .queued))
          | _ => false
        let ask := frames.any fun f => match f.origin, s.poller.ask with
          | .ask k, some a => decide (a.serial = k) && decide (a.phase = .queued)
          | _, _ => false
        s.modPoller fun v =>
          let w := if roll then bump v.counters Ctr.unsentRoll else v.counters
          { v with
            roll := if roll then none else v.roll, ask := if ask then none else v.ask
            counters := if ask then bump w Ctr.unsentAsk else w }
      (m = .active ∨ m = .warned ∨ m = .rejoining →
        s.changeMode p m = (s.modPort p fun u => { u with mode := m }).notice (.portState p u.mode m u.errors)) ∧
      (m = .muted →
        s.changeMode p m =
          ((lost (u.queues[(1 : Fin 4)] ++ u.queues[(2 : Fin 4)] ++ u.queues[(3 : Fin 4)])).modPort p fun u =>
            { u with
              mode := .muted
              queues := (Vector.replicate 4 []).set 0 u.queues[(0 : Fin 4)]
              counters := ([1, 2, 3] : List (Fin 4)).foldl
                (fun v c => upd v (Ctr.mutedDrop c) fun n => n + many c) u.counters }).notice
            (.portState p u.mode .muted u.errors)) ∧
      (m = .detached →
        s.changeMode p m =
          (((lost (u.queues[(0 : Fin 4)] ++ u.queues[(1 : Fin 4)] ++ u.queues[(2 : Fin 4)] ++
              u.queues[(3 : Fin 4)])).modPort p fun u =>
            { u with
              mode := .detached, goodRun := 0, queues := Vector.replicate 4 []
              rejoin := some (match p with
                | .station => s.admin.part.rejoinStation
                | .line => s.admin.part.rejoinLine)
              counters := bump (([0, 1, 2, 3] : List (Fin 4)).foldl
                (fun v c => upd v (Ctr.detachDrop c) fun n => n + many c) u.counters) Ctr.detachEntries }).notice
            (.portState p u.mode .detached u.errors)).raiseHeld
              (match p with
                | .station => .consoleLink
                | .line => .lineDetached) {})) ∧
  (∀ (s : State) (p : Port),
      let e := (s.port p).errors
      let mode := (s.port p).mode
      let moved := fun (errors : Nat) (m : PortMode) =>
        let u := s.modPort p fun u => { u with errors := errors }
        if m = mode then u else u.changeMode p m
      let up := min 255 (e + 8)
      (mode = .active → s.errorUp p = moved up (if 96 ≤ up then .warned else .active) ∧ s.errorDown p = moved (e - 1)
        (if 96 ≤ e - 1 then .warned else .active)) ∧
      (mode = .warned →
        s.errorUp p = moved up (if 128 ≤ up then .muted else if up < 96 then .active else .warned) ∧
        s.errorDown p = moved (e - 1) (if 128 ≤ e - 1 then .muted else if e - 1 < 96 then .active else .warned)) ∧
      (mode = .muted →
        s.errorUp p = moved up (if 192 ≤ up then .detached else if up < 128 then .warned else .muted) ∧
        s.errorDown p = moved (e - 1) (if 192 ≤ e - 1 then .detached else if e - 1 < 128 then .warned else .muted)) ∧
      (mode = .detached ∨ mode = .rejoining → s.errorUp p = s ∧ s.errorDown p = s))

/-! ## The frame switch and the queues (chapter 2) -/

/-- A good frame on an ACTIVE, WARNED or MUTED port is counted as good and lets the error count fall (Reception); on the line
port an ask already due is sent next (log 4). Then the switch decides it, as follows (R19 to R29).

A ROLL, MARK, ASK or POST_CLEAR on the station port is dropped (R20). Consumed are a returning ROLL, a REPORT from the post of
the outstanding ask, a BEAT or TERMINAL_EVENT from the summit, a CALL or VOICE from the summit to address 0, all on the line
port, and an ADMIN_REQUEST to address 0 (R21): the frame is counted before its block reads it, which is the model's choice
(log 51), copied to the console first under a FORWARD_COPY entry of the line port (R23; log 13), and handed to its block, the
poller, the summit link supervisor, the telephony unit or the admin responder. A ROLL, REPORT, BEAT or TERMINAL_EVENT not
consumed, and a CALL or VOICE to address 0 not consumed, is from the wrong source; any other frame to address 0 has no
consumer; both are dropped (R21, R22).

Every other frame has the line port as its out port for destinations 1 to 48 and 63, the station port for 64 to 79, the other
port for 127, and for another destination the other port where the unknown-address mask names it; with none it is dropped, and
where the out port is the arrival port it is a hairpin and dropped (R24, R25). The class table entry of the arrival port and
the kind then drops it, forwards it unchanged in the entry's class, forwards it and copies it to the console, which is done
for a line frame that does not reach the console on its own, or redirects it to the console (R27 to R29). Each outcome is
counted at the arrival port. -/
def Obligations.GoodFrameIsForwarded : Prop :=
  ∀ (s : State) (p : Port) (bytes : List Byte) (contents : Contents) (k : Kind), s.pinHeld = false →
    (s.port p).mode = .active ∨ (s.port p).mode = .warned ∨ (s.port p).mode = .muted →
    frameCheck bytes = none → kindOfCode ((bytes.getD 2 0).toNat / 16) = some k →
    let v := (s.countPort p Ctr.good).errorDown p
    let w := if p = .line then v.dueAsk else v
    let f := receivedFrame bytes
    let d := ((bytes.getD 0 0).extractLsb' 0 7 : Addr).toNat
    let src : Addr := (bytes.getD 1 0).extractLsb' 0 7
    let i := portIndex p
    let entry := s.switch.entry p k
    let copied := fun x : State =>
      (x.countSwitch (Ctr.copied i)).offer .station entry.cls (f.readdressed s.admin.part.console)
    let consumed :=
      (k = .roll ∧ p = .line ∧ (bytes.getD 0 0).getLsbD 7 = true) ∨
      (k = .report ∧ p = .line ∧ (w.poller.ask.map fun a => a.post.val + 1) = some src.toNat) ∨
      ((k = .beat ∨ k = .terminalEvent) ∧ p = .line ∧ src = 63) ∨
      ((k = .call ∨ k = .voice) ∧ d = 0 ∧ p = .line ∧ src = 63) ∨ (k = .adminRequest ∧ d = 0)
    let claimed :=
      k = .roll ∨ k = .report ∨ k = .beat ∨ k = .terminalEvent ∨ ((k = .call ∨ k = .voice) ∧ d = 0) ∨
      (k = .adminRequest ∧ d = 0)
    let isProtected := p = .station ∧ (k = .roll ∨ k = .mark ∨ k = .ask ∨ k = .postClear)
    (isProtected → exec (.frameReceived p bytes contents) s = .next (w.countSwitch (Ctr.protectedDrop i))) ∧
    (consumed →
      let x := w.countSwitch (Ctr.consumed i)
      let y := if p = .line ∧ entry.action = .forwardCopy then copied x else x
      (k = .roll → exec (.frameReceived p bytes contents) s = .next (y.takeRoll f.payloadBytes)) ∧
      (k = .report → exec (.frameReceived p bytes contents) s = .next (y.takeReport f.payloadBytes)) ∧
      (k = .beat → exec (.frameReceived p bytes contents) s = .next (y.takeBeat (bytes.length - 6) contents)) ∧
      (k = .terminalEvent → exec (.frameReceived p bytes contents) s = .next (y.takeTerminal contents)) ∧
      (k = .call →
        exec (.frameReceived p bytes contents) s = .next (y.takeCall ((bytes.getD 2 0).toNat % 16) contents)) ∧
      (k = .voice → exec (.frameReceived p bytes contents) s = .next (y.takeVoice contents)) ∧
      (k = .adminRequest → exec (.frameReceived p bytes contents) s = .next (y.takeAdmin ⟨p, src⟩ f.payloadBytes contents))) ∧
    (¬ isProtected → claimed → ¬ consumed →
      exec (.frameReceived p bytes contents) s = .next (w.countSwitch (Ctr.wrongSource i))) ∧
    (¬ isProtected → ¬ claimed → d = 0 →
      exec (.frameReceived p bytes contents) s = .next (w.countSwitch (Ctr.noConsumer i))) ∧
    (¬ isProtected → ¬ claimed → d ≠ 0 →
      let named := match s.admin.part.mask with
        | .both => true
        | .neither => false
        | .t => decide (p = .line)
        | .l => decide (p = .station)
      let out : Option Port :=
        if (1 ≤ d ∧ d ≤ 48) ∨ d = 63 then some .line
        else if 64 ≤ d ∧ d ≤ 79 then some .station
        else if d = 127 ∨ named = true then some (if p = .station then .line else .station)
        else none
      let ownWay := out = some .station ∧ (d = s.admin.part.console.toNat ∨ d = 127)
      (out = none → exec (.frameReceived p bytes contents) s = .next (w.countSwitch (Ctr.unknownAddress i))) ∧
      (out = some p → exec (.frameReceived p bytes contents) s = .next (w.countSwitch (Ctr.hairpin i))) ∧
      (∀ o, out = some o → o ≠ p →
        let forwarded := (w.countSwitch (Ctr.forwarded i)).offer o entry.cls f
        (entry.action = .drop → exec (.frameReceived p bytes contents) s = .next (w.countSwitch (Ctr.classDrop i))) ∧
        (entry.action = .forward → exec (.frameReceived p bytes contents) s = .next forwarded) ∧
        (entry.action = .forwardCopy → p = .line → ¬ ownWay →
          exec (.frameReceived p bytes contents) s = .next (copied forwarded)) ∧
        (entry.action = .forwardCopy → p = .station ∨ ownWay →
          exec (.frameReceived p bytes contents) s = .next forwarded) ∧
        (entry.action = .redirect →
          exec (.frameReceived p bytes contents) s =
            .next ((w.countSwitch (Ctr.redirected i)).offer .station entry.cls
              (f.readdressed s.admin.part.console)))))

/-- The offer of a frame to a queue, once nothing is due on the port (log 4). A port state that does not take the class
refuses the frame and counts it (R14 to R16). A queue with room takes it at its tail. A full class 0 queue loses its oldest
frame of the same kind, or else its oldest frame, a full class 1 queue loses its oldest frame, and the offered frame is
appended; a full class 2 or class 3 queue refuses it; each is counted (R30 to R32). A frame dropped so ends the outstanding
roll or ask whose own frame it is, while that is in QUEUED, and counts it as unsent (R38, R44). -/
def Obligations.OfferPolicy : Prop :=
  (∀ (s : State) (p : Port) (c : Fin 4) (f : Frame), s.settle p = s →
    (takesOffer (s.port p).mode c = false →
      s.offerSaying p c f = ((s.countPort p (refusalCounter (s.port p).mode c)).frameDropped f, false)) ∧
    (takesOffer (s.port p).mode c = true → (s.port p).queues[c].length < (if c.val < 2 then 8 else 16) →
      s.offerSaying p c f =
        (s.modPort p fun u => { u with queues := u.queues.set c (u.queues[c] ++ [f]) }, true)) ∧
    (takesOffer (s.port p).mode c = true → (if c.val < 2 then 8 else 16) ≤ (s.port p).queues[c].length →
      let u := s.countSwitch (fullDropCounter p c)
      (c = 0 → ∀ (old new : List Frame) (g : Frame), (s.port p).queues[c] = old ++ g :: new →
        (∀ x ∈ old, x.kindNibble ≠ f.kindNibble) →
        (g.kindNibble = f.kindNibble →
          s.offerSaying p c f =
            ((u.modPort p fun v => { v with queues := v.queues.set c (old ++ new ++ [f]) }).frameDropped g, true)) ∧
        (old = [] → g.kindNibble ≠ f.kindNibble → (∀ x ∈ new, x.kindNibble ≠ f.kindNibble) →
          s.offerSaying p c f =
            ((u.modPort p fun v => { v with queues := v.queues.set c (new ++ [f]) }).frameDropped g, true))) ∧
      (c = 1 →
        s.offerSaying p c f =
          (u.modPort p fun v => { v with queues := v.queues.set c (v.queues[c].tail ++ [f]) }, true)) ∧
      (2 ≤ c.val → s.offerSaying p c f = (u.frameDropped f, false)))) ∧
  (∀ (s : State) (f : Frame),
    (∀ n, f.origin = .roll n →
      s.frameDropped f =
        if s.poller.roll = some (n, .queued) then
          { s with poller := { s.poller with roll := none, counters := bump s.poller.counters Ctr.unsentRoll } }
        else s) ∧
    (∀ k a, f.origin = .ask k → s.poller.ask = some a →
      s.frameDropped f =
        if a.serial = k ∧ a.phase = .queued then
          { s with poller := { s.poller with ask := none, counters := bump s.poller.counters Ctr.unsentAsk } }
        else s) ∧
    (∀ k, f.origin = .ask k → s.poller.ask = none → s.frameDropped f = s) ∧
    (f.origin = .own ∨ f.origin = .switched → s.frameDropped f = s))

/-- Every frame a port sends with a payload of at most 64 bytes passes its receiver's four checks, and reading its bytes
gives back its header bytes and its payload (R1, R2, R11, R17). -/
def Obligations.SentFrameReadsBack : Prop :=
  ∀ f : Frame, f.payloadBytes.length ≤ 64 →
    frameCheck f.wire = none ∧
      receivedFrame f.wire = { b0 := f.b0, b1 := f.b1, b2 := f.b2, payload := .raw f.payloadBytes, origin := .switched }

/-- A REPORT payload written from a reading with at most four seat entries, at most four passage entries, offsets of
sixteen signed bits and ages up to 1023 reads back as that reading (R6). -/
def Obligations.ReportReadsBack : Prop :=
  ∀ r : ReportReading, r.seats.length ≤ 4 → r.passages.length ≤ 4 →
    (∀ e ∈ r.seats, -32768 ≤ e.offset ∧ e.offset ≤ 32767) → (∀ e ∈ r.passages, e.age ≤ 1023) →
    readReport (writeReport r) = some r

/-! ## The post poller and the seat checker (chapter 3) -/

/-- The roll period timer restarts. With no outstanding roll a new roll of the next number is built, counted and offered in
class 0; one in QUEUED is abandoned and counted first; in AWAITING no roll is built and the skip is counted (R5, R37).

The expiry of the roll's reply deadline loses the roll: it ends and is counted, the line port's error count rises, and
the consecutive lost count rises, stopping at 2, with LINE_BROKEN on the rise from 1 to 2 (R12, R41). With the deadline
stopped nothing happens (log 2).

A returning ROLL with a payload other than 14 bytes is counted as malformed, one whose number is not that of the outstanding
roll as stale, and neither has another effect. One that matches ends the roll, in QUEUED or AWAITING, stops its deadline,
sets the lost count to 0 and withdraws LINE_BROKEN where that count was 2; then the answer bits of posts 1 to 48 are taken in
order, and a clear summit bit is counted (R5, R39, R40). For a fitted post PRESENT sets its absent count to 0 and withdraws
its share of POST_ABSENT; PRESENT clear raises the count, stopping at 2, with the share and POST_ABSENT on the rise from 1 to
2; ATTENTION sets its flag and moves it from the sweep queue to the tail of the attention queue, where a post keeps the place
it has. An answer of an unfitted post is counted and used for nothing (R40). -/
def Obligations.RollsBuiltAndLost : Prop :=
  (∀ s : State, s.pinHeld = false →
      let n := s.poller.rollNumber + 1
      let v := s.modPoller fun u => { u with rollTimer := s.admin.part.rollPeriod }
      let build := fun w : State =>
        (w.modPoller fun u =>
          { u with rollNumber := n, roll := some (n, .queued), counters := bump u.counters Ctr.rollsBuilt }).offer .line 0
          { b0 := 127, b1 := 0, b2 := 0, payload := .raw (n :: List.replicate 13 0), origin := .roll n }
      (s.poller.roll = none → exec .rollPeriodExpiry s = .next (build v)) ∧
      (∀ m, s.poller.roll = some (m, .queued) →
        exec .rollPeriodExpiry s = .next (build (v.countPoller Ctr.unsentRoll))) ∧
      (∀ m, s.poller.roll = some (m, .awaiting) →
        exec .rollPeriodExpiry s = .next (v.countPoller Ctr.skippedRoll))) ∧
  (∀ s : State, s.pinHeld = false →
      (s.poller.rollDeadline = none → exec .rollDeadlineExpiry s = .next s) ∧
      ∀ d, s.poller.rollDeadline = some d →
        let v := ((s.modPoller fun u =>
          { u with roll := none, rollDeadline := none, counters := bump u.counters Ctr.lostRoll }).errorUp .line).modPoller
            fun u => { u with lost := min 2 (s.poller.lost + 1) }
        exec .rollDeadlineExpiry s = .next (if s.poller.lost = 1 then v.raiseHeld .lineBroken {} else v)) ∧
  (∀ (s : State) (payload : List Byte),
      let u := s.modPoller fun u => { u with roll := none, rollDeadline := none, lost := 0 }
      let v := if s.poller.lost = 2 then u.withdraw .lineBroken else u
      let w := (List.finRange 48).foldl (State.rollAnswer payload) v
      (payload.length ≠ 14 → s.takeRoll payload = s.countPoller Ctr.malformedRoll) ∧
      (payload.length = 14 → (∀ x, s.poller.roll = some x → x.1 ≠ payload.getD 0 0) →
        s.takeRoll payload = s.countPoller Ctr.staleRoll) ∧
      (∀ x, payload.length = 14 → s.poller.roll = some x → x.1 = payload.getD 0 0 →
        s.takeRoll payload =
          if (payload.getD 13 0).getLsbD 7 then w else w.countPoller Ctr.summitUnmarked)) ∧
  (∀ (s : State) (payload : List Byte) (p : Post),
      let present := (payload.getD (1 + p.val / 4) 0).getLsbD (7 - 2 * (p.val % 4))
      let attention := (payload.getD (1 + p.val / 4) 0).getLsbD (6 - 2 * (p.val % 4))
      let queued := fun w : State =>
        if attention then
          w.modPoller fun u =>
            { u with
              attention := if p ∈ u.attention then u.attention else u.attention ++ [p]
              sweep := u.sweep.filter (· != p)
              posts := upd u.posts p fun e => { e with attention := true } }
        else w
      let seen := s.modPost p fun e => { e with absent := 0, absentShare := false }
      let missed := s.modPost p fun e => { e with absent := min 2 (e.absent + 1) }
      ((s.post p).fitted = false →
        State.rollAnswer payload s p = if present ∨ attention then s.countPoller Ctr.unfittedAnswer else s) ∧
      ((s.post p).fitted = true →
        (present = true → (s.post p).absentShare = false ∨ (∃ q, q ≠ p ∧ (s.post q).absentShare = true) →
          State.rollAnswer payload s p = queued seen) ∧
        (present = true → (s.post p).absentShare = true → (∀ q, q ≠ p → (s.post q).absentShare = false) →
          State.rollAnswer payload s p = queued (seen.withdraw .postAbsent)) ∧
        (present = false → (s.post p).absent ≠ 1 → State.rollAnswer payload s p = queued missed) ∧
        (present = false → (s.post p).absent = 1 →
          State.rollAnswer payload s p =
            queued ((missed.modPost p fun e => { e with absentShare := true }).raiseHeld .postAbsent
              { post := some (p.val + 1) }))))

/-- The sample period timer restarts, a MARK of the next number is built, counted and offered in class 0, and every fitted
post that does not stand in the sweep queue joins it in ascending order (R42). -/
def Obligations.SamplePeriodExpiry : Prop :=
  ∀ s : State, s.pinHeld = false →
    let n := s.poller.markNumber + 1
    exec .samplePeriodExpiry s =
      .next (((s.modPoller fun u =>
        { u with
          markNumber := n
          sampleTimer := s.admin.part.samplePeriod
          counters := bump u.counters Ctr.marksBuilt }).offer .line 0
          { b0 := 127, b1 := 0, b2 := 0x10, payload := .built (.mark n), origin := .own }).modPoller fun u =>
            { u with
              sweep := u.sweep ++
                ((List.finRange 48).filter fun p => (u.posts[p]).fitted && !u.sweep.contains p) })

/-- ASK_SEND with no pick due on the line port (log 4): with no ask outstanding, that port ACTIVE or WARNED with room in class
2, the post at the head of the attention queue, else of the sweep queue, is asked: it leaves both queues, its flag is cleared,
the ask is counted and outstanding in QUEUED, and its ASK is appended (R43). Else nothing happens.

The expiry of the ask's reply deadline ends the ask. With the line port ACTIVE or WARNED and the post fitted the missed count
rises, stopping at 3, and is counted, with the post's share and POST_SILENT on the rise from 2 to 3; otherwise, or where a
write has unfitted the post since (R36; log 42), the ask is counted as suspended (R45). Stopped it does nothing (log 2).

A REPORT with an ask outstanding: a malformed one is counted; a well-formed one ends the ask, in QUEUED or AWAITING, and is
counted. From a post unfitted since the ask was sent it is not used (R36; log 42). A mark 0 or 1 behind the mark number is
fresh: the missed count is 0, the post's share of POST_SILENT goes, the seat entries are judged, the passages handed on and a
passages-lost flag counted, in this order. Another is stale: it is counted and acts as a missed ask, in MUTED without its
effect (R46, R47; log 30).

A passage is counted, as unsequenced where its seat is in no sequence. The oldest record of the track that expects the seat
advances past it, and with a known age its deviation is offered to the slip estimate when it lies within the seat's window,
and is PASSAGE_MISMATCH otherwise; with no such record the passage is UNEXPECTED_PASSAGE (R55, R67, R85, R93, R94). On an
UNTRACKED track these causes are counted instead.

A deviation for a TRACKED track moves the slip estimate S by its quarter, truncated toward zero, clamps it to ±65,535,
counted, and is counted as applied; one for an UNTRACKED track is counted as discarded (R70). ROPE_SLIP is judged: raised when
the magnitude of S passes above the slip limit, withdrawn when it comes back to it (R71). -/
def Obligations.AsksSentAndEnded : Prop :=
  (∀ s : State, s.pinHeld = false → s.duePick .line = s →
      (∀ (p : Post) (rest : List Post), s.poller.ask = none → s.line.mode = .active ∨ s.line.mode = .warned →
        (s.line.queues[(2 : Fin 4)]).length < 16 →
        s.poller.attention = p :: rest ∨ (s.poller.attention = [] ∧ s.poller.sweep = p :: rest) →
        exec .askSend s =
          .next { s with
            poller :=
              { s.poller with
                attention := s.poller.attention.filter (· != p)
                sweep := s.poller.sweep.filter (· != p)
                posts := upd s.poller.posts p fun e => { e with attention := false }
                askSerial := s.poller.askSerial + 1
                ask := some ⟨p, .queued, s.poller.askSerial, none, false⟩
                counters := bump s.poller.counters (Ctr.asks p) }
            line :=
              { s.line with
                queues := s.line.queues.set (2 : Fin 4) (s.line.queues[(2 : Fin 4)] ++
                  [{ b0 := BitVec.ofNat 8 (p.val + 1), b1 := 0, b2 := 0x20, payload := .raw [],
                     origin := .ask s.poller.askSerial }]) } }) ∧
      (s.poller.ask ≠ none ∨ (s.line.mode ≠ .active ∧ s.line.mode ≠ .warned) ∨
        16 ≤ (s.line.queues[(2 : Fin 4)]).length ∨ (s.poller.attention = [] ∧ s.poller.sweep = []) →
        exec .askSend s = .next s)) ∧
  (∀ s : State, s.pinHeld = false →
      (s.poller.ask = none → exec .askDeadlineExpiry s = .next s) ∧
      ∀ a, s.poller.ask = some a →
        (a.deadline = none → exec .askDeadlineExpiry s = .next s) ∧
        (∀ d, a.deadline = some d →
          let carries := s.line.mode = .active ∨ s.line.mode = .warned
          let inService := (s.post a.post).fitted = true ∧ a.unfitted = false
          let missed := (s.modPost a.post fun e => { e with missed := min 3 (e.missed + 1) }).countPoller
            (Ctr.missedAsks a.post)
          (carries → inService → (s.post a.post).missed ≠ 2 →
            exec .askDeadlineExpiry s = .next (missed.modPoller fun u => { u with ask := none })) ∧
          (carries → inService → (s.post a.post).missed = 2 →
            exec .askDeadlineExpiry s =
              .next (((missed.modPost a.post fun e => { e with silentShare := true }).raiseHeld .postSilent
                { post := some (a.post.val + 1) }).modPoller fun u => { u with ask := none })) ∧
          (¬ carries ∨ ¬ inService →
            exec .askDeadlineExpiry s =
              .next ((s.countPoller Ctr.suspendedAsk).modPoller fun u => { u with ask := none })))) ∧
  (∀ (s : State) (payload : List Byte),
      (readReport payload = none → s.takeReport payload = s.countPoller Ctr.malformedReport) ∧
      ∀ r a, readReport payload = some r → s.poller.ask = some a →
        let p := a.post
        let carries := s.line.mode = .active ∨ s.line.mode = .warned
        let inService := (s.post p).fitted = true ∧ a.unfitted = false
        let fresh := (s.poller.markNumber - r.mark).toNat ≤ 1
        let u := s.countPoller (Ctr.reports p)
        let stale := u.countPoller (Ctr.staleReports p)
        let missed := (stale.modPost p fun e => { e with missed := min 3 (e.missed + 1) }).countPoller (Ctr.missedAsks p)
        let answered := u.modPost p fun e => { e with missed := 0, silentShare := false }
        let seen :=
          if (s.post p).silentShare = true ∧ ∀ q, q ≠ p → (s.post q).silentShare = false then answered.withdraw .postSilent
          else answered
        let used := r.passages.foldl (State.handPassage p) (r.seats.foldl (State.seatEntry p) seen)
        let ended := fun w : State => w.modPoller fun u => { u with ask := none }
        (¬ inService → s.takeReport payload = ended (u.countPoller Ctr.unfittedReport)) ∧
        (inService → fresh →
          s.takeReport payload = ended (if r.lost then used.countPoller (Ctr.passagesLost p) else used)) ∧
        (inService → ¬ fresh → ¬ carries → s.takeReport payload = ended stale) ∧
        (inService → ¬ fresh → carries → (s.post p).missed ≠ 2 → s.takeReport payload = ended missed) ∧
        (inService → ¬ fresh → carries → (s.post p).missed = 2 →
          s.takeReport payload =
            ended ((missed.modPost p fun e => { e with silentShare := true }).raiseHeld .postSilent
              { post := some (p.val + 1) }))) ∧
  (∀ (s : State) (p : Post) (e : PassageReport),
      let x : SeatRef := ⟨p, e.seat⟩
      let u := s.countPoller Ctr.passagesHanded
      let detail : Detail := { post := some (p.val + 1), seat := some e.seat.val }
      (x ∉ s.tracker.seqs.up → x ∉ s.tracker.seqs.down → s.handPassage p e = u.countTracker Ctr.unsequenced) ∧
      ∀ (t : Track) (front back : List SeatRef), s.tracker.seqs.get t = front ++ x :: back → x ∉ front →
        (t = .down → x ∉ s.tracker.seqs.up) →
        let i := trackIndex t
        let raised := fun (w : State) (c : Cause) (d : Detail) => match s.tracker.modes.get t with
          | .tracked => w.raiseMomentary c d
          | .untracked => w.countTracker (Ctr.untrackedEvents i)
        ((∀ r ∈ s.tracker.lists.get t, r.next ≠ front.length) →
          s.handPassage p e = (raised u .unexpectedPassage detail).countTracker (Ctr.unexpected i)) ∧
        ∀ (old new : List TrainRecord) (r : TrainRecord), s.tracker.lists.get t = old ++ r :: new →
          (∀ y ∈ old, y.next ≠ front.length) → r.next = front.length →
          let v := (u.modTracker fun k =>
            { k with lists := k.lists.set t (old ++ { r with next := front.length + 1 } :: new) }).countTracker
              (Ctr.matched i)
          let position := (launchOffset s.rope.table t : Int) + ((s.rope.odo - r.departure).toInt).tdiv 256 - s.rope.slip
          let d := position - (s.rope.speed * e.age).tdiv 1000 - ((s.seat x).position : Int)
          (e.age = 1023 → s.handPassage p e = v) ∧
          (e.age ≠ 1023 → d.natAbs ≤ (s.seat x).window → s.handPassage p e = v.offerDeviation t d) ∧
          (e.age ≠ 1023 → (s.seat x).window < d.natAbs →
            s.handPassage p e =
              (raised v .passageMismatch { detail with cabin := r.cabin }).countTracker (Ctr.mismatched i))) ∧
  (∀ (s : State) (t : Track) (d : Int),
      let sum := s.rope.slip + d.tdiv 4
      let slip := max (-65535) (min 65535 sum)
      let applied := bump s.rope.counters Ctr.deviationsApplied
      (s.tracker.modes.get t = .tracked →
        s.offerDeviation t d =
          State.judgeSlip { s with rope :=
            { s.rope with
              slip := slip
              counters := if slip = sum then applied else bump applied Ctr.slipClamp } }) ∧
      (s.tracker.modes.get t = .untracked →
        s.offerDeviation t d =
          { s with rope := { s.rope with counters := bump s.rope.counters Ctr.deviationsDiscarded } })) ∧
  (∀ s : State,
      let above := decide (s.rope.table.slipLimit < s.rope.slip.natAbs)
      let v : State := { s with rope := { s.rope with slipping := above } }
      (above = true → s.rope.slipping = false → s.judgeSlip = v.raiseHeld .ropeSlip {}) ∧
      (above = false → s.rope.slipping = true → s.judgeSlip = v.withdraw .ropeSlip) ∧
      (above = s.rope.slipping → s.judgeSlip = s))

/-- The judgement of a seat entry's offset by its compare mode. The tested value is the offset's magnitude, the offset or its
negative; in mode OFF nothing is judged. A tested value beyond the warn limit raises SEAT_WARN and is counted; one within
the stop limit clears the beyond-stop count and withdraws the seat's share; one beyond the stop limit raises the beyond-stop
count, stopping at the confirm count, where the seat's share of SEAT_LIMIT becomes present and is raised once. A sensor
fault, offset -32768, is counted and beyond both limits (R50 to R52); in mode OFF it is neither counted nor judged, which is
the model's choice (log 43).

The judgement of its switches: an unsupervised seat has none. An open DERAIL or WIRE is counted and, where the seat has no
share of SEAT_SWITCH, gives it one and raises the code; both closed withdraw the share. An entry of an unfitted seat is
counted and used for nothing else (R53, R54). A share withdrawn takes the condition with it when no other seat has one
(R49). -/
def Obligations.SeatOffsetJudgement : Prop :=
  (∀ (s : State) (r : SeatRef) (o t : Int),
    let e := s.seat r
    let detail : Detail := { post := some (r.post.val + 1), seat := some r.seat.val }
    let warned := (s.countPoller Ctr.warned).raiseMomentary .seatWarn detail
    let faulted := ((s.countPoller Ctr.sensorFault).countPoller Ctr.warned).raiseMomentary .seatWarn detail
    let judged := if (e.warn : Int) < t then warned else s
    let n := min e.confirm (e.beyond + 1)
    (e.compare = .off → s.judgeOffset r o = s) ∧
    ((e.compare = .band ∧ t = (o.natAbs : Int)) ∨ (e.compare = .above ∧ t = o) ∨ (e.compare = .below ∧ t = -o) →
      (o ≠ -32768 → t ≤ e.stop → s.judgeOffset r o = (judged.modSeat r fun e => { e with beyond := 0 }).dropLimit r) ∧
      (o ≠ -32768 → (e.stop : Int) < t → n < e.confirm ∨ e.limitShare = true →
        s.judgeOffset r o = judged.modSeat r fun e => { e with beyond := n }) ∧
      (o ≠ -32768 → (e.stop : Int) < t → n = e.confirm → e.limitShare = false →
        s.judgeOffset r o =
          (judged.modSeat r fun e => { e with beyond := n, limitShare := true }).raiseHeld .seatLimit detail) ∧
      (o = -32768 → n < e.confirm ∨ e.limitShare = true →
        s.judgeOffset r o = faulted.modSeat r fun e => { e with beyond := n }) ∧
      (o = -32768 → n = e.confirm → e.limitShare = false →
        s.judgeOffset r o =
          (faulted.modSeat r fun e => { e with beyond := n, limitShare := true }).raiseHeld .seatLimit detail))) ∧
  (∀ (s : State) (p : Post) (e : SeatReport),
    let r : SeatRef := ⟨p, e.seat⟩
    let v := s.judgeOffset r e.offset
    let detail : Detail := { post := some (p.val + 1), seat := some e.seat.val }
    ((s.seat r).fitted = false → s.seatEntry p e = s.countPoller Ctr.unfittedSeat) ∧
    ((s.seat r).fitted = true →
      ((s.seat r).supervised = false → s.seatEntry p e = v) ∧
      ((s.seat r).supervised = true → e.derail = false → e.wire = false → s.seatEntry p e = v.dropSwitch r) ∧
      ((s.seat r).supervised = true → e.derail = true ∨ e.wire = true →
        ((s.seat r).switchShare = true → s.seatEntry p e = v.countPoller Ctr.switchOpen) ∧
        ((s.seat r).switchShare = false →
          s.seatEntry p e =
            ((v.countPoller Ctr.switchOpen).modSeat r fun e => { e with switchShare := true }).raiseHeld .seatSwitch
              detail)))) ∧
  (∀ (s : State) (r : SeatRef),
    let u := s.modSeat r fun e => { e with limitShare := false }
    let v := s.modSeat r fun e => { e with switchShare := false }
    ((s.seat r).limitShare = false → s.dropLimit r = s) ∧
    ((s.seat r).limitShare = true →
      ((∃ q, q ≠ r ∧ (s.seat q).limitShare = true) → s.dropLimit r = u) ∧
      ((∀ q, q ≠ r → (s.seat q).limitShare = false) → s.dropLimit r = u.withdraw .seatLimit)) ∧
    ((s.seat r).switchShare = false → s.dropSwitch r = s) ∧
    ((s.seat r).switchShare = true →
      ((∃ q, q ≠ r ∧ (s.seat q).switchShare = true) → s.dropSwitch r = v) ∧
      ((∀ q, q ≠ r → (s.seat q).switchShare = false) → s.dropSwitch r = v.withdraw .seatSwitch)))

/-! ## The rope (chapter 4) -/

/-- A tachometer pulse moves the odometer by the pulse pitch, modulo 2^48, in the direction of the direction input, moves
the gate count by 1 unless it is at its limit, and is counted; one that finds the limit is counted there too (R59). Nothing
else changes. -/
def Obligations.TachometerPulse : Prop :=
  ∀ s : State, s.pinHeld = false →
    (s.rope.gate ≠ 32767 →
      exec (.tachometerPulse .forward) s =
        .next { s with rope :=
          { s.rope with
            direction := .forward
            odo := s.rope.odo + BitVec.ofNat 48 s.rope.table.pitch
            gate := s.rope.gate + 1
            counters := bump s.rope.counters Ctr.forwardPulses } }) ∧
    (s.rope.gate = 32767 →
      exec (.tachometerPulse .forward) s =
        .next { s with rope :=
          { s.rope with
            direction := .forward
            odo := s.rope.odo + BitVec.ofNat 48 s.rope.table.pitch
            counters := bump (bump s.rope.counters Ctr.forwardPulses) Ctr.gateSaturation } }) ∧
    (s.rope.gate ≠ -32768 →
      exec (.tachometerPulse .reverse) s =
        .next { s with rope :=
          { s.rope with
            direction := .reverse
            odo := s.rope.odo - BitVec.ofNat 48 s.rope.table.pitch
            gate := s.rope.gate - 1
            counters := bump s.rope.counters Ctr.reversePulses } }) ∧
    (s.rope.gate = -32768 →
      exec (.tachometerPulse .reverse) s =
        .next { s with rope :=
          { s.rope with
            direction := .reverse
            odo := s.rope.odo - BitVec.ofNat 48 s.rope.table.pitch
            counters := bump (bump s.rope.counters Ctr.reversePulses) Ctr.gateSaturation } })

/-- A gate expiry always completes, and this is all it does to the rope travel unit: the speed is the gate's pulses times
pitch times 10, divided by 256 toward zero and clamped to ±20,000; the zero-gate count, standstill, the two speed conditions
and the tach-silent timer follow; the gate count is 0 and the gate timer runs again (R60 to R64). The odometer, the slip
estimate, the rope table, the summit link and the cabin table stay (R65).

The stop chain is told in this order: entry to STANDSTILL stops the stop timer (R181); OVERSPEED and then REVERSE_MOTION is
raised where its condition passes from gone to present and withdrawn where it passes from present to gone (R62, R63); entry
to MOVING withdraws a TACH_SILENT that is present (R64). Then the missed-passage sweep takes the UP list and the DOWN list.
Each record passes the seats it still expects whose position plus window it is beyond, up to the first it is not: its next
seat index rises by their number, nothing else of the lists changes, and each is one occurrence of MISSED_PASSAGE with post,
seat and cabin, counted, on a TRACKED track, and a counted event on an UNTRACKED one (R65, R85, R95). -/
def Obligations.GateExpiry : Prop :=
  (∀ s : State, s.pinHeld = false →
    let raw := (s.rope.gate * s.rope.table.pitch * 10).tdiv 256
    let v := max (-20000) (min 20000 raw)
    let zeros := if s.rope.gate = 0 then min 2 (s.rope.zeros + 1) else 0
    let still := decide (s.rope.gate = 0) && (s.rope.standstill || decide (zeros = 2))
    let tooFast := decide (s.rope.table.overspeed < v.natAbs)
    let reverse := decide (v < 0) && !s.rope.table.reversePermitted
    let judged := fun (u : State) (c : Cause) (was now : Bool) =>
      if now = true ∧ was = false then u.raiseHeld c {} else if was = true ∧ now = false then u.withdraw c else u
    let passed := fun (t : Track) (r : TrainRecord) =>
      ((s.tracker.seqs.get t).drop r.next).takeWhile fun x =>
        decide (((s.seat x).position : Int) + (s.seat x).window < s.rope.position t r)
    let swept := fun t : Track => (s.tracker.lists.get t).map fun r => { r with next := r.next + (passed t r).length }
    ∃ t : State, exec .gateExpiry s = .next t ∧
      t.rope =
        { s.rope with
          speed := v
          zeros := zeros
          standstill := still
          overspeed := tooFast
          reverse := reverse
          tachTimer :=
            if still && !s.rope.standstill && s.rope.driveRun then some s.rope.table.tachSilent
            else if s.rope.standstill && !still then none
            else s.rope.tachTimer
          silent := s.rope.silent && !(s.rope.standstill && !still)
          gate := 0
          gateTimer := 100
          counters := if v = raw then s.rope.counters else bump s.rope.counters Ctr.speedClamp } ∧
      t.link = s.link ∧ t.tracker.cabins = s.tracker.cabins ∧ t.pending = s.pending ∧ t.pinHeld = false ∧
      t.tracker.lists = ⟨swept .up, swept .down⟩ ∧
      (∀ (track : Track) (r : TrainRecord), r ∈ s.tracker.lists.get track → passed track r ≠ [] →
        s.tracker.modes.get track = .tracked → ∃ x ∈ t.chain.causes, x.code = .missedPassage) ∧
      (let told := { s with
          rope := t.rope
          chain := if still = true ∧ s.rope.standstill = false then { s.chain with timer := none } else s.chain }
        let spoken := judged (judged told .overspeed s.rope.overspeed tooFast) .reverseMotion s.rope.reverse reverse
        t = State.sweepLists (if s.rope.standstill = true ∧ still = false ∧ s.rope.silent = true then
          spoken.withdraw .tachSilent else spoken))) ∧
  (∀ s : State, s.sweepLists =
    (List.range s.tracker.lists.down.length).foldl (State.sweepRecord .down)
      ((List.range s.tracker.lists.up.length).foldl (State.sweepRecord .up) s)) ∧
  (∀ (s : State) (t : Track) (old new : List TrainRecord) (r : TrainRecord), s.tracker.lists.get t = old ++ r :: new →
    let passed := ((s.tracker.seqs.get t).drop r.next).takeWhile fun x =>
      decide (((s.seat x).position : Int) + (s.seat x).window < s.rope.position t r)
    let missed := fun (u : State) (x : SeatRef) =>
      (match s.tracker.modes.get t with
        | .tracked =>
          u.raiseMomentary .missedPassage { post := some (x.post.val + 1), seat := some x.seat.val, cabin := r.cabin }
        | .untracked => u.countTracker (Ctr.untrackedEvents (trackIndex t))).countTracker
          (Ctr.missedPassages (trackIndex t))
    State.sweepRecord t s old.length =
      (passed.foldl missed s).modTracker fun k =>
        { k with lists := k.lists.set t (old ++ { r with next := r.next + passed.length } :: new) })

/-- A rise of drive-run starts the tach-silent timer in STANDSTILL; a fall stops it and withdraws TACH_SILENT if it was
present; a level the input already has changes nothing. The timer's expiry raises TACH_SILENT and holds it; with the timer
stopped it does nothing (R64; log 2). -/
def Obligations.DriveRunAndTachSilent : Prop :=
  ∀ s : State, s.pinHeld = false →
    exec (.driveRunChange s.rope.driveRun) s = .next s ∧
    (s.rope.driveRun = false →
      exec (.driveRunChange true) s =
        .next { s with rope :=
          { s.rope with
            driveRun := true
            tachTimer := if s.rope.standstill then some s.rope.table.tachSilent else s.rope.tachTimer } }) ∧
    (s.rope.driveRun = true →
      let u : State := { s with rope := { s.rope with driveRun := false, tachTimer := none, silent := false } }
      exec (.driveRunChange false) s = .next (if s.rope.silent then u.withdraw .tachSilent else u)) ∧
    (s.rope.tachTimer = none → exec .tachSilentTimerExpiry s = .next s) ∧
    ∀ n, s.rope.tachTimer = some n →
      exec .tachSilentTimerExpiry s =
        .next (State.raiseHeld { s with rope := { s.rope with tachTimer := none, silent := true } } .tachSilent {})

/-! ## The cabin tracker (chapter 5) -/

/-- The age sweep: its timer restarts; each LEARNED entry with location NONE has its idle time raised by 1, stopping at
1,440; with an age time other than 0 every such entry whose idle time is then not less than the age time is removed and
counted (R77). Nothing else changes. -/
def Obligations.AgeSweep : Prop :=
  ∀ s : State, s.pinHeld = false →
    let ages := fun e : CabinEntry => decide (e.kind = .learned) && decide (e.location = .nowhere)
    let aged := s.tracker.cabins.map fun e =>
      if ages e then { e with idle := e.idle.map fun i => min 1440 (i + 1) } else e
    let gone := fun e : CabinEntry =>
      ages e && decide (s.tracker.settings.ageTime ≠ 0) && decide (s.tracker.settings.ageTime ≤ e.idle.getD 0)
    exec .ageSweepExpiry s =
      .next { s with tracker :=
        { s.tracker with
          cabins := aged.filter fun e => !gone e
          ageTimer := 60000
          counters := upd s.tracker.counters Ctr.agedOut (· + BitVec.ofNat 32 (aged.filter gone).length) } }

/-! ## The station rail (chapter 6) -/

/-- The filter of a detector. A level the input already has changes nothing (log 24); an unfitted detector's level is stored
only; a level the filtered state stands for stops the timer; another one starts it with the entry's debounce. The expiry gives
the filtered state the level's state, makes one edge, counts it and hands it on: a bay's arrival edge to the station list, a
bay's clear edge to its channel, LCK's arrival edge to the lock check, LCK's clear edge to nothing (what each of the three does
is BayEdgeTakesTheOldestRecord). With a debounce of 0 the edge is made at the change (R99, R100). A stopped debounce timer does
nothing (log 2). -/
def Obligations.DetectorFilter : Prop :=
  ∀ (s : State) (d : Detector) (high : Bool), s.pinHeld = false →
    let i := detectorIndex d
    let u := s.rail.detectors[i]
    let stored := s.modRail fun r => { r with detectors := upd r.detectors i fun u => { u with level := high } }
    let edge := fun (w : State) (level : Bool) =>
      let now := levelPresent u.entry.polarity level
      let v := w.modRail fun r =>
        { r with
          detectors := upd r.detectors i fun u => { u with present := now, timer := none }
          counters := bump r.counters (if now then Ctr.arrivalEdges i else Ctr.clearEdges i) }
      match d, now with
      | .bay k, true => v.bayArrival k
      | .bay k, false => v.clearEdge k
      | .lck, true => v.lockCheck
      | .lck, false => v
    exec (.detectorLevelChange d u.level) s = .next s ∧
    (u.level ≠ high →
      (u.entry.fitted = false → exec (.detectorLevelChange d high) s = .next stored) ∧
      (u.entry.fitted = true → levelPresent u.entry.polarity high = u.present →
        exec (.detectorLevelChange d high) s =
          .next (stored.modRail fun r => { r with detectors := upd r.detectors i fun u => { u with timer := none } })) ∧
      (u.entry.fitted = true → levelPresent u.entry.polarity high ≠ u.present → u.entry.debounce ≠ 0 →
        exec (.detectorLevelChange d high) s =
          .next (stored.modRail fun r =>
            { r with detectors := upd r.detectors i fun u => { u with timer := some u.entry.debounce } })) ∧
      (u.entry.fitted = true → levelPresent u.entry.polarity high ≠ u.present → u.entry.debounce = 0 →
        exec (.detectorLevelChange d high) s = .next (edge stored high))) ∧
    (u.timer = none → exec (.detectorDebounceExpiry d) s = .next s) ∧
    (∀ n, u.timer = some n → exec (.detectorDebounceExpiry d) s = .next (edge s u.level))

/-- A bay arrival edge concerns the oldest record whose progress is not above the bay's number: its progress becomes the bay's
number plus 1 and it is offered to the channel; the lowest fitted bay it should have passed unseen raises BAY_SKIPPED first.
With no such record the edge is a phantom (R106, R107). LCK's arrival edge concerns the oldest record whose progress is not
above 8: its progress becomes 9, and its door state passes the check when it is CLOSED_LOCKED and raises DOOR_NOT_LOCKED
otherwise; with no such record the edge is a phantom (R108).

The offer of a record to a channel in READY makes its cabin the served one, with the role of the offer (log 17); in another
state it is counted, and raises BAY_UNSERVED unless the role is NONE. In LOCAL the channel only reads the sensor of its role.
In REMOTE and REMOTE_LOCKED an asserted sensor is written as OPEN or CLOSED_LOCKED and nothing is driven; otherwise OPEN_DOOR
starts for role OPEN with door mode AUTO, CLOSE_DOOR for role CLOSE with AUTO and KEEP_CLOSED, and OPEN_GATE for role GATE
with a PASSENGER cabin whose doors are OPEN; any other cabin is served without an action (R123 to R127).

A clear edge releases the served cabin of a powered channel. In LOCAL, in HALTED and in POWERING it does nothing more. In
REMOTE and REMOTE_LOCKED an OPEN_DOOR is abandoned first with OPEN_FAILED and DOOR_OPEN_FAIL, a CLOSE_DOOR with UNKNOWN, its
attempts left kept, which is the model's choice (log 47); an OPEN_GATE is abandoned and CLOSE_GATE starts, as it does in READY
for a gate whose flag is set: with LOCKED asserted the flag is cleared, otherwise the channel drives CLOSING with the attempts
of the table; a CLOSE_GATE runs on (R126, R128; the order is log 18). -/
def Obligations.BayEdgeTakesTheOldestRecord : Prop :=
  (∀ (s : State) (k : Fin 8),
    ((∀ r ∈ s.rail.cabins, k.val < r.progress) →
      s.bayArrival k =
        (s.raiseMomentary .phantomAtBay { channel := some k.val }).countRail (Ctr.phantom k.castSucc)) ∧
    (∀ (old new : List StationRecord) (r : StationRecord), s.rail.cabins = old ++ r :: new →
      (∀ x ∈ old, k.val < x.progress) → r.progress ≤ k.val →
      (∀ j : Fin 8, r.progress ≤ j.val → j < k → s.fitted j.castSucc = false) →
      s.bayArrival k =
        (s.modRail fun u => { u with cabins := old ++ { r with progress := k.val + 1 } :: new }).offerCabin k r) ∧
    (∀ (i : Nat) (r : StationRecord) (j : Fin 8), s.rail.cabins[i]? = some r →
      (∀ x ∈ s.rail.cabins.take i, k.val < x.progress) → r.progress ≤ j.val → j < k → s.fitted j.castSucc = true →
      (∀ m : Fin 8, r.progress ≤ m.val → m < j → s.fitted m.castSucc = false) →
      s.bayArrival k =
        ((((s.raiseMomentary .baySkipped { channel := some j.val, cabin := r.cabin }).countRail
          (Ctr.skipped j)).setProgress i (k.val + 1)).offerCabin k r))) ∧
  (∀ s : State,
    ((∀ r ∈ s.rail.cabins, 8 < r.progress) →
      s.lockCheck = (s.raiseMomentary .phantomAtBay {}).countRail (Ctr.phantom 8)) ∧
    (∀ (old new : List StationRecord) (r : StationRecord), s.rail.cabins = old ++ r :: new →
      (∀ x ∈ old, 8 < x.progress) → r.progress ≤ 8 →
      let v := s.modRail fun u => { u with cabins := old ++ { r with progress := 9 } :: new }
      (r.door = .closedLocked → s.lockCheck = v.countRail Ctr.lockPass) ∧
      (r.door ≠ .closedLocked →
        s.lockCheck = (v.raiseMomentary .doorNotLocked { cabin := r.cabin }).countRail Ctr.lockFail))) ∧
  (∀ (s : State) (k : Fin 8) (r : StationRecord),
    let c := s.channel k
    let role := c.entry.role
    let unserved := s.countDoors (Ctr.unservedOffer k)
    let served := (s.countDoors (Ctr.servedOffer k)).modChannel k fun c =>
      { c with served := some ⟨r.number, r.cabin, r.profile, role, none⟩ }
    let started := fun (a : ActionKind) (st : ChannelState) (c : Channel) =>
      { c with
        state := st, action := some ⟨a, role, c.entry.driveTime, c.entry.reverseTime, c.entry.attempts⟩
        driveTimer := some (c.entry.driveTime * 100), changes := { c.changes with state := true } }
    (c.state ≠ .ready →
      (role = .none → s.offerCabin k r = unserved) ∧
      (role ≠ .none →
        s.offerCabin k r = unserved.raiseMomentary .bayUnserved { channel := some k.val, cabin := r.cabin })) ∧
    (c.state = .ready →
      (role = .none → s.offerCabin k r = served) ∧
      (role = .openDoor → c.pins.openEnd = true → s.offerCabin k r = served.channelWrite k .opened) ∧
      (role = .closeDoor → c.pins.locked = true → s.offerCabin k r = served.channelWrite k .closedLocked) ∧
      (c.mode = .local_ →
        (role = .openDoor → c.pins.openEnd = false → s.offerCabin k r = served) ∧
        (role = .closeDoor → c.pins.locked = false → s.offerCabin k r = served) ∧
        (role = .gate → s.offerCabin k r = served)) ∧
      (c.mode ≠ .local_ →
        (role = .openDoor → c.pins.openEnd = false →
          (r.profile.door = .auto →
            s.offerCabin k r = (served.modChannel k (started .openDoor .opening)).channelWrite k .opening) ∧
          (r.profile.door ≠ .auto → s.offerCabin k r = served)) ∧
        (role = .closeDoor → c.pins.locked = false →
          (r.profile.door ≠ .manual →
            s.offerCabin k r =
              (served.modChannel k fun c =>
                { started .closeDoor .closing c with attemptsLeft := c.entry.attempts, reverseTimer := none }).channelWrite
                  k .closing) ∧
          (r.profile.door = .manual → s.offerCabin k r = served)) ∧
        (role = .gate →
          let doors := (s.rail.cabins.find? fun x => decide (x.number = r.number)).map fun x => x.door
          (r.profile.cls = .passenger → doors = some .opened →
            s.offerCabin k r =
              served.modChannel k fun c => { started .openGate .opening c with gateOpen := true }) ∧
          (r.profile.cls ≠ .passenger ∨ doors ≠ some .opened → s.offerCabin k r = served))))) ∧
  (∀ (s : State) (k : Fin 8),
    let c := s.channel k
    let release := fun w : State => w.modChannel k fun c => { c with served := none }
    let ended := fun c : Channel =>
      { c with
        state := .ready, action := none, driveTimer := none, reverseTimer := none
        changes := { c.changes with state := true } }
    let shut := fun c : Channel =>
      if c.pins.locked then
        { c with state := .ready, gateOpen := false, action := none, driveTimer := none, reverseTimer := none }
      else
        { c with
          state := .closing
          action := some ⟨.closeGate, .gate, c.entry.driveTime, c.entry.reverseTime, c.entry.attempts⟩
          attemptsLeft := c.entry.attempts, driveTimer := some (c.entry.driveTime * 100), reverseTimer := none
          changes := { c.changes with state := true } }
    let abandoned := (s.modChannel k ended).countDoors (Ctr.abandoned k)
    (c.state = .unpowered ∨ c.state = .fault → s.clearEdge k = s) ∧
    (c.state = .halted ∨ c.state = .powering → s.clearEdge k = release s) ∧
    (c.state.powered = true → c.mode = .local_ → s.clearEdge k = release s) ∧
    (c.mode ≠ .local_ →
      (c.state = .ready → c.entry.role = .gate → c.gateOpen = true → s.clearEdge k = release (s.modChannel k shut)) ∧
      (c.state = .ready → c.entry.role ≠ .gate ∨ c.gateOpen = false → s.clearEdge k = release s) ∧
      (∀ a, c.action = some a →
        (c.state = .opening → a.kind = .openGate → s.clearEdge k = release (abandoned.modChannel k shut)) ∧
        (c.state = .opening → a.kind = .openDoor →
          s.clearEdge k =
            ((abandoned.channelWrite k .openFailed).raiseMomentary .doorOpenFail
              { channel := some k.val, cabin := c.served.bind fun v => v.cabin }).modChannel k fun c =>
                if c.state = .unpowered ∨ c.state = .fault then c else { c with served := none }) ∧
        (c.state = .closing ∨ c.state = .reversing → a.kind = .closeDoor →
          s.clearEdge k = release (abandoned.channelWrite k .unknown)) ∧
        (c.state = .closing ∨ c.state = .reversing → a.kind = .closeGate → s.clearEdge k = release s))))

/-- A read from ARR always completes and is counted, and counted as unreadable too where it gives no ID of 1 to 4095 (R101).
The valley arrival comes first, then the recording: while the list has room the next arrival number, the identity handed on,
the cabin's profile, progress 0 and ASSUMED_CLOSED are appended; a full list raises STATION_FULL and is left as it stands
(R92, R104, R105).

An unreadable read raises TAG_UNREAD and takes the oldest DOWN record, whose cabin is placed at STATION and recorded as
inferred, or none from an empty list. An ID with an entry, whose idle count is then 0, and an ID that is learned take their
own DOWN record, else an oldest one that is anonymous, else the arrival is unknown, with ORDER_FAULT (its detail: log 19);
the cabin is placed at STATION and recorded under its profile. Any other ID raises UNKNOWN_CABIN, takes an anonymous oldest record, else is an
unknown arrival, and is recorded without a cabin under the default profile (R76, R92).

The arrival checks of a record taken: ORDER_FAULT where an older one stood before it; at a known age its deviation offered
within the arrival window and ARRIVAL_MISMATCH beyond it; MISSED_PASSAGE for each seat it still expects; its removal, counted
(R89). A placing takes every other record of the cabin out of the three lists, with one ORDER_FAULT for each list that held
one (their order: log 19), and writes its location (R87). On an UNTRACKED track a cause of the track is counted instead of raised (R85).

So a cabin with an entry has left the train lists and stands at the tail of the station list with the next arrival number, or
the list was full; the odometer and the summit link stay. -/
def Obligations.ArrRead : Prop :=
  (∀ (s : State) (read : Option Nat), s.pinHeld = false →
    let unread := ∀ id, read = some id → id = 0 ∨ 4095 < id
    let counted := s.countRail (Ctr.reads 0)
    let recorded := fun (u : State) (cabin : Option Nat) (inferred : Bool) (p : Profile) =>
      if u.rail.cabins.length < 12 then
        (u.modRail fun v =>
          { v with
            cabins := v.cabins ++ [⟨v.generator, cabin, inferred, p, 0, .assumedClosed⟩]
            generator := v.generator + 1 }).countRail Ctr.recorded
      else
        ((u.raiseMomentary .stationFull { cabin := cabin }).countRail Ctr.stationFull).modTracker fun v =>
          { v with cabins := v.cabins.map fun e => if some e.id = cabin then { e with location := .nowhere } else e }
    let profile := fun (u : State) (id : Nat) => match u.tracker.entry id with
      | some e => e.profile
      | none => u.tracker.settings.profile
    let unlisted := fun (u : State) (cabin : Option Nat) =>
      let v := u.countTracker (Ctr.unknownArrivals 1)
      if s.tracker.modes.down = .tracked then v.raiseMomentary .orderFault { cabin := cabin }
      else v.countTracker (Ctr.untrackedEvents 1)
    let oldest := s.tracker.lists.down.head?
    (unread →
      let u := counted.countRail (Ctr.unreadable 0)
      (s.tracker.lists.down = [] →
        exec (.arrRead read) s =
          .next (recorded (u.raiseMomentary .tagUnread {}) none false s.tracker.settings.profile)) ∧
      (∀ r, oldest = some r →
        (r.cabin = none →
          exec (.arrRead read) s =
            .next (recorded ((u.arrivalChecks .down 0 0).raiseMomentary .tagUnread {}) none true
              s.tracker.settings.profile)) ∧
        (∀ id, r.cabin = some id →
          let v := (u.arrivalChecks .down 0 0).place id .station
          exec (.arrRead read) s =
            .next (recorded (v.raiseMomentary .tagUnread { cabin := some id }) (some id) true (profile v id))))) ∧
    (∀ id, read = some id → 1 ≤ id → id ≤ 4095 →
      let learns := s.tracker.entry id = none ∧ s.tracker.settings.learning = true ∧ s.tracker.cabins.length < 192
      let resolved :=
        if (s.tracker.entry id).isSome then
          counted.modTracker fun v =>
            { v with cabins := v.cabins.map fun e => if e.id = id then { e with idle := e.idle.map fun _ => 0 } else e }
        else
          (counted.modTracker fun v =>
            { v with cabins := insertCabin ⟨id, .learned, v.settings.profile, .nowhere, 0, some 0⟩ v.cabins }).countTracker
              Ctr.learned
      let given := fun taken : State =>
        let v := taken.place id .station
        exec (.arrRead read) s = .next (recorded v (some id) false (profile v id))
      ((s.tracker.entry id).isSome = true ∨ learns →
        (∀ (old new : List TrainRecord) (r : TrainRecord), s.tracker.lists.down = old ++ r :: new → r.cabin = some id →
          (∀ x ∈ old, x.cabin ≠ some id) → given (resolved.arrivalChecks .down old.length 0)) ∧
        ((∀ x ∈ s.tracker.lists.down, x.cabin ≠ some id) →
          (∀ r, oldest = some r → r.cabin = none → given (resolved.arrivalChecks .down 0 0)) ∧
          ((∀ r, oldest = some r → r.cabin ≠ none) → given (unlisted resolved (some id))))) ∧
      (s.tracker.entry id = none → ¬ learns →
        let u := (counted.raiseMomentary .unknownCabin { cabin := some id }).countTracker Ctr.unknownCabin
        let ends := fun taken : State =>
          exec (.arrRead read) s = .next (recorded taken none false s.tracker.settings.profile)
        (∀ r, oldest = some r → r.cabin = none → ends (u.arrivalChecks .down 0 0)) ∧
        ((∀ r, oldest = some r → r.cabin ≠ none) → ends (unlisted u none))))) ∧
  (∀ (s : State) (t : Track) (old new : List TrainRecord) (r : TrainRecord) (age : Nat),
    s.tracker.lists.get t = old ++ r :: new →
    let raised := fun (u : State) (c : Cause) (d : Detail) => match s.tracker.modes.get t with
      | .tracked => u.raiseMomentary c d
      | .untracked => u.countTracker (Ctr.untrackedEvents (trackIndex t))
    let ordered := if old = [] then s else raised s .orderFault { cabin := r.cabin }
    let launch := match t with
      | .up => s.rope.table.launchUp
      | .down => s.rope.table.launchDown
    let length := match t with
      | .up => s.rope.table.lengthUp
      | .down => s.rope.table.lengthDown
    let d := (launch : Int) + ((s.rope.odo - r.departure).toInt).tdiv 256 - s.rope.slip -
      (s.rope.speed * age).tdiv 1000 - (length : Int)
    let judged :=
      if age = 1023 then ordered
      else if d.natAbs ≤ s.rope.table.arrivalWindow then ordered.offerDeviation t d
      else raised ordered .arrivalMismatch { cabin := r.cabin }
    let missed := fun (u : State) (x : SeatRef) =>
      (raised u .missedPassage { post := some (x.post.val + 1), seat := some x.seat.val, cabin := r.cabin }).countTracker
        (Ctr.missedPassages (trackIndex t))
    s.arrivalChecks t old.length age =
      ((((s.tracker.seqs.get t).drop r.next).foldl missed judged).modTracker fun v =>
        { v with lists := v.lists.set t (old ++ new) }).countTracker (Ctr.arrivals (trackIndex t))) ∧
  (∀ (s : State) (id : Nat) (l : Location),
    let isIt := fun cabin : Option Nat => decide (cabin = some id)
    let others := fun x : List TrainRecord => x.filter fun r => !isIt r.cabin
    let faulty := fun (here : Bool) (mode : TrackMode) (i : Fin 2) (u : State) =>
      if here = false then u
      else match mode with
        | .tracked => u.raiseMomentary .orderFault { cabin := some id }
        | .untracked => u.countTracker (Ctr.untrackedEvents i)
    let railed := match s.rail.cabins.find? fun r => isIt r.cabin with
      | some x =>
        ((s.modRail fun u => { u with cabins := u.cabins.filter fun r => !isIt r.cabin }).countRail
          Ctr.placementRemoval).modDoors fun u =>
            { u with channels := u.channels.map fun (c : Channel) =>
              if (c.served.map Served.number) = some x.number then { c with served := none } else c }
      | none => s
    let cleared := railed.modTracker fun v => { v with lists := ⟨others v.lists.up, others v.lists.down⟩ }
    s.place id l =
      (faulty (s.tracker.lists.down.any fun r => isIt r.cabin) s.tracker.modes.down 1
        (faulty (s.tracker.lists.up.any fun r => isIt r.cabin) s.tracker.modes.up 0
          (faulty (s.rail.cabins.any fun r => isIt r.cabin) s.tracker.modes.up 0 cleared))).modTracker fun v =>
            { v with cabins := v.cabins.map fun e => if e.id = id then { e with location := l } else e }) ∧
  (∀ (s : State) (read : Option Nat), s.pinHeld = false →
    let view := fun r : StationRecord => (r.number, r.cabin, r.inferred, r.profile, r.progress)
    ∃ t : State, exec (.arrRead read) s = .next t ∧ t.rope.odo = s.rope.odo ∧ t.link = s.link ∧
      (∀ (id : Nat) (e : CabinEntry), read = some id → 1 ≤ id → id ≤ 4095 → s.tracker.entry id = some e →
        let rest := s.rail.cabins.filter fun r => decide (r.cabin ≠ some id)
        t.tracker.lists.up = s.tracker.lists.up.filter (fun r => decide (r.cabin ≠ some id)) ∧
        (∀ r ∈ t.tracker.lists.down, r.cabin ≠ some id) ∧
        (rest.length < 12 →
          t.rail.cabins.map view = rest.map view ++ [(s.rail.generator, some id, false, e.profile, 0)] ∧
          (t.rail.cabins.getLast?.map fun r => r.door) = some .assumedClosed ∧
          t.rail.generator = s.rail.generator + 1) ∧
        (12 ≤ rest.length → t.rail.cabins.map view = rest.map view ∧ t.rail.generator = s.rail.generator ∧
          ∃ r ∈ t.chain.causes, r.code = .stationFull)) ∧
      ((∀ id, read = some id → id = 0 ∨ 4095 < id) → s.tracker.lists.down = [] →
        (∃ r ∈ t.chain.causes, r.code = .tagUnread) ∧ t.tracker.lists = s.tracker.lists ∧
        (s.rail.cabins.length < 12 →
          t.rail.cabins.map view =
            s.rail.cabins.map view ++ [(s.rail.generator, none, false, s.tracker.settings.profile, 0)]) ∧
        (12 ≤ s.rail.cabins.length → t.rail.cabins.map view = s.rail.cabins.map view ∧
          ∃ r ∈ t.chain.causes, r.code = .stationFull)))

/-- A read from LCH always completes and is counted, and counted as unreadable too where it gives no ID of 1 to 4095 (R101).
The record launched is the one that carries a given ID, an anonymous oldest record for an ID that is neither known nor
learned, which raises UNKNOWN_CABIN, and the oldest record for an unreadable read, which raises TAG_UNREAD and is launched as
inferred. A younger record, or none, is counted and calls for ORDER_FAULT of the UP track; where there is none, a record of
progress 0 and ASSUMED_CLOSED is formed and counted as unlisted (R76, R109, R110).

The launch: DOOR_NOT_LOCKED unless the doors are CLOSED_LOCKED; counted as unchecked where LCK is fitted and the record has
not passed it; the record leaves the station list and the channel that serves it; the cabin's trips rise, stopping at 65,535,
it is placed at UP, and a record with the odometer as its departure and next seat index 0 is appended to the UP list, which
at 96 records raises TRACK_FULL instead, the cabin's location then NONE (R88, R111; a placing is ArrRead's). So a listed cabin
with an entry has left the other lists and stands at the tail of the UP list. -/
def Obligations.LchRead : Prop :=
  (∀ (s : State) (read : Option Nat), s.pinHeld = false →
    let unread := ∀ id, read = some id → id = 0 ∨ 4095 < id
    let counted := s.countRail (Ctr.reads 1)
    let faulty := fun (u : State) (cabin : Option Nat) =>
      let v := u.countRail Ctr.launchOrder
      if s.tracker.modes.up = .tracked then v.raiseMomentary .orderFault { cabin := cabin }
      else v.countTracker (Ctr.untrackedEvents 0)
    let launched := fun (u : State) (listed inferred : Bool) (r : StationRecord) =>
      let v := if r.door = .closedLocked then u else u.raiseMomentary .doorNotLocked { cabin := r.cabin }
      let v := if (s.rail.detectors[(8 : Fin 9)]).entry.fitted = true ∧ r.progress < 9 then v.countRail Ctr.unchecked else v
      let v := if listed then
          (v.modRail fun w =>
            { w with cabins :=
              (w.cabins.takeWhile fun x => decide (x.cabin ≠ r.cabin)) ++
                (w.cabins.dropWhile fun x => decide (x.cabin ≠ r.cabin)).tail }).modDoors fun w =>
            { w with channels := w.channels.map fun (c : Channel) =>
              if (c.served.map Served.number) = some r.number then { c with served := none } else c }
        else v
      let v := v.countRail Ctr.railLaunches
      let v : State := match r.cabin with
        | some id =>
          (v.modTracker fun w =>
            { w with cabins := w.cabins.map fun (e : CabinEntry) => if e.id = id then { e with trips := min 65535 (e.trips + 1) } else e
              }).place id .up
        | none => v
      if v.tracker.lists.up.length < 96 then
        (v.modTracker fun w =>
          { w with lists := { w.lists with up := w.lists.up ++ [⟨r.cabin, inferred, s.rope.odo, 0, r.profile⟩] }
            }).countTracker Ctr.launches
      else
        ((v.raiseMomentary .trackFull { cabin := r.cabin }).modTracker fun w =>
          { w with cabins := w.cabins.map fun e => if some e.id = r.cabin then { e with location := .nowhere } else e
            }).countTracker (Ctr.trackFull 0)
    let formed := fun (u : State) (cabin : Option Nat) (p : Profile) =>
      launched ((faulty u cabin).countRail Ctr.unlisted) false false ⟨0, cabin, false, p, 0, .assumedClosed⟩
    (unread →
      let u := counted.countRail (Ctr.unreadable 1)
      (s.rail.cabins = [] →
        exec (.lchRead read) s = .next (formed (u.raiseMomentary .tagUnread {}) none s.tracker.settings.profile)) ∧
      (∀ r, s.rail.cabins.head? = some r →
        let v := u.raiseMomentary .tagUnread { cabin := r.cabin }
        exec (.lchRead read) s =
          .next (launched v true true { r with door := ((v.rail.cabins.head?).map fun x => x.door).getD r.door }))) ∧
    (∀ id, read = some id → 1 ≤ id → id ≤ 4095 →
      let learns := s.tracker.entry id = none ∧ s.tracker.settings.learning = true ∧ s.tracker.cabins.length < 192
      let resolved :=
        if (s.tracker.entry id).isSome then
          counted.modTracker fun v =>
            { v with cabins := v.cabins.map fun e => if e.id = id then { e with idle := e.idle.map fun _ => 0 } else e }
        else
          (counted.modTracker fun v =>
            { v with cabins := insertCabin ⟨id, .learned, v.settings.profile, .nowhere, 0, some 0⟩ v.cabins }).countTracker
              Ctr.learned
      let now := fun (u : State) (i : Nat) (r : StationRecord) =>
        { r with door := ((u.rail.cabins[i]?).map fun x => x.door).getD r.door }
      ((s.tracker.entry id).isSome = true ∨ learns →
        (∀ (old new : List StationRecord) (r : StationRecord), s.rail.cabins = old ++ r :: new → r.cabin = some id →
          (∀ x ∈ old, x.cabin ≠ some id) →
          let u := if old = [] then resolved else faulty resolved (some id)
          exec (.lchRead read) s = .next (launched u true false (now u old.length r))) ∧
        ((∀ x ∈ s.rail.cabins, x.cabin ≠ some id) →
          exec (.lchRead read) s =
            .next (formed resolved (some id) (match resolved.tracker.entry id with
              | some e => e.profile
              | none => s.tracker.settings.profile)))) ∧
      (s.tracker.entry id = none → ¬ learns →
        let u := (counted.raiseMomentary .unknownCabin { cabin := some id }).countTracker Ctr.unknownCabin
        (∀ r, s.rail.cabins.head? = some r → r.cabin = none →
          exec (.lchRead read) s = .next (launched u true false (now u 0 r))) ∧
        ((∀ r, s.rail.cabins.head? = some r → r.cabin ≠ none) →
          exec (.lchRead read) s = .next (formed u none s.tracker.settings.profile))))) ∧
  (∀ (s : State) (read : Option Nat), s.pinHeld = false →
    let view := fun r : StationRecord => (r.number, r.cabin, r.inferred, r.profile, r.progress)
    ∃ t : State, exec (.lchRead read) s = .next t ∧ t.rope = s.rope ∧ t.link = s.link ∧
      ∀ (id : Nat) (old new : List StationRecord) (r : StationRecord), read = some id → 1 ≤ id → id ≤ 4095 →
        (s.tracker.entry id).isSome = true → s.rail.cabins = old ++ r :: new → r.cabin = some id →
        (∀ x ∈ old, x.cabin ≠ some id) →
        (s.tracker.lists.up.filter fun r => decide (r.cabin ≠ some id)).length < 96 →
        t.rail.cabins.map view = (old ++ new.filter fun x => decide (x.cabin ≠ some id)).map view ∧
        t.tracker.lists.up =
          (s.tracker.lists.up.filter fun r => decide (r.cabin ≠ some id)) ++
            [⟨some id, false, s.rope.odo, 0, r.profile⟩] ∧
        t.tracker.lists.down = s.tracker.lists.down.filter (fun r => decide (r.cabin ≠ some id)) ∧
        ((t.tracker.entry id).map fun e => e.location) = some .up ∧
        (r.door ≠ .closedLocked → ∃ x ∈ t.chain.causes, x.code = .doorNotLocked) ∧
        (old ≠ [] → s.tracker.modes.up = .tracked → ∃ x ∈ t.chain.causes, x.code = .orderFault))

/-! ## The door channels (chapter 7) -/

/-- The end sensor of an automatic drive ends its action: OPEN_END in OPENING, LOCKED in CLOSING. The channel is READY with
its timers stopped, the action is counted as done, the attempts left of a close kept (log 47), and a door action writes OPEN
or CLOSED_LOCKED; a gate's flag follows its sensor. In READY a rise stops the local drive of its direction and writes the door
state, OPEN or CLOSED_LOCKED; a fall of LOCKED in READY writes UNKNOWN when CLOSED_LOCKED was written last. In the other
states a rise notes the sensor and, for a gate, the flag (R116, R124 to R127, R131). A level the input already has changes
nothing (log 24).

A door state write of a channel that serves a cabin under role OPEN or CLOSE (log 17) reaches the station list record of the
served arrival number, or is counted as stale where none has it; no other channel writes (R103, R116). -/
def Obligations.EndSensors : Prop :=
  (∀ (s : State) (k : Fin 8), s.pinHeld = false →
    let c := s.channel k
    let ended := fun c : Channel =>
      { c with
        state := .ready, action := none, driveTimer := none, reverseTimer := none
        changes := { c.changes with sensor := true, state := true } }
    let sensed := fun c : Channel => { c with changes := { c.changes with sensor := true } }
    let opened := fun c : Channel =>
      { sensed c with
        pins := { c.pins with openEnd := true }, gateOpen := if c.roleNow = .gate then true else c.gateOpen }
    let closed := fun c : Channel =>
      { sensed c with
        pins := { c.pins with locked := true }, gateOpen := if c.roleNow = .gate then false else c.gateOpen }
    exec (.openEndChange k c.pins.openEnd) s = .next s ∧ exec (.lockedChange k c.pins.locked) s = .next s ∧
    (c.pins.openEnd = true →
      exec (.openEndChange k false) s =
        .next (s.modChannel k fun c => { sensed c with pins := { c.pins with openEnd := false } })) ∧
    (∀ a, c.pins.openEnd = false → c.state = .opening → c.action = some a →
      let v := (s.modChannel k fun c => { ended c with pins := { c.pins with openEnd := true } }).countDoors (Ctr.openDone k)
      (a.kind = .openDoor → a.role = .openDoor → exec (.openEndChange k true) s = .next (v.channelWrite k .opened)) ∧
      (a.kind = .openGate → a.role = .gate →
        exec (.openEndChange k true) s = .next (v.modChannel k fun c => { c with gateOpen := true }))) ∧
    (∀ a, c.pins.locked = false → c.state = .closing → c.action = some a →
      let v := (s.modChannel k fun c => { ended c with pins := { c.pins with locked := true } }).countDoors
        (Ctr.closeDone k)
      (a.kind = .closeDoor → a.role = .closeDoor →
        exec (.lockedChange k true) s = .next (v.channelWrite k .closedLocked)) ∧
      (a.kind = .closeGate → a.role = .gate →
        exec (.lockedChange k true) s = .next (v.modChannel k fun c => { c with gateOpen := false }))) ∧
    (c.pins.openEnd = false → c.state = .ready →
      exec (.openEndChange k true) s =
        .next ((s.modChannel k fun c =>
          { opened c with
            localDrive := if c.localDrive = some .opening then none else c.localDrive
            localTimer := if c.localDrive = some .opening then none else c.localTimer }).channelWrite k .opened)) ∧
    (c.pins.locked = false → c.state = .ready →
      exec (.lockedChange k true) s =
        .next ((s.modChannel k fun c =>
          { closed c with
            localDrive := if c.localDrive = some .closing then none else c.localDrive
            localTimer := if c.localDrive = some .closing then none else c.localTimer }).channelWrite k
              .closedLocked)) ∧
    (c.pins.openEnd = false →
      c.state = .unpowered ∨ c.state = .powering ∨ c.state = .closing ∨ c.state = .halted ∨ c.state = .fault →
      exec (.openEndChange k true) s = .next (s.modChannel k opened)) ∧
    (c.pins.locked = false →
      c.state = .unpowered ∨ c.state = .powering ∨ c.state = .opening ∨ c.state = .reversing ∨ c.state = .halted ∨
        c.state = .fault →
      exec (.lockedChange k true) s = .next (s.modChannel k closed)) ∧
    (c.pins.locked = true →
      let v := s.modChannel k fun c => { sensed c with pins := { c.pins with locked := false } }
      (c.state = .ready →
        exec (.lockedChange k false) s =
          .next (if c.lastWrote = some .closedLocked then v.channelWrite k .unknown else v)) ∧
      (c.state ≠ .ready → exec (.lockedChange k false) s = .next v))) ∧
  (∀ (s : State) (k : Fin 8) (d : DoorState),
    let c := s.channel k
    (∀ v, c.served = some v → v.role = .openDoor ∨ v.role = .closeDoor →
      let noted := fun u : State => u.modChannel k fun c => { c with served := some { v with lastWrote := some d } }
      ((∃ r ∈ s.rail.cabins, r.number = v.number) →
        s.channelWrite k d =
          noted { s with rail :=
            { s.rail with cabins := s.rail.cabins.map fun r => if r.number = v.number then { r with door := d } else r } }) ∧
      ((∀ r ∈ s.rail.cabins, r.number ≠ v.number) → s.channelWrite k d = noted (s.countRail Ctr.staleDoor))) ∧
    (∀ v, c.served = some v → v.role = .none ∨ v.role = .gate → s.channelWrite k d = s) ∧
    (c.served = none → s.channelWrite k d = s))

/-- A drive timer that reaches its drive time. OPENING of a door ends in READY with OPEN_FAILED and DOOR_OPEN_FAIL. CLOSING
with attempts left reverses: one attempt fewer, REVERSING for the reverse time. CLOSING with the last attempt ends in READY
with JAMMED and DOOR_JAM. The reverse timer's expiry, like OPEN_END in REVERSING, starts the next close drive (R124, R125).
That drive begins with its timer whatever level LOCKED has: R125 leaves open how it finds a LOCKED that rose in REVERSING, and
this is the model's reading (log 45). With the timer stopped nothing happens (log 2).

A gate's forms write no door state: OPEN_GATE ends in READY with DOOR_OPEN_FAIL, the last attempt of CLOSE_GATE with DOOR_JAM
of the channel alone, both leaving the gate-open flag as it is; OPEN_END in REVERSING sets the flag and starts the next close
drive (R126). -/
def Obligations.DriveAndReverseTimers : Prop :=
  ∀ (s : State) (k : Fin 8), s.pinHeld = false →
    let c := s.channel k
    let detail : Detail := { channel := some k.val, cabin := c.served.bind fun v => v.cabin }
    (c.driveTimer = none → exec (.driveTimerExpiry k) s = .next s) ∧
    (c.reverseTimer = none → exec (.reverseTimerExpiry k) s = .next s) ∧
    (∀ n a, c.driveTimer = some n → c.action = some a →
      (c.state = .opening → a.kind = .openDoor →
        exec (.driveTimerExpiry k) s =
          .next ((((s.modChannel k fun c =>
            { c with
              state := .ready, action := none, driveTimer := none, reverseTimer := none
              changes := { c.changes with state := true } }).countDoors (Ctr.openFail k)).channelWrite k
                .openFailed).raiseMomentary .doorOpenFail detail)) ∧
      (c.state = .opening → a.kind = .openGate →
        exec (.driveTimerExpiry k) s =
          .next (((s.modChannel k fun c =>
            { c with
              state := .ready, action := none, driveTimer := none, reverseTimer := none
              changes := { c.changes with state := true } }).countDoors (Ctr.openFail k)).raiseMomentary .doorOpenFail
                detail)) ∧
      (c.state = .closing → 2 ≤ c.attemptsLeft →
        exec (.driveTimerExpiry k) s =
          .next ((s.modChannel k fun c =>
            { c with
              state := .reversing, attemptsLeft := c.attemptsLeft - 1, driveTimer := none
              reverseTimer := some (a.reverseTime * 100), changes := { c.changes with state := true } }).countDoors
                (Ctr.reversal k))) ∧
      (c.state = .closing → c.attemptsLeft = 1 → a.kind = .closeDoor →
        exec (.driveTimerExpiry k) s =
          .next ((((s.modChannel k fun c =>
            { c with
              state := .ready, action := none, attemptsLeft := 0, driveTimer := none, reverseTimer := none
              changes := { c.changes with state := true } }).countDoors (Ctr.jam k)).channelWrite k
                .jammed).raiseMomentary .doorJam detail)) ∧
      (c.state = .closing → c.attemptsLeft = 1 → a.kind = .closeGate →
        exec (.driveTimerExpiry k) s =
          .next (((s.modChannel k fun c =>
            { c with
              state := .ready, action := none, attemptsLeft := 0, driveTimer := none, reverseTimer := none
              changes := { c.changes with state := true } }).countDoors (Ctr.jam k)).raiseMomentary .doorJam
                { channel := some k.val }))) ∧
    (∀ a, c.state = .reversing → c.action = some a →
      let again := fun c : Channel =>
        { c with
          state := .closing, driveTimer := some (a.driveTime * 100), reverseTimer := none
          changes := { c.changes with state := true } }
      (∀ n, c.reverseTimer = some n → exec (.reverseTimerExpiry k) s = .next (s.modChannel k again)) ∧
      (c.pins.openEnd = false → a.role ≠ .gate →
        exec (.openEndChange k true) s =
          .next (s.modChannel k fun c =>
            { again c with
              pins := { c.pins with openEnd := true }
              changes := { c.changes with sensor := true, state := true } })) ∧
      (c.pins.openEnd = false → a.role = .gate →
        exec (.openEndChange k true) s =
          .next (s.modChannel k fun c =>
            { again c with
              gateOpen := true, pins := { c.pins with openEnd := true }
              changes := { c.changes with sensor := true, state := true } })))

/-- Power to a channel, all from the console. CHANNEL-POWER: on takes an UNPOWERED channel with its own switch to POWERING
with its power-good time, counted in 2 ms steps (a time of 0: to READY, or HALTED at EMERGENCY, at once); on changes nothing
of a powered channel and is refused with BAD_REQUEST in FAULT; off puts out the own switch, and a powered channel enters
UNPOWERED: an action in flight is abandoned and counted, the door of the cabin it serves written UNKNOWN, the cabin released,
every timer stopped; an UNPOWERED channel changes no state (log 27); a channel of a group is refused with BAD_REQUEST. The
power-good timer's expiry takes POWERING to READY, or to HALTED at EMERGENCY; a stopped timer does nothing (log 2).
GROUP-POWER: on is refused with BAD_REQUEST while a member is in FAULT, changes nothing of a group that is on, and else takes
every member to POWERING with the group's time, its group-off flag cleared; off puts out the switch, and every powered member,
in rising order, enters UNPOWERED as above, a member in FAULT left, and an UNPOWERED one too, so that off changes nothing of a
group that is off with its members UNPOWERED (log 27; R117 to R120; the attempts left of an abandoned close: log 47). A
channel above 7 and a group above 1 are BAD_VALUE. -/
def Obligations.ChannelAndGroupPower : Prop :=
  ∀ (s : State) (rq : Requester) (tag : Byte) (k : Fin 8) (g : Fin 2), s.pinHeld = false → s.isConsole rq = true →
    let c := s.channel k
    let full : ChannelState := if s.chain.asserted = .emergency then .halted else .ready
    let started := fun (time : Nat) (c : Channel) =>
      { c with
        state := if time = 0 then full else .powering
        powerTimer := if time = 0 then none else some (time * 2)
        changes :=
          { c.changes with
            power := true
            state := c.changes.state || decide (time = 0) || decide (c.state ≠ ChannelState.powering) } }
    let off := fun (u : State) (j : Fin 8) =>
      ((if (s.channel j).action.isSome then u.countDoors (Ctr.abandoned j) else u).channelWrite j .unknown).modChannel j
        fun (c : Channel) =>
          { c with
            state := .unpowered, action := none, served := none, driveTimer := none, reverseTimer := none
            powerTimer := none, localDrive := none, localTimer := none
            changes := { c.changes with power := true, state := true } }
    let channelPower := fun (on : Bool) (t : State) (result : Result) =>
      exec (.channelPower rq tag k.val on) s = .next (State.settleRequest rq .channelPower tag (t, result, .empty))
    let groupPower := fun (on : Bool) (t : State) (result : Result) =>
      exec (.groupPower rq tag g.val on) s = .next (State.settleRequest rq .groupPower tag (t, result, .empty))
    (c.entry.switching = .individual →
      (c.state = .unpowered →
        channelPower true (s.modChannel k fun c => { started c.entry.powerGood c with ownOn := true }) .done) ∧
      (c.state = .fault → channelPower true s .badRequest) ∧
      (c.state.powered = true → channelPower true s .done) ∧
      (c.state.powered = true → channelPower false (off (s.modChannel k fun c => { c with ownOn := false }) k) .done) ∧
      (c.state.powered = false → channelPower false (s.modChannel k fun c => { c with ownOn := false }) .done)) ∧
    (c.entry.switching ≠ .individual → ∀ on : Bool, channelPower on s .badRequest) ∧
    (∀ n, c.powerTimer = some n → c.state = .powering →
      exec (.powerGoodExpiry k) s =
        .next (s.modChannel k fun c =>
          { c with state := full, powerTimer := none, changes := { c.changes with state := true } })) ∧
    (c.powerTimer = none → exec (.powerGoodExpiry k) s = .next s) ∧
    ((∃ j : Fin 8, (s.channel j).entry.switching = .group g ∧ (s.channel j).state = .fault) →
      groupPower true s .badRequest) ∧
    ((∀ j : Fin 8, (s.channel j).entry.switching = .group g → (s.channel j).state ≠ .fault) →
      (s.doors.groupOn[g] = true → groupPower true s .done) ∧
      (s.doors.groupOn[g] = false →
        ∃ t : State, groupPower true t .done ∧ s.changesOnly t [.doorChannels] ∧
          t.doors.groupOn = s.doors.groupOn.set g true ∧ t.doors.groupTimes = s.doors.groupTimes ∧
          t.doors.counters = s.doors.counters ∧
          ∀ j : Fin 8, t.channel j =
            if (s.channel j).entry.switching = .group g then
              { started s.doors.groupTimes[g] (s.channel j) with groupOff := false }
            else s.channel j)) ∧
    (∀ (n : Nat) (on : Bool), 8 ≤ n →
      exec (.channelPower rq tag n on) s =
        .next (State.settleRequest rq .channelPower tag (s, .badValue, .empty))) ∧
    (∀ (n : Nat) (on : Bool), 2 ≤ n →
      exec (.groupPower rq tag n on) s = .next (State.settleRequest rq .groupPower tag (s, .badValue, .empty))) ∧
    groupPower false
      ((allChannels.filter fun j => decide ((s.channel j).entry.switching = .group g) && (s.channel j).state.powered).foldl
        off { s with doors := { s.doors with groupOn := s.doors.groupOn.set g false } }) .done

/-- A rise of the overcurrent input of a powered channel is counted, an action in flight is abandoned and counted, the door of
the cabin it serves is written UNKNOWN, the cabin released and every timer stopped; the channel is in FAULT with the kind
OVERCURRENT. A channel with its own switch puts that out; one of a group puts out the group's switch, and every other member
not in FAULT, in rising order, takes the group-off flag, a powered one entering UNPOWERED in the same way (R120). Then
CHANNEL_FAULT is raised with the channel as detail and a notice sent (the order of these effects: log 26; the attempts left of
an abandoned close: log 47). A rise on a channel without power is counted and ignored; a fall only stores the level (R121),
and a level the input already has changes nothing (log 24). CHANNEL-RESET takes it out of FAULT and withdraws CHANNEL_FAULT
with the last share (R122). CHANNEL-READ answers the record, of an action in flight its kind alone, which is the model's
choice (log 52), and empties the change set (R134). Both are BAD_VALUE for a channel above 7. -/
def Obligations.OvercurrentResetAndRead : Prop :=
  ∀ (s : State) (rq : Requester) (tag : Byte) (k : Fin 8), s.pinHeld = false →
    let c := s.channel k
    let down := fun (u : State) (j : Fin 8) (f : Channel → Channel) =>
      ((if (s.channel j).action.isSome then u.countDoors (Ctr.abandoned j) else u).channelWrite j .unknown).modChannel j
        fun (c : Channel) => f
          { c with
            action := none, served := none, driveTimer := none, reverseTimer := none, powerTimer := none
            localDrive := none, localTimer := none, changes := { c.changes with power := true, state := true } }
    let faulted :=
      down ((s.countDoors (Ctr.overcurrent k)).modChannel k fun c => { c with pins := { c.pins with overcurrent := true } })
        k fun c =>
          { c with state := .fault, fault := some .overcurrent, changes := { c.changes with overcurrent := true } }
    let cut := fun (u : State) (j : Fin 8) =>
      if (s.channel j).state.powered then down u j fun c => { c with state := .unpowered, groupOff := true }
      else u.modChannel j fun c => { c with groupOff := true }
    let told := fun (t : State) => (t.raiseHeld .channelFault { channel := some k.val }).notice (.channelFault k)
    (c.pins.overcurrent = false → c.state.powered = true →
      (c.entry.switching = .individual →
        exec (.overcurrent k true) s = .next (told (faulted.modChannel k fun c => { c with ownOn := false }))) ∧
      (∀ g : Fin 2, c.entry.switching = .group g →
        let others := allChannels.filter fun j =>
          decide (j ≠ k) && decide ((s.channel j).entry.switching = .group g) && decide ((s.channel j).state ≠ .fault)
        exec (.overcurrent k true) s =
          .next (told (others.foldl cut
            { faulted with doors := { faulted.doors with groupOn := faulted.doors.groupOn.set g false } })))) ∧
    (c.pins.overcurrent = false → c.state.powered = false →
      exec (.overcurrent k true) s =
        .next ((s.modChannel k fun c => { c with pins := { c.pins with overcurrent := true } }).countDoors
          (Ctr.ignoredOvercurrent k))) ∧
    (c.pins.overcurrent = true → exec (.overcurrent k true) s = .next s) ∧
    exec (.overcurrent k false) s =
      .next (s.modChannel k fun c => { c with pins := { c.pins with overcurrent := false } }) ∧
    (s.isConsole rq = true →
      (c.state = .fault →
        let v := s.modChannel k fun c =>
          { c with state := .unpowered, fault := none, changes := { c.changes with state := true } }
        ((∃ j, j ≠ k ∧ (s.channel j).state = .fault) →
          exec (.channelReset rq tag k.val) s =
            .next (State.settleRequest rq .channelReset tag (v, .done, .wasFault true))) ∧
        ((∀ j, j ≠ k → (s.channel j).state ≠ .fault) →
          exec (.channelReset rq tag k.val) s =
            .next (State.settleRequest rq .channelReset tag (v.withdraw .channelFault, .done, .wasFault true)))) ∧
      (c.state ≠ .fault →
        exec (.channelReset rq tag k.val) s =
          .next (State.settleRequest rq .channelReset tag (s, .done, .wasFault false))) ∧
      (∀ n : Nat, 8 ≤ n →
        exec (.channelReset rq tag n) s = .next (State.settleRequest rq .channelReset tag (s, .badValue, .empty)) ∧
        exec (.channelRead rq tag n) s = .next (State.settleRequest rq .channelRead tag (s, .badValue, .empty))) ∧
      exec (.channelRead rq tag k.val) s =
        .next (State.settleRequest rq .channelRead tag
          (s.modChannel k fun c => { c with changes := ⟨false, false, false, false, false⟩ }, .done,
            .channel
              { state := c.state, mode := c.mode, served := c.served.map fun v => (v.number, v.cabin)
                action := c.action.map fun a => a.kind, attemptsLeft := c.attemptsLeft, gateOpen := c.gateOpen
                fault := c.fault, groupOff := c.groupOff, changes := c.changes, pins := c.pins
                driveOpen := c.driveOpen, driveClose := c.driveClose })))

/-- The local key takes a REMOTE channel to LOCAL, abandoning an action in flight, whose cabin's door is written UNKNOWN, its
attempts left kept, which is the model's choice (log 47), and a LOCAL one back to REMOTE when it is turned off, which stops a
local drive; turned off in REMOTE, as a key held through a reset is, turned on in LOCAL, and in REMOTE_LOCKED, it only stores
its level. CHANNEL-LOCKOUT on takes a channel in any mode to REMOTE_LOCKED, off takes it to the mode of the key, as its level
stands (R130; log 46), a move to LOCAL abandoning an action in flight as the key's does; a channel above 7 is BAD_VALUE.

The local inputs of a channel in LOCAL and READY. A press starts a drive in its direction for the drive time, unless the other
input is held, which stops any drive, or the direction's sensor is asserted; a release stops the drive of its direction; so
does the timer. In other modes and states a press and a release are stored and do nothing more (R131). A level the key or a
local input already has changes nothing (log 24), and a stopped local drive timer does nothing (log 2). -/
def Obligations.LocalModeAndDrive : Prop :=
  (∀ (s : State) (rq : Requester) (tag : Byte) (k : Fin 8), s.pinHeld = false →
      let c := s.channel k
      let keyed := fun (b : Bool) (c : Channel) => { c with pins := { c.pins with key := b } }
      let moded := fun (m : ChannelMode) (c : Channel) =>
        { c with mode := m, changes := { c.changes with mode := c.changes.mode || decide (c.mode ≠ m) } }
      exec (.localKeyChange k c.pins.key) s = .next s ∧
      (c.pins.key = false → c.mode = .remote → c.action = none →
        exec (.localKeyChange k true) s = .next (s.modChannel k fun c => moded .local_ (keyed true c))) ∧
      (c.pins.key = false → c.mode = .remote → c.action.isSome = true → c.state ≠ .ready →
        exec (.localKeyChange k true) s =
          .next (((s.modChannel k fun c =>
            let c := moded .local_ (keyed true c)
            { c with
              state := .ready, action := none, driveTimer := none, reverseTimer := none
              changes := { c.changes with state := true } }).countDoors (Ctr.abandoned k)).channelWrite k .unknown)) ∧
      (c.pins.key = true → c.mode = .local_ →
        exec (.localKeyChange k false) s =
          .next (s.modChannel k fun c =>
            { moded .remote (keyed false c) with localDrive := none, localTimer := none })) ∧
      (∀ b, c.pins.key ≠ b → c.mode = .remoteLocked →
        exec (.localKeyChange k b) s = .next (s.modChannel k (keyed b))) ∧
      (c.pins.key = true → c.mode = .remote →
        exec (.localKeyChange k false) s = .next (s.modChannel k (keyed false))) ∧
      (c.pins.key = false → c.mode = .local_ →
        exec (.localKeyChange k true) s = .next (s.modChannel k (keyed true))) ∧
      (∀ (n : Nat) (on : Bool), s.isConsole rq = true → 8 ≤ n →
        exec (.channelLockout rq tag n on) s =
          .next (State.settleRequest rq .channelLockout tag (s, .badValue, .empty))) ∧
      (s.isConsole rq = true →
        exec (.channelLockout rq tag k.val true) s =
          .next (State.settleRequest rq .channelLockout tag
            (s.modChannel k fun c => { moded .remoteLocked c with localDrive := none, localTimer := none }, .done,
              .empty)) ∧
        (c.mode = .remoteLocked → c.pins.key = false →
          exec (.channelLockout rq tag k.val false) s =
            .next (State.settleRequest rq .channelLockout tag (s.modChannel k (moded .remote), .done, .empty))) ∧
        (c.mode = .remoteLocked → c.pins.key = true → c.action = none →
          exec (.channelLockout rq tag k.val false) s =
            .next (State.settleRequest rq .channelLockout tag (s.modChannel k (moded .local_), .done, .empty))) ∧
        (c.mode = .remoteLocked → c.pins.key = true → c.action.isSome = true → c.state ≠ .ready →
          exec (.channelLockout rq tag k.val false) s =
            .next (State.settleRequest rq .channelLockout tag
              (((s.modChannel k fun c =>
                let c := moded .local_ c
                { c with
                  state := .ready, action := none, driveTimer := none, reverseTimer := none
                  changes := { c.changes with state := true } }).countDoors (Ctr.abandoned k)).channelWrite k .unknown,
                .done, .empty))) ∧
        (c.mode ≠ .remoteLocked →
          exec (.channelLockout rq tag k.val false) s =
            .next (State.settleRequest rq .channelLockout tag (s, .done, .empty))))) ∧
  (∀ (s : State) (k : Fin 8), s.pinHeld = false →
      let c := s.channel k
      let reads := c.mode = .local_ ∧ c.state = .ready
      let openPin := fun (b : Bool) (c : Channel) => { c with pins := { c.pins with localOpen := b } }
      let closePin := fun (b : Bool) (c : Channel) => { c with pins := { c.pins with localClose := b } }
      let stopped := fun c : Channel => { c with localDrive := none, localTimer := none }
      let driven := fun (d : DriveDir) (c : Channel) =>
        { c with localDrive := some d, localTimer := some (c.entry.driveTime * 100) }
      exec (.localOpenChange k c.pins.localOpen) s = .next s ∧ exec (.localCloseChange k c.pins.localClose) s = .next s ∧
      (¬ reads → c.pins.localOpen = false → exec (.localOpenChange k true) s = .next (s.modChannel k (openPin true))) ∧
      (¬ reads → c.pins.localClose = false → exec (.localCloseChange k true) s = .next (s.modChannel k (closePin true))) ∧
      (¬ reads → c.pins.localOpen = true → exec (.localOpenChange k false) s = .next (s.modChannel k (openPin false))) ∧
      (¬ reads → c.pins.localClose = true → exec (.localCloseChange k false) s = .next (s.modChannel k (closePin false))) ∧
      (reads →
        (c.pins.localOpen = false →
          (c.pins.localClose = false → c.pins.openEnd = false →
            exec (.localOpenChange k true) s =
              .next ((s.modChannel k fun c => driven .opening (openPin true c)).countDoors (Ctr.localDrive k))) ∧
          (c.pins.localClose = false → c.pins.openEnd = true →
            exec (.localOpenChange k true) s = .next (s.modChannel k (openPin true))) ∧
          (c.pins.localClose = true →
            exec (.localOpenChange k true) s = .next (s.modChannel k fun c => stopped (openPin true c)))) ∧
        (c.pins.localClose = false →
          (c.pins.localOpen = false → c.pins.locked = false →
            exec (.localCloseChange k true) s =
              .next ((s.modChannel k fun c => driven .closing (closePin true c)).countDoors (Ctr.localDrive k))) ∧
          (c.pins.localOpen = false → c.pins.locked = true →
            exec (.localCloseChange k true) s = .next (s.modChannel k (closePin true))) ∧
          (c.pins.localOpen = true →
            exec (.localCloseChange k true) s = .next (s.modChannel k fun c => stopped (closePin true c)))) ∧
        (c.pins.localOpen = true →
          exec (.localOpenChange k false) s =
            .next (s.modChannel k fun c =>
              if c.localDrive = some .opening then stopped (openPin false c) else openPin false c)) ∧
        (c.pins.localClose = true →
          exec (.localCloseChange k false) s =
            .next (s.modChannel k fun c =>
              if c.localDrive = some .closing then stopped (closePin false c) else closePin false c))) ∧
      (∀ n, c.localTimer = some n → exec (.localDriveTimerExpiry k) s = .next (s.modChannel k stopped)) ∧
      (c.localTimer = none → exec (.localDriveTimerExpiry k) s = .next s))

/-- The rise of the asserted category to EMERGENCY, by a raise of any cause, halts the channels, and a raise without that rise
leaves the doors and the station rail as they are; a STOP of EMERGENCY from the console is such a rise (R132, R176). Every
channel in READY, OPENING, CLOSING or REVERSING is HALTED with its timers, its local drive and its action gone, its cabin
still served and its attempts left kept (log 47); a door served under an action is UNKNOWN; channels in other states stay as
they are (R132).

The fall of the asserted category below EMERGENCY, by a RESTART-PERMIT at standstill, releases them: every HALTED channel is
READY and serves no cabin, and a gate in REMOTE or REMOTE_LOCKED whose flag is set starts CLOSE_GATE: with LOCKED asserted the
flag is cleared, otherwise it drives CLOSING with the attempts of the table. Other channels stay as they are (R133). -/
def Obligations.EmergencyHaltsTheChannels : Prop :=
  (∀ (s : State) (k : Fin 8),
    let c := s.channel k
    let d := s.haltAll.channel k
    ((c.state = .ready ∨ c.state = .opening ∨ c.state = .closing ∨ c.state = .reversing) →
      d.state = .halted ∧ d.action = none ∧ d.driveTimer = none ∧ d.reverseTimer = none ∧ d.localDrive = none ∧
        d.localTimer = none ∧ d.changes.state = true ∧ d.entry = c.entry ∧ d.mode = c.mode ∧ d.gateOpen = c.gateOpen ∧
        d.attemptsLeft = c.attemptsLeft ∧ d.pins = c.pins ∧ d.ownOn = c.ownOn ∧
        (d.served.map fun v => (v.number, v.cabin, v.profile, v.role)) =
          (c.served.map fun v => (v.number, v.cabin, v.profile, v.role)) ∧
        d.driveOpen = false ∧ d.driveClose = false) ∧
    ((c.state = .unpowered ∨ c.state = .powering ∨ c.state = .halted ∨ c.state = .fault) → d = c) ∧
    s.changesOnly s.haltAll [.doorChannels, .stationRail] ∧ s.haltAll.doors.groupOn = s.doors.groupOn) ∧
  (∀ s : State,
    let doorless := fun r : StationRecord => (List.finRange 8).any fun k =>
      let c := s.channel k
      (decide (c.state = .opening) || decide (c.state = .closing) || decide (c.state = .reversing)) &&
        match c.served with
        | some v => decide (v.number = r.number) && (decide (v.role = .openDoor) || decide (v.role = .closeDoor))
        | none => false
    (∀ k : Fin 8, (s.channel k).action.isSome = (s.channel k).state.moving) →
      s.haltAll.rail.cabins = s.rail.cabins.map (fun r => if doorless r then { r with door := .unknown } else r) ∧
        s.haltAll.rail.detectors = s.rail.detectors ∧ s.haltAll.rail.generator = s.rail.generator) ∧
  (∀ (s : State) (c : Cause) (d : Detail) (momentary : Bool),
    let t := s.raise c d momentary
    (s.chain.asserted ≠ .emergency → t.chain.asserted = .emergency →
      t.doors = s.haltAll.doors ∧ t.rail = s.haltAll.rail) ∧
    (s.chain.asserted = .emergency ∨ t.chain.asserted ≠ .emergency → t.doors = s.doors ∧ t.rail = s.rail)) ∧
  (∀ (s : State) (rq : Requester) (tag : Byte), s.pinHeld = false → s.isConsole rq = true →
    let left := s.chain.causes.filter fun r => r.present && decide (r.code ≠ .resetLatch)
    (s.chain.asserted ≠ .emergency →
      ∃ t : State, exec (.stop rq tag (some .emergency)) s = .next t ∧ t.chain.asserted = .emergency ∧
        t.doors = s.haltAll.doors ∧ t.rail = s.haltAll.rail) ∧
    (s.rope.standstill = true → s.chain.asserted = .emergency → demandedOf left ≠ .emergency →
      ∃ t : State, exec (.restartPermit rq tag) s = .next t ∧ t.chain.asserted = demandedOf left ∧
        t.doors.groupOn = s.doors.groupOn ∧ t.doors.groupTimes = s.doors.groupTimes ∧
        t.doors.counters = s.doors.counters ∧ t.rail = s.rail ∧
        ∀ k : Fin 8,
          let c := s.channel k
          let ready : Channel :=
            { c with state := .ready, served := none, changes := { c.changes with state := true } }
          let shuts := c.entry.role = .gate ∧ c.gateOpen = true ∧ c.mode ≠ .local_
          (c.state ≠ .halted → t.channel k = c) ∧
          (c.state = .halted →
            (¬ shuts → t.channel k = ready) ∧
            (shuts → c.pins.locked = true →
              t.channel k = { ready with gateOpen := false, action := none, driveTimer := none, reverseTimer := none }) ∧
            (shuts → c.pins.locked = false →
              t.channel k =
                { ready with
                  state := .closing
                  action := some ⟨.closeGate, .gate, c.entry.driveTime, c.entry.reverseTime, c.entry.attempts⟩
                  attemptsLeft := c.entry.attempts, driveTimer := some (c.entry.driveTime * 100)
                  reverseTimer := none }))))

/-! ## The summit link (chapter 8) -/

/-- The early guard ends. The valley beat takes the next number, the asserted category and the track modes, counted and
offered in class 0, and its timer runs again. The late timer's expiry puts the link in SILENT, its timers stopped and its last
beat forgotten, and counts it (R7, R137, R139, R142); a stopped late timer does nothing (log 2).

A good BEAT or TERMINAL_EVENT frame from the summit on an ACTIVE, WARNED or MUTED line port reaches the supervisor with the
link, the rope and the tracker kept (R21). A BEAT outside the early guard with two payload bytes is accepted: the guard runs
for 100 ms, the late timer for 400 ms, its number is the last beat number, one other than the next after the last is counted
as a gap, the link goes from SILENT to RECOVERING, thence to LINKED, which is counted and withdraws SUMMIT_SILENT, and the
requested category is the beat's (R137, R138, R140). Inside the guard it is early; with another length, a category outside the
four or other contents, malformed; each is counted.

A TERMINAL_EVENT with an event outside the two, an ID above 4095 or an age above 1023 is malformed and counted; another is
counted by its event (R144). An ARRIVAL of a cabin with an entry takes its record from the UP list, else the oldest record
where that is anonymous, else none, and puts the cabin at SUMMIT, with no other record of it; with the UP track TRACKED,
ORDER_FAULT is in the set where an older record stood before it or none was taken, ARRIVAL_MISMATCH where its position, of
known age, misses the length by more than the window (R89, R90; log 44). ID 0 takes the oldest record and raises TAG_UNREAD;
an unknown ID not learned raises UNKNOWN_CABIN and takes only an anonymous one. A DEPARTURE appends a record with its
back-dated odometer to the DOWN list, or raises TRACK_FULL at 96: of a cabin with an entry, placed at DOWN, with ORDER_FAULT
where it was not at SUMMIT and DOWN is TRACKED; without a cabin for ID 0 (TAG_UNREAD) and an unknown one (R68, R69, R91). -/
def Obligations.SummitLinkTimersAndBeats : Prop :=
  (∀ s : State, s.pinHeld = false →
      exec .earlyGuardExpiry s = .next { s with link := { s.link with guard := none } } ∧
      exec .valleyBeatTimerExpiry s =
        .next (State.offer
          { s with link :=
            { s.link with
              valleyNumber := s.link.valleyNumber + 1
              valleyTimer := 200
              counters := bump s.link.counters Ctr.valleyBeat } } .line 0
          { b0 := 63, b1 := 0, b2 := 0x40
            payload := .built (.beat (s.link.valleyNumber + 1) s.chain.asserted s.tracker.modes.up s.tracker.modes.down)
            origin := .own }) ∧
      (s.link.late = none → exec .lateTimerExpiry s = .next s) ∧
      ∀ n, s.link.late = some n →
        ∃ t : State, exec .lateTimerExpiry s = .next t ∧
          t.link =
            { s.link with
              state := .silent, late := none, guard := none, lastBeat := none
              counters := bump s.link.counters Ctr.silentEntry } ∧
          t.rope = s.rope ∧ t.tracker = s.tracker ∧
          (s.link.state = .linked →
            ∃ r ∈ t.chain.causes, r.code = .summitSilent ∧ r.present = true)) ∧
  (∀ (s : State) (number : Byte) (c : Category),
      (s.link.guard = none →
        let t := s.takeBeat 2 (.beat number (some c))
        let gap := match s.link.lastBeat with
          | some m => decide (number ≠ m + 1)
          | none => false
        t.link =
          { s.link with
            state :=
              match s.link.state with
              | .silent => .recovering
              | .recovering | .linked => .linked
            guard := some 100, late := some 400, lastBeat := some number, request := c
            counters :=
              let v := bump s.link.counters Ctr.acceptedBeat
              let v := if gap then bump v Ctr.beatGap else v
              if s.link.state = .recovering then bump v Ctr.recovery else v } ∧
          t.rope = s.rope ∧ t.tracker = s.tracker ∧
          (s.link.state = .recovering → ∀ r ∈ t.chain.causes, r.code = .summitSilent → r.present = false) ∧
          (s.link.request.rank < c.rank →
            ∃ r ∈ t.chain.causes, r.code = .summitStop ∧ r.present = true ∧ c.rank ≤ r.category.rank) ∧
          (s.link.request ≠ .none → c = .none → ∀ r ∈ t.chain.causes, r.code = .summitStop → r.present = false)) ∧
      (∀ g, s.link.guard = some g → s.takeBeat 2 (.beat number (some c)) = s.countLink Ctr.earlyBeat) ∧
      (∀ n, n ≠ 2 → s.takeBeat n (.beat number (some c)) = s.countLink Ctr.malformedBeat) ∧
      (∀ (n : Nat) (contents : Contents), (∀ m x, contents ≠ .beat m (some x)) →
        s.takeBeat n contents = s.countLink Ctr.malformedBeat) ∧
      (∀ n : Nat, s.takeBeat n (.beat number none) = s.countLink Ctr.malformedBeat) ∧
      s.takeBeat 2 .unread = s.countLink Ctr.malformedBeat) ∧
  (∀ (s : State) (bytes : List Byte) (contents : Contents), s.pinHeld = false →
      s.line.mode = .active ∨ s.line.mode = .warned ∨ s.line.mode = .muted → frameCheck bytes = none →
      ((bytes.getD 1 0).extractLsb' 0 7 : Addr) = 63 →
      ((bytes.getD 2 0).toNat / 16 = 4 →
        ∃ u : State, exec (.frameReceived .line bytes contents) s = .next (u.takeBeat (bytes.length - 6) contents) ∧
          u.link = s.link ∧ u.rope = s.rope ∧ u.tracker = s.tracker) ∧
      ((bytes.getD 2 0).toNat / 16 = 5 →
        ∃ u : State, exec (.frameReceived .line bytes contents) s = .next (u.takeTerminal contents) ∧
          u.link = s.link ∧ u.rope = s.rope ∧ u.tracker = s.tracker)) ∧
  (∀ (s : State) (event : TerminalKind) (cabin age : Nat),
      (∀ ev, ev = none ∨ 4095 < cabin ∨ 1023 < age →
        s.takeTerminal (.terminal ev cabin age) = s.countLink Ctr.malformedEvent) ∧
      s.takeTerminal .unread = s.countLink Ctr.malformedEvent ∧
      (cabin ≤ 4095 → age ≤ 1023 →
        let t := s.takeTerminal (.terminal (some event) cabin age)
        t.link =
          { s.link with
            counters := bump s.link.counters (match event with
              | .arrival => Ctr.arrivalEvent
              | .departure => Ctr.departureEvent) } ∧
        t.tracker.modes = s.tracker.modes ∧ t.tracker.settings = s.tracker.settings ∧ t.rope.odo = s.rope.odo)) ∧
  (∀ (s : State) (cabin age : Nat), cabin ≤ 4095 → age ≤ 1023 →
      let t := s.takeTerminal (.terminal (some .arrival) cabin age)
      let inSet := fun c : Cause => ∃ r ∈ t.chain.causes, r.code = c
      let others := fun l : List TrainRecord => l.filter fun r => decide (r.cabin ≠ some cabin)
      let tracked := s.tracker.modes.up = .tracked
      let misses := fun r : TrainRecord =>
        age ≠ 1023 ∧ s.rope.table.arrivalWindow <
          ((s.rope.table.launchUp : Int) + ((s.rope.odo - r.departure).toInt).tdiv 256 - s.rope.slip -
            (s.rope.speed * age).tdiv 1000 - (s.rope.table.lengthUp : Int)).natAbs
      (∀ e, cabin ≠ 0 → s.tracker.entry cabin = some e →
        ((t.tracker.entry cabin).map fun e => e.location) = some .summit ∧
        (∀ (old new : List TrainRecord) (r : TrainRecord), s.tracker.lists.up = old ++ r :: new → r.cabin = some cabin →
          (∀ x ∈ old, x.cabin ≠ some cabin) →
          t.tracker.lists.up = old ++ new ∧ t.tracker.lists.down = s.tracker.lists.down ∧
          (old ≠ [] → tracked → inSet .orderFault) ∧ (misses r → tracked → inSet .arrivalMismatch)) ∧
        (∀ (r : TrainRecord) (rest : List TrainRecord), s.tracker.lists.up = r :: rest → r.cabin = none →
          (∀ x ∈ rest, x.cabin ≠ some cabin) →
          t.tracker.lists.up = rest ∧ t.tracker.lists.down = others s.tracker.lists.down ∧
          (misses r → tracked → inSet .arrivalMismatch)) ∧
        ((∀ x ∈ s.tracker.lists.up, x.cabin ≠ some cabin) → s.tracker.oldestAnonymous .up = false →
          t.tracker.lists.up = s.tracker.lists.up ∧ t.tracker.lists.down = others s.tracker.lists.down ∧
          (tracked → inSet .orderFault))) ∧
      (cabin = 0 → inSet .tagUnread ∧ t.tracker.lists.up = s.tracker.lists.up.tail ∧
        t.tracker.lists.down = s.tracker.lists.down ∧ (s.tracker.lists.up = [] → tracked → inSet .orderFault) ∧
        ∀ (r : TrainRecord) (rest : List TrainRecord) (id : Nat) (e : CabinEntry), s.tracker.lists.up = r :: rest →
          r.cabin = some id → s.tracker.entry id = some e →
          ((t.tracker.entry id).map fun e => e.location) = some .summit) ∧
      (cabin ≠ 0 → s.tracker.entry cabin = none →
        s.tracker.settings.learning = false ∨ 192 ≤ s.tracker.cabins.length →
        inSet .unknownCabin ∧ t.tracker.cabins = s.tracker.cabins ∧ t.tracker.lists.down = s.tracker.lists.down ∧
        t.tracker.lists.up =
          (if s.tracker.oldestAnonymous .up then s.tracker.lists.up.tail else s.tracker.lists.up))) ∧
  (∀ (s : State) (cabin age : Nat), cabin ≤ 4095 → age ≤ 1023 →
      let t := s.takeTerminal (.terminal (some .departure) cabin age)
      let inSet := fun c : Cause => ∃ r ∈ t.chain.causes, r.code = c
      let others := fun l : List TrainRecord => l.filter fun r => decide (r.cabin ≠ some cabin)
      let odo := if age = 1023 then s.rope.odo else s.rope.odo - BitVec.ofInt 48 ((s.rope.speed * age * 256).tdiv 1000)
      let anonymous := fun (l : List TrainRecord) =>
        if l.length < 96 then l ++ [⟨none, false, odo, 0, s.tracker.settings.profile⟩] else l
      t.rope = s.rope ∧
      (∀ e, cabin ≠ 0 → s.tracker.entry cabin = some e →
        t.tracker.lists.up = others s.tracker.lists.up ∧
        (s.tracker.modes.down = .tracked → e.location ≠ .summit → inSet .orderFault) ∧
        ((others s.tracker.lists.down).length < 96 →
          t.tracker.lists.down = others s.tracker.lists.down ++ [⟨some cabin, false, odo, 0, e.profile⟩] ∧
          ((t.tracker.entry cabin).map fun e => e.location) = some .down) ∧
        (96 ≤ (others s.tracker.lists.down).length →
          t.tracker.lists.down = others s.tracker.lists.down ∧ inSet .trackFull ∧
          ((t.tracker.entry cabin).map fun e => e.location) = some .nowhere)) ∧
      (cabin = 0 → inSet .tagUnread ∧ t.tracker.lists = ⟨s.tracker.lists.up, anonymous s.tracker.lists.down⟩ ∧
        (96 ≤ s.tracker.lists.down.length → inSet .trackFull)) ∧
      (cabin ≠ 0 → s.tracker.entry cabin = none →
        s.tracker.settings.learning = false ∨ 192 ≤ s.tracker.cabins.length →
        inSet .unknownCabin ∧ t.tracker.lists = ⟨s.tracker.lists.up, anonymous s.tracker.lists.down⟩))

/-- The late timer's expiry loses the line: in sound telephony no call to the summit is left, on a line or on hold
(R164). -/
def Obligations.LineLossEndsEverySummitCall : Prop :=
  ∀ (s t : State) (n : Nat), s.pinHeld = false → s.tel.Sound → s.link.late = some n →
    exec .lateTimerExpiry s = .next t →
    t.tel.stack = [] ∧ ∀ i : Fin 4, (t.record i).state ≠ .free → (t.record i).remote.isSummit = false

/-! ## The telephony unit (chapter 9) -/

/-- The freeing of a call record: its channel is released and reset, it leaves the hold stack, it becomes FREE with its timer
stopped, its other fields kept, which is the model's choice (log 36), the freeing is counted under its reason, and a CLEAR
with the reason, the lines and the channel is offered in class 1 exactly when the record is a summit call known to the summit
and the freeing is not a silent one (R160; the channel a CLEAR carries is log 25). Then resumption is tried, and an EMERGENCY
record that was never CONNECTED raises CALL_UNANSWERED unless it is excused (R160, R163; the order is log 16).

Resumption takes the held record nearest the top of the stack whose line is active in no record, while a voice channel is
free: it leaves the stack, claims the channel and is counted. On-hook it rings for 30 s as a recalled call; off-hook it is
CONNECTED with the next connection order and RESUME is sent. It is tried again for the second held record (R163).

A preempted CONNECTED summit call is put on hold while the stack holds fewer than two: its channel is released, it stands on
top of the stack for 120 s, HOLD is sent and it is counted; any other victim is freed with PREEMPTED. An EMERGENCY call takes
the record active on its line, unless it is its own or an EMERGENCY record, which leaves it without a victim; it takes that
record's channel, else a free channel, else that of the CONNECTED summit call of lowest priority below EMERGENCY, the latest
connected among equals (R162). -/
def Obligations.FreeingACall : Prop :=
  (∀ (s : State) (i : Fin 4) (reason : ClearReason) (quiet : Bool),
    let r := s.record i
    let u : State := { s with tel :=
      { s.tel with
        records := upd s.tel.records i fun r => { r with state := .free, timer := none, channel := none }
        stack := s.tel.stack.filter (· != i)
        voices :=
          match r.channel with
          | some v => upd s.tel.voices (voiceIndex v) fun w =>
              { w with jitter := [], playing := false, expected := none, last := none, replayUsed := false, timer := none }
          | none => s.tel.voices
        counters := bump s.tel.counters (Ctr.cleared (reasonIndex reason)) } }
    (∀ l, r.known = true → quiet = false → r.remote = .summit l →
      s.freeCore i reason quiet =
        u.offer .line 1
          { b0 := 63, b1 := 0, b2 := 0x63
            payload := .built (.call r.ref r.line l r.priority r.channel reason), origin := .own }) ∧
    (r.known = false ∨ quiet = true ∨ (∀ l, r.remote ≠ .summit l) → s.freeCore i reason quiet = u)) ∧
  (∀ (s : State) (i : Fin 4) (reason : ClearReason) (quiet excused : Bool),
    let r := s.record i
    let u := (s.freeCore i reason quiet).resumption
    (r.priority ≠ .emergency ∨ r.order ≠ none ∨ excused = true → s.freeCall i reason quiet excused = u) ∧
    (r.priority = .emergency → r.order = none → excused = false →
      s.freeCall i reason quiet excused = u.raiseMomentary .callUnanswered { line := some r.line.val })) ∧
  (∀ s : State,
    (s.tel.resumable = none ∨ s.tel.freeChannel = none → s.resumption = s) ∧
    (∀ i, s.tel.resumable = some i ↔
      ∃ above below, s.tel.stack = above ++ i :: below ∧ s.tel.activeRecord (s.record i).line = none ∧
        ∀ j ∈ above, s.tel.activeRecord (s.record j).line ≠ none) ∧
    (∀ i v, s.tel.resumable = some i → s.tel.freeChannel = some v →
      let r := s.record i
      let u : State := { s with tel :=
        { s.tel with
          stack := s.tel.stack.filter (· != i)
          voices := upd s.tel.voices (voiceIndex v) fun _ => ⟨0, [], false, none, none, false, 0, none⟩
          counters := bump s.tel.counters Ctr.resumedCalls } }
      (s.tel.hooks[r.line] = false →
        s.resumption = (u.modRecord i fun r =>
          { r with state := .ringingIn, channel := some v, timer := some 30000 }).resumeHeld 1) ∧
      (∀ sl, s.tel.hooks[r.line] = true → r.remote = .summit sl →
        s.resumption = (State.offer
          (u.modTel fun k =>
            { k with
              order := k.order + 1
              codec := upd k.codec r.line fun _ => List.replicate 40 128
              records := upd k.records i fun r =>
                { r with state := .connected, channel := some v, timer := none, order := some (s.tel.order + 1) } })
          .line 1
          { b0 := 63, b1 := 0, b2 := 0x65, payload := .built (.call r.ref r.line sl r.priority (some v) .normal)
            origin := .own }).resumeHeld 1))) ∧
  (∀ (s : State) (j : Fin 4),
    let r := s.record j
    (∀ sl v, r.state = .connected → r.remote = .summit sl → r.channel = some v → s.tel.stack.length < 2 →
      s.takeVictim j =
        State.offer
          { s with tel :=
            { s.tel with
              records := upd s.tel.records j fun r => { r with state := .held, channel := none, timer := some 120000 }
              stack := j :: s.tel.stack
              voices := upd s.tel.voices (voiceIndex v) fun w =>
                { w with
                  jitter := [], playing := false, expected := none, last := none, replayUsed := false, timer := none }
              counters := bump s.tel.counters Ctr.heldCalls } } .line 1
          { b0 := 63, b1 := 0, b2 := 0x64, payload := .built (.call r.ref r.line sl r.priority none .normal)
            origin := .own }) ∧
    (r.state ≠ .connected ∨ r.remote.isSummit = false ∨ 2 ≤ s.tel.stack.length →
      s.takeVictim j = s.freeCore j .preempted false)) ∧
  (∀ (u : Telephony) (self : Option (Fin 4)) (l : Fin 2),
    let connected := fun i : Fin 4 =>
      (u.records[i]).state = .connected ∧ (u.records[i]).remote.isSummit = true ∧ (u.records[i]).priority ≠ .emergency
    let before := fun i j : Fin 4 =>
      (u.records[i]).priority.rank < (u.records[j]).priority.rank ∨
        ((u.records[i]).priority = (u.records[j]).priority ∧
          (u.records[j]).order.getD 0 < (u.records[i]).order.getD 0)
    let lineVictim : List (Fin 4) := match u.activeRecord l with
      | some j => if self = some j then [] else [j]
      | none => []
    (∀ j, u.activeRecord l = some j → self ≠ some j → (u.records[j]).priority = .emergency →
      u.preemption self l = none) ∧
    (∀ j v, u.activeRecord l = some j → self ≠ some j → (u.records[j]).priority ≠ .emergency →
      (u.records[j]).channel = some v → u.preemption self l = some ([j], v)) ∧
    ((∀ j, u.activeRecord l = some j → self ≠ some j →
        (u.records[j]).priority ≠ .emergency ∧ (u.records[j]).channel = none) →
      (∀ v, u.freeChannel = some v → u.preemption self l = some (lineVictim, v)) ∧
      (u.freeChannel = none →
        ((∀ i, ¬ connected i) → u.preemption self l = none) ∧
        (∀ i v, connected i → (∀ j, connected j → j ≠ i → before i j) → (u.records[i]).channel = some v →
          u.preemption self l = some (lineVictim ++ [i], v)))))

/-- The hooks of the lines. A level the line already has changes nothing (log 24). Off-hook on a line rung by a summit call
connects it: its timer stops, it takes the next connection order, the line's codec port plays silence, and ANSWER is sent, or
RESUME for a recalled call; a local call is connected the same way on both its lines, and sends nothing; a stop call becomes a
summit call to the operations line in SETUP when the link is not SILENT and a voice channel is free (R149, R153, R158, R165).
Off-hook on LINE 0 active in no record only stores the hook; on LINE 1 it opens a ROUTINE call to the hotline summit line when
the link is not SILENT and a voice channel is free (R153, R156). On-hook frees the record the line is active in, with NORMAL,
and excuses it from CALL_UNANSWERED where the line is the record's own, read as its local line (R153, R160; log 32). -/
def Obligations.Hooks : Prop :=
  ∀ (s : State) (l : Fin 2), s.pinHeld = false →
    (s.tel.hooks[l] = true → exec (.offHook l) s = .next s) ∧
    (s.tel.hooks[l] = false → exec (.onHook l) s = .next s) ∧
    (∀ i sl, s.tel.hooks[l] = false → s.tel.ringingRecord l = some i → (s.record i).remote = .summit sl →
      let r := s.record i
      exec (.offHook l) s =
        .next (State.offer
          { s with tel :=
            { s.tel with
              hooks := s.tel.hooks.set l true
              order := s.tel.order + 1
              codec := upd s.tel.codec r.line fun _ => List.replicate 40 128
              records := upd s.tel.records i fun r =>
                { r with state := .connected, timer := none, order := some (s.tel.order + 1) } } } .line 1
          { b0 := 63, b1 := 0, b2 := if r.order = none then 0x62 else 0x65
            payload := .built (.call r.ref r.line sl r.priority r.channel .normal), origin := .own })) ∧
    (∀ i m, s.tel.hooks[l] = false → s.tel.ringingRecord l = some i → (s.record i).remote = .localLine m →
      exec (.offHook l) s =
        .next { s with tel :=
          { s.tel with
            hooks := s.tel.hooks.set l true
            order := s.tel.order + 1
            codec := upd (upd s.tel.codec (s.record i).line fun _ => List.replicate 40 128) m fun _ =>
              List.replicate 40 128
            records := upd s.tel.records i fun r =>
              { r with state := .connected, timer := none, order := some (s.tel.order + 1) } } }) ∧
    (∀ i v, s.tel.hooks[l] = false → s.tel.ringingRecord l = some i → (s.record i).remote = .none →
      s.link.state ≠ .silent → s.tel.freeChannel = some v →
      let r := s.record i
      let sl := summitLineOf s.tel.table.operations
      exec (.offHook l) s =
        .next (State.offer
          { s with tel :=
            { s.tel with
              hooks := s.tel.hooks.set l true
              voices := upd s.tel.voices (voiceIndex v) fun _ => ⟨0, [], false, none, none, false, 0, none⟩
              records := upd s.tel.records i fun r =>
                { r with state := .setup, remote := .summit sl, channel := some v, known := true, timer := some 2000 } } }
          .line 1
          { b0 := 63, b1 := 0, b2 := 0x60, payload := .built (.call r.ref r.line sl r.priority (some v) .normal)
            origin := .own })) ∧
    (s.tel.hooks[(0 : Fin 2)] = false → s.tel.activeRecord 0 = none →
      exec (.offHook 0) s = .next { s with tel := { s.tel with hooks := s.tel.hooks.set (0 : Fin 2) true } }) ∧
    (∀ i v, s.tel.hooks[(1 : Fin 2)] = false → s.tel.activeRecord 1 = none → s.tel.freeRecord = some i →
      s.tel.freeChannel = some v → s.link.state ≠ .silent →
      exec (.offHook 1) s =
        .next (State.offer
          { s with tel :=
            { s.tel with
              hooks := s.tel.hooks.set (1 : Fin 2) true
              voices := upd s.tel.voices (voiceIndex v) fun _ => ⟨0, [], false, none, none, false, 0, none⟩
              records := upd s.tel.records i fun _ =>
                ⟨.setup, 1, .summit (summitLineOf s.tel.table.hotline), .routine, true, BitVec.ofNat 8 i.val, some v,
                  false, none, true, some 2000⟩ } } .line 1
          { b0 := 63, b1 := 0, b2 := 0x60
            payload := .built (.call (BitVec.ofNat 8 i.val) 1 (summitLineOf s.tel.table.hotline) .routine (some v)
              .normal), origin := .own })) ∧
    (s.tel.hooks[l] = true →
      let u : State := { s with tel := { s.tel with hooks := s.tel.hooks.set l false } }
      (s.tel.activeRecord l = none → exec (.onHook l) s = .next u) ∧
      (∀ i, s.tel.activeRecord l = some i →
        exec (.onHook l) s = .next (u.freeCall i .normal false (decide ((s.record i).line = l)))))

/-- The help button with LINE 1 active in a record raises that record to EMERGENCY, telling the summit of a summit call it
knows, or counts a repeat. With LINE 1 active in none it opens an EMERGENCY call to the help summit line: when the link is not
SILENT on a free voice channel, else by preemption, its record picked first (log 20), the victims treated before the call and
resumption tried after it (R154, R156, R161, R162). When the link is SILENT, or preemption finds no victim, the call is turned
into the local fallback: with fallback on and LINE 0 active in no record it rings LINE 0, or is CONNECTED at once where that
is off-hook, and is counted; otherwise it is freed without a frame, with LINE_LOST or BUSY (R158, R164). A call timer's expiry
frees the record with the reason of its state (R151); stopped it does nothing (log 2).

A stop-call trigger with LINE 0 active in no record and of no HELD one opens a stop call that rings LINE 0 for 30 s, or, with
LINE 0 off-hook, becomes a call to the operations summit line: in SETUP on a free voice channel, else freed without a frame
with LINE_LOST or BUSY. Any other trigger, one without a FREE record among them (log 20), is counted as ignored (R156, R165).
-/
def Obligations.HelpButtonAndCallTimer : Prop :=
  (∀ s : State, s.pinHeld = false →
    (∀ i, s.tel.activeRecord 1 = some i →
      ((s.record i).priority = .emergency → exec .helpButton s = .next (s.countTel Ctr.helpRepeat)) ∧
      ((s.record i).priority ≠ .emergency → (s.record i).known = false ∨ (s.record i).remote.isSummit = false →
        exec .helpButton s = .next (s.modRecord i fun r => { r with priority := .emergency })) ∧
      (∀ sl, (s.record i).priority ≠ .emergency → (s.record i).known = true → (s.record i).remote = .summit sl →
        exec .helpButton s =
          .next ((s.modRecord i fun r => { r with priority := .emergency }).offer .line 1
            { b0 := 63, b1 := 0, b2 := 0x66
              payload := .built (.call (s.record i).ref (s.record i).line sl .emergency (s.record i).channel .normal)
              origin := .own }))) ∧
    (∀ i v, s.tel.activeRecord 1 = none → s.tel.freeRecord = some i → s.tel.freeChannel = some v →
      s.link.state ≠ .silent →
      exec .helpButton s =
        .next (State.offer
          { s with tel :=
            { s.tel with
              voices := upd s.tel.voices (voiceIndex v) fun _ => ⟨0, [], false, none, none, false, 0, none⟩
              records := upd s.tel.records i fun _ =>
                ⟨.setup, 1, .summit (summitLineOf s.tel.table.help), .emergency, true, BitVec.ofNat 8 i.val, some v,
                  false, none, true, some 2000⟩ } } .line 1
          { b0 := 63, b1 := 0, b2 := 0x60
            payload := .built (.call (BitVec.ofNat 8 i.val) 1 (summitLineOf s.tel.table.help) .emergency (some v)
              .normal), origin := .own })) ∧
    (∀ i, s.tel.activeRecord 1 = none → s.tel.freeRecord = some i →
      let sl := summitLineOf s.tel.table.help
      let help : CallRecord :=
        ⟨.setup, 1, .summit sl, .emergency, true, BitVec.ofNat 8 i.val, none, false, none, false, none⟩
      let turned := s.tel.table.fallback = true ∧ s.tel.activeRecord 0 = none
      let fallen : State := (s.modRecord i fun _ =>
        { help with state := .ringingOut, remote := .localLine 0, timer := some 30000 }).countTel Ctr.fallback
      let refused := fun reason : ClearReason => (s.modRecord i fun _ => help).freeCall i reason true false
      (∀ victims v, s.link.state ≠ .silent → s.tel.freeChannel = none →
        s.tel.preemption (some i) 1 = some (victims, v) →
        let u := victims.foldl State.takeVictim s
        exec .helpButton s =
          .next (State.resumption (State.offer
            { u with tel :=
              { u.tel with
                voices := upd u.tel.voices (voiceIndex v) fun _ => ⟨0, [], false, none, none, false, 0, none⟩
                records := upd u.tel.records i fun _ =>
                  { help with channel := some v, known := true, timer := some 2000 } } } .line 1
            { b0 := 63, b1 := 0, b2 := 0x60
              payload := .built (.call (BitVec.ofNat 8 i.val) 1 sl .emergency (some v) .normal), origin := .own }))) ∧
      (s.link.state = .silent ∨ (s.tel.freeChannel = none ∧ s.tel.preemption (some i) 1 = none) →
        (turned → s.tel.hooks[(0 : Fin 2)] = false → exec .helpButton s = .next fallen) ∧
        (turned → s.tel.hooks[(0 : Fin 2)] = true →
          exec .helpButton s =
            .next (fallen.modTel fun k =>
              { k with
                order := k.order + 1
                codec := upd (upd k.codec 1 fun _ => List.replicate 40 128) 0 fun _ => List.replicate 40 128
                records := upd k.records i fun r =>
                  { r with state := .connected, timer := none, order := some (s.tel.order + 1) } })) ∧
        (¬ turned → exec .helpButton s = .next (refused (if s.link.state = .silent then .lineLost else .busy))))) ∧
    ∀ i : Fin 4,
      ((s.record i).timer = none → exec (.callTimerExpiry i) s = .next s) ∧
      ∀ n, (s.record i).timer = some n →
        ((s.record i).state = .setup → exec (.callTimerExpiry i) s = .next (s.freeCall i .noResponse false false)) ∧
        ((s.record i).state = .ringingOut ∨ (s.record i).state = .ringingIn →
          exec (.callTimerExpiry i) s = .next (s.freeCall i .noAnswer false false)) ∧
        ((s.record i).state = .held → exec (.callTimerExpiry i) s = .next (s.freeCall i .preempted false false))) ∧
  (∀ s : State,
    let opens := s.tel.activeRecord 0 = none ∧ ∀ i : Fin 4, ¬ ((s.record i).state = .held ∧ (s.record i).line = 0)
    (¬ opens ∨ s.tel.freeRecord = none → s.stopCallTrigger = s.countTel Ctr.stopCallIgnored) ∧
    ∀ i, opens → s.tel.freeRecord = some i →
      let rung : CallRecord :=
        ⟨.ringingIn, 0, .none, .operations, true, BitVec.ofNat 8 i.val, none, true, none, false, some 30000⟩
      let sl := summitLineOf s.tel.table.operations
      let u := s.countTel Ctr.stopCall
      let ringing := u.modRecord i fun _ => rung
      let refused := fun reason : ClearReason =>
        (State.freeCore (u.modRecord i fun _ => { rung with remote := .summit sl }) i reason true).resumption
      (s.tel.hooks[(0 : Fin 2)] = false → s.stopCallTrigger = ringing) ∧
      (s.tel.hooks[(0 : Fin 2)] = true →
        (s.link.state = .silent → s.stopCallTrigger = refused .lineLost) ∧
        (s.link.state ≠ .silent → ringing.tel.freeChannel = none → s.stopCallTrigger = refused .busy) ∧
        ∀ v, s.link.state ≠ .silent → ringing.tel.freeChannel = some v →
          s.stopCallTrigger =
            State.offer
              { u with tel :=
                { u.tel with
                  voices := upd u.tel.voices (voiceIndex v) fun _ => ⟨0, [], false, none, none, false, 0, none⟩
                  records := upd u.tel.records i fun _ =>
                    { rung with
                      state := .setup, remote := .summit sl, channel := some v, known := true, timer := some 2000 } } }
              .line 1
              { b0 := 63, b1 := 0, b2 := 0x60
                payload := .built (.call (BitVec.ofNat 8 i.val) 0 sl .operations (some v) .normal), origin := .own }))

/-- A block of 40 samples from a line. In a CONNECTED summit call on a voice channel it is sent as VOICE with the channel's
next number while the line port is ACTIVE or WARNED, and counted as suppressed otherwise, the number rising all the same; in
a CONNECTED local call it is what the other line plays; a line active in no record has no effect (R149, R166).

A playout expiry of a PLAYING channel plays the frame whose turn it is at the call's line; with that frame missing it plays the
last block once again, and silence after that or where there is none; each is counted. The expected number rises, the timer
runs again for 5 ms, and the empty expiries in a row are counted, stopping at 8. The eighth takes the channel back to PREFILL,
its timer stopped and its last block forgotten, and the line plays silence (R168). A stopped playout timer does nothing (log
2). -/
def Obligations.CodecBlockAndPlayout : Prop :=
  ∀ (s : State) (l : Fin 2) (samples : List Byte) (v : VoiceName), s.pinHeld = false → samples.length = 40 →
    let k := voiceIndex v
    let w := s.tel.voices[k]
    (s.tel.activeRecord l = none → exec (.codecBlock l samples) s = .next s) ∧
    (∀ i sl, s.tel.activeRecord l = some i → (s.record i).state = .connected → (s.record i).remote = .summit sl →
      (s.record i).channel = some v →
      let u := s.modTel fun u => { u with voices := upd u.voices k fun w => { w with txSeq := w.txSeq + 1 } }
      (s.line.mode = .active ∨ s.line.mode = .warned →
        exec (.codecBlock l samples) s =
          .next ((u.countTel (Ctr.voiceSent k)).offer .line 1
            { b0 := 63, b1 := 0, b2 := 0x70, payload := .built (.voice v w.txSeq samples), origin := .own })) ∧
      (s.line.mode ≠ .active → s.line.mode ≠ .warned →
        exec (.codecBlock l samples) s = .next (u.countTel Ctr.voiceSuppressed))) ∧
    (∀ i m, s.tel.activeRecord l = some i → (s.record i).state = .connected → (s.record i).remote = .localLine m →
      exec (.codecBlock l samples) s =
        .next (s.modTel fun u => { u with codec := upd u.codec (if l = 0 then 1 else 0) fun _ => samples })) ∧
    (w.playing = false ∨ w.timer = none → exec (.playoutTimerExpiry v) s = .next s) ∧
    (∀ n i g rest, w.playing = true → w.timer = some n → s.tel.callOn v = some i → w.jitter = g :: rest →
      w.expected = some g.1 →
      exec (.playoutTimerExpiry v) s =
        .next (s.modTel fun u =>
          { u with
            voices := upd u.voices k fun w =>
              { w with
                jitter := rest, last := some g.2, replayUsed := false, expected := some (g.1 + 1), empties := 0
                timer := some 5 }
            codec := upd u.codec (s.record i).line fun _ => g.2
            counters := bump u.counters (Ctr.played k) })) ∧
    (∀ n i e, w.playing = true → w.timer = some n → s.tel.callOn v = some i → w.expected = some e →
      (∀ g rest, w.jitter = g :: rest → g.1 ≠ e) →
      let empties := if w.jitter = [] then min 8 (w.empties + 1) else 0
      let replays := w.last ≠ none ∧ w.replayUsed = false
      let block := if replays then w.last.getD [] else List.replicate 40 128
      let played := if replays then Ctr.replayed k else Ctr.silent k
      (empties ≠ 8 →
        exec (.playoutTimerExpiry v) s =
          .next (s.modTel fun u =>
            { u with
              voices := upd u.voices k fun w =>
                { w with
                  replayUsed := if replays then true else w.replayUsed
                  expected := some (e + 1), empties := empties, timer := some 5 }
              codec := upd u.codec (s.record i).line fun _ => block
              counters := bump u.counters played })) ∧
      (empties = 8 →
        exec (.playoutTimerExpiry v) s =
          .next (s.modTel fun u =>
            { u with
              voices := upd u.voices k fun w =>
                { w with
                  playing := false, expected := none, last := none, replayUsed := false, empties := 8, timer := none }
              codec := upd u.codec (s.record i).line fun _ => List.replicate 40 128
              counters := bump (bump u.counters played) (Ctr.prefillReturn k) })))

/-- A VOICE from the summit whose contents are not a channel and 40 samples is malformed; one for a channel that no CONNECTED
call holds is counted as not connected; neither has another effect. Another one is judged against the channel's jitter queue
and its expected number, which is its own number where none is set. Late, duplicate and dropped frames are counted. A queued
frame sets the expected number where none was set, and takes a channel in PREFILL with two frames or more to PLAYING, its
playout timer started with 5 ms and its empty expiries at 0; where it pushed another out the overflow is counted (R166, R167).

The judgement: more than half the circle behind the expected number is late; a number already queued is a duplicate; with room
the frame joins the jitter queue, which stays ordered by distance; a full queue drops whichever of it and the newest is
farther (R167). -/
def Obligations.JitterQueueJudgement : Prop :=
  (∀ (s : State) (v : VoiceName) (seq : Byte) (samples : List Byte),
    let k := voiceIndex v
    let w := s.tel.voices[k]
    let e := w.expected.getD seq
    let t := s.takeVoice (.voice (some v) seq samples)
    s.takeVoice .unread = s.countTel Ctr.malformedVoice ∧
    s.takeVoice (.voice none seq samples) = s.countTel Ctr.malformedVoice ∧
    (samples.length ≠ 40 → t = s.countTel Ctr.malformedVoice) ∧
    (samples.length = 40 →
      ((∀ i, ¬ ((s.record i).state = .connected ∧ (s.record i).channel = some v)) →
        t = s.countTel (Ctr.notConnected k)) ∧
      (∀ i, (s.record i).state = .connected → (s.record i).channel = some v →
        (judgeVoice e w.jitter (seq, samples) = .late → t = s.countTel (Ctr.lateVoice k)) ∧
        (judgeVoice e w.jitter (seq, samples) = .duplicate → t = s.countTel (Ctr.duplicateVoice k)) ∧
        (judgeVoice e w.jitter (seq, samples) = .dropped → t = s.countTel (Ctr.overflowVoice k)) ∧
        (∀ overflow q, judgeVoice e w.jitter (seq, samples) = .queued overflow q →
          let starts := w.playing = false ∧ 2 ≤ q.length
          t = s.modTel fun u =>
            { u with
              counters := if overflow then bump u.counters (Ctr.overflowVoice k) else u.counters
              voices := upd u.voices k fun w =>
                { w with
                  jitter := q, expected := some e, playing := if starts then true else w.playing
                  timer := if starts then some 5 else w.timer, empties := if starts then 0 else w.empties } })))) ∧
  (∀ (e : Byte) (q : List (Byte × List Byte)) (f : Byte × List Byte),
    q.Pairwise (fun a b => (a.1 - e).toNat < (b.1 - e).toNat) →
    (128 ≤ (f.1 - e).toNat → judgeVoice e q f = .late) ∧
    ((f.1 - e).toNat < 128 → (∃ g ∈ q, g.1 = f.1) → judgeVoice e q f = .duplicate) ∧
    ((f.1 - e).toNat < 128 → (∀ g ∈ q, g.1 ≠ f.1) → q.length < 8 →
      ∃ q', judgeVoice e q f = .queued false q' ∧ q'.Perm (f :: q) ∧
        q'.Pairwise (fun a b => (a.1 - e).toNat < (b.1 - e).toNat)) ∧
    (∀ (front : List (Byte × List Byte)) (g : Byte × List Byte), (f.1 - e).toNat < 128 → (∀ g ∈ q, g.1 ≠ f.1) →
      8 ≤ q.length → q = front ++ [g] →
      ((f.1 - e).toNat < (g.1 - e).toNat →
        ∃ q', judgeVoice e q f = .queued true q' ∧ q'.Perm (f :: front) ∧
          q'.Pairwise (fun a b => (a.1 - e).toNat < (b.1 - e).toNat)) ∧
      ((g.1 - e).toNat ≤ (f.1 - e).toNat → judgeVoice e q f = .dropped)))

/-- CALL-PLACE from the console: a remote or priority outside its values is BAD_VALUE, LINE 0 on-hook BAD_REQUEST, LINE 0
active LINE_BUSY. LOCAL with LINE 1 active is LINE_BUSY; otherwise it rings LINE 1 for 30 s, or is CONNECTED at once where
that is off-hook. A summit line while the link is SILENT is BAD_REQUEST; on a free voice channel, and for EMERGENCY also by
preemption, its record picked, then the victims treated (log 20), and resumption tried last, a summit call opens in SETUP for
2 s on it, sends REQUEST, and the record number is answered; otherwise the answer is IN_USE (R155, R156, R158, R162). A
refused CALL-PLACE uses no record and counts nothing of the telephony unit (log 35). CALL-CLEAR of a record above 3 is BAD_VALUE, of a FREE one
NOT_FOUND; of another it frees the record with NORMAL (R155, R160).

A summit CALL whose sub-kind is above 6, or with a field outside its values, is malformed and counted
(R152). A REQUEST is answered with CLEAR and uses no record, with REFUSED for a reference below 4 and while the link is
SILENT, with BUSY when its line is active, or no channel is free, and it is not EMERGENCY or preemption finds no victim; one
that repeats a known record of its line is counted. Otherwise it opens an incoming record, picked after any victims are
treated (log 20): off-hook CONNECTED with RINGING and ANSWER sent, on-hook ringing for 30 s with RINGING sent (R159, R162; the
CLEAR's priority and channel are log 29).

Any other CALL concerns the known summit record of its line and reference; with none it is counted as stale. RINGING takes
SETUP to RINGING_OUT for 30 s; ANSWER takes SETUP and RINGING_OUT to CONNECTED; CLEAR frees the record with its reason and no
frame; PRIORITY raises the priority, and takes a HELD record raised to EMERGENCY off the stack, to be resumed on the line and
channel preemption gives it, or freed with BUSY; HOLD, RESUME and a frame the record's state does not accept are counted as
unexpected (R152, R157, R161, R162, R163). -/
def Obligations.CallPlaceAndClear : Prop :=
  (∀ (s : State) (rq : Requester) (tag : Byte) (line : Fin 4) (p : Priority) (i : Fin 4), s.pinHeld = false →
    s.isConsole rq = true →
    let place : Instr := .callPlace rq tag (.summit line.val) (some p)
    let inside : Instr := .callPlace rq tag .localLine (some p)
    let answers := fun (code : RequestCode) (r : Reply) => Host.Outcome.next (State.settleRequest rq code tag r)
    let opened := fun (u : State) (v : VoiceName) =>
      State.offer
        { u with tel :=
          { u.tel with
            voices := upd u.tel.voices (voiceIndex v) fun _ => ⟨0, [], false, none, none, false, 0, none⟩
            records := upd u.tel.records i fun _ =>
              ⟨.setup, 0, .summit line, p, true, BitVec.ofNat 8 i.val, some v, false, none, true, some 2000⟩ } } .line 1
        { b0 := 63, b1 := 0, b2 := 0x60
          payload := .built (.call (BitVec.ofNat 8 i.val) 0 line p (some v) .normal), origin := .own }
    (∀ remote priority, remote = .other ∨ priority = none ∨ (∃ n, remote = .summit (n + 4)) →
      exec (.callPlace rq tag remote priority) s = answers .callPlace (s, .badValue, .empty)) ∧
    (s.tel.hooks[(0 : Fin 2)] = false →
      exec place s = answers .callPlace (s, .badRequest, .empty) ∧
        exec inside s = answers .callPlace (s, .badRequest, .empty)) ∧
    (s.tel.hooks[(0 : Fin 2)] = true →
      ((s.tel.activeRecord 0).isSome = true →
        exec place s = answers .callPlace (s, .lineBusy, .empty) ∧
          exec inside s = answers .callPlace (s, .lineBusy, .empty)) ∧
      (s.tel.activeRecord 0 = none → (s.tel.activeRecord 1).isSome = true →
        exec inside s = answers .callPlace (s, .lineBusy, .empty)) ∧
      (s.tel.activeRecord 0 = none → s.tel.activeRecord 1 = none → s.tel.freeRecord = some i →
        exec inside s =
          answers .callPlace
            (if s.tel.hooks[(1 : Fin 2)] then
              { s with tel :=
                { s.tel with
                  order := s.tel.order + 1
                  codec := Vector.replicate 2 (List.replicate 40 128)
                  records := upd s.tel.records i fun _ =>
                    ⟨.connected, 0, .localLine 1, p, true, BitVec.ofNat 8 i.val, none, false, some (s.tel.order + 1),
                      false, none⟩ } }
            else
              s.modRecord i fun _ =>
                ⟨.ringingOut, 0, .localLine 1, p, true, BitVec.ofNat 8 i.val, none, false, none, false, some 30000⟩,
              .done, .record i.val)) ∧
      (s.tel.activeRecord 0 = none → s.link.state = .silent →
        exec place s = answers .callPlace (s, .badRequest, .empty)) ∧
      (s.tel.activeRecord 0 = none → s.link.state ≠ .silent → s.tel.freeRecord = some i →
        (s.tel.freeChannel = none → p ≠ .emergency ∨ s.tel.preemption (some i) 0 = none →
          exec place s = answers .callPlace (s, .inUse, .empty)) ∧
        (∀ victims v, s.tel.freeChannel = none → p = .emergency → s.tel.preemption (some i) 0 = some (victims, v) →
          exec place s =
            answers .callPlace ((opened (victims.foldl State.takeVictim s) v).resumption, .done, .record i.val)) ∧
        (∀ v, s.tel.freeChannel = some v →
          exec place s = answers .callPlace (opened s v, .done, .record i.val)))) ∧
    (∀ n, 4 ≤ n → exec (.callClear rq tag n) s = answers .callClear (s, .badValue, .empty)) ∧
    ((s.record i).state = .free →
      exec (.callClear rq tag i.val) s = answers .callClear (s, .notFound, .empty)) ∧
    ((s.record i).state ≠ .free →
      exec (.callClear rq tag i.val) s = answers .callClear (s.freeCall i .normal false true, .done, .empty))) ∧
  (∀ (s : State) (sub : Nat) (ref : Byte) (v sl : Nat) (p : Option Priority) (channel : Option (Option VoiceName))
    (reason : Option ClearReason), s.takeCall sub .unread = s.countTel Ctr.malformedCall ∧
    (7 ≤ sub ∨ 2 ≤ v ∨ 4 ≤ sl ∨ p = none ∨ channel = none ∨ reason = none →
      s.takeCall sub (.call ref v sl p channel reason) = s.countTel Ctr.malformedCall)) ∧
  (∀ (s : State) (ref : Byte) (line : Fin 2) (sl : Fin 4) (p : Priority) (channel : Option VoiceName)
    (reason : ClearReason),
    let request := s.takeCall 0 (.call ref line.val sl.val (some p) (some channel) (some reason))
    let sent := fun (u : State) (sub : BitVec 8) (c : Option VoiceName) (why : ClearReason) =>
      u.offer .line 1
        { b0 := 63, b1 := 0, b2 := 0x60 + sub, payload := .built (.call ref line sl p c why), origin := .own }
    let opened := fun (u : State) (i : Fin 4) (v : VoiceName) =>
      let w := u.modTel fun k =>
        { k with voices := upd k.voices (voiceIndex v) fun _ => ⟨0, [], false, none, none, false, 0, none⟩ }
      if u.tel.hooks[line] then
        sent (sent (w.modTel fun k =>
          { k with
            order := k.order + 1
            codec := upd k.codec line fun _ => List.replicate 40 128
            records := upd k.records i fun _ =>
              ⟨.connected, line, .summit sl, p, false, ref, some v, false, some (k.order + 1), true, none⟩ })
          1 (some v) .normal) 2 (some v) .normal
      else
        sent (w.modRecord i fun _ =>
          ⟨.ringingIn, line, .summit sl, p, false, ref, some v, false, none, true, some 30000⟩) 1 (some v) .normal
    let repeated := ∃ i : Fin 4,
      (s.record i).state ≠ .free ∧ (s.record i).known = true ∧ (s.record i).line = line ∧ (s.record i).ref = ref
    (ref.toNat < 4 → request = sent s 3 none .refused) ∧
    (4 ≤ ref.toNat →
      (repeated → request = s.countTel Ctr.repeatRequest) ∧
      (¬ repeated → s.link.state = .silent → request = sent s 3 none .refused) ∧
      (¬ repeated → s.link.state ≠ .silent →
        (s.tel.activeRecord line ≠ none ∨ s.tel.freeChannel = none → p ≠ .emergency →
          request = sent s 3 none .busy) ∧
        (∀ i v, s.tel.activeRecord line = none → s.tel.freeChannel = some v → s.tel.freeRecord = some i →
          request = opened s i v) ∧
        (s.tel.activeRecord line ≠ none ∨ s.tel.freeChannel = none → p = .emergency →
          (s.tel.preemption none line = none → request = sent s 3 none .busy) ∧
          (∀ victims v i, s.tel.preemption none line = some (victims, v) →
            (victims.foldl State.takeVictim s).tel.freeRecord = some i →
            request = (opened (victims.foldl State.takeVictim s) i v).resumption))))) ∧
  (∀ (s : State) (ref : Byte) (line : Fin 2) (sl : Fin 4) (p : Priority) (channel : Option VoiceName)
    (reason : ClearReason),
    let call := fun sub : Nat => s.takeCall sub (.call ref line.val sl.val (some p) (some channel) (some reason))
    let unexpected := s.countTel Ctr.unexpectedCall
    let isMeant := fun i : Fin 4 =>
      (s.record i).known = true ∧ (s.record i).state ≠ .free ∧ (s.record i).remote.isSummit = true ∧
        (s.record i).line = line ∧ (s.record i).ref = ref
    ((∀ i, ¬ isMeant i) → ∀ sub, 1 ≤ sub → sub ≤ 6 → call sub = s.countTel Ctr.staleCall) ∧
    ∀ i, isMeant i → (∀ j, j < i → ¬ isMeant j) →
      let r := s.record i
      (r.state = .setup → call 1 = s.modRecord i fun r => { r with state := .ringingOut, timer := some 30000 }) ∧
      (r.state ≠ .setup → call 1 = unexpected) ∧
      (r.state = .setup ∨ r.state = .ringingOut →
        call 2 = s.modTel fun k =>
          { k with
            order := k.order + 1
            codec := upd k.codec line fun _ => List.replicate 40 128
            records := upd k.records i fun r =>
              { r with state := .connected, timer := none, order := some (k.order + 1) } }) ∧
      (r.state ≠ .setup → r.state ≠ .ringingOut → call 2 = unexpected) ∧
      call 3 = s.freeCall i reason true false ∧ call 4 = unexpected ∧ call 5 = unexpected ∧
      (p.rank ≤ r.priority.rank → call 6 = unexpected) ∧
      (r.priority.rank < p.rank → r.state ≠ .held ∨ p ≠ .emergency →
        call 6 = s.modRecord i fun r => { r with priority := p }) ∧
      (r.priority.rank < p.rank → r.state = .held → p = .emergency →
        let u := (s.modTel fun k => { k with stack := k.stack.filter (· != i) }).modRecord i fun r =>
          { r with priority := .emergency, timer := none }
        (u.tel.preemption (some i) line = none → call 6 = u.freeCall i .busy false false) ∧
        (∀ victims v, u.tel.preemption (some i) line = some (victims, v) →
          let w := victims.foldl State.takeVictim u
          let x := w.modTel fun k =>
            { k with
              voices := upd k.voices (voiceIndex v) fun _ => ⟨0, [], false, none, none, false, 0, none⟩
              counters := bump k.counters Ctr.resumedCalls }
          (s.tel.hooks[line] = false →
            call 6 = (x.modRecord i fun r =>
              { r with state := .ringingIn, channel := some v, timer := some 30000 }).resumption) ∧
          (∀ far, s.tel.hooks[line] = true → r.remote = .summit far →
            call 6 = (State.offer
              (x.modTel fun k =>
                { k with
                  order := k.order + 1
                  codec := upd k.codec line fun _ => List.replicate 40 128
                  records := upd k.records i fun r =>
                    { r with state := .connected, channel := some v, timer := none, order := some (k.order + 1) } })
              .line 1
              { b0 := 63, b1 := 0, b2 := 0x65, payload := .built (.call ref line far .emergency (some v) .normal)
                origin := .own }).resumption))))

/-! ## The stop chain (chapter 10) -/

/-- The five filtered inputs. A level the input already has changes nothing (log 24); a level the filtered state stands for
stops the debounce, another one starts it with 10 ms. The expiry gives the filtered state the level's: to ACTIVE it is counted and the
input's cause raised and held, to INACTIVE the cause is withdrawn. A stop input is active when low, the drive-fault input
when asserted (R171). The stop timer's expiry raises STOP_OVERRUN and counts it (R181). Stopped timers do nothing (log 2). -/
def Obligations.StopInputsAndStopTimer : Prop :=
  ∀ (s : State) (i : StopInput) (level : Bool), s.pinHeld = false →
    let f := s.stopFilter i
    let active := match i with
      | .stop _ => !level
      | .driveFault => level
    (f.level = active → exec (.stopFilterLevelChange i level) s = .next s) ∧
    (f.level ≠ active →
      exec (.stopFilterLevelChange i level) s =
        .next (s.modFilter i fun f => { f with level := active, timer := if active = f.active then none else some 10 })) ∧
    (f.timer = none → exec (.stopFilterDebounceExpiry i) s = .next s) ∧
    (∀ n, f.timer = some n →
      let u := s.modFilter i fun f => { f with active := f.level, timer := none }
      (f.level = true → f.active = false →
        exec (.stopFilterDebounceExpiry i) s =
          .next ((u.countChain (Ctr.activation (stopInputIndex i))).raiseHeld (stopInputCause i) {})) ∧
      (f.level = false → f.active = true →
        exec (.stopFilterDebounceExpiry i) s = .next (u.withdraw (stopInputCause i))) ∧
      (f.level = f.active → exec (.stopFilterDebounceExpiry i) s = .next u)) ∧
    (s.chain.timer = none → exec .stopTimerExpiry s = .next s) ∧
    (∀ n, s.chain.timer = some n →
      exec .stopTimerExpiry s =
        .next (State.raiseMomentary
          { s with chain := { s.chain with timer := none, counters := bump s.chain.counters Ctr.overrun } } .stopOverrun
          {}))

/-- What a raise leaves in the active cause set: for a code in the set, its record with one occurrence more, stopping at 255,
its category raised to the table's and the requested one, its condition present if the raise holds one; for another code, a
new record at the tail. The records of other codes stay as they are and in their order. The raise is counted, and the
asserted category is at least what it was and at least the demanded one (R174, R176). A raise that lifts it from NONE while
the rope is not at standstill starts the stop timer with the stop time limit, and the start is counted; any other raise leaves
the timer as it is (R181). A new record is handed on once A is judged: its notice, then the stop call, as the flags of its
code say (R177).

A follows the demanded category upward only, and at each rise, in this order: the channels halt where it rises to EMERGENCY,
the stop timer is judged, and the notice of the change is given (R176). A notice carries its reason and the status summary,
goes to the console in class 2 and is counted; with notices off it is counted as suppressed (R191).

A withdrawal makes the condition of its code's record gone and changes nothing else in the stop chain, above all not A; a
withdrawal of a code not in the set is counted and changes nothing else (R175). -/
def Obligations.RaiseAndWithdrawal : Prop :=
  (∀ (s : State) (c : Cause) (d : Detail) (momentary : Bool),
      let table := (s.chain.table[causeCode c]).category
      let wanted := table.sup (d.requested.getD .none)
      let t := s.raise c d momentary
      ((∃ r ∈ s.chain.causes, r.code = c) →
        t.chain.causes = s.chain.causes.map fun r =>
          if r.code = c then
            { r with
              occurrences := min 255 (r.occurrences + 1)
              category := if r.category.rank < wanted.rank then wanted else r.category
              present := r.present || !momentary }
          else r) ∧
      ((∀ r ∈ s.chain.causes, r.code ≠ c) →
        t.chain.causes = s.chain.causes ++ [⟨c, wanted, d, 1, !momentary⟩]) ∧
      t.chain.table = s.chain.table ∧ t.chain.filters = s.chain.filters ∧
      t.chain.counters[Ctr.raises (causeCode c)] = s.chain.counters[Ctr.raises (causeCode c)] + 1 ∧
      s.chain.asserted.rank ≤ t.chain.asserted.rank ∧
      (∀ r ∈ t.chain.causes, r.category.rank ≤ t.chain.asserted.rank) ∧
      (t.chain.asserted = s.chain.asserted ∨ ∃ r ∈ t.chain.causes, r.category = t.chain.asserted) ∧
      (s.chain.asserted = .none → t.chain.asserted ≠ .none → s.rope.standstill = false →
        t.chain.timer = some (s.rope.table.stopTime * 1000) ∧
        t.chain.counters[Ctr.stopTimer] = s.chain.counters[Ctr.stopTimer] + 1) ∧
      (s.chain.asserted ≠ .none ∨ t.chain.asserted = .none ∨ s.rope.standstill = true →
        t.chain.timer = s.chain.timer ∧ t.chain.counters[Ctr.stopTimer] = s.chain.counters[Ctr.stopTimer]) ∧
      (let counted := s.countChain (Ctr.raises (causeCode c))
       let r : CauseRecord := ⟨c, wanted, d, 1, !momentary⟩
       let judged := fun l : List CauseRecord =>
         State.judgeRise { counted with chain := { counted.chain with causes := l } }
       let noticed := fun u : State => if (s.chain.table[causeCode c]).notice then u.notice (.causeEntry r) else u
       let called := fun u : State => if (s.chain.table[causeCode c]).call then u.stopCallTrigger else u
       ((∃ r ∈ s.chain.causes, r.code = c) → t = judged t.chain.causes) ∧
       ((∀ r ∈ s.chain.causes, r.code ≠ c) → t = called (noticed (judged (s.chain.causes ++ [r]))))) ∧
      s.changesOnly t raiseReach) ∧
  (∀ (s : State) (c : Cause),
      ((∃ r ∈ s.chain.causes, r.code = c) →
        s.withdraw c = { s with chain :=
          { s.chain with causes := s.chain.causes.map fun r => if r.code = c then { r with present := false } else r } }) ∧
      ((∀ r ∈ s.chain.causes, r.code ≠ c) →
        s.withdraw c = { s with chain := { s.chain with counters := bump s.chain.counters Ctr.strayWithdrawal } })) ∧
  (∀ s : State,
      let old := s.chain.asserted
      let new := demandedOf s.chain.causes
      (new.rank ≤ old.rank → s.judgeRise = s) ∧
      (old.rank < new.rank →
        let u : State := { s with chain := { s.chain with asserted := new } }
        let v := if new = .emergency then u.haltAll else u
        let w : State :=
          if old = .none ∧ s.rope.standstill = false then
            { v with chain :=
              { v.chain with
                timer := some (s.rope.table.stopTime * 1000), counters := bump v.chain.counters Ctr.stopTimer } }
          else v
        s.judgeRise = w.notice (.category old new))) ∧
  (∀ (s : State) (why : NoticeReason),
      let summary : Summary :=
        ⟨s.chain.asserted, demandedOf s.chain.causes, s.chain.causes.length, s.station.mode, s.line.mode,
          s.tracker.modes.up, s.tracker.modes.down, s.link.state⟩
      (s.admin.part.notices = false → s.notice why = s.countAdmin Ctr.noticeSuppressed) ∧
      (s.admin.part.notices = true →
        s.notice why =
          (s.countAdmin Ctr.noticeBuilt).offer .station 2
            { b0 := (0 : BitVec 1) ++ s.admin.part.console, b1 := 0, b2 := 0xA0, payload := .built (.notice why summary)
              origin := .own }))

/-- RESTART-PERMIT from the console. At standstill every record whose condition is gone leaves the set, RESET_LATCH among
them, the rest keep their order, and A becomes the demanded category of what is left; the permit is counted, and the cause table,
the filters and the stop timer stay; a change of A reaches the door channels and is noticed; the answer is DONE when none is left,
PARTIAL otherwise, with their number and A. In motion it is refused with IN_MOTION and counted, and the set and A stay
(R178). CAUSES-CLEAR-NOTICES removes the records of category NONE whose condition is gone, at any speed, and answers their
number (R179). -/
def Obligations.PermitAndClearing : Prop :=
  ∀ (s : State) (rq : Requester) (tag : Byte), s.pinHeld = false → s.isConsole rq = true →
    (s.rope.standstill = true →
      let left := s.chain.causes.filter fun r => r.present && decide (r.code ≠ .resetLatch)
      ∃ t : State,
        t.chain =
          { s.chain with
            causes := left, asserted := demandedOf left, counters := bump s.chain.counters Ctr.permit } ∧
        s.changesOnly t [.stationPort, .frameSwitch, .postPoller, .stationRail, .doorChannels, .stopChain, .adminResponder] ∧
        (demandedOf left = s.chain.asserted → s.changesOnly t [.stopChain]) ∧
        (s.chain.asserted ≠ .emergency → demandedOf left ≠ .emergency → t.doors = s.doors ∧ t.rail = s.rail) ∧
        (demandedOf left ≠ s.chain.asserted →
          t.admin.counters =
            bump s.admin.counters (if s.admin.part.notices then Ctr.noticeBuilt else Ctr.noticeSuppressed)) ∧
        exec (.restartPermit rq tag) s =
          .next (State.settleRequest rq .restartPermit tag
            (t, if left = [] then .done else .partially, .permit left.length (demandedOf left)))) ∧
    (s.rope.standstill = false →
      exec (.restartPermit rq tag) s =
        .next (State.settleRequest rq .restartPermit tag (s.countChain Ctr.refusedPermit, .inMotion, .empty))) ∧
    exec (.causesClearNotices rq tag) s =
      .next (State.settleRequest rq .causesClearNotices tag
        ({ s with chain :=
            { s.chain with
              causes := s.chain.causes.filter fun r => !(decide (r.category = .none) && !r.present) } },
          .done, .removed (s.chain.causes.filter fun r => decide (r.category = .none) && !r.present).length))

/-- STOP of SERVICE, FAST or EMERGENCY from the console or the summit raises CONSOLE_STOP with that category requested and
answers DONE with A as it stands after the raise; NONE or a category outside the four is refused with BAD_VALUE (R180). -/
def Obligations.StopRequest : Prop :=
  ∀ (s : State) (rq : Requester) (tag : Byte) (c : Category), s.pinHeld = false →
    s.isConsole rq = true ∨ (rq.port = .line ∧ rq.src = 63) →
    (c ≠ .none →
      let t := s.raiseMomentary .consoleStop { requested := some c }
      exec (.stop rq tag (some c)) s =
        .next (State.settleRequest rq .stop tag (t, .done, .asserted t.chain.asserted)) ∧
      c.rank ≤ t.chain.asserted.rank) ∧
    exec (.stop rq tag (some .none)) s = .next (State.settleRequest rq .stop tag (s, .badValue, .empty)) ∧
    exec (.stop rq tag none) s = .next (State.settleRequest rq .stop tag (s, .badValue, .empty))

/-! ## Management requests (chapter 11) -/

/-- A request from neither the console (the station port, the console address) nor, for IDENTIFY, STATUS-READ, CAUSES-READ
and STOP, the summit (the line port, source 63), completes without any effect of its own: it is counted and answered
NOT_PERMITTED (R185).

A settled request is answered once, in class 3, to its source address: on the line port for 1 to 63, on the station port
for 64 to 79; for 0 and above 79 no answer is built and the request is counted as unanswerable. It is counted in the request
counter of its result (R186, R190).

An ADMIN_REQUEST whose payload is shorter than a code and a tag, 2 bytes (log 48), is malformed: it is counted and not
answered, whatever the operand reads. A longer one does what the command of the request it carries does (log 7); a
TABLE-WRITE of a table outside the ten is BAD_VALUE (R187). Parameters that do not fit the code are BAD_REQUEST to whoever
has the right to the code, NOT_PERMITTED to another, and so is a payload the operand reads no request from, whose code is
unknown (R185; log 48). -/
def Obligations.RightsAndAnswers : Prop :=
  (∀ (s : State) (c : Instr) (rq : Requester) (tag : Byte) (code : RequestCode), s.pinHeld = false →
      requestOf c = some (rq, tag, code) →
      ¬ (rq.port = .station ∧ rq.src = s.admin.part.console) →
      ¬ (rq.port = .line ∧ rq.src = 63 ∧
          (code = .identify ∨ code = .statusRead ∨ code = .causesRead ∨ code = .stop)) →
      exec c s =
        .next (State.settleRequest rq code tag (s.countAdmin Ctr.notPermitted, .notPermitted, .empty))) ∧
  (∀ (s : State) (rq : Requester) (code : RequestCode) (tag : Byte) (result : Result) (data : AnswerData),
      let n := rq.src.toNat
      let frame : Frame :=
        { b0 := (0 : BitVec 1) ++ rq.src, b1 := 0, b2 := 0x90, payload := .built (.answer code tag result data)
          origin := .own }
      (1 ≤ n → n ≤ 63 →
        State.settleRequest rq code tag (s, result, data) =
          (s.offer .line 3 frame).countAdmin (Ctr.request (resultIndex result))) ∧
      (64 ≤ n → n ≤ 79 →
        State.settleRequest rq code tag (s, result, data) =
          (s.offer .station 3 frame).countAdmin (Ctr.request (resultIndex result))) ∧
      (n = 0 ∨ 79 < n →
        State.settleRequest rq code tag (s, result, data) =
          (s.countAdmin Ctr.unanswerable).countAdmin (Ctr.request (resultIndex result)))) ∧
  (∀ (s : State) (rq : Requester) (payload : List Byte) (contents : Contents),
      (payload.length < 2 → s.takeAdmin rq payload contents = s.countAdmin Ctr.malformedRequest) ∧
      (2 ≤ payload.length → s.pinHeld = false →
        let misfit := fun (tag : Byte) (code : RequestCode) (t : State) =>
          let console := rq.port = .station ∧ rq.src = s.admin.part.console
          let summit := rq.port = .line ∧ rq.src = 63 ∧
            (code = .identify ∨ code = .statusRead ∨ code = .causesRead ∨ code = .stop)
          (console ∨ summit → t = State.settleRequest rq code tag (s, .badRequest, .empty)) ∧
          (¬ console → ¬ summit →
            t = State.settleRequest rq code tag (s.countAdmin Ctr.notPermitted, .notPermitted, .empty))
        (∀ tag request c, commandOf rq tag request = some c →
          exec c s = .next (s.takeAdmin rq payload (.admin tag (.fits request)))) ∧
        (∀ tag, rq.port = .station ∧ rq.src = s.admin.part.console →
          s.takeAdmin rq payload (.admin tag (.fits .otherWrite)) =
            State.settleRequest rq .tableWrite tag (s, .badValue, .empty)) ∧
        (∀ tag code, misfit tag code (s.takeAdmin rq payload (.admin tag (.misfit code)))) ∧
        ((∀ tag reading, contents ≠ .admin tag reading) →
          misfit (Config.requestTag payload) (.other (Config.requestCode payload)) (s.takeAdmin rq payload contents))))

/-- IDENTIFY and STATUS-READ from the console or the summit change nothing but the answer's way: the part is number 720 of
Estramid with its capacities, the status is the categories, port states, track modes, rope, link, channels and calls as they
stand (R189).

COUNTERS-READ from the console answers the number of a block's counters and up to twelve of them from the start index on, and
with the clear flag sets exactly those to 0; a start index not less than their number is END_OF_TABLE; a block outside the
twelve is BAD_VALUE (R190). The request itself is counted when it is settled, after its answer and after the clear, so that a
clearing read of the admin responder's own block leaves its own count (log 14); and the answer is offered after the clear, so
that what the offer counts stands (log 51). Both are the model's choices. -/
def Obligations.IdentityStatusAndCounters : Prop :=
  (∀ (s : State) (rq : Requester) (tag : Byte), s.pinHeld = false →
      s.isConsole rq = true ∨ (rq.port = .line ∧ rq.src = 63) →
      exec (.identify rq tag) s =
        .next (State.settleRequest rq .identify tag
          (s, .done, .identity ⟨"Estramid", 720, 1, 48, 4, 96, 12, 192, 8, 2, 4, 2, 39⟩)) ∧
      exec (.statusRead rq tag) s =
        .next (State.settleRequest rq .statusRead tag
          (s, .done, .status
            { asserted := s.chain.asserted, demanded := demandedOf s.chain.causes, station := s.station.mode
              line := s.line.mode, up := s.tracker.modes.up, down := s.tracker.modes.down, speed := s.rope.speed
              standstill := s.rope.standstill, odo := s.rope.odo, slip := s.rope.slip, link := s.link.state
              channels := s.doors.channels.toList.map fun c => c.state
              calls := s.tel.records.toList.map fun r => ⟨r.state, r.line, r.remote, r.priority⟩ }))) ∧
  (∀ (s : State) (rq : Requester) (tag : Byte) (b : Block) (start : Nat) (clear : Bool), s.pinHeld = false →
      s.isConsole rq = true →
      let l := s.counters b
      (l.length ≤ start →
        exec (.countersRead rq tag (some b) start clear) s =
          .next (State.settleRequest rq .countersRead tag (s, .endOfTable, .empty))) ∧
      exec (.countersRead rq tag none start clear) s =
        .next (State.settleRequest rq .countersRead tag (s, .badValue, .empty)) ∧
      (start < l.length →
        ∃ t : State, exec (.countersRead rq tag (some b) start clear) s =
            .next (State.settleRequest rq .countersRead tag
              (t, .done, .counters l.length ((l.drop start).take 12) (s.items b))) ∧
          (clear = false → t = s) ∧ s.changesOnly t [b] ∧ t.items b = s.items b ∧
          (clear = true → ∀ i, i < l.length →
            (t.counters b)[i]? = if start ≤ i ∧ i < start + 12 then some 0 else l[i]?)))

/-- CAUSES-READ from the console or the summit, at any rope speed: a position of 39 or more is refused with BAD_VALUE, one
not less than the number of records is answered END_OF_TABLE, otherwise the answer carries A, M, the number of records and up
to six records from the position on (R182). -/
def Obligations.CausesRead : Prop :=
  ∀ (s : State) (rq : Requester) (tag : Byte) (position : Nat), s.pinHeld = false →
    s.isConsole rq = true ∨ (rq.port = .line ∧ rq.src = 63) →
    let n := s.chain.causes.length
    (39 ≤ position →
      exec (.causesRead rq tag position) s =
        .next (State.settleRequest rq .causesRead tag (s, .badValue, .empty))) ∧
    (position < 39 → n ≤ position →
      exec (.causesRead rq tag position) s =
        .next (State.settleRequest rq .causesRead tag (s, .endOfTable, .empty))) ∧
    (position < 39 → position < n →
      exec (.causesRead rq tag position) s =
        .next (State.settleRequest rq .causesRead tag
          (s, .done, .causes s.chain.asserted (demandedOf s.chain.causes) n ((s.chain.causes.drop position).take 6))))

/-- The reads of tables and lists from the console change nothing. TABLE-READ answers the fields of the entry named: the part
table, a class table entry, a post's fitted field with its status (section 3.1), a seat's fields with its status (section 3.6),
the rope table, a station entry with the filtered state of a fitted detector, a channel's entry with its state and mode, a
group's power-good time with its switch, a cause's entry with its fixed minimum (section 10.3), the telephony table and the
cabin settings. A table outside the ten, or an entry outside its table, is BAD_VALUE (R187).

LIST-READ answers the length and up to four records from a position on, those of the two train lists with their corrected
positions (section 4.3), END_OF_TABLE with the length at the end, BAD_VALUE at the capacity of 12 or 96 and for a list outside
the three (R82). CABIN-FIND answers an ID's entry or NOT_FOUND; CABIN-NEXT the entry with the least greater ID, or END_OF_TABLE
(R81); an ID above 4095 is BAD_VALUE for CABIN-NEXT, which is the model's choice (log 23). -/
def Obligations.TableAndListReads : Prop :=
  ∀ (s : State) (rq : Requester) (tag : Byte), s.pinHeld = false → s.isConsole rq = true →
    let reads := fun (code : RequestCode) (result : Result) (data : AnswerData) =>
      Host.Outcome.next (State.settleRequest rq code tag (s, result, data))
    let table := fun (t : TableRef) (d : TableData) => exec (.tableRead rq tag t) s = reads .tableRead .done (.table d)
    let refused := fun t : TableRef => exec (.tableRead rq tag t) s = reads .tableRead .badValue .empty
    table .part (.part s.admin.part) ∧ table .rope (.rope s.rope.table) ∧ table .telephony (.telephony s.tel.table) ∧
    table .cabin (.cabin s.tracker.settings) ∧ refused .other ∧
    (∀ (p : Port) (k : Kind), table (.cls (some p) (kindCode k).val) (.cls s.switch.classes[classIndex p k])) ∧
    (∀ p n, p = none ∨ 13 ≤ n → refused (.cls p n)) ∧
    (∀ p : Post,
      table (.post (p.val + 1))
        (.post (s.post p).fitted (s.post p).absent (s.post p).missed (s.post p).attention)) ∧
    (∀ n, n = 0 ∨ 48 < n → refused (.post n)) ∧
    (∀ r : SeatRef, table (.seat (r.post.val + 1) r.seat.val) (.seat (s.seat r))) ∧
    (∀ n m, n = 0 ∨ 48 < n ∨ 4 ≤ m → refused (.seat n m)) ∧
    (∀ d : Detector,
      let u := s.rail.detectors[detectorIndex d]
      table (.station (some d)) (.station u.entry (if u.entry.fitted then some u.present else none))) ∧
    refused (.station none) ∧
    (∀ k : Fin 8, table (.channel k.val) (.channel (s.channel k).entry (s.channel k).state (s.channel k).mode)) ∧
    (∀ n, 8 ≤ n → refused (.channel n)) ∧
    (∀ g : Fin 2, table (.group g.val) (.group s.doors.groupTimes[g] s.doors.groupOn[g])) ∧
    (∀ n, 2 ≤ n → refused (.group n)) ∧
    (∀ c : Cause, table (.cause (causeCode c).val) (.cause s.chain.table[causeCode c] (causeMinimum c))) ∧
    (∀ n, 39 ≤ n → refused (.cause n)) ∧
    (∀ pos, exec (.listRead rq tag none pos) s = reads .listRead .badValue .empty) ∧
    (∀ pos, 12 ≤ pos → exec (.listRead rq tag (some .station) pos) s = reads .listRead .badValue .empty) ∧
    (∀ pos, pos < 12 → s.rail.cabins.length ≤ pos →
      exec (.listRead rq tag (some .station) pos) s = reads .listRead .endOfTable (.length s.rail.cabins.length)) ∧
    (∀ pos, pos < 12 → pos < s.rail.cabins.length →
      exec (.listRead rq tag (some .station) pos) s =
        reads .listRead .done (.stations s.rail.cabins.length ((s.rail.cabins.drop pos).take 4))) ∧
    (∀ (track : Track) (pos : Nat),
      let name := match track with
        | .up => ListName.up
        | .down => .down
      let launch := match track with
        | .up => s.rope.table.launchUp
        | .down => s.rope.table.launchDown
      let l := s.tracker.lists.get track
      let read := exec (.listRead rq tag (some name) pos) s
      (96 ≤ pos → read = reads .listRead .badValue .empty) ∧
      (pos < 96 → l.length ≤ pos → read = reads .listRead .endOfTable (.length l.length)) ∧
      (pos < 96 → pos < l.length →
        read =
          reads .listRead .done (.trains l.length
            (((l.drop pos).take 4).map fun r =>
              ⟨r, (launch : Int) + ((s.rope.odo - r.departure).toInt).tdiv 256 - s.rope.slip⟩)))) ∧
    (∀ id, id = 0 ∨ 4095 < id → exec (.cabinFind rq tag id) s = reads .cabinFind .badValue .empty) ∧
    (∀ id, 1 ≤ id → id ≤ 4095 → (∀ e ∈ s.tracker.cabins, e.id ≠ id) →
      exec (.cabinFind rq tag id) s = reads .cabinFind .notFound .empty) ∧
    (∀ e, s.tracker.entry e.id = some e → 1 ≤ e.id → e.id ≤ 4095 →
      exec (.cabinFind rq tag e.id) s = reads .cabinFind .done (.cabin e)) ∧
    (∀ id, 4095 < id → exec (.cabinNext rq tag id) s = reads .cabinNext .badValue .empty) ∧
    (∀ id, id ≤ 4095 → (∀ e ∈ s.tracker.cabins, e.id ≤ id) →
      exec (.cabinNext rq tag id) s = reads .cabinNext .endOfTable .empty) ∧
    (∀ (id : Nat) (low high : List CabinEntry) (e : CabinEntry), id ≤ 4095 → s.tracker.cabins = low ++ e :: high →
      (∀ x ∈ low, x.id ≤ id) → id < e.id → exec (.cabinNext rq tag id) s = reads .cabinNext .done (.cabin e))

/-- The writes of tables that are taken at any rope speed replace their entry and are answered DONE: the part table, after
the picks already due (log 4), a class table entry, the telephony table, the cabin settings, a group's power-good time, and
a cause table entry whose category is not lowered, which raises the code's record to it and lets A follow (R26, R75, R115,
R150, R172, R188). A field outside its range, a rejoin delay that is no multiple of 100 ms among them, and an entry outside
its table are refused with BAD_VALUE, nothing changed (R187). -/
def Obligations.WritesTakenAtAnySpeed : Prop :=
  ∀ (s : State) (rq : Requester) (tag : Byte), s.pinHeld = false → s.isConsole rq = true →
    let writes := fun (t : State) (data : AnswerData) =>
      Host.Outcome.next (State.settleRequest rq .tableWrite tag (t, .done, data))
    let refused := fun write : Instr =>
      exec write s = .next (State.settleRequest rq .tableWrite tag (s, .badValue, .empty))
    (∀ (a : Addr) (m : Mask) (sch : Scheduler) (roll sample js jl : Nat) (notices : Bool), 64 ≤ a.toNat → a.toNat ≤ 79 →
      100 ≤ roll → roll ≤ 1000 → 200 ≤ sample → sample ≤ 2000 → 1 ≤ js → js ≤ 255 → 1 ≤ jl → jl ≤ 255 →
      exec (.partTableWrite rq tag ⟨a.toNat, some m, some sch, roll, sample, js * 100, jl * 100, notices⟩) s =
        writes (((s.settle .station).settle .line).modAdmin fun u =>
          { u with part := ⟨a, m, sch, roll, sample, js * 100, jl * 100, notices⟩ }) .empty) ∧
    (∀ (p : Port) (k : Kind) (a : ClassAction) (c : Fin 4),
      exec (.classTableWrite rq tag (some p) (kindCode k).val (some a) c.val) s =
        writes { s with switch := { s.switch with classes := upd s.switch.classes (classIndex p k) fun _ => ⟨a, c⟩ } }
          .empty) ∧
    (∀ f : TelephonyFields, f.hotline ≤ 3 → f.help ≤ 3 → f.operations ≤ 3 →
      exec (.telephonyTableWrite rq tag f) s = writes { s with tel := { s.tel with table := f } } .empty) ∧
    (∀ (learning : Bool) (age : Nat) (c : CabinClass) (d : DoorMode), age ≤ 1440 →
      exec (.cabinSettingsWrite rq tag ⟨learning, age, some c, some d⟩) s =
        writes { s with tracker := { s.tracker with settings := ⟨learning, age, ⟨c, d⟩⟩ } } .empty) ∧
    (∀ (g : Fin 2) (time : Nat), time ≤ 255 →
      exec (.channelTableWrite rq tag (.group g.val time)) s =
        writes { s with doors := { s.doors with groupTimes := s.doors.groupTimes.set g time } } .empty) ∧
    (∀ (c : Cause) (cat : Category) (call notice : Bool), (causeMinimum c).rank ≤ cat.rank →
      ((s.chain.table[causeCode c]).category).rank ≤ cat.rank →
      exec (.causeTableWrite rq tag (causeCode c).val ⟨some cat, call, notice⟩) s =
        writes (State.judgeRise { s with chain :=
          { s.chain with
            table := upd s.chain.table (causeCode c) fun _ => ⟨cat, call, notice⟩
            causes := s.chain.causes.map fun r =>
              if r.code = c then { r with category := if r.category.rank < cat.rank then cat else r.category }
              else r } }) (.causeTaken false cat)) ∧
    (∀ f : PartFields,
      f.mask = none ∨ f.scheduler = none ∨ f.console < 64 ∨ 79 < f.console ∨ f.rollPeriod < 100 ∨ 1000 < f.rollPeriod ∨
        f.samplePeriod < 200 ∨ 2000 < f.samplePeriod ∨ f.rejoinStation < 100 ∨ 25500 < f.rejoinStation ∨
        f.rejoinStation % 100 ≠ 0 ∨ f.rejoinLine < 100 ∨ 25500 < f.rejoinLine ∨ f.rejoinLine % 100 ≠ 0 →
      refused (.partTableWrite rq tag f)) ∧
    (∀ (p : Option Port) (k : Nat) (a : Option ClassAction) (c : Nat), p = none ∨ 12 < k ∨ a = none ∨ 3 < c →
      refused (.classTableWrite rq tag p k a c)) ∧
    (∀ f : TelephonyFields, 3 < f.hotline ∨ 3 < f.help ∨ 3 < f.operations → refused (.telephonyTableWrite rq tag f)) ∧
    (∀ f : CabinSettingsFields, 1440 < f.ageTime ∨ f.cls = none ∨ f.door = none →
      refused (.cabinSettingsWrite rq tag f)) ∧
    (∀ g time : Nat, 1 < g ∨ 255 < time → refused (.channelTableWrite rq tag (.group g time))) ∧
    (∀ (code : Nat) (f : CauseFields), 38 < code ∨ f.category = none → refused (.causeTableWrite rq tag code f))

/-- A write that changes a stop-relevant field is refused with IN_MOTION while the rope is not at standstill, changing
nothing; at standstill, or where it changes no such field, it replaces the entry and is answered DONE: a post's fitted field,
a seat table entry, whose beyond-stop count is then 0 and whose shares are gone (section 3.6), a rope table, a station table
entry, whose filter is set afresh by a change of fitted or polarity alone, a channel's role (R36, R49, R58, R98, R115, R187).
Before the motion is judged (the order of the tests: log 33), an entry outside its table, a field outside its range, a warn
limit above the stop limit, a track length not greater than a fitted seat's position and two seats of one sequence at one
position are BAD_VALUE (R49, R58, R86).

After a post or seat write the two sequences are those of the tables, in rising position, and on a track whose sequence has
changed (log 40) each record expects the first seat not short of its position (R86). A post taken out of service has its
counts at 0 and its shares and those of its seats gone, and is in neither queue (R36).

A change of a channel's switching, at standstill or with the role kept, is refused with IN_USE while the channel has power or
the group it names is on; else it is taken and the group-off flag cleared (R115). A cause table write is clamped up to the
fixed minimum, which is counted and answered (the count stands also when the write is then refused: log 31). One whose
category is then below the entry's is IN_MOTION off standstill; else the three fields are replaced, a record of the code rises
to the category, and the rise is judged (R172). -/
def Obligations.StopRelevantWrites : Prop :=
  (∀ (s : State) (rq : Requester) (tag : Byte), s.pinHeld = false → s.isConsole rq = true →
    let answers := fun (t : State) (result : Result) =>
      Host.Outcome.next (State.settleRequest rq .tableWrite tag (t, result, .empty))
    let still := s.rope.standstill
    let renewed := fun t : State => ∀ track : Track,
      let l := buildSequence t.poller track
      t.tracker.seqs.get track = l ∧
      t.tracker.lists.get track =
        if l = s.tracker.seqs.get track then s.tracker.lists.get track
        else (s.tracker.lists.get track).map fun r =>
          { r with next :=
            (l.takeWhile fun x => decide (((t.seat x).position : Int) < s.rope.position track r)).length }
    let clash := fun (fitted : Post → Bool) (entry : SeatRef → SeatEntry) =>
      let listed := fun x : SeatRef => fitted x.post = true ∧ (entry x).fitted = true ∧ (entry x).window ≠ 0
      ∃ x : SeatRef, listed x ∧ ∃ y : SeatRef, listed y ∧ x ≠ y ∧ (entry x).track = (entry y).track ∧
        (entry x).position = (entry y).position
    let refused := fun write : Instr => exec write s = answers s .badValue
    (∀ (p : Post) (b : Bool),
      let clashes := b = true ∧ clash (fun q => decide (q = p) || (s.post q).fitted) s.seat
      let write : Instr := .postTableWrite rq tag (p.val + 1) b
      (clashes → refused write) ∧
      (¬ clashes →
        ((s.post p).fitted = b → exec write s = answers s .done) ∧
        ((s.post p).fitted ≠ b → still = false → exec write s = answers s .inMotion) ∧
        ((s.post p).fitted ≠ b → still = true →
          ∃ t : State, exec write s = answers t .done ∧ (t.post p).fitted = b ∧
            (∀ q, q ≠ p → (t.post q).fitted = (s.post q).fitted) ∧ renewed t ∧
            s.changesOnly t [.postPoller, .cabinTracker, .linePort, .stopChain] ∧
            (∀ x : SeatRef, t.seat x =
              if x.post = p ∧ b = false then { s.seat x with beyond := 0, limitShare := false, switchShare := false }
              else s.seat x) ∧
            (b = false → t.post p = ⟨false, 0, 0, false, false, false⟩ ∧ p ∉ t.poller.attention ∧ p ∉ t.poller.sweep ∧
              ((s.post p).absentShare = true → (∀ q, q ≠ p → (s.post q).absentShare = false) →
                ∀ r ∈ t.chain.causes, r.code = .postAbsent → r.present = false) ∧
              ((s.post p).silentShare = true → (∀ q, q ≠ p → (s.post q).silentShare = false) →
                ∀ r ∈ t.chain.causes, r.code = .postSilent → r.present = false))))) ∧
    (∀ (n : Nat) (b : Bool), n = 0 ∨ 48 < n → refused (.postTableWrite rq tag n b)) ∧
    (∀ (r : SeatRef) (f : SeatFields) (track : Track) (m : Compare), f.track = some track → f.compare = some m →
      f.position ≤ 8000000 → f.window ≤ 65535 → f.warn ≤ f.stop → f.stop ≤ 32767 → 1 ≤ f.confirm → f.confirm ≤ 4 →
      let clashes := trackLength s.rope.table track ≤ f.position ∨
        clash (fun q => (s.post q).fitted) fun x => if x = r then (s.seat r).written f track m else s.seat x
      let write : Instr := .seatTableWrite rq tag (r.post.val + 1) r.seat.val f
      (clashes → refused write) ∧
      (¬ clashes →
        ((s.seat r).written f track m ≠ s.seat r → still = false → exec write s = answers s .inMotion) ∧
        (still = true ∨ (s.seat r).written f track m = s.seat r →
          ∃ t : State, exec write s = answers t .done ∧ renewed t ∧
            s.changesOnly t [.postPoller, .cabinTracker, .stopChain] ∧ (∀ x, x ≠ r → t.seat x = s.seat x) ∧
            t.seat r = ⟨f.fitted, track, f.position, f.window, m, f.warn, f.stop, f.confirm, f.supervised, 0, false,
              false⟩))) ∧
    (∀ (post seat : Nat) (f : SeatFields),
      post = 0 ∨ 48 < post ∨ 3 < seat ∨ f.track = none ∨ f.compare = none ∨ 8000000 < f.position ∨ 65535 < f.window ∨
        32767 < f.warn ∨ 32767 < f.stop ∨ f.stop < f.warn ∨ f.confirm = 0 ∨ 4 < f.confirm →
      refused (.seatTableWrite rq tag post seat f)) ∧
    (∀ f : RopeFields,
      let inRange := 1 ≤ f.pitch ∧ f.pitch ≤ 65535 ∧ 100 ≤ f.overspeed ∧ f.overspeed ≤ 20000 ∧ 500 ≤ f.tachSilent ∧
        f.tachSilent ≤ 10000 ∧ f.launchUp ≤ 65535 ∧ f.launchDown ≤ 65535 ∧ 1000 ≤ f.lengthUp ∧ f.lengthUp ≤ 8000000 ∧
        1000 ≤ f.lengthDown ∧ f.lengthDown ≤ 8000000 ∧ f.arrivalWindow ≤ 65535 ∧ 1 ≤ f.slipLimit ∧ f.slipLimit ≤ 65535 ∧
        1 ≤ f.stopTime ∧ f.stopTime ≤ 120
      let beyond := ∃ e ∈ s.poller.seats.toList, e.fitted = true ∧ trackLength f e.track ≤ e.position
      (¬ inRange ∨ beyond → refused (.ropeTableWrite rq tag f)) ∧
      (inRange → ¬ beyond →
        (s.rope.table ≠ f → still = false → exec (.ropeTableWrite rq tag f) s = answers s .inMotion) ∧
        (still = true ∨ s.rope.table = f →
          exec (.ropeTableWrite rq tag f) s =
            answers (State.judgeSlip { s with rope := { s.rope with table := f } }) .done))) ∧
    (∀ (d : Option Detector) (f : StationFields), d = none ∨ f.polarity = none ∨ 255 < f.debounce →
      refused (.stationTableWrite rq tag d f)) ∧
    (∀ (n : Nat) (role : Option Role) (sw : Option Switching) (good drive reverse attempts : Nat),
      7 < n ∨ role = none ∨ sw = none ∨ 255 < good ∨ drive = 0 ∨ 255 < drive ∨ reverse = 0 ∨ 50 < reverse ∨
        attempts = 0 ∨ 7 < attempts →
      refused (.channelTableWrite rq tag (.channel n role sw good drive reverse attempts))) ∧
    (∀ (d : Detector) (e : StationEntry), e.debounce ≤ 255 →
      let i := detectorIndex d
      let write : Instr := .stationTableWrite rq tag (some d) ⟨e.fitted, some e.polarity, e.debounce⟩
      ((s.rail.detectors[i]).entry ≠ e → still = false → exec write s = answers s .inMotion) ∧
      (still = true ∨ (s.rail.detectors[i]).entry = e → (s.rail.detectors[i]).entry.fitted = e.fitted →
        (s.rail.detectors[i]).entry.polarity = e.polarity →
        exec write s =
          answers { s with rail := { s.rail with detectors := upd s.rail.detectors i fun u => { u with entry := e } } }
            .done) ∧
      (still = true → (s.rail.detectors[i]).entry.fitted ≠ e.fitted ∨ (s.rail.detectors[i]).entry.polarity ≠ e.polarity →
        exec write s =
          answers { s with rail :=
            { s.rail with detectors := upd s.rail.detectors i fun u =>
              { u with
                entry := e, timer := none
                present := e.fitted && (match e.polarity with
                  | .presentHigh => u.level
                  | .presentLow => !u.level) } } } .done)) ∧
    (∀ (k : Fin 8) (e : ChannelEntry), e.powerGood ≤ 255 → 1 ≤ e.driveTime → e.driveTime ≤ 255 → 1 ≤ e.reverseTime →
      e.reverseTime ≤ 50 → 1 ≤ e.attempts → e.attempts ≤ 7 →
      let write : Instr := .channelTableWrite rq tag
        (.channel k.val (some e.role) (some e.switching) e.powerGood e.driveTime e.reverseTime e.attempts)
      ((s.channel k).entry.role ≠ e.role → still = false → exec write s = answers s .inMotion) ∧
      (still = true ∨ (s.channel k).entry.role = e.role → (s.channel k).entry.switching = e.switching →
        exec write s = answers (s.modChannel k fun c => { c with entry := e }) .done) ∧
      (still = true ∨ (s.channel k).entry.role = e.role → (s.channel k).entry.switching ≠ e.switching →
        ((s.channel k).state.powered = true ∨ (∃ g : Fin 2, e.switching = .group g ∧ s.doors.groupOn[g] = true) →
          exec write s = answers s .inUse) ∧
        ((s.channel k).state.powered = false → (∀ g : Fin 2, e.switching = .group g → s.doors.groupOn[g] = false) →
          exec write s = answers (s.modChannel k fun c => { c with entry := e, groupOff := false }) .done))) ∧
    (∀ (c : Cause) (cat : Category) (call notice : Bool),
      let write : Instr := .causeTableWrite rq tag (causeCode c).val ⟨some cat, call, notice⟩
      let clamped := decide (cat.rank < (causeMinimum c).rank)
      let taken := if clamped then causeMinimum c else cat
      let present := (s.chain.table[causeCode c]).category
      let v := if clamped then s.countChain Ctr.clamp else s
      (taken.rank < present.rank → still = false → exec write s = answers v .inMotion) ∧
      (still = true ∨ present.rank ≤ taken.rank →
        exec write s =
          .next (State.settleRequest rq .tableWrite tag
            (State.judgeRise { v with chain :=
              { v.chain with
                table := upd s.chain.table (causeCode c) fun _ => ⟨taken, call, notice⟩
                causes := s.chain.causes.map fun r =>
                  if r.code = c ∧ r.category.rank < taken.rank then { r with category := taken } else r } },
              .done, .causeTaken clamped taken))))) ∧
  (∀ (s : State) (track : Track),
    let l := buildSequence s.poller track
    (l.Pairwise fun x y => (s.seat x).position ≤ (s.seat y).position) ∧ l.Nodup ∧
    ∀ x : SeatRef, x ∈ l ↔
      (s.post x.post).fitted = true ∧ (s.seat x).fitted = true ∧ (s.seat x).track = track ∧ (s.seat x).window ≠ 0)

/-- CABIN-LOAD from the console: an ID outside 1 to 4095 and a class or door mode outside its values are BAD_VALUE; an ID with an entry makes it STATIC with the profile
given, its location and trips kept; an ID without one makes a STATIC entry at location NONE with no trips, the table staying
in rising order, or is TABLE_FULL at 192 entries (R78). -/
def Obligations.CabinLoad : Prop :=
  ∀ (s : State) (rq : Requester) (tag : Byte) (id : Nat) (c : CabinClass) (d : DoorMode), s.pinHeld = false →
    s.isConsole rq = true →
    let load : Instr := .cabinLoad rq tag id (some c) (some d)
    let answers := fun (t : State) (result : Result) =>
      Host.Outcome.next (State.settleRequest rq .cabinLoad tag (t, result, .empty))
    (id = 0 ∨ 4095 < id → exec load s = answers s .badValue) ∧
    (∀ (x : Option CabinClass) (y : Option DoorMode), x = none ∨ y = none →
      exec (.cabinLoad rq tag id x y) s = answers s .badValue) ∧
    (1 ≤ id → id ≤ 4095 →
      ((∃ e ∈ s.tracker.cabins, e.id = id) →
        exec load s =
          answers { s with tracker :=
            { s.tracker with cabins := s.tracker.cabins.map fun e =>
              if e.id = id then { e with kind := .static, profile := ⟨c, d⟩, idle := none } else e } } .done) ∧
      ((∀ e ∈ s.tracker.cabins, e.id ≠ id) → 192 ≤ s.tracker.cabins.length → exec load s = answers s .tableFull) ∧
      (∀ low high : List CabinEntry, s.tracker.cabins = low ++ high → (∀ e ∈ low, e.id < id) → (∀ e ∈ high, id < e.id) →
        s.tracker.cabins.length < 192 →
        exec load s =
          answers { s with tracker :=
            { s.tracker with cabins := low ++ ⟨id, .static, ⟨c, d⟩, .nowhere, 0, none⟩ :: high } } .done))

/-- CABIN-PURGE from the console removes an entry of either kind whose location is NONE and keeps one at any other location,
which is IN_USE; an ID without an entry is NOT_FOUND, one outside 1 to 4095 BAD_VALUE (R79). -/
def Obligations.CabinPurge : Prop :=
  ∀ (s : State) (rq : Requester) (tag : Byte) (id : Nat), s.pinHeld = false → s.isConsole rq = true →
    let answers := fun (t : State) (result : Result) =>
      Host.Outcome.next (State.settleRequest rq .cabinPurge tag (t, result, .empty))
    (id = 0 ∨ 4095 < id → exec (.cabinPurge rq tag id) s = answers s .badValue) ∧
    (1 ≤ id → id ≤ 4095 →
      ((∀ e ∈ s.tracker.cabins, e.id ≠ id) → exec (.cabinPurge rq tag id) s = answers s .notFound) ∧
      (∀ e, s.tracker.entry id = some e → e.location ≠ .nowhere →
        exec (.cabinPurge rq tag id) s = answers s .inUse) ∧
      (∀ e, s.tracker.entry id = some e → e.location = .nowhere →
        ∃ t : State, exec (.cabinPurge rq tag id) s = answers t .done ∧ t.tracker.entry id = none ∧
          t = { s with tracker :=
            { s.tracker with cabins := s.tracker.cabins.filter fun e => decide (e.id ≠ id) } }))

/-- CABIN-FLUSH-LEARNED from the console removes every LEARNED entry whose location is NONE, keeps every other entry, and
answers DONE with the number removed (R80). -/
def Obligations.CabinFlushLearned : Prop :=
  ∀ (s : State) (rq : Requester) (tag : Byte), s.pinHeld = false → s.isConsole rq = true →
    let goes := fun e : CabinEntry => decide (e.kind = .learned ∧ e.location = .nowhere)
    exec (.cabinFlushLearned rq tag) s =
      .next (State.settleRequest rq .cabinFlushLearned tag
        ({ s with tracker := { s.tracker with cabins := s.tracker.cabins.filter fun e => !goes e } }, .done,
          .removed (s.tracker.cabins.filter goes).length))

/-- TRACK-ON from the console makes its track TRACKED at any rope speed, TRACK-OFF makes it UNTRACKED at standstill and is
IN_MOTION otherwise; each change is noticed; the mode the track already has changes nothing. When neither track stays
TRACKED the slip estimate is set to 0 and ROPE_SLIP judged (R72, R84, R191). A track other than UP and DOWN is BAD_VALUE. The
order is the model's: TRACK-OFF judges the track first, then the motion, then the mode, so that one of an UNTRACKED track is
IN_MOTION while the rope moves (log 34). -/
def Obligations.TrackOnAndOff : Prop :=
  ∀ (s : State) (rq : Requester) (tag : Byte) (t : Track), s.pinHeld = false → s.isConsole rq = true →
    let answers := fun (code : RequestCode) (u : State) (result : Result) =>
      Host.Outcome.next (State.settleRequest rq code tag (u, result, .empty))
    let changed := fun (m : TrackMode) =>
      State.notice { s with tracker := { s.tracker with modes := s.tracker.modes.set t m } } (.trackMode t m)
    (s.tracker.modes.get t = .untracked →
      exec (.trackOn rq tag (some t)) s = answers .trackOn (changed .tracked) .done) ∧
    (s.tracker.modes.get t = .tracked → exec (.trackOn rq tag (some t)) s = answers .trackOn s .done) ∧
    (s.rope.standstill = false → exec (.trackOff rq tag (some t)) s = answers .trackOff s .inMotion) ∧
    (s.rope.standstill = true →
      (s.tracker.modes.get t = .untracked → exec (.trackOff rq tag (some t)) s = answers .trackOff s .done) ∧
      (s.tracker.modes = ⟨.tracked, .tracked⟩ →
        exec (.trackOff rq tag (some t)) s = answers .trackOff (changed .untracked) .done) ∧
      (s.tracker.modes = (PerTrack.mk .untracked .untracked).set t .tracked →
        exec (.trackOff rq tag (some t)) s =
          answers .trackOff ((changed .untracked).modRope fun u => { u with slip := 0 }).judgeSlip .done)) ∧
    exec (.trackOn rq tag none) s = answers .trackOn s .badValue ∧
    exec (.trackOff rq tag none) s = answers .trackOff s .badValue

/-- POST-CLEAR from the console builds and counts a POST_CLEAR addressed to a post 1 to 48, fitted or not, offers it to the
line port in class 2, and answers DONE with whether it was appended; another number is BAD_VALUE (R48). -/
def Obligations.PostClear : Prop :=
  ∀ (s : State) (rq : Requester) (tag : Byte), s.pinHeld = false → s.isConsole rq = true →
    (∀ p : Post,
      let r := (s.countPoller Ctr.postClearBuilt).offerSaying .line 2
        { b0 := BitVec.ofNat 8 (p.val + 1), b1 := 0, b2 := 0xB0, payload := .raw [], origin := .own }
      exec (.postClear rq tag (p.val + 1)) s =
        .next (State.settleRequest rq .postClear tag (r.1, .done, .appended r.2))) ∧
    ∀ n, n = 0 ∨ 48 < n →
      exec (.postClear rq tag n) s = .next (State.settleRequest rq .postClear tag (s, .badValue, .empty))

/-! ## Invariants and headline rules -/

/-- From every state, the asserted category falls in one step only by a RESTART-PERMIT from the console, with the rope at
standstill: the request itself from the station port and the console's address as it stands (log 7), or a good ADMIN_REQUEST
frame received on the station port that carries it from that address to the 720; a reset leaves the asserted category at
EMERGENCY (R176, R178, R183, R185). -/
def Obligations.AssertedFallsOnlyByAPermit : Prop :=
  ∀ s t : State, step s = .next t → t.chain.asserted.rank < s.chain.asserted.rank →
    s.rope.standstill = true ∧ ∃ c rest, s.pending = c :: rest ∧ s.consolePermit c = true

/-- Every invariant holds after a reset. -/
def Obligations.ResetIsSound : Prop :=
  State.reset.station.Sound ∧ State.reset.line.Sound ∧ State.reset.ChainSound ∧ State.reset.RopeSound ∧
    State.reset.ListsSound ∧ State.reset.tel.Sound ∧ State.reset.DoorsSound

/-- Every step keeps both ports sound: no queue above its capacity, the error count in the band of the port state, no frame
waiting in a class the port state does not take, the rejoin timer running exactly in DETACHED. -/
def Obligations.EveryStepKeepsThePortsSound : Prop :=
  ∀ s t : State, s.station.Sound → s.line.Sound → step s = .next t → t.station.Sound ∧ t.line.Sound

/-- Every step keeps the stop chain sound: one record for each code, no category below its fixed minimum or above A,
occurrences from 1 to 255, no stop timer at standstill. -/
def Obligations.EveryStepKeepsTheStopChainSound : Prop :=
  ∀ s t : State, s.ChainSound → step s = .next t → t.ChainSound

/-- Every step keeps the rope travel unit sound: its counts in their ranges, STANDSTILL exactly after two zero gates and at
speed 0, no slip estimate while neither track is TRACKED. -/
def Obligations.EveryStepKeepsTheRopeSound : Prop :=
  ∀ s t : State, s.RopeSound → step s = .next t → t.RopeSound

/-- Every step keeps the lists sound: no list above its capacity, no cabin recorded twice, the cabin table in rising order of
IDs from 1 to 4095. -/
def Obligations.EveryStepKeepsTheListsSound : Prop :=
  ∀ s t : State, s.ListsSound → step s = .next t → t.ListsSound

/-- Every step keeps the telephony sound: the hold stack is the HELD records, at most two, none EMERGENCY; no voice channel
is held twice; no jitter queue above its capacity. -/
def Obligations.EveryStepKeepsTheTelephonySound : Prop :=
  ∀ s t : State, s.tel.Sound → step s = .next t → t.tel.Sound

/-- Every step keeps the doors sound: an action exactly in the driving states, power only from a supply that is on, a local
drive only in LOCAL and READY, and at EMERGENCY no drive output. -/
def Obligations.EveryStepKeepsTheDoorsSound : Prop :=
  ∀ s t : State, s.DoorsSound → step s = .next t → t.DoorsSound
end

