-- ==== Sys2Proof/Laws/State.lean ====
section
/-! SUPPORT. One lemma for each field and each update of the state: a later proof never unfolds a record update. -/

namespace Sys2Proof.Machine

/-! ## `modSwitch` and `countSwitch` -/

@[simp] theorem State.modSwitch_station (s : State) (f : SwitchUnit → SwitchUnit) : (s.modSwitch f).station = s.station := rfl
@[simp] theorem State.modSwitch_line (s : State) (f : SwitchUnit → SwitchUnit) : (s.modSwitch f).line = s.line := rfl
@[simp] theorem State.modSwitch_switch (s : State) (f : SwitchUnit → SwitchUnit) : (s.modSwitch f).switch = f s.switch := rfl
@[simp] theorem State.modSwitch_poller (s : State) (f : SwitchUnit → SwitchUnit) : (s.modSwitch f).poller = s.poller := rfl
@[simp] theorem State.modSwitch_rope (s : State) (f : SwitchUnit → SwitchUnit) : (s.modSwitch f).rope = s.rope := rfl
@[simp] theorem State.modSwitch_tracker (s : State) (f : SwitchUnit → SwitchUnit) : (s.modSwitch f).tracker = s.tracker := rfl
@[simp] theorem State.modSwitch_rail (s : State) (f : SwitchUnit → SwitchUnit) : (s.modSwitch f).rail = s.rail := rfl
@[simp] theorem State.modSwitch_doors (s : State) (f : SwitchUnit → SwitchUnit) : (s.modSwitch f).doors = s.doors := rfl
@[simp] theorem State.modSwitch_link (s : State) (f : SwitchUnit → SwitchUnit) : (s.modSwitch f).link = s.link := rfl
@[simp] theorem State.modSwitch_tel (s : State) (f : SwitchUnit → SwitchUnit) : (s.modSwitch f).tel = s.tel := rfl
@[simp] theorem State.modSwitch_chain (s : State) (f : SwitchUnit → SwitchUnit) : (s.modSwitch f).chain = s.chain := rfl
@[simp] theorem State.modSwitch_admin (s : State) (f : SwitchUnit → SwitchUnit) : (s.modSwitch f).admin = s.admin := rfl
@[simp] theorem State.modSwitch_pinHeld (s : State) (f : SwitchUnit → SwitchUnit) : (s.modSwitch f).pinHeld = s.pinHeld := rfl
@[simp] theorem State.modSwitch_pending (s : State) (f : SwitchUnit → SwitchUnit) : (s.modSwitch f).pending = s.pending := rfl
@[simp] theorem State.countSwitch_station (s : State) (i : Fin 28) : (s.countSwitch i).station = s.station := rfl
@[simp] theorem State.countSwitch_line (s : State) (i : Fin 28) : (s.countSwitch i).line = s.line := rfl
@[simp] theorem State.countSwitch_switch (s : State) (i : Fin 28) : (s.countSwitch i).switch = { s.switch with counters := bump s.switch.counters i } := rfl
@[simp] theorem State.countSwitch_poller (s : State) (i : Fin 28) : (s.countSwitch i).poller = s.poller := rfl
@[simp] theorem State.countSwitch_rope (s : State) (i : Fin 28) : (s.countSwitch i).rope = s.rope := rfl
@[simp] theorem State.countSwitch_tracker (s : State) (i : Fin 28) : (s.countSwitch i).tracker = s.tracker := rfl
@[simp] theorem State.countSwitch_rail (s : State) (i : Fin 28) : (s.countSwitch i).rail = s.rail := rfl
@[simp] theorem State.countSwitch_doors (s : State) (i : Fin 28) : (s.countSwitch i).doors = s.doors := rfl
@[simp] theorem State.countSwitch_link (s : State) (i : Fin 28) : (s.countSwitch i).link = s.link := rfl
@[simp] theorem State.countSwitch_tel (s : State) (i : Fin 28) : (s.countSwitch i).tel = s.tel := rfl
@[simp] theorem State.countSwitch_chain (s : State) (i : Fin 28) : (s.countSwitch i).chain = s.chain := rfl
@[simp] theorem State.countSwitch_admin (s : State) (i : Fin 28) : (s.countSwitch i).admin = s.admin := rfl
@[simp] theorem State.countSwitch_pinHeld (s : State) (i : Fin 28) : (s.countSwitch i).pinHeld = s.pinHeld := rfl
@[simp] theorem State.countSwitch_pending (s : State) (i : Fin 28) : (s.countSwitch i).pending = s.pending := rfl

/-! ## `modPoller` and `countPoller` -/

@[simp] theorem State.modPoller_station (s : State) (f : Poller → Poller) : (s.modPoller f).station = s.station := rfl
@[simp] theorem State.modPoller_line (s : State) (f : Poller → Poller) : (s.modPoller f).line = s.line := rfl
@[simp] theorem State.modPoller_switch (s : State) (f : Poller → Poller) : (s.modPoller f).switch = s.switch := rfl
@[simp] theorem State.modPoller_poller (s : State) (f : Poller → Poller) : (s.modPoller f).poller = f s.poller := rfl
@[simp] theorem State.modPoller_rope (s : State) (f : Poller → Poller) : (s.modPoller f).rope = s.rope := rfl
@[simp] theorem State.modPoller_tracker (s : State) (f : Poller → Poller) : (s.modPoller f).tracker = s.tracker := rfl
@[simp] theorem State.modPoller_rail (s : State) (f : Poller → Poller) : (s.modPoller f).rail = s.rail := rfl
@[simp] theorem State.modPoller_doors (s : State) (f : Poller → Poller) : (s.modPoller f).doors = s.doors := rfl
@[simp] theorem State.modPoller_link (s : State) (f : Poller → Poller) : (s.modPoller f).link = s.link := rfl
@[simp] theorem State.modPoller_tel (s : State) (f : Poller → Poller) : (s.modPoller f).tel = s.tel := rfl
@[simp] theorem State.modPoller_chain (s : State) (f : Poller → Poller) : (s.modPoller f).chain = s.chain := rfl
@[simp] theorem State.modPoller_admin (s : State) (f : Poller → Poller) : (s.modPoller f).admin = s.admin := rfl
@[simp] theorem State.modPoller_pinHeld (s : State) (f : Poller → Poller) : (s.modPoller f).pinHeld = s.pinHeld := rfl
@[simp] theorem State.modPoller_pending (s : State) (f : Poller → Poller) : (s.modPoller f).pending = s.pending := rfl
@[simp] theorem State.countPoller_station (s : State) (i : Fin 259) : (s.countPoller i).station = s.station := rfl
@[simp] theorem State.countPoller_line (s : State) (i : Fin 259) : (s.countPoller i).line = s.line := rfl
@[simp] theorem State.countPoller_switch (s : State) (i : Fin 259) : (s.countPoller i).switch = s.switch := rfl
@[simp] theorem State.countPoller_poller (s : State) (i : Fin 259) : (s.countPoller i).poller = { s.poller with counters := bump s.poller.counters i } := rfl
@[simp] theorem State.countPoller_rope (s : State) (i : Fin 259) : (s.countPoller i).rope = s.rope := rfl
@[simp] theorem State.countPoller_tracker (s : State) (i : Fin 259) : (s.countPoller i).tracker = s.tracker := rfl
@[simp] theorem State.countPoller_rail (s : State) (i : Fin 259) : (s.countPoller i).rail = s.rail := rfl
@[simp] theorem State.countPoller_doors (s : State) (i : Fin 259) : (s.countPoller i).doors = s.doors := rfl
@[simp] theorem State.countPoller_link (s : State) (i : Fin 259) : (s.countPoller i).link = s.link := rfl
@[simp] theorem State.countPoller_tel (s : State) (i : Fin 259) : (s.countPoller i).tel = s.tel := rfl
@[simp] theorem State.countPoller_chain (s : State) (i : Fin 259) : (s.countPoller i).chain = s.chain := rfl
@[simp] theorem State.countPoller_admin (s : State) (i : Fin 259) : (s.countPoller i).admin = s.admin := rfl
@[simp] theorem State.countPoller_pinHeld (s : State) (i : Fin 259) : (s.countPoller i).pinHeld = s.pinHeld := rfl
@[simp] theorem State.countPoller_pending (s : State) (i : Fin 259) : (s.countPoller i).pending = s.pending := rfl

/-! ## `modRope` and `countRope` -/

@[simp] theorem State.modRope_station (s : State) (f : Rope → Rope) : (s.modRope f).station = s.station := rfl
@[simp] theorem State.modRope_line (s : State) (f : Rope → Rope) : (s.modRope f).line = s.line := rfl
@[simp] theorem State.modRope_switch (s : State) (f : Rope → Rope) : (s.modRope f).switch = s.switch := rfl
@[simp] theorem State.modRope_poller (s : State) (f : Rope → Rope) : (s.modRope f).poller = s.poller := rfl
@[simp] theorem State.modRope_rope (s : State) (f : Rope → Rope) : (s.modRope f).rope = f s.rope := rfl
@[simp] theorem State.modRope_tracker (s : State) (f : Rope → Rope) : (s.modRope f).tracker = s.tracker := rfl
@[simp] theorem State.modRope_rail (s : State) (f : Rope → Rope) : (s.modRope f).rail = s.rail := rfl
@[simp] theorem State.modRope_doors (s : State) (f : Rope → Rope) : (s.modRope f).doors = s.doors := rfl
@[simp] theorem State.modRope_link (s : State) (f : Rope → Rope) : (s.modRope f).link = s.link := rfl
@[simp] theorem State.modRope_tel (s : State) (f : Rope → Rope) : (s.modRope f).tel = s.tel := rfl
@[simp] theorem State.modRope_chain (s : State) (f : Rope → Rope) : (s.modRope f).chain = s.chain := rfl
@[simp] theorem State.modRope_admin (s : State) (f : Rope → Rope) : (s.modRope f).admin = s.admin := rfl
@[simp] theorem State.modRope_pinHeld (s : State) (f : Rope → Rope) : (s.modRope f).pinHeld = s.pinHeld := rfl
@[simp] theorem State.modRope_pending (s : State) (f : Rope → Rope) : (s.modRope f).pending = s.pending := rfl
@[simp] theorem State.countRope_station (s : State) (i : Fin 7) : (s.countRope i).station = s.station := rfl
@[simp] theorem State.countRope_line (s : State) (i : Fin 7) : (s.countRope i).line = s.line := rfl
@[simp] theorem State.countRope_switch (s : State) (i : Fin 7) : (s.countRope i).switch = s.switch := rfl
@[simp] theorem State.countRope_poller (s : State) (i : Fin 7) : (s.countRope i).poller = s.poller := rfl
@[simp] theorem State.countRope_rope (s : State) (i : Fin 7) : (s.countRope i).rope = { s.rope with counters := bump s.rope.counters i } := rfl
@[simp] theorem State.countRope_tracker (s : State) (i : Fin 7) : (s.countRope i).tracker = s.tracker := rfl
@[simp] theorem State.countRope_rail (s : State) (i : Fin 7) : (s.countRope i).rail = s.rail := rfl
@[simp] theorem State.countRope_doors (s : State) (i : Fin 7) : (s.countRope i).doors = s.doors := rfl
@[simp] theorem State.countRope_link (s : State) (i : Fin 7) : (s.countRope i).link = s.link := rfl
@[simp] theorem State.countRope_tel (s : State) (i : Fin 7) : (s.countRope i).tel = s.tel := rfl
@[simp] theorem State.countRope_chain (s : State) (i : Fin 7) : (s.countRope i).chain = s.chain := rfl
@[simp] theorem State.countRope_admin (s : State) (i : Fin 7) : (s.countRope i).admin = s.admin := rfl
@[simp] theorem State.countRope_pinHeld (s : State) (i : Fin 7) : (s.countRope i).pinHeld = s.pinHeld := rfl
@[simp] theorem State.countRope_pending (s : State) (i : Fin 7) : (s.countRope i).pending = s.pending := rfl

/-! ## `modTracker` and `countTracker` -/

@[simp] theorem State.modTracker_station (s : State) (f : Tracker → Tracker) : (s.modTracker f).station = s.station := rfl
@[simp] theorem State.modTracker_line (s : State) (f : Tracker → Tracker) : (s.modTracker f).line = s.line := rfl
@[simp] theorem State.modTracker_switch (s : State) (f : Tracker → Tracker) : (s.modTracker f).switch = s.switch := rfl
@[simp] theorem State.modTracker_poller (s : State) (f : Tracker → Tracker) : (s.modTracker f).poller = s.poller := rfl
@[simp] theorem State.modTracker_rope (s : State) (f : Tracker → Tracker) : (s.modTracker f).rope = s.rope := rfl
@[simp] theorem State.modTracker_tracker (s : State) (f : Tracker → Tracker) : (s.modTracker f).tracker = f s.tracker := rfl
@[simp] theorem State.modTracker_rail (s : State) (f : Tracker → Tracker) : (s.modTracker f).rail = s.rail := rfl
@[simp] theorem State.modTracker_doors (s : State) (f : Tracker → Tracker) : (s.modTracker f).doors = s.doors := rfl
@[simp] theorem State.modTracker_link (s : State) (f : Tracker → Tracker) : (s.modTracker f).link = s.link := rfl
@[simp] theorem State.modTracker_tel (s : State) (f : Tracker → Tracker) : (s.modTracker f).tel = s.tel := rfl
@[simp] theorem State.modTracker_chain (s : State) (f : Tracker → Tracker) : (s.modTracker f).chain = s.chain := rfl
@[simp] theorem State.modTracker_admin (s : State) (f : Tracker → Tracker) : (s.modTracker f).admin = s.admin := rfl
@[simp] theorem State.modTracker_pinHeld (s : State) (f : Tracker → Tracker) : (s.modTracker f).pinHeld = s.pinHeld := rfl
@[simp] theorem State.modTracker_pending (s : State) (f : Tracker → Tracker) : (s.modTracker f).pending = s.pending := rfl
@[simp] theorem State.countTracker_station (s : State) (i : Fin 22) : (s.countTracker i).station = s.station := rfl
@[simp] theorem State.countTracker_line (s : State) (i : Fin 22) : (s.countTracker i).line = s.line := rfl
@[simp] theorem State.countTracker_switch (s : State) (i : Fin 22) : (s.countTracker i).switch = s.switch := rfl
@[simp] theorem State.countTracker_poller (s : State) (i : Fin 22) : (s.countTracker i).poller = s.poller := rfl
@[simp] theorem State.countTracker_rope (s : State) (i : Fin 22) : (s.countTracker i).rope = s.rope := rfl
@[simp] theorem State.countTracker_tracker (s : State) (i : Fin 22) : (s.countTracker i).tracker = { s.tracker with counters := bump s.tracker.counters i } := rfl
@[simp] theorem State.countTracker_rail (s : State) (i : Fin 22) : (s.countTracker i).rail = s.rail := rfl
@[simp] theorem State.countTracker_doors (s : State) (i : Fin 22) : (s.countTracker i).doors = s.doors := rfl
@[simp] theorem State.countTracker_link (s : State) (i : Fin 22) : (s.countTracker i).link = s.link := rfl
@[simp] theorem State.countTracker_tel (s : State) (i : Fin 22) : (s.countTracker i).tel = s.tel := rfl
@[simp] theorem State.countTracker_chain (s : State) (i : Fin 22) : (s.countTracker i).chain = s.chain := rfl
@[simp] theorem State.countTracker_admin (s : State) (i : Fin 22) : (s.countTracker i).admin = s.admin := rfl
@[simp] theorem State.countTracker_pinHeld (s : State) (i : Fin 22) : (s.countTracker i).pinHeld = s.pinHeld := rfl
@[simp] theorem State.countTracker_pending (s : State) (i : Fin 22) : (s.countTracker i).pending = s.pending := rfl

/-! ## `modRail` and `countRail` -/

@[simp] theorem State.modRail_station (s : State) (f : StationRail → StationRail) : (s.modRail f).station = s.station := rfl
@[simp] theorem State.modRail_line (s : State) (f : StationRail → StationRail) : (s.modRail f).line = s.line := rfl
@[simp] theorem State.modRail_switch (s : State) (f : StationRail → StationRail) : (s.modRail f).switch = s.switch := rfl
@[simp] theorem State.modRail_poller (s : State) (f : StationRail → StationRail) : (s.modRail f).poller = s.poller := rfl
@[simp] theorem State.modRail_rope (s : State) (f : StationRail → StationRail) : (s.modRail f).rope = s.rope := rfl
@[simp] theorem State.modRail_tracker (s : State) (f : StationRail → StationRail) : (s.modRail f).tracker = s.tracker := rfl
@[simp] theorem State.modRail_rail (s : State) (f : StationRail → StationRail) : (s.modRail f).rail = f s.rail := rfl
@[simp] theorem State.modRail_doors (s : State) (f : StationRail → StationRail) : (s.modRail f).doors = s.doors := rfl
@[simp] theorem State.modRail_link (s : State) (f : StationRail → StationRail) : (s.modRail f).link = s.link := rfl
@[simp] theorem State.modRail_tel (s : State) (f : StationRail → StationRail) : (s.modRail f).tel = s.tel := rfl
@[simp] theorem State.modRail_chain (s : State) (f : StationRail → StationRail) : (s.modRail f).chain = s.chain := rfl
@[simp] theorem State.modRail_admin (s : State) (f : StationRail → StationRail) : (s.modRail f).admin = s.admin := rfl
@[simp] theorem State.modRail_pinHeld (s : State) (f : StationRail → StationRail) : (s.modRail f).pinHeld = s.pinHeld := rfl
@[simp] theorem State.modRail_pending (s : State) (f : StationRail → StationRail) : (s.modRail f).pending = s.pending := rfl
@[simp] theorem State.countRail_station (s : State) (i : Fin 49) : (s.countRail i).station = s.station := rfl
@[simp] theorem State.countRail_line (s : State) (i : Fin 49) : (s.countRail i).line = s.line := rfl
@[simp] theorem State.countRail_switch (s : State) (i : Fin 49) : (s.countRail i).switch = s.switch := rfl
@[simp] theorem State.countRail_poller (s : State) (i : Fin 49) : (s.countRail i).poller = s.poller := rfl
@[simp] theorem State.countRail_rope (s : State) (i : Fin 49) : (s.countRail i).rope = s.rope := rfl
@[simp] theorem State.countRail_tracker (s : State) (i : Fin 49) : (s.countRail i).tracker = s.tracker := rfl
@[simp] theorem State.countRail_rail (s : State) (i : Fin 49) : (s.countRail i).rail = { s.rail with counters := bump s.rail.counters i } := rfl
@[simp] theorem State.countRail_doors (s : State) (i : Fin 49) : (s.countRail i).doors = s.doors := rfl
@[simp] theorem State.countRail_link (s : State) (i : Fin 49) : (s.countRail i).link = s.link := rfl
@[simp] theorem State.countRail_tel (s : State) (i : Fin 49) : (s.countRail i).tel = s.tel := rfl
@[simp] theorem State.countRail_chain (s : State) (i : Fin 49) : (s.countRail i).chain = s.chain := rfl
@[simp] theorem State.countRail_admin (s : State) (i : Fin 49) : (s.countRail i).admin = s.admin := rfl
@[simp] theorem State.countRail_pinHeld (s : State) (i : Fin 49) : (s.countRail i).pinHeld = s.pinHeld := rfl
@[simp] theorem State.countRail_pending (s : State) (i : Fin 49) : (s.countRail i).pending = s.pending := rfl

/-! ## `modDoors` and `countDoors` -/

@[simp] theorem State.modDoors_station (s : State) (f : Doors → Doors) : (s.modDoors f).station = s.station := rfl
@[simp] theorem State.modDoors_line (s : State) (f : Doors → Doors) : (s.modDoors f).line = s.line := rfl
@[simp] theorem State.modDoors_switch (s : State) (f : Doors → Doors) : (s.modDoors f).switch = s.switch := rfl
@[simp] theorem State.modDoors_poller (s : State) (f : Doors → Doors) : (s.modDoors f).poller = s.poller := rfl
@[simp] theorem State.modDoors_rope (s : State) (f : Doors → Doors) : (s.modDoors f).rope = s.rope := rfl
@[simp] theorem State.modDoors_tracker (s : State) (f : Doors → Doors) : (s.modDoors f).tracker = s.tracker := rfl
@[simp] theorem State.modDoors_rail (s : State) (f : Doors → Doors) : (s.modDoors f).rail = s.rail := rfl
@[simp] theorem State.modDoors_doors (s : State) (f : Doors → Doors) : (s.modDoors f).doors = f s.doors := rfl
@[simp] theorem State.modDoors_link (s : State) (f : Doors → Doors) : (s.modDoors f).link = s.link := rfl
@[simp] theorem State.modDoors_tel (s : State) (f : Doors → Doors) : (s.modDoors f).tel = s.tel := rfl
@[simp] theorem State.modDoors_chain (s : State) (f : Doors → Doors) : (s.modDoors f).chain = s.chain := rfl
@[simp] theorem State.modDoors_admin (s : State) (f : Doors → Doors) : (s.modDoors f).admin = s.admin := rfl
@[simp] theorem State.modDoors_pinHeld (s : State) (f : Doors → Doors) : (s.modDoors f).pinHeld = s.pinHeld := rfl
@[simp] theorem State.modDoors_pending (s : State) (f : Doors → Doors) : (s.modDoors f).pending = s.pending := rfl
@[simp] theorem State.countDoors_station (s : State) (i : Fin 96) : (s.countDoors i).station = s.station := rfl
@[simp] theorem State.countDoors_line (s : State) (i : Fin 96) : (s.countDoors i).line = s.line := rfl
@[simp] theorem State.countDoors_switch (s : State) (i : Fin 96) : (s.countDoors i).switch = s.switch := rfl
@[simp] theorem State.countDoors_poller (s : State) (i : Fin 96) : (s.countDoors i).poller = s.poller := rfl
@[simp] theorem State.countDoors_rope (s : State) (i : Fin 96) : (s.countDoors i).rope = s.rope := rfl
@[simp] theorem State.countDoors_tracker (s : State) (i : Fin 96) : (s.countDoors i).tracker = s.tracker := rfl
@[simp] theorem State.countDoors_rail (s : State) (i : Fin 96) : (s.countDoors i).rail = s.rail := rfl
@[simp] theorem State.countDoors_doors (s : State) (i : Fin 96) : (s.countDoors i).doors = { s.doors with counters := bump s.doors.counters i } := rfl
@[simp] theorem State.countDoors_link (s : State) (i : Fin 96) : (s.countDoors i).link = s.link := rfl
@[simp] theorem State.countDoors_tel (s : State) (i : Fin 96) : (s.countDoors i).tel = s.tel := rfl
@[simp] theorem State.countDoors_chain (s : State) (i : Fin 96) : (s.countDoors i).chain = s.chain := rfl
@[simp] theorem State.countDoors_admin (s : State) (i : Fin 96) : (s.countDoors i).admin = s.admin := rfl
@[simp] theorem State.countDoors_pinHeld (s : State) (i : Fin 96) : (s.countDoors i).pinHeld = s.pinHeld := rfl
@[simp] theorem State.countDoors_pending (s : State) (i : Fin 96) : (s.countDoors i).pending = s.pending := rfl

/-! ## `modLink` and `countLink` -/

@[simp] theorem State.modLink_station (s : State) (f : LinkUnit → LinkUnit) : (s.modLink f).station = s.station := rfl
@[simp] theorem State.modLink_line (s : State) (f : LinkUnit → LinkUnit) : (s.modLink f).line = s.line := rfl
@[simp] theorem State.modLink_switch (s : State) (f : LinkUnit → LinkUnit) : (s.modLink f).switch = s.switch := rfl
@[simp] theorem State.modLink_poller (s : State) (f : LinkUnit → LinkUnit) : (s.modLink f).poller = s.poller := rfl
@[simp] theorem State.modLink_rope (s : State) (f : LinkUnit → LinkUnit) : (s.modLink f).rope = s.rope := rfl
@[simp] theorem State.modLink_tracker (s : State) (f : LinkUnit → LinkUnit) : (s.modLink f).tracker = s.tracker := rfl
@[simp] theorem State.modLink_rail (s : State) (f : LinkUnit → LinkUnit) : (s.modLink f).rail = s.rail := rfl
@[simp] theorem State.modLink_doors (s : State) (f : LinkUnit → LinkUnit) : (s.modLink f).doors = s.doors := rfl
@[simp] theorem State.modLink_link (s : State) (f : LinkUnit → LinkUnit) : (s.modLink f).link = f s.link := rfl
@[simp] theorem State.modLink_tel (s : State) (f : LinkUnit → LinkUnit) : (s.modLink f).tel = s.tel := rfl
@[simp] theorem State.modLink_chain (s : State) (f : LinkUnit → LinkUnit) : (s.modLink f).chain = s.chain := rfl
@[simp] theorem State.modLink_admin (s : State) (f : LinkUnit → LinkUnit) : (s.modLink f).admin = s.admin := rfl
@[simp] theorem State.modLink_pinHeld (s : State) (f : LinkUnit → LinkUnit) : (s.modLink f).pinHeld = s.pinHeld := rfl
@[simp] theorem State.modLink_pending (s : State) (f : LinkUnit → LinkUnit) : (s.modLink f).pending = s.pending := rfl
@[simp] theorem State.countLink_station (s : State) (i : Fin 10) : (s.countLink i).station = s.station := rfl
@[simp] theorem State.countLink_line (s : State) (i : Fin 10) : (s.countLink i).line = s.line := rfl
@[simp] theorem State.countLink_switch (s : State) (i : Fin 10) : (s.countLink i).switch = s.switch := rfl
@[simp] theorem State.countLink_poller (s : State) (i : Fin 10) : (s.countLink i).poller = s.poller := rfl
@[simp] theorem State.countLink_rope (s : State) (i : Fin 10) : (s.countLink i).rope = s.rope := rfl
@[simp] theorem State.countLink_tracker (s : State) (i : Fin 10) : (s.countLink i).tracker = s.tracker := rfl
@[simp] theorem State.countLink_rail (s : State) (i : Fin 10) : (s.countLink i).rail = s.rail := rfl
@[simp] theorem State.countLink_doors (s : State) (i : Fin 10) : (s.countLink i).doors = s.doors := rfl
@[simp] theorem State.countLink_link (s : State) (i : Fin 10) : (s.countLink i).link = { s.link with counters := bump s.link.counters i } := rfl
@[simp] theorem State.countLink_tel (s : State) (i : Fin 10) : (s.countLink i).tel = s.tel := rfl
@[simp] theorem State.countLink_chain (s : State) (i : Fin 10) : (s.countLink i).chain = s.chain := rfl
@[simp] theorem State.countLink_admin (s : State) (i : Fin 10) : (s.countLink i).admin = s.admin := rfl
@[simp] theorem State.countLink_pinHeld (s : State) (i : Fin 10) : (s.countLink i).pinHeld = s.pinHeld := rfl
@[simp] theorem State.countLink_pending (s : State) (i : Fin 10) : (s.countLink i).pending = s.pending := rfl

/-! ## `modTel` and `countTel` -/

@[simp] theorem State.modTel_station (s : State) (f : Telephony → Telephony) : (s.modTel f).station = s.station := rfl
@[simp] theorem State.modTel_line (s : State) (f : Telephony → Telephony) : (s.modTel f).line = s.line := rfl
@[simp] theorem State.modTel_switch (s : State) (f : Telephony → Telephony) : (s.modTel f).switch = s.switch := rfl
@[simp] theorem State.modTel_poller (s : State) (f : Telephony → Telephony) : (s.modTel f).poller = s.poller := rfl
@[simp] theorem State.modTel_rope (s : State) (f : Telephony → Telephony) : (s.modTel f).rope = s.rope := rfl
@[simp] theorem State.modTel_tracker (s : State) (f : Telephony → Telephony) : (s.modTel f).tracker = s.tracker := rfl
@[simp] theorem State.modTel_rail (s : State) (f : Telephony → Telephony) : (s.modTel f).rail = s.rail := rfl
@[simp] theorem State.modTel_doors (s : State) (f : Telephony → Telephony) : (s.modTel f).doors = s.doors := rfl
@[simp] theorem State.modTel_link (s : State) (f : Telephony → Telephony) : (s.modTel f).link = s.link := rfl
@[simp] theorem State.modTel_tel (s : State) (f : Telephony → Telephony) : (s.modTel f).tel = f s.tel := rfl
@[simp] theorem State.modTel_chain (s : State) (f : Telephony → Telephony) : (s.modTel f).chain = s.chain := rfl
@[simp] theorem State.modTel_admin (s : State) (f : Telephony → Telephony) : (s.modTel f).admin = s.admin := rfl
@[simp] theorem State.modTel_pinHeld (s : State) (f : Telephony → Telephony) : (s.modTel f).pinHeld = s.pinHeld := rfl
@[simp] theorem State.modTel_pending (s : State) (f : Telephony → Telephony) : (s.modTel f).pending = s.pending := rfl
@[simp] theorem State.countTel_station (s : State) (i : Fin 38) : (s.countTel i).station = s.station := rfl
@[simp] theorem State.countTel_line (s : State) (i : Fin 38) : (s.countTel i).line = s.line := rfl
@[simp] theorem State.countTel_switch (s : State) (i : Fin 38) : (s.countTel i).switch = s.switch := rfl
@[simp] theorem State.countTel_poller (s : State) (i : Fin 38) : (s.countTel i).poller = s.poller := rfl
@[simp] theorem State.countTel_rope (s : State) (i : Fin 38) : (s.countTel i).rope = s.rope := rfl
@[simp] theorem State.countTel_tracker (s : State) (i : Fin 38) : (s.countTel i).tracker = s.tracker := rfl
@[simp] theorem State.countTel_rail (s : State) (i : Fin 38) : (s.countTel i).rail = s.rail := rfl
@[simp] theorem State.countTel_doors (s : State) (i : Fin 38) : (s.countTel i).doors = s.doors := rfl
@[simp] theorem State.countTel_link (s : State) (i : Fin 38) : (s.countTel i).link = s.link := rfl
@[simp] theorem State.countTel_tel (s : State) (i : Fin 38) : (s.countTel i).tel = { s.tel with counters := bump s.tel.counters i } := rfl
@[simp] theorem State.countTel_chain (s : State) (i : Fin 38) : (s.countTel i).chain = s.chain := rfl
@[simp] theorem State.countTel_admin (s : State) (i : Fin 38) : (s.countTel i).admin = s.admin := rfl
@[simp] theorem State.countTel_pinHeld (s : State) (i : Fin 38) : (s.countTel i).pinHeld = s.pinHeld := rfl
@[simp] theorem State.countTel_pending (s : State) (i : Fin 38) : (s.countTel i).pending = s.pending := rfl

/-! ## `modChain` and `countChain` -/

@[simp] theorem State.modChain_station (s : State) (f : StopChain → StopChain) : (s.modChain f).station = s.station := rfl
@[simp] theorem State.modChain_line (s : State) (f : StopChain → StopChain) : (s.modChain f).line = s.line := rfl
@[simp] theorem State.modChain_switch (s : State) (f : StopChain → StopChain) : (s.modChain f).switch = s.switch := rfl
@[simp] theorem State.modChain_poller (s : State) (f : StopChain → StopChain) : (s.modChain f).poller = s.poller := rfl
@[simp] theorem State.modChain_rope (s : State) (f : StopChain → StopChain) : (s.modChain f).rope = s.rope := rfl
@[simp] theorem State.modChain_tracker (s : State) (f : StopChain → StopChain) : (s.modChain f).tracker = s.tracker := rfl
@[simp] theorem State.modChain_rail (s : State) (f : StopChain → StopChain) : (s.modChain f).rail = s.rail := rfl
@[simp] theorem State.modChain_doors (s : State) (f : StopChain → StopChain) : (s.modChain f).doors = s.doors := rfl
@[simp] theorem State.modChain_link (s : State) (f : StopChain → StopChain) : (s.modChain f).link = s.link := rfl
@[simp] theorem State.modChain_tel (s : State) (f : StopChain → StopChain) : (s.modChain f).tel = s.tel := rfl
@[simp] theorem State.modChain_chain (s : State) (f : StopChain → StopChain) : (s.modChain f).chain = f s.chain := rfl
@[simp] theorem State.modChain_admin (s : State) (f : StopChain → StopChain) : (s.modChain f).admin = s.admin := rfl
@[simp] theorem State.modChain_pinHeld (s : State) (f : StopChain → StopChain) : (s.modChain f).pinHeld = s.pinHeld := rfl
@[simp] theorem State.modChain_pending (s : State) (f : StopChain → StopChain) : (s.modChain f).pending = s.pending := rfl
@[simp] theorem State.countChain_station (s : State) (i : Fin 50) : (s.countChain i).station = s.station := rfl
@[simp] theorem State.countChain_line (s : State) (i : Fin 50) : (s.countChain i).line = s.line := rfl
@[simp] theorem State.countChain_switch (s : State) (i : Fin 50) : (s.countChain i).switch = s.switch := rfl
@[simp] theorem State.countChain_poller (s : State) (i : Fin 50) : (s.countChain i).poller = s.poller := rfl
@[simp] theorem State.countChain_rope (s : State) (i : Fin 50) : (s.countChain i).rope = s.rope := rfl
@[simp] theorem State.countChain_tracker (s : State) (i : Fin 50) : (s.countChain i).tracker = s.tracker := rfl
@[simp] theorem State.countChain_rail (s : State) (i : Fin 50) : (s.countChain i).rail = s.rail := rfl
@[simp] theorem State.countChain_doors (s : State) (i : Fin 50) : (s.countChain i).doors = s.doors := rfl
@[simp] theorem State.countChain_link (s : State) (i : Fin 50) : (s.countChain i).link = s.link := rfl
@[simp] theorem State.countChain_tel (s : State) (i : Fin 50) : (s.countChain i).tel = s.tel := rfl
@[simp] theorem State.countChain_chain (s : State) (i : Fin 50) : (s.countChain i).chain = { s.chain with counters := bump s.chain.counters i } := rfl
@[simp] theorem State.countChain_admin (s : State) (i : Fin 50) : (s.countChain i).admin = s.admin := rfl
@[simp] theorem State.countChain_pinHeld (s : State) (i : Fin 50) : (s.countChain i).pinHeld = s.pinHeld := rfl
@[simp] theorem State.countChain_pending (s : State) (i : Fin 50) : (s.countChain i).pending = s.pending := rfl

/-! ## `modAdmin` and `countAdmin` -/

@[simp] theorem State.modAdmin_station (s : State) (f : Admin → Admin) : (s.modAdmin f).station = s.station := rfl
@[simp] theorem State.modAdmin_line (s : State) (f : Admin → Admin) : (s.modAdmin f).line = s.line := rfl
@[simp] theorem State.modAdmin_switch (s : State) (f : Admin → Admin) : (s.modAdmin f).switch = s.switch := rfl
@[simp] theorem State.modAdmin_poller (s : State) (f : Admin → Admin) : (s.modAdmin f).poller = s.poller := rfl
@[simp] theorem State.modAdmin_rope (s : State) (f : Admin → Admin) : (s.modAdmin f).rope = s.rope := rfl
@[simp] theorem State.modAdmin_tracker (s : State) (f : Admin → Admin) : (s.modAdmin f).tracker = s.tracker := rfl
@[simp] theorem State.modAdmin_rail (s : State) (f : Admin → Admin) : (s.modAdmin f).rail = s.rail := rfl
@[simp] theorem State.modAdmin_doors (s : State) (f : Admin → Admin) : (s.modAdmin f).doors = s.doors := rfl
@[simp] theorem State.modAdmin_link (s : State) (f : Admin → Admin) : (s.modAdmin f).link = s.link := rfl
@[simp] theorem State.modAdmin_tel (s : State) (f : Admin → Admin) : (s.modAdmin f).tel = s.tel := rfl
@[simp] theorem State.modAdmin_chain (s : State) (f : Admin → Admin) : (s.modAdmin f).chain = s.chain := rfl
@[simp] theorem State.modAdmin_admin (s : State) (f : Admin → Admin) : (s.modAdmin f).admin = f s.admin := rfl
@[simp] theorem State.modAdmin_pinHeld (s : State) (f : Admin → Admin) : (s.modAdmin f).pinHeld = s.pinHeld := rfl
@[simp] theorem State.modAdmin_pending (s : State) (f : Admin → Admin) : (s.modAdmin f).pending = s.pending := rfl
@[simp] theorem State.countAdmin_station (s : State) (i : Fin 16) : (s.countAdmin i).station = s.station := rfl
@[simp] theorem State.countAdmin_line (s : State) (i : Fin 16) : (s.countAdmin i).line = s.line := rfl
@[simp] theorem State.countAdmin_switch (s : State) (i : Fin 16) : (s.countAdmin i).switch = s.switch := rfl
@[simp] theorem State.countAdmin_poller (s : State) (i : Fin 16) : (s.countAdmin i).poller = s.poller := rfl
@[simp] theorem State.countAdmin_rope (s : State) (i : Fin 16) : (s.countAdmin i).rope = s.rope := rfl
@[simp] theorem State.countAdmin_tracker (s : State) (i : Fin 16) : (s.countAdmin i).tracker = s.tracker := rfl
@[simp] theorem State.countAdmin_rail (s : State) (i : Fin 16) : (s.countAdmin i).rail = s.rail := rfl
@[simp] theorem State.countAdmin_doors (s : State) (i : Fin 16) : (s.countAdmin i).doors = s.doors := rfl
@[simp] theorem State.countAdmin_link (s : State) (i : Fin 16) : (s.countAdmin i).link = s.link := rfl
@[simp] theorem State.countAdmin_tel (s : State) (i : Fin 16) : (s.countAdmin i).tel = s.tel := rfl
@[simp] theorem State.countAdmin_chain (s : State) (i : Fin 16) : (s.countAdmin i).chain = s.chain := rfl
@[simp] theorem State.countAdmin_admin (s : State) (i : Fin 16) : (s.countAdmin i).admin = { s.admin with counters := bump s.admin.counters i } := rfl
@[simp] theorem State.countAdmin_pinHeld (s : State) (i : Fin 16) : (s.countAdmin i).pinHeld = s.pinHeld := rfl
@[simp] theorem State.countAdmin_pending (s : State) (i : Fin 16) : (s.countAdmin i).pending = s.pending := rfl

/-! ## `modPort` and `countPort` -/

@[simp] theorem State.modPort_switch (s : State) (p : Port) (f : PortUnit → PortUnit) : (s.modPort p f).switch = s.switch := by
  cases p <;> rfl
@[simp] theorem State.countPort_switch (s : State) (p : Port) (i : Fin 21) : (s.countPort p i).switch = s.switch := by cases p <;> rfl
@[simp] theorem State.modPort_poller (s : State) (p : Port) (f : PortUnit → PortUnit) : (s.modPort p f).poller = s.poller := by
  cases p <;> rfl
@[simp] theorem State.countPort_poller (s : State) (p : Port) (i : Fin 21) : (s.countPort p i).poller = s.poller := by cases p <;> rfl
@[simp] theorem State.modPort_rope (s : State) (p : Port) (f : PortUnit → PortUnit) : (s.modPort p f).rope = s.rope := by
  cases p <;> rfl
@[simp] theorem State.countPort_rope (s : State) (p : Port) (i : Fin 21) : (s.countPort p i).rope = s.rope := by cases p <;> rfl
@[simp] theorem State.modPort_tracker (s : State) (p : Port) (f : PortUnit → PortUnit) : (s.modPort p f).tracker = s.tracker := by
  cases p <;> rfl
@[simp] theorem State.countPort_tracker (s : State) (p : Port) (i : Fin 21) : (s.countPort p i).tracker = s.tracker := by cases p <;> rfl
@[simp] theorem State.modPort_rail (s : State) (p : Port) (f : PortUnit → PortUnit) : (s.modPort p f).rail = s.rail := by
  cases p <;> rfl
@[simp] theorem State.countPort_rail (s : State) (p : Port) (i : Fin 21) : (s.countPort p i).rail = s.rail := by cases p <;> rfl
@[simp] theorem State.modPort_doors (s : State) (p : Port) (f : PortUnit → PortUnit) : (s.modPort p f).doors = s.doors := by
  cases p <;> rfl
@[simp] theorem State.countPort_doors (s : State) (p : Port) (i : Fin 21) : (s.countPort p i).doors = s.doors := by cases p <;> rfl
@[simp] theorem State.modPort_link (s : State) (p : Port) (f : PortUnit → PortUnit) : (s.modPort p f).link = s.link := by
  cases p <;> rfl
@[simp] theorem State.countPort_link (s : State) (p : Port) (i : Fin 21) : (s.countPort p i).link = s.link := by cases p <;> rfl
@[simp] theorem State.modPort_tel (s : State) (p : Port) (f : PortUnit → PortUnit) : (s.modPort p f).tel = s.tel := by
  cases p <;> rfl
@[simp] theorem State.countPort_tel (s : State) (p : Port) (i : Fin 21) : (s.countPort p i).tel = s.tel := by cases p <;> rfl
@[simp] theorem State.modPort_chain (s : State) (p : Port) (f : PortUnit → PortUnit) : (s.modPort p f).chain = s.chain := by
  cases p <;> rfl
@[simp] theorem State.countPort_chain (s : State) (p : Port) (i : Fin 21) : (s.countPort p i).chain = s.chain := by cases p <;> rfl
@[simp] theorem State.modPort_admin (s : State) (p : Port) (f : PortUnit → PortUnit) : (s.modPort p f).admin = s.admin := by
  cases p <;> rfl
@[simp] theorem State.countPort_admin (s : State) (p : Port) (i : Fin 21) : (s.countPort p i).admin = s.admin := by cases p <;> rfl
@[simp] theorem State.modPort_pinHeld (s : State) (p : Port) (f : PortUnit → PortUnit) : (s.modPort p f).pinHeld = s.pinHeld := by
  cases p <;> rfl
@[simp] theorem State.countPort_pinHeld (s : State) (p : Port) (i : Fin 21) : (s.countPort p i).pinHeld = s.pinHeld := by cases p <;> rfl
@[simp] theorem State.modPort_pending (s : State) (p : Port) (f : PortUnit → PortUnit) : (s.modPort p f).pending = s.pending := by
  cases p <;> rfl
@[simp] theorem State.countPort_pending (s : State) (p : Port) (i : Fin 21) : (s.countPort p i).pending = s.pending := by cases p <;> rfl
@[simp] theorem State.modPort_station_station (s : State) (f : PortUnit → PortUnit) : (s.modPort .station f).station = f s.station := rfl
@[simp] theorem State.modPort_line_station (s : State) (f : PortUnit → PortUnit) : (s.modPort .line f).station = s.station := rfl
@[simp] theorem State.modPort_line_line (s : State) (f : PortUnit → PortUnit) : (s.modPort .line f).line = f s.line := rfl
@[simp] theorem State.modPort_station_line (s : State) (f : PortUnit → PortUnit) : (s.modPort .station f).line = s.line := rfl
@[simp] theorem State.port_station (s : State) : s.port .station = s.station := rfl
@[simp] theorem State.port_line (s : State) : s.port .line = s.line := rfl
@[simp] theorem State.modPort_port (s : State) (p : Port) (f : PortUnit → PortUnit) : (s.modPort p f).port p = f (s.port p) := by
  cases p <;> rfl
@[simp] theorem State.modPort_id (s : State) (p : Port) : s.modPort p (fun u => u) = s := by cases p <;> rfl

theorem State.modPort_port_ne (s : State) {p q : Port} (f : PortUnit → PortUnit) (h : q ≠ p) :
    (s.modPort p f).port q = s.port q := by
  cases p <;> cases q <;> first | rfl | exact absurd rfl h

@[simp] theorem State.modSwitch_port (s : State) (p : Port) (f : SwitchUnit → SwitchUnit) : (s.modSwitch f).port p = s.port p := by
  cases p <;> rfl
@[simp] theorem State.countSwitch_port (s : State) (p : Port) (i : Fin 28) : (s.countSwitch i).port p = s.port p := by
  cases p <;> rfl
@[simp] theorem State.modPoller_port (s : State) (p : Port) (f : Poller → Poller) : (s.modPoller f).port p = s.port p := by
  cases p <;> rfl
@[simp] theorem State.countPoller_port (s : State) (p : Port) (i : Fin 259) : (s.countPoller i).port p = s.port p := by
  cases p <;> rfl
@[simp] theorem State.modRope_port (s : State) (p : Port) (f : Rope → Rope) : (s.modRope f).port p = s.port p := by
  cases p <;> rfl
@[simp] theorem State.countRope_port (s : State) (p : Port) (i : Fin 7) : (s.countRope i).port p = s.port p := by
  cases p <;> rfl
@[simp] theorem State.modTracker_port (s : State) (p : Port) (f : Tracker → Tracker) : (s.modTracker f).port p = s.port p := by
  cases p <;> rfl
@[simp] theorem State.countTracker_port (s : State) (p : Port) (i : Fin 22) : (s.countTracker i).port p = s.port p := by
  cases p <;> rfl
@[simp] theorem State.modRail_port (s : State) (p : Port) (f : StationRail → StationRail) : (s.modRail f).port p = s.port p := by
  cases p <;> rfl
@[simp] theorem State.countRail_port (s : State) (p : Port) (i : Fin 49) : (s.countRail i).port p = s.port p := by
  cases p <;> rfl
@[simp] theorem State.modDoors_port (s : State) (p : Port) (f : Doors → Doors) : (s.modDoors f).port p = s.port p := by
  cases p <;> rfl
@[simp] theorem State.countDoors_port (s : State) (p : Port) (i : Fin 96) : (s.countDoors i).port p = s.port p := by
  cases p <;> rfl
@[simp] theorem State.modLink_port (s : State) (p : Port) (f : LinkUnit → LinkUnit) : (s.modLink f).port p = s.port p := by
  cases p <;> rfl
@[simp] theorem State.countLink_port (s : State) (p : Port) (i : Fin 10) : (s.countLink i).port p = s.port p := by
  cases p <;> rfl
@[simp] theorem State.modTel_port (s : State) (p : Port) (f : Telephony → Telephony) : (s.modTel f).port p = s.port p := by
  cases p <;> rfl
@[simp] theorem State.countTel_port (s : State) (p : Port) (i : Fin 38) : (s.countTel i).port p = s.port p := by
  cases p <;> rfl
@[simp] theorem State.modChain_port (s : State) (p : Port) (f : StopChain → StopChain) : (s.modChain f).port p = s.port p := by
  cases p <;> rfl
@[simp] theorem State.countChain_port (s : State) (p : Port) (i : Fin 50) : (s.countChain i).port p = s.port p := by
  cases p <;> rfl
@[simp] theorem State.modAdmin_port (s : State) (p : Port) (f : Admin → Admin) : (s.modAdmin f).port p = s.port p := by
  cases p <;> rfl
@[simp] theorem State.countAdmin_port (s : State) (p : Port) (i : Fin 16) : (s.countAdmin i).port p = s.port p := by
  cases p <;> rfl

/-! ## Counters and vectors -/

@[simp] theorem upd_self {α : Type} {n : Nat} (v : Vector α n) (i : Fin n) (f : α → α) : (upd v i f)[i] = f v[i] := by
  simp [upd]

theorem upd_ne {α : Type} {n : Nat} (v : Vector α n) (i j : Fin n) (f : α → α) (h : j ≠ i) : (upd v i f)[j] = v[j] := by
  have : i.val ≠ j.val := fun e => h (Fin.ext e.symm)
  simp [upd, this]

/-- Two changes of an element that agree on what stands there are the same change. -/
theorem upd_congr {α : Type} {n : Nat} {v : Vector α n} {i : Fin n} {f g : α → α} (h : f v[i] = g v[i]) :
    upd v i f = upd v i g := by
  simp only [upd, h]

/-- A change that leaves what stands there changes nothing. -/
theorem upd_same {α : Type} {n : Nat} {v : Vector α n} {i : Fin n} {f : α → α} (h : f v[i] = v[i]) : upd v i f = v := by
  apply Vector.ext; intro j hj
  by_cases e : i.val = j
  · subst e; simpa [upd] using h
  · simp [upd, e]

/-- Two changes of one element in turn. -/
@[simp] theorem upd_upd {α : Type} {n : Nat} (v : Vector α n) (i : Fin n) (f g : α → α) :
    upd (upd v i f) i g = upd v i fun a => g (f a) := by
  simp [upd]

/-- Changes of two different elements commute. -/
theorem upd_comm {α : Type} {n : Nat} (v : Vector α n) {i j : Fin n} (f g : α → α) (h : i ≠ j) :
    upd (upd v i f) j g = upd (upd v j g) i f := by
  have h' : i.val ≠ j.val := fun e => h (Fin.ext e)
  apply Vector.ext; intro k hk
  simp only [upd, Vector.getElem_set, Fin.getElem_fin, h', Ne.symm h', if_false]
  split <;> split <;> simp_all

@[simp] theorem bump_self {n : Nat} (v : Vector Counter n) (i : Fin n) : (bump v i)[i] = v[i] + 1 := upd_self v i _

theorem bump_ne {n : Nat} (v : Vector Counter n) (i j : Fin n) (h : j ≠ i) : (bump v i)[j] = v[j] := upd_ne v i j _ h

end Sys2Proof.Machine
end

