-- ==== Sys2Proof/Laws/Commands.lean ====
section
/-! SUPPORT. What the wrappers of every command do: the reset pin, the storing of an input's level, the rights of a request
and its settling. -/

namespace Sys2Proof.Machine

theorem State.live_run {s : State} (h : s.pinHeld = false) (f : State → State) : s.live f = .next (f s) := by
  simp [State.live, h]

theorem State.live_held {s : State} (h : s.pinHeld = true) (f : State → State) : s.live f = .next s := by
  simp [State.live, h]

theorem State.liveInput_run {s : State} (h : s.pinHeld = false) (store f : State → State) :
    s.liveInput store f = .next (f (store s)) := by
  simp [State.liveInput, h]

theorem State.liveInput_held {s : State} (h : s.pinHeld = true) (store f : State → State) :
    s.liveInput store f = .next (store s) := by
  simp [State.liveInput, h]

/-- A command that is not an input's change answers the state it found or its effect on it. -/
theorem State.live_cases (s : State) (f : State → State) : s.live f = .next s ∨ s.live f = .next (f s) := by
  unfold State.live; split
  · exact .inl rfl
  · exact .inr rfl

/-- An input's change stores the level, and then has its effect while the part runs. -/
theorem State.liveInput_cases (s : State) (store f : State → State) :
    s.liveInput store f = .next (store s) ∨ s.liveInput store f = .next (f (store s)) := by
  unfold State.liveInput; split
  · exact .inl rfl
  · exact .inr rfl

/-! ## Rights -/

theorem State.mayRequest_console {s : State} {rq : Requester} (h : s.isConsole rq = true) (code : RequestCode) :
    s.mayRequest rq code = true := by
  simp [State.mayRequest, h]

theorem State.mayRequest_summit {s : State} {rq : Requester} {code : RequestCode} (hp : rq.port = .line) (hs : rq.src = 63)
    (hc : summitMay code = true) : s.mayRequest rq code = true := by
  simp [State.mayRequest, isSummitRequest, hp, hs, hc, summitAddr]

/-- A request its sender may make is handed to its own rule and settled. -/
theorem State.request_taken {s : State} {rq : Requester} {code : RequestCode} (h : s.mayRequest rq code = true)
    (tag : Byte) (own : State → Reply) : s.request rq code tag own = State.settleRequest rq code tag (own s) := by
  simp [State.request, h]

/-- A request its sender may not make is counted and settled with NOT_PERMITTED. -/
theorem State.request_refused {s : State} {rq : Requester} {code : RequestCode} (h : s.mayRequest rq code = false)
    (tag : Byte) (own : State → Reply) :
    s.request rq code tag own =
      State.settleRequest rq code tag (s.countAdmin Ctr.notPermitted, .notPermitted, .empty) := by
  simp [State.request, h, State.refuse]

/-! ## Indices -/

@[simp] theorem index?_val {k : Nat} (i : Fin k) : index? i.val k = some i := by simp [index?]

theorem index?_none {n k : Nat} (h : k ≤ n) : index? n k = none := by simp [index?, Nat.not_lt.mpr h]

@[simp] theorem post?_val (p : Post) : post? (p.val + 1) = some p := by simp [post?]

@[simp] theorem kindOfCode_code (k : Kind) : kindOfCode (kindCode k).val = some k := by cases k <;> rfl

@[simp] theorem causeOfCode_code (c : Cause) : causeOfCode (causeCode c).val = some c := by cases c <;> rfl

theorem causeCode_injective : Function.Injective causeCode := by
  intro a b h
  have := congrArg (fun i : Fin 39 => causeOfCode i.val) h
  simpa using this

/-! ## Categories -/

theorem Category.rank_injective : Function.Injective Category.rank := by
  intro a b; cases a <;> cases b <;> decide

@[simp] theorem Category.rank_sup (a b : Category) : (a.sup b).rank = max a.rank b.rank := by
  cases a <;> cases b <;> decide

theorem Category.rank_le_emergency (a : Category) : a.rank ≤ Category.emergency.rank := by cases a <;> decide

/-- The demanded category is above every record's. -/
theorem demandedOf_ge {l : List CauseRecord} {r : CauseRecord} (h : r ∈ l) : r.category.rank ≤ (demandedOf l).rank := by
  induction l with
  | nil => cases h
  | cons a l ih =>
    show r.category.rank ≤ (a.category.sup (demandedOf l)).rank
    rw [Category.rank_sup]
    rcases List.mem_cons.mp h with rfl | h
    · exact Nat.le_max_left _ _
    · exact Nat.le_trans (ih h) (Nat.le_max_right _ _)

/-- The demanded category is NONE or a record's. -/
theorem demandedOf_mem (l : List CauseRecord) : demandedOf l = .none ∨ ∃ r ∈ l, r.category = demandedOf l := by
  induction l with
  | nil => exact .inl rfl
  | cons a l ih =>
    have h : demandedOf (a :: l) = a.category.sup (demandedOf l) := rfl
    rw [h, Category.sup]
    split
    · rcases ih with ih | ⟨r, hr, e⟩
      · exact .inl ih
      · exact .inr ⟨r, List.mem_cons_of_mem _ hr, e⟩
    · exact .inr ⟨a, List.mem_cons_self, rfl⟩

end Sys2Proof.Machine
end

