-- ==== Sys2Proof/Laws/Frames.lean ====
section
/-! SUPPORT. What each shared operation leaves as it was: for every block it cannot reach, the block after it is the block
before it. Proofs about a command cite these instead of unfolding the operation. -/

namespace Sys2Proof.Machine

/-! ## `duePick` -/

@[simp] theorem State.duePick_switch (s : State) (p : Port) : (s.duePick p).switch = s.switch := by simp [State.duePick]
@[simp] theorem State.duePick_poller (s : State) (p : Port) : (s.duePick p).poller = s.poller := by simp [State.duePick]
@[simp] theorem State.duePick_rope (s : State) (p : Port) : (s.duePick p).rope = s.rope := by simp [State.duePick]
@[simp] theorem State.duePick_tracker (s : State) (p : Port) : (s.duePick p).tracker = s.tracker := by
  simp [State.duePick]
@[simp] theorem State.duePick_rail (s : State) (p : Port) : (s.duePick p).rail = s.rail := by simp [State.duePick]
@[simp] theorem State.duePick_doors (s : State) (p : Port) : (s.duePick p).doors = s.doors := by simp [State.duePick]
@[simp] theorem State.duePick_link (s : State) (p : Port) : (s.duePick p).link = s.link := by simp [State.duePick]
@[simp] theorem State.duePick_tel (s : State) (p : Port) : (s.duePick p).tel = s.tel := by simp [State.duePick]
@[simp] theorem State.duePick_chain (s : State) (p : Port) : (s.duePick p).chain = s.chain := by simp [State.duePick]
@[simp] theorem State.duePick_admin (s : State) (p : Port) : (s.duePick p).admin = s.admin := by simp [State.duePick]
@[simp] theorem State.duePick_pinHeld (s : State) (p : Port) : (s.duePick p).pinHeld = s.pinHeld := by
  simp [State.duePick]
@[simp] theorem State.duePick_pending (s : State) (p : Port) : (s.duePick p).pending = s.pending := by
  simp [State.duePick]

/-! ## `rollDropped` -/

@[simp] theorem State.rollDropped_station (s : State) (n : Byte) : (s.rollDropped n).station = s.station := by
  unfold State.rollDropped; split <;> simp
@[simp] theorem State.rollDropped_line (s : State) (n : Byte) : (s.rollDropped n).line = s.line := by
  unfold State.rollDropped; split <;> simp
@[simp] theorem State.rollDropped_switch (s : State) (n : Byte) : (s.rollDropped n).switch = s.switch := by
  unfold State.rollDropped; split <;> simp
@[simp] theorem State.rollDropped_rope (s : State) (n : Byte) : (s.rollDropped n).rope = s.rope := by
  unfold State.rollDropped; split <;> simp
@[simp] theorem State.rollDropped_tracker (s : State) (n : Byte) : (s.rollDropped n).tracker = s.tracker := by
  unfold State.rollDropped; split <;> simp
@[simp] theorem State.rollDropped_rail (s : State) (n : Byte) : (s.rollDropped n).rail = s.rail := by
  unfold State.rollDropped; split <;> simp
@[simp] theorem State.rollDropped_doors (s : State) (n : Byte) : (s.rollDropped n).doors = s.doors := by
  unfold State.rollDropped; split <;> simp
@[simp] theorem State.rollDropped_link (s : State) (n : Byte) : (s.rollDropped n).link = s.link := by
  unfold State.rollDropped; split <;> simp
@[simp] theorem State.rollDropped_tel (s : State) (n : Byte) : (s.rollDropped n).tel = s.tel := by
  unfold State.rollDropped; split <;> simp
@[simp] theorem State.rollDropped_chain (s : State) (n : Byte) : (s.rollDropped n).chain = s.chain := by
  unfold State.rollDropped; split <;> simp
@[simp] theorem State.rollDropped_admin (s : State) (n : Byte) : (s.rollDropped n).admin = s.admin := by
  unfold State.rollDropped; split <;> simp
@[simp] theorem State.rollDropped_pinHeld (s : State) (n : Byte) : (s.rollDropped n).pinHeld = s.pinHeld := by
  unfold State.rollDropped; split <;> simp
@[simp] theorem State.rollDropped_pending (s : State) (n : Byte) : (s.rollDropped n).pending = s.pending := by
  unfold State.rollDropped; split <;> simp

/-! ## `askFlushed` -/

@[simp] theorem State.askFlushed_station (s : State) (k : Nat) : (s.askFlushed k).station = s.station := by
  unfold State.askFlushed; split <;> (try split) <;> simp
@[simp] theorem State.askFlushed_line (s : State) (k : Nat) : (s.askFlushed k).line = s.line := by
  unfold State.askFlushed; split <;> (try split) <;> simp
@[simp] theorem State.askFlushed_switch (s : State) (k : Nat) : (s.askFlushed k).switch = s.switch := by
  unfold State.askFlushed; split <;> (try split) <;> simp
@[simp] theorem State.askFlushed_rope (s : State) (k : Nat) : (s.askFlushed k).rope = s.rope := by
  unfold State.askFlushed; split <;> (try split) <;> simp
@[simp] theorem State.askFlushed_tracker (s : State) (k : Nat) : (s.askFlushed k).tracker = s.tracker := by
  unfold State.askFlushed; split <;> (try split) <;> simp
@[simp] theorem State.askFlushed_rail (s : State) (k : Nat) : (s.askFlushed k).rail = s.rail := by
  unfold State.askFlushed; split <;> (try split) <;> simp
@[simp] theorem State.askFlushed_doors (s : State) (k : Nat) : (s.askFlushed k).doors = s.doors := by
  unfold State.askFlushed; split <;> (try split) <;> simp
@[simp] theorem State.askFlushed_link (s : State) (k : Nat) : (s.askFlushed k).link = s.link := by
  unfold State.askFlushed; split <;> (try split) <;> simp
@[simp] theorem State.askFlushed_tel (s : State) (k : Nat) : (s.askFlushed k).tel = s.tel := by
  unfold State.askFlushed; split <;> (try split) <;> simp
@[simp] theorem State.askFlushed_chain (s : State) (k : Nat) : (s.askFlushed k).chain = s.chain := by
  unfold State.askFlushed; split <;> (try split) <;> simp
@[simp] theorem State.askFlushed_admin (s : State) (k : Nat) : (s.askFlushed k).admin = s.admin := by
  unfold State.askFlushed; split <;> (try split) <;> simp
@[simp] theorem State.askFlushed_pinHeld (s : State) (k : Nat) : (s.askFlushed k).pinHeld = s.pinHeld := by
  unfold State.askFlushed; split <;> (try split) <;> simp
@[simp] theorem State.askFlushed_pending (s : State) (k : Nat) : (s.askFlushed k).pending = s.pending := by
  unfold State.askFlushed; split <;> (try split) <;> simp

/-! ## `frameDropped` -/

@[simp] theorem State.frameDropped_station (s : State) (f : Frame) : (s.frameDropped f).station = s.station := by
  unfold State.frameDropped; split <;> simp
@[simp] theorem State.frameDropped_line (s : State) (f : Frame) : (s.frameDropped f).line = s.line := by
  unfold State.frameDropped; split <;> simp
@[simp] theorem State.frameDropped_switch (s : State) (f : Frame) : (s.frameDropped f).switch = s.switch := by
  unfold State.frameDropped; split <;> simp
@[simp] theorem State.frameDropped_rope (s : State) (f : Frame) : (s.frameDropped f).rope = s.rope := by
  unfold State.frameDropped; split <;> simp
@[simp] theorem State.frameDropped_tracker (s : State) (f : Frame) : (s.frameDropped f).tracker = s.tracker := by
  unfold State.frameDropped; split <;> simp
@[simp] theorem State.frameDropped_rail (s : State) (f : Frame) : (s.frameDropped f).rail = s.rail := by
  unfold State.frameDropped; split <;> simp
@[simp] theorem State.frameDropped_doors (s : State) (f : Frame) : (s.frameDropped f).doors = s.doors := by
  unfold State.frameDropped; split <;> simp
@[simp] theorem State.frameDropped_link (s : State) (f : Frame) : (s.frameDropped f).link = s.link := by
  unfold State.frameDropped; split <;> simp
@[simp] theorem State.frameDropped_tel (s : State) (f : Frame) : (s.frameDropped f).tel = s.tel := by
  unfold State.frameDropped; split <;> simp
@[simp] theorem State.frameDropped_chain (s : State) (f : Frame) : (s.frameDropped f).chain = s.chain := by
  unfold State.frameDropped; split <;> simp
@[simp] theorem State.frameDropped_admin (s : State) (f : Frame) : (s.frameDropped f).admin = s.admin := by
  unfold State.frameDropped; split <;> simp
@[simp] theorem State.frameDropped_pinHeld (s : State) (f : Frame) : (s.frameDropped f).pinHeld = s.pinHeld := by
  unfold State.frameDropped; split <;> simp
@[simp] theorem State.frameDropped_pending (s : State) (f : Frame) : (s.frameDropped f).pending = s.pending := by
  unfold State.frameDropped; split <;> simp

/-! ## `push` -/

@[simp] theorem State.push_rope (s : State) (p : Port) (c : Fin 4) (f : Frame) : (s.push p c f).1.rope = s.rope := by
  unfold State.push; dsimp only; (repeat' split) <;> simp
@[simp] theorem State.push_tracker (s : State) (p : Port) (c : Fin 4) (f : Frame) : (s.push p c f).1.tracker = s.tracker := by
  unfold State.push; dsimp only; (repeat' split) <;> simp
@[simp] theorem State.push_rail (s : State) (p : Port) (c : Fin 4) (f : Frame) : (s.push p c f).1.rail = s.rail := by
  unfold State.push; dsimp only; (repeat' split) <;> simp
@[simp] theorem State.push_doors (s : State) (p : Port) (c : Fin 4) (f : Frame) : (s.push p c f).1.doors = s.doors := by
  unfold State.push; dsimp only; (repeat' split) <;> simp
@[simp] theorem State.push_link (s : State) (p : Port) (c : Fin 4) (f : Frame) : (s.push p c f).1.link = s.link := by
  unfold State.push; dsimp only; (repeat' split) <;> simp
@[simp] theorem State.push_tel (s : State) (p : Port) (c : Fin 4) (f : Frame) : (s.push p c f).1.tel = s.tel := by
  unfold State.push; dsimp only; (repeat' split) <;> simp
@[simp] theorem State.push_chain (s : State) (p : Port) (c : Fin 4) (f : Frame) : (s.push p c f).1.chain = s.chain := by
  unfold State.push; dsimp only; (repeat' split) <;> simp
@[simp] theorem State.push_admin (s : State) (p : Port) (c : Fin 4) (f : Frame) : (s.push p c f).1.admin = s.admin := by
  unfold State.push; dsimp only; (repeat' split) <;> simp
@[simp] theorem State.push_pinHeld (s : State) (p : Port) (c : Fin 4) (f : Frame) : (s.push p c f).1.pinHeld = s.pinHeld := by
  unfold State.push; dsimp only; (repeat' split) <;> simp
@[simp] theorem State.push_pending (s : State) (p : Port) (c : Fin 4) (f : Frame) : (s.push p c f).1.pending = s.pending := by
  unfold State.push; dsimp only; (repeat' split) <;> simp

/-! ## `sendAsk` -/

@[simp] theorem State.sendAsk_rope (s : State) : (s.sendAsk).rope = s.rope := by unfold State.sendAsk; split <;> simp
@[simp] theorem State.sendAsk_tracker (s : State) : (s.sendAsk).tracker = s.tracker := by
  unfold State.sendAsk; split <;> simp
@[simp] theorem State.sendAsk_rail (s : State) : (s.sendAsk).rail = s.rail := by unfold State.sendAsk; split <;> simp
@[simp] theorem State.sendAsk_doors (s : State) : (s.sendAsk).doors = s.doors := by unfold State.sendAsk; split <;> simp
@[simp] theorem State.sendAsk_link (s : State) : (s.sendAsk).link = s.link := by unfold State.sendAsk; split <;> simp
@[simp] theorem State.sendAsk_tel (s : State) : (s.sendAsk).tel = s.tel := by unfold State.sendAsk; split <;> simp
@[simp] theorem State.sendAsk_chain (s : State) : (s.sendAsk).chain = s.chain := by unfold State.sendAsk; split <;> simp
@[simp] theorem State.sendAsk_admin (s : State) : (s.sendAsk).admin = s.admin := by unfold State.sendAsk; split <;> simp
@[simp] theorem State.sendAsk_pinHeld (s : State) : (s.sendAsk).pinHeld = s.pinHeld := by
  unfold State.sendAsk; split <;> simp
@[simp] theorem State.sendAsk_pending (s : State) : (s.sendAsk).pending = s.pending := by
  unfold State.sendAsk; split <;> simp

/-! ## `dueAsk` -/

@[simp] theorem State.dueAsk_rope (s : State) : (s.dueAsk).rope = s.rope := by
  unfold State.dueAsk; dsimp only; split <;> simp
@[simp] theorem State.dueAsk_tracker (s : State) : (s.dueAsk).tracker = s.tracker := by
  unfold State.dueAsk; dsimp only; split <;> simp
@[simp] theorem State.dueAsk_rail (s : State) : (s.dueAsk).rail = s.rail := by
  unfold State.dueAsk; dsimp only; split <;> simp
@[simp] theorem State.dueAsk_doors (s : State) : (s.dueAsk).doors = s.doors := by
  unfold State.dueAsk; dsimp only; split <;> simp
@[simp] theorem State.dueAsk_link (s : State) : (s.dueAsk).link = s.link := by
  unfold State.dueAsk; dsimp only; split <;> simp
@[simp] theorem State.dueAsk_tel (s : State) : (s.dueAsk).tel = s.tel := by
  unfold State.dueAsk; dsimp only; split <;> simp
@[simp] theorem State.dueAsk_chain (s : State) : (s.dueAsk).chain = s.chain := by
  unfold State.dueAsk; dsimp only; split <;> simp
@[simp] theorem State.dueAsk_admin (s : State) : (s.dueAsk).admin = s.admin := by
  unfold State.dueAsk; dsimp only; split <;> simp
@[simp] theorem State.dueAsk_pinHeld (s : State) : (s.dueAsk).pinHeld = s.pinHeld := by
  unfold State.dueAsk; dsimp only; split <;> simp
@[simp] theorem State.dueAsk_pending (s : State) : (s.dueAsk).pending = s.pending := by
  unfold State.dueAsk; dsimp only; split <;> simp

/-! ## `settle` -/

@[simp] theorem State.settle_rope (s : State) (p : Port) : (s.settle p).rope = s.rope := by
  cases p <;> simp [State.settle]
@[simp] theorem State.settle_tracker (s : State) (p : Port) : (s.settle p).tracker = s.tracker := by
  cases p <;> simp [State.settle]
@[simp] theorem State.settle_rail (s : State) (p : Port) : (s.settle p).rail = s.rail := by
  cases p <;> simp [State.settle]
@[simp] theorem State.settle_doors (s : State) (p : Port) : (s.settle p).doors = s.doors := by
  cases p <;> simp [State.settle]
@[simp] theorem State.settle_link (s : State) (p : Port) : (s.settle p).link = s.link := by
  cases p <;> simp [State.settle]
@[simp] theorem State.settle_tel (s : State) (p : Port) : (s.settle p).tel = s.tel := by cases p <;> simp [State.settle]
@[simp] theorem State.settle_chain (s : State) (p : Port) : (s.settle p).chain = s.chain := by
  cases p <;> simp [State.settle]
@[simp] theorem State.settle_admin (s : State) (p : Port) : (s.settle p).admin = s.admin := by
  cases p <;> simp [State.settle]
@[simp] theorem State.settle_pinHeld (s : State) (p : Port) : (s.settle p).pinHeld = s.pinHeld := by
  cases p <;> simp [State.settle]
@[simp] theorem State.settle_pending (s : State) (p : Port) : (s.settle p).pending = s.pending := by
  cases p <;> simp [State.settle]

/-! ## `offerSaying` -/

@[simp] theorem State.offerSaying_rope (s : State) (p : Port) (c : Fin 4) (f : Frame) : (s.offerSaying p c f).1.rope = s.rope := by
  simp [State.offerSaying]
@[simp] theorem State.offerSaying_tracker (s : State) (p : Port) (c : Fin 4) (f : Frame) : (s.offerSaying p c f).1.tracker = s.tracker := by
  simp [State.offerSaying]
@[simp] theorem State.offerSaying_rail (s : State) (p : Port) (c : Fin 4) (f : Frame) : (s.offerSaying p c f).1.rail = s.rail := by
  simp [State.offerSaying]
@[simp] theorem State.offerSaying_doors (s : State) (p : Port) (c : Fin 4) (f : Frame) : (s.offerSaying p c f).1.doors = s.doors := by
  simp [State.offerSaying]
@[simp] theorem State.offerSaying_link (s : State) (p : Port) (c : Fin 4) (f : Frame) : (s.offerSaying p c f).1.link = s.link := by
  simp [State.offerSaying]
@[simp] theorem State.offerSaying_tel (s : State) (p : Port) (c : Fin 4) (f : Frame) : (s.offerSaying p c f).1.tel = s.tel := by
  simp [State.offerSaying]
@[simp] theorem State.offerSaying_chain (s : State) (p : Port) (c : Fin 4) (f : Frame) : (s.offerSaying p c f).1.chain = s.chain := by
  simp [State.offerSaying]
@[simp] theorem State.offerSaying_admin (s : State) (p : Port) (c : Fin 4) (f : Frame) : (s.offerSaying p c f).1.admin = s.admin := by
  simp [State.offerSaying]
@[simp] theorem State.offerSaying_pinHeld (s : State) (p : Port) (c : Fin 4) (f : Frame) : (s.offerSaying p c f).1.pinHeld = s.pinHeld := by
  simp [State.offerSaying]
@[simp] theorem State.offerSaying_pending (s : State) (p : Port) (c : Fin 4) (f : Frame) : (s.offerSaying p c f).1.pending = s.pending := by
  simp [State.offerSaying]

/-! ## `offer` -/

@[simp] theorem State.offer_rope (s : State) (p : Port) (c : Fin 4) (f : Frame) : (s.offer p c f).rope = s.rope := by
  simp [State.offer]
@[simp] theorem State.offer_tracker (s : State) (p : Port) (c : Fin 4) (f : Frame) : (s.offer p c f).tracker = s.tracker := by
  simp [State.offer]
@[simp] theorem State.offer_rail (s : State) (p : Port) (c : Fin 4) (f : Frame) : (s.offer p c f).rail = s.rail := by
  simp [State.offer]
@[simp] theorem State.offer_doors (s : State) (p : Port) (c : Fin 4) (f : Frame) : (s.offer p c f).doors = s.doors := by
  simp [State.offer]
@[simp] theorem State.offer_link (s : State) (p : Port) (c : Fin 4) (f : Frame) : (s.offer p c f).link = s.link := by
  simp [State.offer]
@[simp] theorem State.offer_tel (s : State) (p : Port) (c : Fin 4) (f : Frame) : (s.offer p c f).tel = s.tel := by
  simp [State.offer]
@[simp] theorem State.offer_chain (s : State) (p : Port) (c : Fin 4) (f : Frame) : (s.offer p c f).chain = s.chain := by
  simp [State.offer]
@[simp] theorem State.offer_admin (s : State) (p : Port) (c : Fin 4) (f : Frame) : (s.offer p c f).admin = s.admin := by
  simp [State.offer]
@[simp] theorem State.offer_pinHeld (s : State) (p : Port) (c : Fin 4) (f : Frame) : (s.offer p c f).pinHeld = s.pinHeld := by
  simp [State.offer]
@[simp] theorem State.offer_pending (s : State) (p : Port) (c : Fin 4) (f : Frame) : (s.offer p c f).pending = s.pending := by
  simp [State.offer]

/-! ## `notice` -/

@[simp] theorem State.notice_rope (s : State) (r : NoticeReason) : (s.notice r).rope = s.rope := by
  unfold State.notice; split <;> simp
@[simp] theorem State.notice_tracker (s : State) (r : NoticeReason) : (s.notice r).tracker = s.tracker := by
  unfold State.notice; split <;> simp
@[simp] theorem State.notice_rail (s : State) (r : NoticeReason) : (s.notice r).rail = s.rail := by
  unfold State.notice; split <;> simp
@[simp] theorem State.notice_doors (s : State) (r : NoticeReason) : (s.notice r).doors = s.doors := by
  unfold State.notice; split <;> simp
@[simp] theorem State.notice_link (s : State) (r : NoticeReason) : (s.notice r).link = s.link := by
  unfold State.notice; split <;> simp
@[simp] theorem State.notice_tel (s : State) (r : NoticeReason) : (s.notice r).tel = s.tel := by
  unfold State.notice; split <;> simp
@[simp] theorem State.notice_chain (s : State) (r : NoticeReason) : (s.notice r).chain = s.chain := by
  unfold State.notice; split <;> simp
@[simp] theorem State.notice_pinHeld (s : State) (r : NoticeReason) : (s.notice r).pinHeld = s.pinHeld := by
  unfold State.notice; split <;> simp
@[simp] theorem State.notice_pending (s : State) (r : NoticeReason) : (s.notice r).pending = s.pending := by
  unfold State.notice; split <;> simp
@[simp] theorem State.notice_part (s : State) (r : NoticeReason) : (s.notice r).admin.part = s.admin.part := by
  unfold State.notice; split <;> simp

/-! ## `modChannel` -/

@[simp] theorem State.modChannel_station (s : State) (k : Fin 8) (f : Channel → Channel) : (s.modChannel k f).station = s.station := rfl
@[simp] theorem State.modChannel_line (s : State) (k : Fin 8) (f : Channel → Channel) : (s.modChannel k f).line = s.line := rfl
@[simp] theorem State.modChannel_switch (s : State) (k : Fin 8) (f : Channel → Channel) : (s.modChannel k f).switch = s.switch := rfl
@[simp] theorem State.modChannel_poller (s : State) (k : Fin 8) (f : Channel → Channel) : (s.modChannel k f).poller = s.poller := rfl
@[simp] theorem State.modChannel_rope (s : State) (k : Fin 8) (f : Channel → Channel) : (s.modChannel k f).rope = s.rope := rfl
@[simp] theorem State.modChannel_tracker (s : State) (k : Fin 8) (f : Channel → Channel) : (s.modChannel k f).tracker = s.tracker := rfl
@[simp] theorem State.modChannel_rail (s : State) (k : Fin 8) (f : Channel → Channel) : (s.modChannel k f).rail = s.rail := rfl
@[simp] theorem State.modChannel_link (s : State) (k : Fin 8) (f : Channel → Channel) : (s.modChannel k f).link = s.link := rfl
@[simp] theorem State.modChannel_tel (s : State) (k : Fin 8) (f : Channel → Channel) : (s.modChannel k f).tel = s.tel := rfl
@[simp] theorem State.modChannel_chain (s : State) (k : Fin 8) (f : Channel → Channel) : (s.modChannel k f).chain = s.chain := rfl
@[simp] theorem State.modChannel_admin (s : State) (k : Fin 8) (f : Channel → Channel) : (s.modChannel k f).admin = s.admin := rfl
@[simp] theorem State.modChannel_pinHeld (s : State) (k : Fin 8) (f : Channel → Channel) : (s.modChannel k f).pinHeld = s.pinHeld := rfl
@[simp] theorem State.modChannel_pending (s : State) (k : Fin 8) (f : Channel → Channel) : (s.modChannel k f).pending = s.pending := rfl

/-! ## `doorWrite` -/

@[simp] theorem State.doorWrite_station (s : State) (n : BitVec 16) (d : DoorState) : (s.doorWrite n d).station = s.station := by
  unfold State.doorWrite; split <;> simp
@[simp] theorem State.doorWrite_line (s : State) (n : BitVec 16) (d : DoorState) : (s.doorWrite n d).line = s.line := by
  unfold State.doorWrite; split <;> simp
@[simp] theorem State.doorWrite_switch (s : State) (n : BitVec 16) (d : DoorState) : (s.doorWrite n d).switch = s.switch := by
  unfold State.doorWrite; split <;> simp
@[simp] theorem State.doorWrite_poller (s : State) (n : BitVec 16) (d : DoorState) : (s.doorWrite n d).poller = s.poller := by
  unfold State.doorWrite; split <;> simp
@[simp] theorem State.doorWrite_rope (s : State) (n : BitVec 16) (d : DoorState) : (s.doorWrite n d).rope = s.rope := by
  unfold State.doorWrite; split <;> simp
@[simp] theorem State.doorWrite_tracker (s : State) (n : BitVec 16) (d : DoorState) : (s.doorWrite n d).tracker = s.tracker := by
  unfold State.doorWrite; split <;> simp
@[simp] theorem State.doorWrite_doors (s : State) (n : BitVec 16) (d : DoorState) : (s.doorWrite n d).doors = s.doors := by
  unfold State.doorWrite; split <;> simp
@[simp] theorem State.doorWrite_link (s : State) (n : BitVec 16) (d : DoorState) : (s.doorWrite n d).link = s.link := by
  unfold State.doorWrite; split <;> simp
@[simp] theorem State.doorWrite_tel (s : State) (n : BitVec 16) (d : DoorState) : (s.doorWrite n d).tel = s.tel := by
  unfold State.doorWrite; split <;> simp
@[simp] theorem State.doorWrite_chain (s : State) (n : BitVec 16) (d : DoorState) : (s.doorWrite n d).chain = s.chain := by
  unfold State.doorWrite; split <;> simp
@[simp] theorem State.doorWrite_admin (s : State) (n : BitVec 16) (d : DoorState) : (s.doorWrite n d).admin = s.admin := by
  unfold State.doorWrite; split <;> simp
@[simp] theorem State.doorWrite_pinHeld (s : State) (n : BitVec 16) (d : DoorState) : (s.doorWrite n d).pinHeld = s.pinHeld := by
  unfold State.doorWrite; split <;> simp
@[simp] theorem State.doorWrite_pending (s : State) (n : BitVec 16) (d : DoorState) : (s.doorWrite n d).pending = s.pending := by
  unfold State.doorWrite; split <;> simp

/-! ## `channelWrite` -/

@[simp] theorem State.channelWrite_station (s : State) (k : Fin 8) (d : DoorState) : (s.channelWrite k d).station = s.station := by
  unfold State.channelWrite; split <;> (try split) <;> simp
@[simp] theorem State.channelWrite_line (s : State) (k : Fin 8) (d : DoorState) : (s.channelWrite k d).line = s.line := by
  unfold State.channelWrite; split <;> (try split) <;> simp
@[simp] theorem State.channelWrite_switch (s : State) (k : Fin 8) (d : DoorState) : (s.channelWrite k d).switch = s.switch := by
  unfold State.channelWrite; split <;> (try split) <;> simp
@[simp] theorem State.channelWrite_poller (s : State) (k : Fin 8) (d : DoorState) : (s.channelWrite k d).poller = s.poller := by
  unfold State.channelWrite; split <;> (try split) <;> simp
@[simp] theorem State.channelWrite_rope (s : State) (k : Fin 8) (d : DoorState) : (s.channelWrite k d).rope = s.rope := by
  unfold State.channelWrite; split <;> (try split) <;> simp
@[simp] theorem State.channelWrite_tracker (s : State) (k : Fin 8) (d : DoorState) : (s.channelWrite k d).tracker = s.tracker := by
  unfold State.channelWrite; split <;> (try split) <;> simp
@[simp] theorem State.channelWrite_link (s : State) (k : Fin 8) (d : DoorState) : (s.channelWrite k d).link = s.link := by
  unfold State.channelWrite; split <;> (try split) <;> simp
@[simp] theorem State.channelWrite_tel (s : State) (k : Fin 8) (d : DoorState) : (s.channelWrite k d).tel = s.tel := by
  unfold State.channelWrite; split <;> (try split) <;> simp
@[simp] theorem State.channelWrite_chain (s : State) (k : Fin 8) (d : DoorState) : (s.channelWrite k d).chain = s.chain := by
  unfold State.channelWrite; split <;> (try split) <;> simp
@[simp] theorem State.channelWrite_admin (s : State) (k : Fin 8) (d : DoorState) : (s.channelWrite k d).admin = s.admin := by
  unfold State.channelWrite; split <;> (try split) <;> simp
@[simp] theorem State.channelWrite_pinHeld (s : State) (k : Fin 8) (d : DoorState) : (s.channelWrite k d).pinHeld = s.pinHeld := by
  unfold State.channelWrite; split <;> (try split) <;> simp
@[simp] theorem State.channelWrite_pending (s : State) (k : Fin 8) (d : DoorState) : (s.channelWrite k d).pending = s.pending := by
  unfold State.channelWrite; split <;> (try split) <;> simp

/-! ## `haltChannel` -/

@[simp] theorem State.haltChannel_station (s : State) (k : Fin 8) : (s.haltChannel k).station = s.station := by
  unfold State.haltChannel; dsimp only; split <;> (try split) <;> simp
@[simp] theorem State.haltChannel_line (s : State) (k : Fin 8) : (s.haltChannel k).line = s.line := by
  unfold State.haltChannel; dsimp only; split <;> (try split) <;> simp
@[simp] theorem State.haltChannel_switch (s : State) (k : Fin 8) : (s.haltChannel k).switch = s.switch := by
  unfold State.haltChannel; dsimp only; split <;> (try split) <;> simp
@[simp] theorem State.haltChannel_poller (s : State) (k : Fin 8) : (s.haltChannel k).poller = s.poller := by
  unfold State.haltChannel; dsimp only; split <;> (try split) <;> simp
@[simp] theorem State.haltChannel_rope (s : State) (k : Fin 8) : (s.haltChannel k).rope = s.rope := by
  unfold State.haltChannel; dsimp only; split <;> (try split) <;> simp
@[simp] theorem State.haltChannel_tracker (s : State) (k : Fin 8) : (s.haltChannel k).tracker = s.tracker := by
  unfold State.haltChannel; dsimp only; split <;> (try split) <;> simp
@[simp] theorem State.haltChannel_link (s : State) (k : Fin 8) : (s.haltChannel k).link = s.link := by
  unfold State.haltChannel; dsimp only; split <;> (try split) <;> simp
@[simp] theorem State.haltChannel_tel (s : State) (k : Fin 8) : (s.haltChannel k).tel = s.tel := by
  unfold State.haltChannel; dsimp only; split <;> (try split) <;> simp
@[simp] theorem State.haltChannel_chain (s : State) (k : Fin 8) : (s.haltChannel k).chain = s.chain := by
  unfold State.haltChannel; dsimp only; split <;> (try split) <;> simp
@[simp] theorem State.haltChannel_admin (s : State) (k : Fin 8) : (s.haltChannel k).admin = s.admin := by
  unfold State.haltChannel; dsimp only; split <;> (try split) <;> simp
@[simp] theorem State.haltChannel_pinHeld (s : State) (k : Fin 8) : (s.haltChannel k).pinHeld = s.pinHeld := by
  unfold State.haltChannel; dsimp only; split <;> (try split) <;> simp
@[simp] theorem State.haltChannel_pending (s : State) (k : Fin 8) : (s.haltChannel k).pending = s.pending := by
  unfold State.haltChannel; dsimp only; split <;> (try split) <;> simp

/-! ## `haltAll` -/

@[simp] theorem State.haltAll_station (s : State) : (s.haltAll).station = s.station := by
  simp [State.haltAll, allChannels]
@[simp] theorem State.haltAll_line (s : State) : (s.haltAll).line = s.line := by simp [State.haltAll, allChannels]
@[simp] theorem State.haltAll_switch (s : State) : (s.haltAll).switch = s.switch := by simp [State.haltAll, allChannels]
@[simp] theorem State.haltAll_poller (s : State) : (s.haltAll).poller = s.poller := by simp [State.haltAll, allChannels]
@[simp] theorem State.haltAll_rope (s : State) : (s.haltAll).rope = s.rope := by simp [State.haltAll, allChannels]
@[simp] theorem State.haltAll_tracker (s : State) : (s.haltAll).tracker = s.tracker := by
  simp [State.haltAll, allChannels]
@[simp] theorem State.haltAll_link (s : State) : (s.haltAll).link = s.link := by simp [State.haltAll, allChannels]
@[simp] theorem State.haltAll_tel (s : State) : (s.haltAll).tel = s.tel := by simp [State.haltAll, allChannels]
@[simp] theorem State.haltAll_chain (s : State) : (s.haltAll).chain = s.chain := by simp [State.haltAll, allChannels]
@[simp] theorem State.haltAll_admin (s : State) : (s.haltAll).admin = s.admin := by simp [State.haltAll, allChannels]
@[simp] theorem State.haltAll_pinHeld (s : State) : (s.haltAll).pinHeld = s.pinHeld := by
  simp [State.haltAll, allChannels]
@[simp] theorem State.haltAll_pending (s : State) : (s.haltAll).pending = s.pending := by
  simp [State.haltAll, allChannels]

/-! ## `releaseAll` -/

@[simp] theorem State.releaseAll_station (s : State) : (s.releaseAll).station = s.station := rfl
@[simp] theorem State.releaseAll_line (s : State) : (s.releaseAll).line = s.line := rfl
@[simp] theorem State.releaseAll_switch (s : State) : (s.releaseAll).switch = s.switch := rfl
@[simp] theorem State.releaseAll_poller (s : State) : (s.releaseAll).poller = s.poller := rfl
@[simp] theorem State.releaseAll_rope (s : State) : (s.releaseAll).rope = s.rope := rfl
@[simp] theorem State.releaseAll_tracker (s : State) : (s.releaseAll).tracker = s.tracker := rfl
@[simp] theorem State.releaseAll_rail (s : State) : (s.releaseAll).rail = s.rail := rfl
@[simp] theorem State.releaseAll_link (s : State) : (s.releaseAll).link = s.link := rfl
@[simp] theorem State.releaseAll_tel (s : State) : (s.releaseAll).tel = s.tel := rfl
@[simp] theorem State.releaseAll_chain (s : State) : (s.releaseAll).chain = s.chain := rfl
@[simp] theorem State.releaseAll_admin (s : State) : (s.releaseAll).admin = s.admin := rfl
@[simp] theorem State.releaseAll_pinHeld (s : State) : (s.releaseAll).pinHeld = s.pinHeld := rfl
@[simp] theorem State.releaseAll_pending (s : State) : (s.releaseAll).pending = s.pending := rfl

/-! ## `recordLeft` -/

@[simp] theorem State.recordLeft_station (s : State) (n : BitVec 16) : (s.recordLeft n).station = s.station := rfl
@[simp] theorem State.recordLeft_line (s : State) (n : BitVec 16) : (s.recordLeft n).line = s.line := rfl
@[simp] theorem State.recordLeft_switch (s : State) (n : BitVec 16) : (s.recordLeft n).switch = s.switch := rfl
@[simp] theorem State.recordLeft_poller (s : State) (n : BitVec 16) : (s.recordLeft n).poller = s.poller := rfl
@[simp] theorem State.recordLeft_rope (s : State) (n : BitVec 16) : (s.recordLeft n).rope = s.rope := rfl
@[simp] theorem State.recordLeft_tracker (s : State) (n : BitVec 16) : (s.recordLeft n).tracker = s.tracker := rfl
@[simp] theorem State.recordLeft_rail (s : State) (n : BitVec 16) : (s.recordLeft n).rail = s.rail := rfl
@[simp] theorem State.recordLeft_link (s : State) (n : BitVec 16) : (s.recordLeft n).link = s.link := rfl
@[simp] theorem State.recordLeft_tel (s : State) (n : BitVec 16) : (s.recordLeft n).tel = s.tel := rfl
@[simp] theorem State.recordLeft_chain (s : State) (n : BitVec 16) : (s.recordLeft n).chain = s.chain := rfl
@[simp] theorem State.recordLeft_admin (s : State) (n : BitVec 16) : (s.recordLeft n).admin = s.admin := rfl
@[simp] theorem State.recordLeft_pinHeld (s : State) (n : BitVec 16) : (s.recordLeft n).pinHeld = s.pinHeld := rfl
@[simp] theorem State.recordLeft_pending (s : State) (n : BitVec 16) : (s.recordLeft n).pending = s.pending := rfl

/-! ## `modRecord` -/

@[simp] theorem State.modRecord_station (s : State) (i : Fin 4) (f : CallRecord → CallRecord) : (s.modRecord i f).station = s.station := rfl
@[simp] theorem State.modRecord_line (s : State) (i : Fin 4) (f : CallRecord → CallRecord) : (s.modRecord i f).line = s.line := rfl
@[simp] theorem State.modRecord_switch (s : State) (i : Fin 4) (f : CallRecord → CallRecord) : (s.modRecord i f).switch = s.switch := rfl
@[simp] theorem State.modRecord_poller (s : State) (i : Fin 4) (f : CallRecord → CallRecord) : (s.modRecord i f).poller = s.poller := rfl
@[simp] theorem State.modRecord_rope (s : State) (i : Fin 4) (f : CallRecord → CallRecord) : (s.modRecord i f).rope = s.rope := rfl
@[simp] theorem State.modRecord_tracker (s : State) (i : Fin 4) (f : CallRecord → CallRecord) : (s.modRecord i f).tracker = s.tracker := rfl
@[simp] theorem State.modRecord_rail (s : State) (i : Fin 4) (f : CallRecord → CallRecord) : (s.modRecord i f).rail = s.rail := rfl
@[simp] theorem State.modRecord_doors (s : State) (i : Fin 4) (f : CallRecord → CallRecord) : (s.modRecord i f).doors = s.doors := rfl
@[simp] theorem State.modRecord_link (s : State) (i : Fin 4) (f : CallRecord → CallRecord) : (s.modRecord i f).link = s.link := rfl
@[simp] theorem State.modRecord_chain (s : State) (i : Fin 4) (f : CallRecord → CallRecord) : (s.modRecord i f).chain = s.chain := rfl
@[simp] theorem State.modRecord_admin (s : State) (i : Fin 4) (f : CallRecord → CallRecord) : (s.modRecord i f).admin = s.admin := rfl
@[simp] theorem State.modRecord_pinHeld (s : State) (i : Fin 4) (f : CallRecord → CallRecord) : (s.modRecord i f).pinHeld = s.pinHeld := rfl
@[simp] theorem State.modRecord_pending (s : State) (i : Fin 4) (f : CallRecord → CallRecord) : (s.modRecord i f).pending = s.pending := rfl

/-! ## `modVoice` -/

@[simp] theorem State.modVoice_station (s : State) (v : VoiceName) (f : VoiceUnit → VoiceUnit) : (s.modVoice v f).station = s.station := rfl
@[simp] theorem State.modVoice_line (s : State) (v : VoiceName) (f : VoiceUnit → VoiceUnit) : (s.modVoice v f).line = s.line := rfl
@[simp] theorem State.modVoice_switch (s : State) (v : VoiceName) (f : VoiceUnit → VoiceUnit) : (s.modVoice v f).switch = s.switch := rfl
@[simp] theorem State.modVoice_poller (s : State) (v : VoiceName) (f : VoiceUnit → VoiceUnit) : (s.modVoice v f).poller = s.poller := rfl
@[simp] theorem State.modVoice_rope (s : State) (v : VoiceName) (f : VoiceUnit → VoiceUnit) : (s.modVoice v f).rope = s.rope := rfl
@[simp] theorem State.modVoice_tracker (s : State) (v : VoiceName) (f : VoiceUnit → VoiceUnit) : (s.modVoice v f).tracker = s.tracker := rfl
@[simp] theorem State.modVoice_rail (s : State) (v : VoiceName) (f : VoiceUnit → VoiceUnit) : (s.modVoice v f).rail = s.rail := rfl
@[simp] theorem State.modVoice_doors (s : State) (v : VoiceName) (f : VoiceUnit → VoiceUnit) : (s.modVoice v f).doors = s.doors := rfl
@[simp] theorem State.modVoice_link (s : State) (v : VoiceName) (f : VoiceUnit → VoiceUnit) : (s.modVoice v f).link = s.link := rfl
@[simp] theorem State.modVoice_chain (s : State) (v : VoiceName) (f : VoiceUnit → VoiceUnit) : (s.modVoice v f).chain = s.chain := rfl
@[simp] theorem State.modVoice_admin (s : State) (v : VoiceName) (f : VoiceUnit → VoiceUnit) : (s.modVoice v f).admin = s.admin := rfl
@[simp] theorem State.modVoice_pinHeld (s : State) (v : VoiceName) (f : VoiceUnit → VoiceUnit) : (s.modVoice v f).pinHeld = s.pinHeld := rfl
@[simp] theorem State.modVoice_pending (s : State) (v : VoiceName) (f : VoiceUnit → VoiceUnit) : (s.modVoice v f).pending = s.pending := rfl

/-! ## `offerCall` -/

@[simp] theorem State.offerCall_rope (s : State) (f : Option Frame) : (s.offerCall f).rope = s.rope := by
  cases f <;> simp [State.offerCall]
@[simp] theorem State.offerCall_tracker (s : State) (f : Option Frame) : (s.offerCall f).tracker = s.tracker := by
  cases f <;> simp [State.offerCall]
@[simp] theorem State.offerCall_rail (s : State) (f : Option Frame) : (s.offerCall f).rail = s.rail := by
  cases f <;> simp [State.offerCall]
@[simp] theorem State.offerCall_doors (s : State) (f : Option Frame) : (s.offerCall f).doors = s.doors := by
  cases f <;> simp [State.offerCall]
@[simp] theorem State.offerCall_link (s : State) (f : Option Frame) : (s.offerCall f).link = s.link := by
  cases f <;> simp [State.offerCall]
@[simp] theorem State.offerCall_tel (s : State) (f : Option Frame) : (s.offerCall f).tel = s.tel := by
  cases f <;> simp [State.offerCall]
@[simp] theorem State.offerCall_chain (s : State) (f : Option Frame) : (s.offerCall f).chain = s.chain := by
  cases f <;> simp [State.offerCall]
@[simp] theorem State.offerCall_admin (s : State) (f : Option Frame) : (s.offerCall f).admin = s.admin := by
  cases f <;> simp [State.offerCall]
@[simp] theorem State.offerCall_pinHeld (s : State) (f : Option Frame) : (s.offerCall f).pinHeld = s.pinHeld := by
  cases f <;> simp [State.offerCall]
@[simp] theorem State.offerCall_pending (s : State) (f : Option Frame) : (s.offerCall f).pending = s.pending := by
  cases f <;> simp [State.offerCall]

/-! ## `sendCall` -/

@[simp] theorem State.sendCall_rope (s : State) (i : Fin 4) (sub : CallSub) : (s.sendCall i sub).rope = s.rope := by
  simp [State.sendCall]
@[simp] theorem State.sendCall_tracker (s : State) (i : Fin 4) (sub : CallSub) : (s.sendCall i sub).tracker = s.tracker := by
  simp [State.sendCall]
@[simp] theorem State.sendCall_rail (s : State) (i : Fin 4) (sub : CallSub) : (s.sendCall i sub).rail = s.rail := by
  simp [State.sendCall]
@[simp] theorem State.sendCall_doors (s : State) (i : Fin 4) (sub : CallSub) : (s.sendCall i sub).doors = s.doors := by
  simp [State.sendCall]
@[simp] theorem State.sendCall_link (s : State) (i : Fin 4) (sub : CallSub) : (s.sendCall i sub).link = s.link := by
  simp [State.sendCall]
@[simp] theorem State.sendCall_tel (s : State) (i : Fin 4) (sub : CallSub) : (s.sendCall i sub).tel = s.tel := by
  simp [State.sendCall]
@[simp] theorem State.sendCall_chain (s : State) (i : Fin 4) (sub : CallSub) : (s.sendCall i sub).chain = s.chain := by
  simp [State.sendCall]
@[simp] theorem State.sendCall_admin (s : State) (i : Fin 4) (sub : CallSub) : (s.sendCall i sub).admin = s.admin := by
  simp [State.sendCall]
@[simp] theorem State.sendCall_pinHeld (s : State) (i : Fin 4) (sub : CallSub) : (s.sendCall i sub).pinHeld = s.pinHeld := by
  simp [State.sendCall]
@[simp] theorem State.sendCall_pending (s : State) (i : Fin 4) (sub : CallSub) : (s.sendCall i sub).pending = s.pending := by
  simp [State.sendCall]

/-! ## `releaseChannel` -/

@[simp] theorem State.releaseChannel_station (s : State) (i : Fin 4) : (s.releaseChannel i).station = s.station := by
  unfold State.releaseChannel; split <;> simp
@[simp] theorem State.releaseChannel_line (s : State) (i : Fin 4) : (s.releaseChannel i).line = s.line := by
  unfold State.releaseChannel; split <;> simp
@[simp] theorem State.releaseChannel_switch (s : State) (i : Fin 4) : (s.releaseChannel i).switch = s.switch := by
  unfold State.releaseChannel; split <;> simp
@[simp] theorem State.releaseChannel_poller (s : State) (i : Fin 4) : (s.releaseChannel i).poller = s.poller := by
  unfold State.releaseChannel; split <;> simp
@[simp] theorem State.releaseChannel_rope (s : State) (i : Fin 4) : (s.releaseChannel i).rope = s.rope := by
  unfold State.releaseChannel; split <;> simp
@[simp] theorem State.releaseChannel_tracker (s : State) (i : Fin 4) : (s.releaseChannel i).tracker = s.tracker := by
  unfold State.releaseChannel; split <;> simp
@[simp] theorem State.releaseChannel_rail (s : State) (i : Fin 4) : (s.releaseChannel i).rail = s.rail := by
  unfold State.releaseChannel; split <;> simp
@[simp] theorem State.releaseChannel_doors (s : State) (i : Fin 4) : (s.releaseChannel i).doors = s.doors := by
  unfold State.releaseChannel; split <;> simp
@[simp] theorem State.releaseChannel_link (s : State) (i : Fin 4) : (s.releaseChannel i).link = s.link := by
  unfold State.releaseChannel; split <;> simp
@[simp] theorem State.releaseChannel_chain (s : State) (i : Fin 4) : (s.releaseChannel i).chain = s.chain := by
  unfold State.releaseChannel; split <;> simp
@[simp] theorem State.releaseChannel_admin (s : State) (i : Fin 4) : (s.releaseChannel i).admin = s.admin := by
  unfold State.releaseChannel; split <;> simp
@[simp] theorem State.releaseChannel_pinHeld (s : State) (i : Fin 4) : (s.releaseChannel i).pinHeld = s.pinHeld := by
  unfold State.releaseChannel; split <;> simp
@[simp] theorem State.releaseChannel_pending (s : State) (i : Fin 4) : (s.releaseChannel i).pending = s.pending := by
  unfold State.releaseChannel; split <;> simp

/-! ## `claim` -/

@[simp] theorem State.claim_station (s : State) (i : Fin 4) (v : VoiceName) : (s.claim i v).station = s.station := by
  simp [State.claim]
@[simp] theorem State.claim_line (s : State) (i : Fin 4) (v : VoiceName) : (s.claim i v).line = s.line := by
  simp [State.claim]
@[simp] theorem State.claim_switch (s : State) (i : Fin 4) (v : VoiceName) : (s.claim i v).switch = s.switch := by
  simp [State.claim]
@[simp] theorem State.claim_poller (s : State) (i : Fin 4) (v : VoiceName) : (s.claim i v).poller = s.poller := by
  simp [State.claim]
@[simp] theorem State.claim_rope (s : State) (i : Fin 4) (v : VoiceName) : (s.claim i v).rope = s.rope := by
  simp [State.claim]
@[simp] theorem State.claim_tracker (s : State) (i : Fin 4) (v : VoiceName) : (s.claim i v).tracker = s.tracker := by
  simp [State.claim]
@[simp] theorem State.claim_rail (s : State) (i : Fin 4) (v : VoiceName) : (s.claim i v).rail = s.rail := by
  simp [State.claim]
@[simp] theorem State.claim_doors (s : State) (i : Fin 4) (v : VoiceName) : (s.claim i v).doors = s.doors := by
  simp [State.claim]
@[simp] theorem State.claim_link (s : State) (i : Fin 4) (v : VoiceName) : (s.claim i v).link = s.link := by
  simp [State.claim]
@[simp] theorem State.claim_chain (s : State) (i : Fin 4) (v : VoiceName) : (s.claim i v).chain = s.chain := by
  simp [State.claim]
@[simp] theorem State.claim_admin (s : State) (i : Fin 4) (v : VoiceName) : (s.claim i v).admin = s.admin := by
  simp [State.claim]
@[simp] theorem State.claim_pinHeld (s : State) (i : Fin 4) (v : VoiceName) : (s.claim i v).pinHeld = s.pinHeld := by
  simp [State.claim]
@[simp] theorem State.claim_pending (s : State) (i : Fin 4) (v : VoiceName) : (s.claim i v).pending = s.pending := by
  simp [State.claim]

/-! ## `connect` -/

@[simp] theorem State.connect_station (s : State) (i : Fin 4) : (s.connect i).station = s.station := by
  simp [State.connect]
@[simp] theorem State.connect_line (s : State) (i : Fin 4) : (s.connect i).line = s.line := by simp [State.connect]
@[simp] theorem State.connect_switch (s : State) (i : Fin 4) : (s.connect i).switch = s.switch := by
  simp [State.connect]
@[simp] theorem State.connect_poller (s : State) (i : Fin 4) : (s.connect i).poller = s.poller := by
  simp [State.connect]
@[simp] theorem State.connect_rope (s : State) (i : Fin 4) : (s.connect i).rope = s.rope := by simp [State.connect]
@[simp] theorem State.connect_tracker (s : State) (i : Fin 4) : (s.connect i).tracker = s.tracker := by
  simp [State.connect]
@[simp] theorem State.connect_rail (s : State) (i : Fin 4) : (s.connect i).rail = s.rail := by simp [State.connect]
@[simp] theorem State.connect_doors (s : State) (i : Fin 4) : (s.connect i).doors = s.doors := by simp [State.connect]
@[simp] theorem State.connect_link (s : State) (i : Fin 4) : (s.connect i).link = s.link := by simp [State.connect]
@[simp] theorem State.connect_chain (s : State) (i : Fin 4) : (s.connect i).chain = s.chain := by simp [State.connect]
@[simp] theorem State.connect_admin (s : State) (i : Fin 4) : (s.connect i).admin = s.admin := by simp [State.connect]
@[simp] theorem State.connect_pinHeld (s : State) (i : Fin 4) : (s.connect i).pinHeld = s.pinHeld := by
  simp [State.connect]
@[simp] theorem State.connect_pending (s : State) (i : Fin 4) : (s.connect i).pending = s.pending := by
  simp [State.connect]

/-! ## `ringIn` -/

@[simp] theorem State.ringIn_station (s : State) (i : Fin 4) : (s.ringIn i).station = s.station := by
  simp [State.ringIn]
@[simp] theorem State.ringIn_line (s : State) (i : Fin 4) : (s.ringIn i).line = s.line := by simp [State.ringIn]
@[simp] theorem State.ringIn_switch (s : State) (i : Fin 4) : (s.ringIn i).switch = s.switch := by simp [State.ringIn]
@[simp] theorem State.ringIn_poller (s : State) (i : Fin 4) : (s.ringIn i).poller = s.poller := by simp [State.ringIn]
@[simp] theorem State.ringIn_rope (s : State) (i : Fin 4) : (s.ringIn i).rope = s.rope := by simp [State.ringIn]
@[simp] theorem State.ringIn_tracker (s : State) (i : Fin 4) : (s.ringIn i).tracker = s.tracker := by
  simp [State.ringIn]
@[simp] theorem State.ringIn_rail (s : State) (i : Fin 4) : (s.ringIn i).rail = s.rail := by simp [State.ringIn]
@[simp] theorem State.ringIn_doors (s : State) (i : Fin 4) : (s.ringIn i).doors = s.doors := by simp [State.ringIn]
@[simp] theorem State.ringIn_link (s : State) (i : Fin 4) : (s.ringIn i).link = s.link := by simp [State.ringIn]
@[simp] theorem State.ringIn_chain (s : State) (i : Fin 4) : (s.ringIn i).chain = s.chain := by simp [State.ringIn]
@[simp] theorem State.ringIn_admin (s : State) (i : Fin 4) : (s.ringIn i).admin = s.admin := by simp [State.ringIn]
@[simp] theorem State.ringIn_pinHeld (s : State) (i : Fin 4) : (s.ringIn i).pinHeld = s.pinHeld := by
  simp [State.ringIn]
@[simp] theorem State.ringIn_pending (s : State) (i : Fin 4) : (s.ringIn i).pending = s.pending := by
  simp [State.ringIn]

/-! ## `freeCore` -/

@[simp] theorem State.freeCore_rope (s : State) (i : Fin 4) (reason : ClearReason) (quiet : Bool) : (s.freeCore i reason quiet).rope = s.rope := by
  simp [State.freeCore]
@[simp] theorem State.freeCore_tracker (s : State) (i : Fin 4) (reason : ClearReason) (quiet : Bool) : (s.freeCore i reason quiet).tracker = s.tracker := by
  simp [State.freeCore]
@[simp] theorem State.freeCore_rail (s : State) (i : Fin 4) (reason : ClearReason) (quiet : Bool) : (s.freeCore i reason quiet).rail = s.rail := by
  simp [State.freeCore]
@[simp] theorem State.freeCore_doors (s : State) (i : Fin 4) (reason : ClearReason) (quiet : Bool) : (s.freeCore i reason quiet).doors = s.doors := by
  simp [State.freeCore]
@[simp] theorem State.freeCore_link (s : State) (i : Fin 4) (reason : ClearReason) (quiet : Bool) : (s.freeCore i reason quiet).link = s.link := by
  simp [State.freeCore]
@[simp] theorem State.freeCore_chain (s : State) (i : Fin 4) (reason : ClearReason) (quiet : Bool) : (s.freeCore i reason quiet).chain = s.chain := by
  simp [State.freeCore]
@[simp] theorem State.freeCore_admin (s : State) (i : Fin 4) (reason : ClearReason) (quiet : Bool) : (s.freeCore i reason quiet).admin = s.admin := by
  simp [State.freeCore]
@[simp] theorem State.freeCore_pinHeld (s : State) (i : Fin 4) (reason : ClearReason) (quiet : Bool) : (s.freeCore i reason quiet).pinHeld = s.pinHeld := by
  simp [State.freeCore]
@[simp] theorem State.freeCore_pending (s : State) (i : Fin 4) (reason : ClearReason) (quiet : Bool) : (s.freeCore i reason quiet).pending = s.pending := by
  simp [State.freeCore]

/-! ## `resumeRecord` -/

@[simp] theorem State.resumeRecord_rope (s : State) (i : Fin 4) (v : VoiceName) : (s.resumeRecord i v).rope = s.rope := by
  unfold State.resumeRecord; dsimp only; split <;> simp
@[simp] theorem State.resumeRecord_tracker (s : State) (i : Fin 4) (v : VoiceName) : (s.resumeRecord i v).tracker = s.tracker := by
  unfold State.resumeRecord; dsimp only; split <;> simp
@[simp] theorem State.resumeRecord_rail (s : State) (i : Fin 4) (v : VoiceName) : (s.resumeRecord i v).rail = s.rail := by
  unfold State.resumeRecord; dsimp only; split <;> simp
@[simp] theorem State.resumeRecord_doors (s : State) (i : Fin 4) (v : VoiceName) : (s.resumeRecord i v).doors = s.doors := by
  unfold State.resumeRecord; dsimp only; split <;> simp
@[simp] theorem State.resumeRecord_link (s : State) (i : Fin 4) (v : VoiceName) : (s.resumeRecord i v).link = s.link := by
  unfold State.resumeRecord; dsimp only; split <;> simp
@[simp] theorem State.resumeRecord_chain (s : State) (i : Fin 4) (v : VoiceName) : (s.resumeRecord i v).chain = s.chain := by
  unfold State.resumeRecord; dsimp only; split <;> simp
@[simp] theorem State.resumeRecord_admin (s : State) (i : Fin 4) (v : VoiceName) : (s.resumeRecord i v).admin = s.admin := by
  unfold State.resumeRecord; dsimp only; split <;> simp
@[simp] theorem State.resumeRecord_pinHeld (s : State) (i : Fin 4) (v : VoiceName) : (s.resumeRecord i v).pinHeld = s.pinHeld := by
  unfold State.resumeRecord; dsimp only; split <;> simp
@[simp] theorem State.resumeRecord_pending (s : State) (i : Fin 4) (v : VoiceName) : (s.resumeRecord i v).pending = s.pending := by
  unfold State.resumeRecord; dsimp only; split <;> simp

/-! ## `resumeHeld` -/

@[simp] theorem State.resumeHeld_rope (s : State) (k : Nat) : (s.resumeHeld k).rope = s.rope := by
  induction k generalizing s with
  | zero => rfl
  | succ k ih => unfold State.resumeHeld; split <;> simp [ih]
@[simp] theorem State.resumeHeld_tracker (s : State) (k : Nat) : (s.resumeHeld k).tracker = s.tracker := by
  induction k generalizing s with
  | zero => rfl
  | succ k ih => unfold State.resumeHeld; split <;> simp [ih]
@[simp] theorem State.resumeHeld_rail (s : State) (k : Nat) : (s.resumeHeld k).rail = s.rail := by
  induction k generalizing s with
  | zero => rfl
  | succ k ih => unfold State.resumeHeld; split <;> simp [ih]
@[simp] theorem State.resumeHeld_doors (s : State) (k : Nat) : (s.resumeHeld k).doors = s.doors := by
  induction k generalizing s with
  | zero => rfl
  | succ k ih => unfold State.resumeHeld; split <;> simp [ih]
@[simp] theorem State.resumeHeld_link (s : State) (k : Nat) : (s.resumeHeld k).link = s.link := by
  induction k generalizing s with
  | zero => rfl
  | succ k ih => unfold State.resumeHeld; split <;> simp [ih]
@[simp] theorem State.resumeHeld_chain (s : State) (k : Nat) : (s.resumeHeld k).chain = s.chain := by
  induction k generalizing s with
  | zero => rfl
  | succ k ih => unfold State.resumeHeld; split <;> simp [ih]
@[simp] theorem State.resumeHeld_admin (s : State) (k : Nat) : (s.resumeHeld k).admin = s.admin := by
  induction k generalizing s with
  | zero => rfl
  | succ k ih => unfold State.resumeHeld; split <;> simp [ih]
@[simp] theorem State.resumeHeld_pinHeld (s : State) (k : Nat) : (s.resumeHeld k).pinHeld = s.pinHeld := by
  induction k generalizing s with
  | zero => rfl
  | succ k ih => unfold State.resumeHeld; split <;> simp [ih]
@[simp] theorem State.resumeHeld_pending (s : State) (k : Nat) : (s.resumeHeld k).pending = s.pending := by
  induction k generalizing s with
  | zero => rfl
  | succ k ih => unfold State.resumeHeld; split <;> simp [ih]

/-! ## `resumption` -/

@[simp] theorem State.resumption_rope (s : State) : (s.resumption).rope = s.rope := by simp [State.resumption]
@[simp] theorem State.resumption_tracker (s : State) : (s.resumption).tracker = s.tracker := by simp [State.resumption]
@[simp] theorem State.resumption_rail (s : State) : (s.resumption).rail = s.rail := by simp [State.resumption]
@[simp] theorem State.resumption_doors (s : State) : (s.resumption).doors = s.doors := by simp [State.resumption]
@[simp] theorem State.resumption_link (s : State) : (s.resumption).link = s.link := by simp [State.resumption]
@[simp] theorem State.resumption_chain (s : State) : (s.resumption).chain = s.chain := by simp [State.resumption]
@[simp] theorem State.resumption_admin (s : State) : (s.resumption).admin = s.admin := by simp [State.resumption]
@[simp] theorem State.resumption_pinHeld (s : State) : (s.resumption).pinHeld = s.pinHeld := by simp [State.resumption]
@[simp] theorem State.resumption_pending (s : State) : (s.resumption).pending = s.pending := by simp [State.resumption]

/-! ## `takeVictim` -/

@[simp] theorem State.takeVictim_rope (s : State) (j : Fin 4) : (s.takeVictim j).rope = s.rope := by
  unfold State.takeVictim; dsimp only; split <;> simp
@[simp] theorem State.takeVictim_tracker (s : State) (j : Fin 4) : (s.takeVictim j).tracker = s.tracker := by
  unfold State.takeVictim; dsimp only; split <;> simp
@[simp] theorem State.takeVictim_rail (s : State) (j : Fin 4) : (s.takeVictim j).rail = s.rail := by
  unfold State.takeVictim; dsimp only; split <;> simp
@[simp] theorem State.takeVictim_doors (s : State) (j : Fin 4) : (s.takeVictim j).doors = s.doors := by
  unfold State.takeVictim; dsimp only; split <;> simp
@[simp] theorem State.takeVictim_link (s : State) (j : Fin 4) : (s.takeVictim j).link = s.link := by
  unfold State.takeVictim; dsimp only; split <;> simp
@[simp] theorem State.takeVictim_chain (s : State) (j : Fin 4) : (s.takeVictim j).chain = s.chain := by
  unfold State.takeVictim; dsimp only; split <;> simp
@[simp] theorem State.takeVictim_admin (s : State) (j : Fin 4) : (s.takeVictim j).admin = s.admin := by
  unfold State.takeVictim; dsimp only; split <;> simp
@[simp] theorem State.takeVictim_pinHeld (s : State) (j : Fin 4) : (s.takeVictim j).pinHeld = s.pinHeld := by
  unfold State.takeVictim; dsimp only; split <;> simp
@[simp] theorem State.takeVictim_pending (s : State) (j : Fin 4) : (s.takeVictim j).pending = s.pending := by
  unfold State.takeVictim; dsimp only; split <;> simp

/-! ## `setupCall` -/

@[simp] theorem State.setupCall_rope (s : State) (i : Fin 4) (r : CallRecord) (v : VoiceName) : (s.setupCall i r v).rope = s.rope := by
  simp [State.setupCall]
@[simp] theorem State.setupCall_tracker (s : State) (i : Fin 4) (r : CallRecord) (v : VoiceName) : (s.setupCall i r v).tracker = s.tracker := by
  simp [State.setupCall]
@[simp] theorem State.setupCall_rail (s : State) (i : Fin 4) (r : CallRecord) (v : VoiceName) : (s.setupCall i r v).rail = s.rail := by
  simp [State.setupCall]
@[simp] theorem State.setupCall_doors (s : State) (i : Fin 4) (r : CallRecord) (v : VoiceName) : (s.setupCall i r v).doors = s.doors := by
  simp [State.setupCall]
@[simp] theorem State.setupCall_link (s : State) (i : Fin 4) (r : CallRecord) (v : VoiceName) : (s.setupCall i r v).link = s.link := by
  simp [State.setupCall]
@[simp] theorem State.setupCall_chain (s : State) (i : Fin 4) (r : CallRecord) (v : VoiceName) : (s.setupCall i r v).chain = s.chain := by
  simp [State.setupCall]
@[simp] theorem State.setupCall_admin (s : State) (i : Fin 4) (r : CallRecord) (v : VoiceName) : (s.setupCall i r v).admin = s.admin := by
  simp [State.setupCall]
@[simp] theorem State.setupCall_pinHeld (s : State) (i : Fin 4) (r : CallRecord) (v : VoiceName) : (s.setupCall i r v).pinHeld = s.pinHeld := by
  simp [State.setupCall]
@[simp] theorem State.setupCall_pending (s : State) (i : Fin 4) (r : CallRecord) (v : VoiceName) : (s.setupCall i r v).pending = s.pending := by
  simp [State.setupCall]

/-! ## `takeVictims` -/

@[simp] theorem State.takeVictims_rope (l : List (Fin 4)) (s : State) : (l.foldl State.takeVictim s).rope = s.rope := by
  induction l generalizing s with
  | nil => rfl
  | cons a l ih => simp [ih]
@[simp] theorem State.takeVictims_tracker (l : List (Fin 4)) (s : State) : (l.foldl State.takeVictim s).tracker = s.tracker := by
  induction l generalizing s with
  | nil => rfl
  | cons a l ih => simp [ih]
@[simp] theorem State.takeVictims_rail (l : List (Fin 4)) (s : State) : (l.foldl State.takeVictim s).rail = s.rail := by
  induction l generalizing s with
  | nil => rfl
  | cons a l ih => simp [ih]
@[simp] theorem State.takeVictims_doors (l : List (Fin 4)) (s : State) : (l.foldl State.takeVictim s).doors = s.doors := by
  induction l generalizing s with
  | nil => rfl
  | cons a l ih => simp [ih]
@[simp] theorem State.takeVictims_link (l : List (Fin 4)) (s : State) : (l.foldl State.takeVictim s).link = s.link := by
  induction l generalizing s with
  | nil => rfl
  | cons a l ih => simp [ih]
@[simp] theorem State.takeVictims_chain (l : List (Fin 4)) (s : State) : (l.foldl State.takeVictim s).chain = s.chain := by
  induction l generalizing s with
  | nil => rfl
  | cons a l ih => simp [ih]
@[simp] theorem State.takeVictims_admin (l : List (Fin 4)) (s : State) : (l.foldl State.takeVictim s).admin = s.admin := by
  induction l generalizing s with
  | nil => rfl
  | cons a l ih => simp [ih]
@[simp] theorem State.takeVictims_pinHeld (l : List (Fin 4)) (s : State) : (l.foldl State.takeVictim s).pinHeld = s.pinHeld := by
  induction l generalizing s with
  | nil => rfl
  | cons a l ih => simp [ih]
@[simp] theorem State.takeVictims_pending (l : List (Fin 4)) (s : State) : (l.foldl State.takeVictim s).pending = s.pending := by
  induction l generalizing s with
  | nil => rfl
  | cons a l ih => simp [ih]

/-! ## `openSummit` -/

@[simp] theorem State.openSummit_rope (s : State) (i : Fin 4) (r : CallRecord) : (s.openSummit i r).1.rope = s.rope := by
  unfold State.openSummit; (repeat' split) <;> simp
@[simp] theorem State.openSummit_tracker (s : State) (i : Fin 4) (r : CallRecord) : (s.openSummit i r).1.tracker = s.tracker := by
  unfold State.openSummit; (repeat' split) <;> simp
@[simp] theorem State.openSummit_rail (s : State) (i : Fin 4) (r : CallRecord) : (s.openSummit i r).1.rail = s.rail := by
  unfold State.openSummit; (repeat' split) <;> simp
@[simp] theorem State.openSummit_doors (s : State) (i : Fin 4) (r : CallRecord) : (s.openSummit i r).1.doors = s.doors := by
  unfold State.openSummit; (repeat' split) <;> simp
@[simp] theorem State.openSummit_link (s : State) (i : Fin 4) (r : CallRecord) : (s.openSummit i r).1.link = s.link := by
  unfold State.openSummit; (repeat' split) <;> simp
@[simp] theorem State.openSummit_chain (s : State) (i : Fin 4) (r : CallRecord) : (s.openSummit i r).1.chain = s.chain := by
  unfold State.openSummit; (repeat' split) <;> simp
@[simp] theorem State.openSummit_admin (s : State) (i : Fin 4) (r : CallRecord) : (s.openSummit i r).1.admin = s.admin := by
  unfold State.openSummit; (repeat' split) <;> simp
@[simp] theorem State.openSummit_pinHeld (s : State) (i : Fin 4) (r : CallRecord) : (s.openSummit i r).1.pinHeld = s.pinHeld := by
  unfold State.openSummit; (repeat' split) <;> simp
@[simp] theorem State.openSummit_pending (s : State) (i : Fin 4) (r : CallRecord) : (s.openSummit i r).1.pending = s.pending := by
  unfold State.openSummit; (repeat' split) <;> simp

/-! ## `stopCallToSummit` -/

@[simp] theorem State.stopCallToSummit_rope (s : State) (i : Fin 4) : (s.stopCallToSummit i).rope = s.rope := by
  unfold State.stopCallToSummit; dsimp only
  have h := State.openSummit_rope s i { s.tel.records[i] with remote := .summit (summitLineOf s.tel.table.operations) }
  split <;> rename_i e <;> rw [e] at h <;> simpa using h
@[simp] theorem State.stopCallToSummit_tracker (s : State) (i : Fin 4) : (s.stopCallToSummit i).tracker = s.tracker := by
  unfold State.stopCallToSummit; dsimp only
  have h := State.openSummit_tracker s i { s.tel.records[i] with remote := .summit (summitLineOf s.tel.table.operations) }
  split <;> rename_i e <;> rw [e] at h <;> simpa using h
@[simp] theorem State.stopCallToSummit_rail (s : State) (i : Fin 4) : (s.stopCallToSummit i).rail = s.rail := by
  unfold State.stopCallToSummit; dsimp only
  have h := State.openSummit_rail s i { s.tel.records[i] with remote := .summit (summitLineOf s.tel.table.operations) }
  split <;> rename_i e <;> rw [e] at h <;> simpa using h
@[simp] theorem State.stopCallToSummit_doors (s : State) (i : Fin 4) : (s.stopCallToSummit i).doors = s.doors := by
  unfold State.stopCallToSummit; dsimp only
  have h := State.openSummit_doors s i { s.tel.records[i] with remote := .summit (summitLineOf s.tel.table.operations) }
  split <;> rename_i e <;> rw [e] at h <;> simpa using h
@[simp] theorem State.stopCallToSummit_link (s : State) (i : Fin 4) : (s.stopCallToSummit i).link = s.link := by
  unfold State.stopCallToSummit; dsimp only
  have h := State.openSummit_link s i { s.tel.records[i] with remote := .summit (summitLineOf s.tel.table.operations) }
  split <;> rename_i e <;> rw [e] at h <;> simpa using h
@[simp] theorem State.stopCallToSummit_chain (s : State) (i : Fin 4) : (s.stopCallToSummit i).chain = s.chain := by
  unfold State.stopCallToSummit; dsimp only
  have h := State.openSummit_chain s i { s.tel.records[i] with remote := .summit (summitLineOf s.tel.table.operations) }
  split <;> rename_i e <;> rw [e] at h <;> simpa using h
@[simp] theorem State.stopCallToSummit_admin (s : State) (i : Fin 4) : (s.stopCallToSummit i).admin = s.admin := by
  unfold State.stopCallToSummit; dsimp only
  have h := State.openSummit_admin s i { s.tel.records[i] with remote := .summit (summitLineOf s.tel.table.operations) }
  split <;> rename_i e <;> rw [e] at h <;> simpa using h
@[simp] theorem State.stopCallToSummit_pinHeld (s : State) (i : Fin 4) : (s.stopCallToSummit i).pinHeld = s.pinHeld := by
  unfold State.stopCallToSummit; dsimp only
  have h := State.openSummit_pinHeld s i { s.tel.records[i] with remote := .summit (summitLineOf s.tel.table.operations) }
  split <;> rename_i e <;> rw [e] at h <;> simpa using h
@[simp] theorem State.stopCallToSummit_pending (s : State) (i : Fin 4) : (s.stopCallToSummit i).pending = s.pending := by
  unfold State.stopCallToSummit; dsimp only
  have h := State.openSummit_pending s i { s.tel.records[i] with remote := .summit (summitLineOf s.tel.table.operations) }
  split <;> rename_i e <;> rw [e] at h <;> simpa using h

/-! ## `stopCallTrigger` -/

@[simp] theorem State.stopCallTrigger_rope (s : State) : (s.stopCallTrigger).rope = s.rope := by
  unfold State.stopCallTrigger; dsimp only; (repeat' split) <;> simp
@[simp] theorem State.stopCallTrigger_tracker (s : State) : (s.stopCallTrigger).tracker = s.tracker := by
  unfold State.stopCallTrigger; dsimp only; (repeat' split) <;> simp
@[simp] theorem State.stopCallTrigger_rail (s : State) : (s.stopCallTrigger).rail = s.rail := by
  unfold State.stopCallTrigger; dsimp only; (repeat' split) <;> simp
@[simp] theorem State.stopCallTrigger_doors (s : State) : (s.stopCallTrigger).doors = s.doors := by
  unfold State.stopCallTrigger; dsimp only; (repeat' split) <;> simp
@[simp] theorem State.stopCallTrigger_link (s : State) : (s.stopCallTrigger).link = s.link := by
  unfold State.stopCallTrigger; dsimp only; (repeat' split) <;> simp
@[simp] theorem State.stopCallTrigger_chain (s : State) : (s.stopCallTrigger).chain = s.chain := by
  unfold State.stopCallTrigger; dsimp only; (repeat' split) <;> simp
@[simp] theorem State.stopCallTrigger_admin (s : State) : (s.stopCallTrigger).admin = s.admin := by
  unfold State.stopCallTrigger; dsimp only; (repeat' split) <;> simp
@[simp] theorem State.stopCallTrigger_pinHeld (s : State) : (s.stopCallTrigger).pinHeld = s.pinHeld := by
  unfold State.stopCallTrigger; dsimp only; (repeat' split) <;> simp
@[simp] theorem State.stopCallTrigger_pending (s : State) : (s.stopCallTrigger).pending = s.pending := by
  unfold State.stopCallTrigger; dsimp only; (repeat' split) <;> simp

/-! ## `judgeStopTimer` -/

@[simp] theorem State.judgeStopTimer_station (s : State) (old new : Category) : (s.judgeStopTimer old new).station = s.station := by
  unfold State.judgeStopTimer; split <;> simp
@[simp] theorem State.judgeStopTimer_line (s : State) (old new : Category) : (s.judgeStopTimer old new).line = s.line := by
  unfold State.judgeStopTimer; split <;> simp
@[simp] theorem State.judgeStopTimer_switch (s : State) (old new : Category) : (s.judgeStopTimer old new).switch = s.switch := by
  unfold State.judgeStopTimer; split <;> simp
@[simp] theorem State.judgeStopTimer_poller (s : State) (old new : Category) : (s.judgeStopTimer old new).poller = s.poller := by
  unfold State.judgeStopTimer; split <;> simp
@[simp] theorem State.judgeStopTimer_rope (s : State) (old new : Category) : (s.judgeStopTimer old new).rope = s.rope := by
  unfold State.judgeStopTimer; split <;> simp
@[simp] theorem State.judgeStopTimer_tracker (s : State) (old new : Category) : (s.judgeStopTimer old new).tracker = s.tracker := by
  unfold State.judgeStopTimer; split <;> simp
@[simp] theorem State.judgeStopTimer_rail (s : State) (old new : Category) : (s.judgeStopTimer old new).rail = s.rail := by
  unfold State.judgeStopTimer; split <;> simp
@[simp] theorem State.judgeStopTimer_doors (s : State) (old new : Category) : (s.judgeStopTimer old new).doors = s.doors := by
  unfold State.judgeStopTimer; split <;> simp
@[simp] theorem State.judgeStopTimer_link (s : State) (old new : Category) : (s.judgeStopTimer old new).link = s.link := by
  unfold State.judgeStopTimer; split <;> simp
@[simp] theorem State.judgeStopTimer_tel (s : State) (old new : Category) : (s.judgeStopTimer old new).tel = s.tel := by
  unfold State.judgeStopTimer; split <;> simp
@[simp] theorem State.judgeStopTimer_admin (s : State) (old new : Category) : (s.judgeStopTimer old new).admin = s.admin := by
  unfold State.judgeStopTimer; split <;> simp
@[simp] theorem State.judgeStopTimer_pinHeld (s : State) (old new : Category) : (s.judgeStopTimer old new).pinHeld = s.pinHeld := by
  unfold State.judgeStopTimer; split <;> simp
@[simp] theorem State.judgeStopTimer_pending (s : State) (old new : Category) : (s.judgeStopTimer old new).pending = s.pending := by
  unfold State.judgeStopTimer; split <;> simp

/-! ## `tellDoors` -/

@[simp] theorem State.tellDoors_station (s : State) (old new : Category) : (s.tellDoors old new).station = s.station := by
  unfold State.tellDoors; (repeat' split) <;> simp
@[simp] theorem State.tellDoors_line (s : State) (old new : Category) : (s.tellDoors old new).line = s.line := by
  unfold State.tellDoors; (repeat' split) <;> simp
@[simp] theorem State.tellDoors_switch (s : State) (old new : Category) : (s.tellDoors old new).switch = s.switch := by
  unfold State.tellDoors; (repeat' split) <;> simp
@[simp] theorem State.tellDoors_poller (s : State) (old new : Category) : (s.tellDoors old new).poller = s.poller := by
  unfold State.tellDoors; (repeat' split) <;> simp
@[simp] theorem State.tellDoors_rope (s : State) (old new : Category) : (s.tellDoors old new).rope = s.rope := by
  unfold State.tellDoors; (repeat' split) <;> simp
@[simp] theorem State.tellDoors_tracker (s : State) (old new : Category) : (s.tellDoors old new).tracker = s.tracker := by
  unfold State.tellDoors; (repeat' split) <;> simp
@[simp] theorem State.tellDoors_link (s : State) (old new : Category) : (s.tellDoors old new).link = s.link := by
  unfold State.tellDoors; (repeat' split) <;> simp
@[simp] theorem State.tellDoors_tel (s : State) (old new : Category) : (s.tellDoors old new).tel = s.tel := by
  unfold State.tellDoors; (repeat' split) <;> simp
@[simp] theorem State.tellDoors_chain (s : State) (old new : Category) : (s.tellDoors old new).chain = s.chain := by
  unfold State.tellDoors; (repeat' split) <;> simp
@[simp] theorem State.tellDoors_admin (s : State) (old new : Category) : (s.tellDoors old new).admin = s.admin := by
  unfold State.tellDoors; (repeat' split) <;> simp
@[simp] theorem State.tellDoors_pinHeld (s : State) (old new : Category) : (s.tellDoors old new).pinHeld = s.pinHeld := by
  unfold State.tellDoors; (repeat' split) <;> simp
@[simp] theorem State.tellDoors_pending (s : State) (old new : Category) : (s.tellDoors old new).pending = s.pending := by
  unfold State.tellDoors; (repeat' split) <;> simp

/-! ## `setAsserted` -/

@[simp] theorem State.setAsserted_rope (s : State) (new : Category) : (s.setAsserted new).rope = s.rope := by
  unfold State.setAsserted; dsimp only; split <;> simp
@[simp] theorem State.setAsserted_tracker (s : State) (new : Category) : (s.setAsserted new).tracker = s.tracker := by
  unfold State.setAsserted; dsimp only; split <;> simp
@[simp] theorem State.setAsserted_link (s : State) (new : Category) : (s.setAsserted new).link = s.link := by
  unfold State.setAsserted; dsimp only; split <;> simp
@[simp] theorem State.setAsserted_tel (s : State) (new : Category) : (s.setAsserted new).tel = s.tel := by
  unfold State.setAsserted; dsimp only; split <;> simp
@[simp] theorem State.setAsserted_pinHeld (s : State) (new : Category) : (s.setAsserted new).pinHeld = s.pinHeld := by
  unfold State.setAsserted; dsimp only; split <;> simp
@[simp] theorem State.setAsserted_pending (s : State) (new : Category) : (s.setAsserted new).pending = s.pending := by
  unfold State.setAsserted; dsimp only; split <;> simp
@[simp] theorem State.setAsserted_part (s : State) (new : Category) : (s.setAsserted new).admin.part = s.admin.part := by
  unfold State.setAsserted; dsimp only; split <;> simp

/-! ## `judgeRise` -/

@[simp] theorem State.judgeRise_rope (s : State) : (s.judgeRise).rope = s.rope := by
  unfold State.judgeRise; split <;> simp
@[simp] theorem State.judgeRise_tracker (s : State) : (s.judgeRise).tracker = s.tracker := by
  unfold State.judgeRise; split <;> simp
@[simp] theorem State.judgeRise_link (s : State) : (s.judgeRise).link = s.link := by
  unfold State.judgeRise; split <;> simp
@[simp] theorem State.judgeRise_tel (s : State) : (s.judgeRise).tel = s.tel := by unfold State.judgeRise; split <;> simp
@[simp] theorem State.judgeRise_pinHeld (s : State) : (s.judgeRise).pinHeld = s.pinHeld := by
  unfold State.judgeRise; split <;> simp
@[simp] theorem State.judgeRise_pending (s : State) : (s.judgeRise).pending = s.pending := by
  unfold State.judgeRise; split <;> simp
@[simp] theorem State.judgeRise_part (s : State) : (s.judgeRise).admin.part = s.admin.part := by
  unfold State.judgeRise; split <;> simp

/-! ## `handOnEntry` -/

@[simp] theorem State.handOnEntry_rope (s : State) (r : CauseRecord) : (s.handOnEntry r).rope = s.rope := by
  unfold State.handOnEntry; dsimp only; split <;> split <;> simp
@[simp] theorem State.handOnEntry_tracker (s : State) (r : CauseRecord) : (s.handOnEntry r).tracker = s.tracker := by
  unfold State.handOnEntry; dsimp only; split <;> split <;> simp
@[simp] theorem State.handOnEntry_rail (s : State) (r : CauseRecord) : (s.handOnEntry r).rail = s.rail := by
  unfold State.handOnEntry; dsimp only; split <;> split <;> simp
@[simp] theorem State.handOnEntry_doors (s : State) (r : CauseRecord) : (s.handOnEntry r).doors = s.doors := by
  unfold State.handOnEntry; dsimp only; split <;> split <;> simp
@[simp] theorem State.handOnEntry_link (s : State) (r : CauseRecord) : (s.handOnEntry r).link = s.link := by
  unfold State.handOnEntry; dsimp only; split <;> split <;> simp
@[simp] theorem State.handOnEntry_chain (s : State) (r : CauseRecord) : (s.handOnEntry r).chain = s.chain := by
  unfold State.handOnEntry; dsimp only; split <;> split <;> simp
@[simp] theorem State.handOnEntry_pinHeld (s : State) (r : CauseRecord) : (s.handOnEntry r).pinHeld = s.pinHeld := by
  unfold State.handOnEntry; dsimp only; split <;> split <;> simp
@[simp] theorem State.handOnEntry_pending (s : State) (r : CauseRecord) : (s.handOnEntry r).pending = s.pending := by
  unfold State.handOnEntry; dsimp only; split <;> split <;> simp
@[simp] theorem State.handOnEntry_part (s : State) (r : CauseRecord) : (s.handOnEntry r).admin.part = s.admin.part := by
  unfold State.handOnEntry; dsimp only; split <;> split <;> simp

/-! ## `raise` -/

@[simp] theorem State.raise_rope (s : State) (c : Cause) (d : Detail) (m : Bool) : (s.raise c d m).rope = s.rope := by
  unfold State.raise; dsimp only; split <;> simp
@[simp] theorem State.raise_tracker (s : State) (c : Cause) (d : Detail) (m : Bool) : (s.raise c d m).tracker = s.tracker := by
  unfold State.raise; dsimp only; split <;> simp
@[simp] theorem State.raise_link (s : State) (c : Cause) (d : Detail) (m : Bool) : (s.raise c d m).link = s.link := by
  unfold State.raise; dsimp only; split <;> simp
@[simp] theorem State.raise_pinHeld (s : State) (c : Cause) (d : Detail) (m : Bool) : (s.raise c d m).pinHeld = s.pinHeld := by
  unfold State.raise; dsimp only; split <;> simp
@[simp] theorem State.raise_pending (s : State) (c : Cause) (d : Detail) (m : Bool) : (s.raise c d m).pending = s.pending := by
  unfold State.raise; dsimp only; split <;> simp
@[simp] theorem State.raise_part (s : State) (c : Cause) (d : Detail) (m : Bool) : (s.raise c d m).admin.part = s.admin.part := by
  unfold State.raise; dsimp only; split <;> simp

/-! ## `raiseMomentary` -/

@[simp] theorem State.raiseMomentary_rope (s : State) (c : Cause) (d : Detail) : (s.raiseMomentary c d).rope = s.rope := by
  simp [State.raiseMomentary]
@[simp] theorem State.raiseMomentary_tracker (s : State) (c : Cause) (d : Detail) : (s.raiseMomentary c d).tracker = s.tracker := by
  simp [State.raiseMomentary]
@[simp] theorem State.raiseMomentary_link (s : State) (c : Cause) (d : Detail) : (s.raiseMomentary c d).link = s.link := by
  simp [State.raiseMomentary]
@[simp] theorem State.raiseMomentary_pinHeld (s : State) (c : Cause) (d : Detail) : (s.raiseMomentary c d).pinHeld = s.pinHeld := by
  simp [State.raiseMomentary]
@[simp] theorem State.raiseMomentary_pending (s : State) (c : Cause) (d : Detail) : (s.raiseMomentary c d).pending = s.pending := by
  simp [State.raiseMomentary]
@[simp] theorem State.raiseMomentary_part (s : State) (c : Cause) (d : Detail) : (s.raiseMomentary c d).admin.part = s.admin.part := by
  simp [State.raiseMomentary]

/-! ## `raiseHeld` -/

@[simp] theorem State.raiseHeld_rope (s : State) (c : Cause) (d : Detail) : (s.raiseHeld c d).rope = s.rope := by
  simp [State.raiseHeld]
@[simp] theorem State.raiseHeld_tracker (s : State) (c : Cause) (d : Detail) : (s.raiseHeld c d).tracker = s.tracker := by
  simp [State.raiseHeld]
@[simp] theorem State.raiseHeld_link (s : State) (c : Cause) (d : Detail) : (s.raiseHeld c d).link = s.link := by
  simp [State.raiseHeld]
@[simp] theorem State.raiseHeld_pinHeld (s : State) (c : Cause) (d : Detail) : (s.raiseHeld c d).pinHeld = s.pinHeld := by
  simp [State.raiseHeld]
@[simp] theorem State.raiseHeld_pending (s : State) (c : Cause) (d : Detail) : (s.raiseHeld c d).pending = s.pending := by
  simp [State.raiseHeld]
@[simp] theorem State.raiseHeld_part (s : State) (c : Cause) (d : Detail) : (s.raiseHeld c d).admin.part = s.admin.part := by
  simp [State.raiseHeld]

/-! ## `withdraw` -/

@[simp] theorem State.withdraw_station (s : State) (c : Cause) : (s.withdraw c).station = s.station := by
  unfold State.withdraw; split <;> simp
@[simp] theorem State.withdraw_line (s : State) (c : Cause) : (s.withdraw c).line = s.line := by
  unfold State.withdraw; split <;> simp
@[simp] theorem State.withdraw_switch (s : State) (c : Cause) : (s.withdraw c).switch = s.switch := by
  unfold State.withdraw; split <;> simp
@[simp] theorem State.withdraw_poller (s : State) (c : Cause) : (s.withdraw c).poller = s.poller := by
  unfold State.withdraw; split <;> simp
@[simp] theorem State.withdraw_rope (s : State) (c : Cause) : (s.withdraw c).rope = s.rope := by
  unfold State.withdraw; split <;> simp
@[simp] theorem State.withdraw_tracker (s : State) (c : Cause) : (s.withdraw c).tracker = s.tracker := by
  unfold State.withdraw; split <;> simp
@[simp] theorem State.withdraw_rail (s : State) (c : Cause) : (s.withdraw c).rail = s.rail := by
  unfold State.withdraw; split <;> simp
@[simp] theorem State.withdraw_doors (s : State) (c : Cause) : (s.withdraw c).doors = s.doors := by
  unfold State.withdraw; split <;> simp
@[simp] theorem State.withdraw_link (s : State) (c : Cause) : (s.withdraw c).link = s.link := by
  unfold State.withdraw; split <;> simp
@[simp] theorem State.withdraw_tel (s : State) (c : Cause) : (s.withdraw c).tel = s.tel := by
  unfold State.withdraw; split <;> simp
@[simp] theorem State.withdraw_admin (s : State) (c : Cause) : (s.withdraw c).admin = s.admin := by
  unfold State.withdraw; split <;> simp
@[simp] theorem State.withdraw_pinHeld (s : State) (c : Cause) : (s.withdraw c).pinHeld = s.pinHeld := by
  unfold State.withdraw; split <;> simp
@[simp] theorem State.withdraw_pending (s : State) (c : Cause) : (s.withdraw c).pending = s.pending := by
  unfold State.withdraw; split <;> simp

/-! ## `freeCall` -/

@[simp] theorem State.freeCall_rope (s : State) (i : Fin 4) (reason : ClearReason) (quiet excused : Bool) : (s.freeCall i reason quiet excused).rope = s.rope := by
  unfold State.freeCall; dsimp only; split <;> simp
@[simp] theorem State.freeCall_tracker (s : State) (i : Fin 4) (reason : ClearReason) (quiet excused : Bool) : (s.freeCall i reason quiet excused).tracker = s.tracker := by
  unfold State.freeCall; dsimp only; split <;> simp
@[simp] theorem State.freeCall_link (s : State) (i : Fin 4) (reason : ClearReason) (quiet excused : Bool) : (s.freeCall i reason quiet excused).link = s.link := by
  unfold State.freeCall; dsimp only; split <;> simp
@[simp] theorem State.freeCall_pinHeld (s : State) (i : Fin 4) (reason : ClearReason) (quiet excused : Bool) : (s.freeCall i reason quiet excused).pinHeld = s.pinHeld := by
  unfold State.freeCall; dsimp only; split <;> simp
@[simp] theorem State.freeCall_pending (s : State) (i : Fin 4) (reason : ClearReason) (quiet excused : Bool) : (s.freeCall i reason quiet excused).pending = s.pending := by
  unfold State.freeCall; dsimp only; split <;> simp
@[simp] theorem State.freeCall_part (s : State) (i : Fin 4) (reason : ClearReason) (quiet excused : Bool) : (s.freeCall i reason quiet excused).admin.part = s.admin.part := by
  unfold State.freeCall; dsimp only; split <;> simp

/-! ## Nothing due -/

/-- A port is idle or busy with no pick due: its link carries a frame, or no queue it may pick from holds one (R33). -/
theorem PortUnit.duePick_of_none {u : PortUnit} {m : Scheduler}
    (h : u.inFlight.isSome = true ∨ u.pickClass m = none) : u.duePick m = u := by
  unfold PortUnit.duePick
  cases hf : u.inFlight <;> simp_all

/-- Where no pick is due on a port, making the due pick leaves the state (R33). -/
theorem State.duePick_of_none {s : State} {p : Port}
    (h : (s.port p).inFlight.isSome = true ∨ (s.port p).pickClass s.admin.part.scheduler = none) : s.duePick p = s := by
  cases p <;> simp_all [State.duePick, State.modPort, State.port, PortUnit.duePick_of_none]

/-- Where no pick and no ask is due on a port, settling it leaves the state (R33, R43). -/
theorem State.settle_of_none {s : State} {p : Port}
    (h : (s.port p).inFlight.isSome = true ∨ (s.port p).pickClass s.admin.part.scheduler = none)
    (ha : s.askReady = false) : s.settle p = s := by
  cases p
  · exact State.duePick_of_none h
  · simp [State.settle, State.dueAsk, State.duePick_of_none (p := .line) h, ha]

end Sys2Proof.Machine
end

