-- ==== Sys2Proof/Laws/Reach.lean ====
section
/-! SUPPORT. What the operations of each block leave as it was, block by block: the frame lemmas that proofs about whole
commands cite. -/

namespace Sys2Proof.Machine


/-! ## What the ports leaves -/

@[simp] theorem State.flushClass_rope (s : State) (p : Port) (f : Fin 4 → Fin 21) (c : Fin 4) : (s.flushClass p f c).rope = s.rope := by
  unfold State.flushClass
  have h : ∀ (l : List Frame) (s : State),
      (l.foldl (fun s x => (s.countPort p (f c)).frameDropped x) s).rope = s.rope := by
    intro l; induction l with
    | nil => intro s; rfl
    | cons a l ih => intro s; simp [ih]
  simp [h]
@[simp] theorem State.flushClass_tracker (s : State) (p : Port) (f : Fin 4 → Fin 21) (c : Fin 4) : (s.flushClass p f c).tracker = s.tracker := by
  unfold State.flushClass
  have h : ∀ (l : List Frame) (s : State),
      (l.foldl (fun s x => (s.countPort p (f c)).frameDropped x) s).tracker = s.tracker := by
    intro l; induction l with
    | nil => intro s; rfl
    | cons a l ih => intro s; simp [ih]
  simp [h]
@[simp] theorem State.flushClass_rail (s : State) (p : Port) (f : Fin 4 → Fin 21) (c : Fin 4) : (s.flushClass p f c).rail = s.rail := by
  unfold State.flushClass
  have h : ∀ (l : List Frame) (s : State),
      (l.foldl (fun s x => (s.countPort p (f c)).frameDropped x) s).rail = s.rail := by
    intro l; induction l with
    | nil => intro s; rfl
    | cons a l ih => intro s; simp [ih]
  simp [h]
@[simp] theorem State.flushClass_doors (s : State) (p : Port) (f : Fin 4 → Fin 21) (c : Fin 4) : (s.flushClass p f c).doors = s.doors := by
  unfold State.flushClass
  have h : ∀ (l : List Frame) (s : State),
      (l.foldl (fun s x => (s.countPort p (f c)).frameDropped x) s).doors = s.doors := by
    intro l; induction l with
    | nil => intro s; rfl
    | cons a l ih => intro s; simp [ih]
  simp [h]
@[simp] theorem State.flushClass_link (s : State) (p : Port) (f : Fin 4 → Fin 21) (c : Fin 4) : (s.flushClass p f c).link = s.link := by
  unfold State.flushClass
  have h : ∀ (l : List Frame) (s : State),
      (l.foldl (fun s x => (s.countPort p (f c)).frameDropped x) s).link = s.link := by
    intro l; induction l with
    | nil => intro s; rfl
    | cons a l ih => intro s; simp [ih]
  simp [h]
@[simp] theorem State.flushClass_tel (s : State) (p : Port) (f : Fin 4 → Fin 21) (c : Fin 4) : (s.flushClass p f c).tel = s.tel := by
  unfold State.flushClass
  have h : ∀ (l : List Frame) (s : State),
      (l.foldl (fun s x => (s.countPort p (f c)).frameDropped x) s).tel = s.tel := by
    intro l; induction l with
    | nil => intro s; rfl
    | cons a l ih => intro s; simp [ih]
  simp [h]
@[simp] theorem State.flushClass_chain (s : State) (p : Port) (f : Fin 4 → Fin 21) (c : Fin 4) : (s.flushClass p f c).chain = s.chain := by
  unfold State.flushClass
  have h : ∀ (l : List Frame) (s : State),
      (l.foldl (fun s x => (s.countPort p (f c)).frameDropped x) s).chain = s.chain := by
    intro l; induction l with
    | nil => intro s; rfl
    | cons a l ih => intro s; simp [ih]
  simp [h]
@[simp] theorem State.flushClass_pinHeld (s : State) (p : Port) (f : Fin 4 → Fin 21) (c : Fin 4) : (s.flushClass p f c).pinHeld = s.pinHeld := by
  unfold State.flushClass
  have h : ∀ (l : List Frame) (s : State),
      (l.foldl (fun s x => (s.countPort p (f c)).frameDropped x) s).pinHeld = s.pinHeld := by
    intro l; induction l with
    | nil => intro s; rfl
    | cons a l ih => intro s; simp [ih]
  simp [h]
@[simp] theorem State.flushClass_pending (s : State) (p : Port) (f : Fin 4 → Fin 21) (c : Fin 4) : (s.flushClass p f c).pending = s.pending := by
  unfold State.flushClass
  have h : ∀ (l : List Frame) (s : State),
      (l.foldl (fun s x => (s.countPort p (f c)).frameDropped x) s).pending = s.pending := by
    intro l; induction l with
    | nil => intro s; rfl
    | cons a l ih => intro s; simp [ih]
  simp [h]
@[simp] theorem State.flushClass_part (s : State) (p : Port) (f : Fin 4 → Fin 21) (c : Fin 4) : (s.flushClass p f c).admin.part = s.admin.part := by
  unfold State.flushClass
  have h : ∀ (l : List Frame) (s : State),
      (l.foldl (fun s x => (s.countPort p (f c)).frameDropped x) s).admin.part = s.admin.part := by
    intro l; induction l with
    | nil => intro s; rfl
    | cons a l ih => intro s; simp [ih]
  simp [h]
@[simp] theorem State.enterMode_rope (s : State) (p : Port) (m : PortMode) : (s.enterMode p m).rope = s.rope := by
  simp [State.enterMode]
@[simp] theorem State.enterMode_tracker (s : State) (p : Port) (m : PortMode) : (s.enterMode p m).tracker = s.tracker := by
  simp [State.enterMode]
@[simp] theorem State.enterMode_rail (s : State) (p : Port) (m : PortMode) : (s.enterMode p m).rail = s.rail := by
  simp [State.enterMode]
@[simp] theorem State.enterMode_doors (s : State) (p : Port) (m : PortMode) : (s.enterMode p m).doors = s.doors := by
  simp [State.enterMode]
@[simp] theorem State.enterMode_link (s : State) (p : Port) (m : PortMode) : (s.enterMode p m).link = s.link := by
  simp [State.enterMode]
@[simp] theorem State.enterMode_tel (s : State) (p : Port) (m : PortMode) : (s.enterMode p m).tel = s.tel := by
  simp [State.enterMode]
@[simp] theorem State.enterMode_chain (s : State) (p : Port) (m : PortMode) : (s.enterMode p m).chain = s.chain := by
  simp [State.enterMode]
@[simp] theorem State.enterMode_pinHeld (s : State) (p : Port) (m : PortMode) : (s.enterMode p m).pinHeld = s.pinHeld := by
  simp [State.enterMode]
@[simp] theorem State.enterMode_pending (s : State) (p : Port) (m : PortMode) : (s.enterMode p m).pending = s.pending := by
  simp [State.enterMode]
@[simp] theorem State.enterMode_part (s : State) (p : Port) (m : PortMode) : (s.enterMode p m).admin.part = s.admin.part := by
  simp [State.enterMode]
@[simp] theorem State.reportMode_rope (s : State) (p : Port) (m : PortMode) : (s.reportMode p m).rope = s.rope := by
  simp [State.reportMode]
@[simp] theorem State.reportMode_tracker (s : State) (p : Port) (m : PortMode) : (s.reportMode p m).tracker = s.tracker := by
  simp [State.reportMode]
@[simp] theorem State.reportMode_rail (s : State) (p : Port) (m : PortMode) : (s.reportMode p m).rail = s.rail := by
  simp [State.reportMode]
@[simp] theorem State.reportMode_doors (s : State) (p : Port) (m : PortMode) : (s.reportMode p m).doors = s.doors := by
  simp [State.reportMode]
@[simp] theorem State.reportMode_link (s : State) (p : Port) (m : PortMode) : (s.reportMode p m).link = s.link := by
  simp [State.reportMode]
@[simp] theorem State.reportMode_tel (s : State) (p : Port) (m : PortMode) : (s.reportMode p m).tel = s.tel := by
  simp [State.reportMode]
@[simp] theorem State.reportMode_chain (s : State) (p : Port) (m : PortMode) : (s.reportMode p m).chain = s.chain := by
  simp [State.reportMode]
@[simp] theorem State.reportMode_pinHeld (s : State) (p : Port) (m : PortMode) : (s.reportMode p m).pinHeld = s.pinHeld := by
  simp [State.reportMode]
@[simp] theorem State.reportMode_pending (s : State) (p : Port) (m : PortMode) : (s.reportMode p m).pending = s.pending := by
  simp [State.reportMode]
@[simp] theorem State.reportMode_part (s : State) (p : Port) (m : PortMode) : (s.reportMode p m).admin.part = s.admin.part := by
  simp [State.reportMode]
@[simp] theorem State.enterDetached_rope (s : State) (p : Port) : (s.enterDetached p).rope = s.rope := by
  simp [State.enterDetached]
@[simp] theorem State.enterDetached_tracker (s : State) (p : Port) : (s.enterDetached p).tracker = s.tracker := by
  simp [State.enterDetached]
@[simp] theorem State.enterDetached_link (s : State) (p : Port) : (s.enterDetached p).link = s.link := by
  simp [State.enterDetached]
@[simp] theorem State.enterDetached_pinHeld (s : State) (p : Port) : (s.enterDetached p).pinHeld = s.pinHeld := by
  simp [State.enterDetached]
@[simp] theorem State.enterDetached_pending (s : State) (p : Port) : (s.enterDetached p).pending = s.pending := by
  simp [State.enterDetached]
@[simp] theorem State.enterDetached_part (s : State) (p : Port) : (s.enterDetached p).admin.part = s.admin.part := by
  simp [State.enterDetached]
@[simp] theorem State.changeMode_rope (s : State) (p : Port) (m : PortMode) : (s.changeMode p m).rope = s.rope := by
  unfold State.changeMode; split <;> simp
@[simp] theorem State.changeMode_tracker (s : State) (p : Port) (m : PortMode) : (s.changeMode p m).tracker = s.tracker := by
  unfold State.changeMode; split <;> simp
@[simp] theorem State.changeMode_link (s : State) (p : Port) (m : PortMode) : (s.changeMode p m).link = s.link := by
  unfold State.changeMode; split <;> simp
@[simp] theorem State.changeMode_pinHeld (s : State) (p : Port) (m : PortMode) : (s.changeMode p m).pinHeld = s.pinHeld := by
  unfold State.changeMode; split <;> simp
@[simp] theorem State.changeMode_pending (s : State) (p : Port) (m : PortMode) : (s.changeMode p m).pending = s.pending := by
  unfold State.changeMode; split <;> simp
@[simp] theorem State.changeMode_part (s : State) (p : Port) (m : PortMode) : (s.changeMode p m).admin.part = s.admin.part := by
  unfold State.changeMode; split <;> simp
@[simp] theorem State.changeErrors_rope (s : State) (p : Port) (f : Nat → Nat) : (s.changeErrors p f).rope = s.rope := by
  unfold State.changeErrors; dsimp only; (repeat' split) <;> simp
@[simp] theorem State.changeErrors_tracker (s : State) (p : Port) (f : Nat → Nat) : (s.changeErrors p f).tracker = s.tracker := by
  unfold State.changeErrors; dsimp only; (repeat' split) <;> simp
@[simp] theorem State.changeErrors_link (s : State) (p : Port) (f : Nat → Nat) : (s.changeErrors p f).link = s.link := by
  unfold State.changeErrors; dsimp only; (repeat' split) <;> simp
@[simp] theorem State.changeErrors_pinHeld (s : State) (p : Port) (f : Nat → Nat) : (s.changeErrors p f).pinHeld = s.pinHeld := by
  unfold State.changeErrors; dsimp only; (repeat' split) <;> simp
@[simp] theorem State.changeErrors_pending (s : State) (p : Port) (f : Nat → Nat) : (s.changeErrors p f).pending = s.pending := by
  unfold State.changeErrors; dsimp only; (repeat' split) <;> simp
@[simp] theorem State.changeErrors_part (s : State) (p : Port) (f : Nat → Nat) : (s.changeErrors p f).admin.part = s.admin.part := by
  unfold State.changeErrors; dsimp only; (repeat' split) <;> simp
@[simp] theorem State.errorUp_rope (s : State) (p : Port) : (s.errorUp p).rope = s.rope := by simp [State.errorUp]
@[simp] theorem State.errorUp_tracker (s : State) (p : Port) : (s.errorUp p).tracker = s.tracker := by
  simp [State.errorUp]
@[simp] theorem State.errorUp_link (s : State) (p : Port) : (s.errorUp p).link = s.link := by simp [State.errorUp]
@[simp] theorem State.errorUp_pinHeld (s : State) (p : Port) : (s.errorUp p).pinHeld = s.pinHeld := by
  simp [State.errorUp]
@[simp] theorem State.errorUp_pending (s : State) (p : Port) : (s.errorUp p).pending = s.pending := by
  simp [State.errorUp]
@[simp] theorem State.errorUp_part (s : State) (p : Port) : (s.errorUp p).admin.part = s.admin.part := by
  simp [State.errorUp]
@[simp] theorem State.errorDown_rope (s : State) (p : Port) : (s.errorDown p).rope = s.rope := by simp [State.errorDown]
@[simp] theorem State.errorDown_tracker (s : State) (p : Port) : (s.errorDown p).tracker = s.tracker := by
  simp [State.errorDown]
@[simp] theorem State.errorDown_link (s : State) (p : Port) : (s.errorDown p).link = s.link := by simp [State.errorDown]
@[simp] theorem State.errorDown_pinHeld (s : State) (p : Port) : (s.errorDown p).pinHeld = s.pinHeld := by
  simp [State.errorDown]
@[simp] theorem State.errorDown_pending (s : State) (p : Port) : (s.errorDown p).pending = s.pending := by
  simp [State.errorDown]
@[simp] theorem State.errorDown_part (s : State) (p : Port) : (s.errorDown p).admin.part = s.admin.part := by
  simp [State.errorDown]
@[simp] theorem State.badFrame_rope (s : State) (p : Port) (c : Fin 21) : (s.badFrame p c).rope = s.rope := by
  unfold State.badFrame; dsimp only; split <;> simp
@[simp] theorem State.badFrame_tracker (s : State) (p : Port) (c : Fin 21) : (s.badFrame p c).tracker = s.tracker := by
  unfold State.badFrame; dsimp only; split <;> simp
@[simp] theorem State.badFrame_link (s : State) (p : Port) (c : Fin 21) : (s.badFrame p c).link = s.link := by
  unfold State.badFrame; dsimp only; split <;> simp
@[simp] theorem State.badFrame_pinHeld (s : State) (p : Port) (c : Fin 21) : (s.badFrame p c).pinHeld = s.pinHeld := by
  unfold State.badFrame; dsimp only; split <;> simp
@[simp] theorem State.badFrame_pending (s : State) (p : Port) (c : Fin 21) : (s.badFrame p c).pending = s.pending := by
  unfold State.badFrame; dsimp only; split <;> simp
@[simp] theorem State.badFrame_part (s : State) (p : Port) (c : Fin 21) : (s.badFrame p c).admin.part = s.admin.part := by
  unfold State.badFrame; dsimp only; split <;> simp
@[simp] theorem State.rejoinGood_rope (s : State) (p : Port) : (s.rejoinGood p).rope = s.rope := by
  unfold State.rejoinGood; dsimp only; split <;> simp
@[simp] theorem State.rejoinGood_tracker (s : State) (p : Port) : (s.rejoinGood p).tracker = s.tracker := by
  unfold State.rejoinGood; dsimp only; split <;> simp
@[simp] theorem State.rejoinGood_rail (s : State) (p : Port) : (s.rejoinGood p).rail = s.rail := by
  unfold State.rejoinGood; dsimp only; split <;> simp
@[simp] theorem State.rejoinGood_doors (s : State) (p : Port) : (s.rejoinGood p).doors = s.doors := by
  unfold State.rejoinGood; dsimp only; split <;> simp
@[simp] theorem State.rejoinGood_link (s : State) (p : Port) : (s.rejoinGood p).link = s.link := by
  unfold State.rejoinGood; dsimp only; split <;> simp
@[simp] theorem State.rejoinGood_tel (s : State) (p : Port) : (s.rejoinGood p).tel = s.tel := by
  unfold State.rejoinGood; dsimp only; split <;> simp
@[simp] theorem State.rejoinGood_chain (s : State) (p : Port) : (s.rejoinGood p).chain = s.chain := by
  unfold State.rejoinGood; dsimp only; split <;> simp
@[simp] theorem State.rejoinGood_pinHeld (s : State) (p : Port) : (s.rejoinGood p).pinHeld = s.pinHeld := by
  unfold State.rejoinGood; dsimp only; split <;> simp
@[simp] theorem State.rejoinGood_pending (s : State) (p : Port) : (s.rejoinGood p).pending = s.pending := by
  unfold State.rejoinGood; dsimp only; split <;> simp
@[simp] theorem State.rejoinGood_part (s : State) (p : Port) : (s.rejoinGood p).admin.part = s.admin.part := by
  unfold State.rejoinGood; dsimp only; split <;> simp
@[simp] theorem State.rejoinExpiry_rope (s : State) (p : Port) : (s.rejoinExpiry p).rope = s.rope := by
  unfold State.rejoinExpiry; dsimp only; split <;> simp
@[simp] theorem State.rejoinExpiry_tracker (s : State) (p : Port) : (s.rejoinExpiry p).tracker = s.tracker := by
  unfold State.rejoinExpiry; dsimp only; split <;> simp
@[simp] theorem State.rejoinExpiry_rail (s : State) (p : Port) : (s.rejoinExpiry p).rail = s.rail := by
  unfold State.rejoinExpiry; dsimp only; split <;> simp
@[simp] theorem State.rejoinExpiry_doors (s : State) (p : Port) : (s.rejoinExpiry p).doors = s.doors := by
  unfold State.rejoinExpiry; dsimp only; split <;> simp
@[simp] theorem State.rejoinExpiry_link (s : State) (p : Port) : (s.rejoinExpiry p).link = s.link := by
  unfold State.rejoinExpiry; dsimp only; split <;> simp
@[simp] theorem State.rejoinExpiry_tel (s : State) (p : Port) : (s.rejoinExpiry p).tel = s.tel := by
  unfold State.rejoinExpiry; dsimp only; split <;> simp
@[simp] theorem State.rejoinExpiry_pinHeld (s : State) (p : Port) : (s.rejoinExpiry p).pinHeld = s.pinHeld := by
  unfold State.rejoinExpiry; dsimp only; split <;> simp
@[simp] theorem State.rejoinExpiry_pending (s : State) (p : Port) : (s.rejoinExpiry p).pending = s.pending := by
  unfold State.rejoinExpiry; dsimp only; split <;> simp
@[simp] theorem State.rejoinExpiry_part (s : State) (p : Port) : (s.rejoinExpiry p).admin.part = s.admin.part := by
  unfold State.rejoinExpiry; dsimp only; split <;> simp
@[simp] theorem State.rollLeaves_rope (s : State) (n : Byte) : (s.rollLeaves n).rope = s.rope := by
  unfold State.rollLeaves; split <;> simp
@[simp] theorem State.rollLeaves_tracker (s : State) (n : Byte) : (s.rollLeaves n).tracker = s.tracker := by
  unfold State.rollLeaves; split <;> simp
@[simp] theorem State.rollLeaves_rail (s : State) (n : Byte) : (s.rollLeaves n).rail = s.rail := by
  unfold State.rollLeaves; split <;> simp
@[simp] theorem State.rollLeaves_doors (s : State) (n : Byte) : (s.rollLeaves n).doors = s.doors := by
  unfold State.rollLeaves; split <;> simp
@[simp] theorem State.rollLeaves_link (s : State) (n : Byte) : (s.rollLeaves n).link = s.link := by
  unfold State.rollLeaves; split <;> simp
@[simp] theorem State.rollLeaves_tel (s : State) (n : Byte) : (s.rollLeaves n).tel = s.tel := by
  unfold State.rollLeaves; split <;> simp
@[simp] theorem State.rollLeaves_chain (s : State) (n : Byte) : (s.rollLeaves n).chain = s.chain := by
  unfold State.rollLeaves; split <;> simp
@[simp] theorem State.rollLeaves_pinHeld (s : State) (n : Byte) : (s.rollLeaves n).pinHeld = s.pinHeld := by
  unfold State.rollLeaves; split <;> simp
@[simp] theorem State.rollLeaves_pending (s : State) (n : Byte) : (s.rollLeaves n).pending = s.pending := by
  unfold State.rollLeaves; split <;> simp
@[simp] theorem State.rollLeaves_part (s : State) (n : Byte) : (s.rollLeaves n).admin.part = s.admin.part := by
  unfold State.rollLeaves; split <;> simp
@[simp] theorem State.askLeaves_rope (s : State) (n : Nat) : (s.askLeaves n).rope = s.rope := by
  unfold State.askLeaves; (repeat' split) <;> simp
@[simp] theorem State.askLeaves_tracker (s : State) (n : Nat) : (s.askLeaves n).tracker = s.tracker := by
  unfold State.askLeaves; (repeat' split) <;> simp
@[simp] theorem State.askLeaves_rail (s : State) (n : Nat) : (s.askLeaves n).rail = s.rail := by
  unfold State.askLeaves; (repeat' split) <;> simp
@[simp] theorem State.askLeaves_doors (s : State) (n : Nat) : (s.askLeaves n).doors = s.doors := by
  unfold State.askLeaves; (repeat' split) <;> simp
@[simp] theorem State.askLeaves_link (s : State) (n : Nat) : (s.askLeaves n).link = s.link := by
  unfold State.askLeaves; (repeat' split) <;> simp
@[simp] theorem State.askLeaves_tel (s : State) (n : Nat) : (s.askLeaves n).tel = s.tel := by
  unfold State.askLeaves; (repeat' split) <;> simp
@[simp] theorem State.askLeaves_chain (s : State) (n : Nat) : (s.askLeaves n).chain = s.chain := by
  unfold State.askLeaves; (repeat' split) <;> simp
@[simp] theorem State.askLeaves_pinHeld (s : State) (n : Nat) : (s.askLeaves n).pinHeld = s.pinHeld := by
  unfold State.askLeaves; (repeat' split) <;> simp
@[simp] theorem State.askLeaves_pending (s : State) (n : Nat) : (s.askLeaves n).pending = s.pending := by
  unfold State.askLeaves; (repeat' split) <;> simp
@[simp] theorem State.askLeaves_part (s : State) (n : Nat) : (s.askLeaves n).admin.part = s.admin.part := by
  unfold State.askLeaves; (repeat' split) <;> simp
@[simp] theorem State.frameLeft_rope (s : State) (f : Frame) : (s.frameLeft f).rope = s.rope := by
  unfold State.frameLeft; split <;> simp
@[simp] theorem State.frameLeft_tracker (s : State) (f : Frame) : (s.frameLeft f).tracker = s.tracker := by
  unfold State.frameLeft; split <;> simp
@[simp] theorem State.frameLeft_rail (s : State) (f : Frame) : (s.frameLeft f).rail = s.rail := by
  unfold State.frameLeft; split <;> simp
@[simp] theorem State.frameLeft_doors (s : State) (f : Frame) : (s.frameLeft f).doors = s.doors := by
  unfold State.frameLeft; split <;> simp
@[simp] theorem State.frameLeft_link (s : State) (f : Frame) : (s.frameLeft f).link = s.link := by
  unfold State.frameLeft; split <;> simp
@[simp] theorem State.frameLeft_tel (s : State) (f : Frame) : (s.frameLeft f).tel = s.tel := by
  unfold State.frameLeft; split <;> simp
@[simp] theorem State.frameLeft_chain (s : State) (f : Frame) : (s.frameLeft f).chain = s.chain := by
  unfold State.frameLeft; split <;> simp
@[simp] theorem State.frameLeft_pinHeld (s : State) (f : Frame) : (s.frameLeft f).pinHeld = s.pinHeld := by
  unfold State.frameLeft; split <;> simp
@[simp] theorem State.frameLeft_pending (s : State) (f : Frame) : (s.frameLeft f).pending = s.pending := by
  unfold State.frameLeft; split <;> simp
@[simp] theorem State.frameLeft_part (s : State) (f : Frame) : (s.frameLeft f).admin.part = s.admin.part := by
  unfold State.frameLeft; split <;> simp
@[simp] theorem State.leave_rope (s : State) (p : Port) : (s.leave p).rope = s.rope := by
  unfold State.leave; split <;> simp
@[simp] theorem State.leave_tracker (s : State) (p : Port) : (s.leave p).tracker = s.tracker := by
  unfold State.leave; split <;> simp
@[simp] theorem State.leave_rail (s : State) (p : Port) : (s.leave p).rail = s.rail := by
  unfold State.leave; split <;> simp
@[simp] theorem State.leave_doors (s : State) (p : Port) : (s.leave p).doors = s.doors := by
  unfold State.leave; split <;> simp
@[simp] theorem State.leave_link (s : State) (p : Port) : (s.leave p).link = s.link := by
  unfold State.leave; split <;> simp
@[simp] theorem State.leave_tel (s : State) (p : Port) : (s.leave p).tel = s.tel := by
  unfold State.leave; split <;> simp
@[simp] theorem State.leave_chain (s : State) (p : Port) : (s.leave p).chain = s.chain := by
  unfold State.leave; split <;> simp
@[simp] theorem State.leave_pinHeld (s : State) (p : Port) : (s.leave p).pinHeld = s.pinHeld := by
  unfold State.leave; split <;> simp
@[simp] theorem State.leave_pending (s : State) (p : Port) : (s.leave p).pending = s.pending := by
  unfold State.leave; split <;> simp
@[simp] theorem State.leave_part (s : State) (p : Port) : (s.leave p).admin.part = s.admin.part := by
  unfold State.leave; split <;> simp

/-! ## What the rope travel unit leaves -/

@[simp] theorem State.judge_rope (s : State) (c : Cause) (a b : Bool) : (s.judge c a b).rope = s.rope := by
  unfold State.judge; (repeat' split) <;> simp
@[simp] theorem State.judge_tracker (s : State) (c : Cause) (a b : Bool) : (s.judge c a b).tracker = s.tracker := by
  unfold State.judge; (repeat' split) <;> simp
@[simp] theorem State.judge_link (s : State) (c : Cause) (a b : Bool) : (s.judge c a b).link = s.link := by
  unfold State.judge; (repeat' split) <;> simp
@[simp] theorem State.judge_pinHeld (s : State) (c : Cause) (a b : Bool) : (s.judge c a b).pinHeld = s.pinHeld := by
  unfold State.judge; (repeat' split) <;> simp
@[simp] theorem State.judge_pending (s : State) (c : Cause) (a b : Bool) : (s.judge c a b).pending = s.pending := by
  unfold State.judge; (repeat' split) <;> simp
@[simp] theorem State.judge_part (s : State) (c : Cause) (a b : Bool) : (s.judge c a b).admin.part = s.admin.part := by
  unfold State.judge; (repeat' split) <;> simp
@[simp] theorem State.judgeSlip_tracker (s : State) : (s.judgeSlip).tracker = s.tracker := by simp [State.judgeSlip]
@[simp] theorem State.judgeSlip_link (s : State) : (s.judgeSlip).link = s.link := by simp [State.judgeSlip]
@[simp] theorem State.judgeSlip_pinHeld (s : State) : (s.judgeSlip).pinHeld = s.pinHeld := by simp [State.judgeSlip]
@[simp] theorem State.judgeSlip_pending (s : State) : (s.judgeSlip).pending = s.pending := by simp [State.judgeSlip]
@[simp] theorem State.judgeSlip_part (s : State) : (s.judgeSlip).admin.part = s.admin.part := by simp [State.judgeSlip]
@[simp] theorem State.clearSlip_tracker (s : State) : (s.clearSlip).tracker = s.tracker := by simp [State.clearSlip]
@[simp] theorem State.clearSlip_link (s : State) : (s.clearSlip).link = s.link := by simp [State.clearSlip]
@[simp] theorem State.clearSlip_pinHeld (s : State) : (s.clearSlip).pinHeld = s.pinHeld := by simp [State.clearSlip]
@[simp] theorem State.clearSlip_pending (s : State) : (s.clearSlip).pending = s.pending := by simp [State.clearSlip]
@[simp] theorem State.clearSlip_part (s : State) : (s.clearSlip).admin.part = s.admin.part := by simp [State.clearSlip]
@[simp] theorem State.offerDeviation_tracker (s : State) (t : Track) (d : Int) : (s.offerDeviation t d).tracker = s.tracker := by
  unfold State.offerDeviation; dsimp only; (repeat' split) <;> simp
@[simp] theorem State.offerDeviation_link (s : State) (t : Track) (d : Int) : (s.offerDeviation t d).link = s.link := by
  unfold State.offerDeviation; dsimp only; (repeat' split) <;> simp
@[simp] theorem State.offerDeviation_pinHeld (s : State) (t : Track) (d : Int) : (s.offerDeviation t d).pinHeld = s.pinHeld := by
  unfold State.offerDeviation; dsimp only; (repeat' split) <;> simp
@[simp] theorem State.offerDeviation_pending (s : State) (t : Track) (d : Int) : (s.offerDeviation t d).pending = s.pending := by
  unfold State.offerDeviation; dsimp only; (repeat' split) <;> simp
@[simp] theorem State.offerDeviation_part (s : State) (t : Track) (d : Int) : (s.offerDeviation t d).admin.part = s.admin.part := by
  unfold State.offerDeviation; dsimp only; (repeat' split) <;> simp
@[simp] theorem State.trackRaise_rope (s : State) (t : Track) (c : Cause) (d : Detail) : (s.trackRaise t c d).rope = s.rope := by
  unfold State.trackRaise; split <;> simp
@[simp] theorem State.trackRaise_link (s : State) (t : Track) (c : Cause) (d : Detail) : (s.trackRaise t c d).link = s.link := by
  unfold State.trackRaise; split <;> simp
@[simp] theorem State.trackRaise_pinHeld (s : State) (t : Track) (c : Cause) (d : Detail) : (s.trackRaise t c d).pinHeld = s.pinHeld := by
  unfold State.trackRaise; split <;> simp
@[simp] theorem State.trackRaise_pending (s : State) (t : Track) (c : Cause) (d : Detail) : (s.trackRaise t c d).pending = s.pending := by
  unfold State.trackRaise; split <;> simp
@[simp] theorem State.trackRaise_part (s : State) (t : Track) (c : Cause) (d : Detail) : (s.trackRaise t c d).admin.part = s.admin.part := by
  unfold State.trackRaise; split <;> simp
@[simp] theorem State.modTrain_rope (s : State) (t : Track) (i : Nat) (f : TrainRecord → TrainRecord) : (s.modTrain t i f).rope = s.rope := by
  simp [State.modTrain]
@[simp] theorem State.modTrain_rail (s : State) (t : Track) (i : Nat) (f : TrainRecord → TrainRecord) : (s.modTrain t i f).rail = s.rail := by
  simp [State.modTrain]
@[simp] theorem State.modTrain_doors (s : State) (t : Track) (i : Nat) (f : TrainRecord → TrainRecord) : (s.modTrain t i f).doors = s.doors := by
  simp [State.modTrain]
@[simp] theorem State.modTrain_link (s : State) (t : Track) (i : Nat) (f : TrainRecord → TrainRecord) : (s.modTrain t i f).link = s.link := by
  simp [State.modTrain]
@[simp] theorem State.modTrain_tel (s : State) (t : Track) (i : Nat) (f : TrainRecord → TrainRecord) : (s.modTrain t i f).tel = s.tel := by
  simp [State.modTrain]
@[simp] theorem State.modTrain_chain (s : State) (t : Track) (i : Nat) (f : TrainRecord → TrainRecord) : (s.modTrain t i f).chain = s.chain := by
  simp [State.modTrain]
@[simp] theorem State.modTrain_pinHeld (s : State) (t : Track) (i : Nat) (f : TrainRecord → TrainRecord) : (s.modTrain t i f).pinHeld = s.pinHeld := by
  simp [State.modTrain]
@[simp] theorem State.modTrain_pending (s : State) (t : Track) (i : Nat) (f : TrainRecord → TrainRecord) : (s.modTrain t i f).pending = s.pending := by
  simp [State.modTrain]
@[simp] theorem State.modTrain_part (s : State) (t : Track) (i : Nat) (f : TrainRecord → TrainRecord) : (s.modTrain t i f).admin.part = s.admin.part := by
  simp [State.modTrain]
@[simp] theorem State.missSeat_rope (s : State) (t : Track) (c : Option Nat) (r : SeatRef) : (s.missSeat t c r).rope = s.rope := by
  simp [State.missSeat]
@[simp] theorem State.missSeat_link (s : State) (t : Track) (c : Option Nat) (r : SeatRef) : (s.missSeat t c r).link = s.link := by
  simp [State.missSeat]
@[simp] theorem State.missSeat_pinHeld (s : State) (t : Track) (c : Option Nat) (r : SeatRef) : (s.missSeat t c r).pinHeld = s.pinHeld := by
  simp [State.missSeat]
@[simp] theorem State.missSeat_pending (s : State) (t : Track) (c : Option Nat) (r : SeatRef) : (s.missSeat t c r).pending = s.pending := by
  simp [State.missSeat]
@[simp] theorem State.missSeat_part (s : State) (t : Track) (c : Option Nat) (r : SeatRef) : (s.missSeat t c r).admin.part = s.admin.part := by
  simp [State.missSeat]
@[simp] theorem State.sweepSeats_rope (s : State) (t : Track) (i : Nat) (c : Option Nat) (x : Int) (l : List SeatRef) : (s.sweepSeats t i c x l).rope = s.rope := by
  induction l generalizing s with
  | nil => rfl
  | cons a l ih => unfold State.sweepSeats; dsimp only; split <;> simp [ih]
@[simp] theorem State.sweepSeats_link (s : State) (t : Track) (i : Nat) (c : Option Nat) (x : Int) (l : List SeatRef) : (s.sweepSeats t i c x l).link = s.link := by
  induction l generalizing s with
  | nil => rfl
  | cons a l ih => unfold State.sweepSeats; dsimp only; split <;> simp [ih]
@[simp] theorem State.sweepSeats_pinHeld (s : State) (t : Track) (i : Nat) (c : Option Nat) (x : Int) (l : List SeatRef) : (s.sweepSeats t i c x l).pinHeld = s.pinHeld := by
  induction l generalizing s with
  | nil => rfl
  | cons a l ih => unfold State.sweepSeats; dsimp only; split <;> simp [ih]
@[simp] theorem State.sweepSeats_pending (s : State) (t : Track) (i : Nat) (c : Option Nat) (x : Int) (l : List SeatRef) : (s.sweepSeats t i c x l).pending = s.pending := by
  induction l generalizing s with
  | nil => rfl
  | cons a l ih => unfold State.sweepSeats; dsimp only; split <;> simp [ih]
@[simp] theorem State.sweepSeats_part (s : State) (t : Track) (i : Nat) (c : Option Nat) (x : Int) (l : List SeatRef) : (s.sweepSeats t i c x l).admin.part = s.admin.part := by
  induction l generalizing s with
  | nil => rfl
  | cons a l ih => unfold State.sweepSeats; dsimp only; split <;> simp [ih]
@[simp] theorem State.sweepRecord_rope (s : State) (t : Track) (i : Nat) : (State.sweepRecord t s i).rope = s.rope := by
  unfold State.sweepRecord; split <;> simp
@[simp] theorem State.sweepRecord_link (s : State) (t : Track) (i : Nat) : (State.sweepRecord t s i).link = s.link := by
  unfold State.sweepRecord; split <;> simp
@[simp] theorem State.sweepRecord_pinHeld (s : State) (t : Track) (i : Nat) : (State.sweepRecord t s i).pinHeld = s.pinHeld := by
  unfold State.sweepRecord; split <;> simp
@[simp] theorem State.sweepRecord_pending (s : State) (t : Track) (i : Nat) : (State.sweepRecord t s i).pending = s.pending := by
  unfold State.sweepRecord; split <;> simp
@[simp] theorem State.sweepRecord_part (s : State) (t : Track) (i : Nat) : (State.sweepRecord t s i).admin.part = s.admin.part := by
  unfold State.sweepRecord; split <;> simp
@[simp] theorem State.sweepList_rope (s : State) (t : Track) : (s.sweepList t).rope = s.rope := by
  unfold State.sweepList
  generalize List.range _ = l
  induction l generalizing s with
  | nil => rfl
  | cons a l ih => simp [ih]
@[simp] theorem State.sweepList_link (s : State) (t : Track) : (s.sweepList t).link = s.link := by
  unfold State.sweepList
  generalize List.range _ = l
  induction l generalizing s with
  | nil => rfl
  | cons a l ih => simp [ih]
@[simp] theorem State.sweepList_pinHeld (s : State) (t : Track) : (s.sweepList t).pinHeld = s.pinHeld := by
  unfold State.sweepList
  generalize List.range _ = l
  induction l generalizing s with
  | nil => rfl
  | cons a l ih => simp [ih]
@[simp] theorem State.sweepList_pending (s : State) (t : Track) : (s.sweepList t).pending = s.pending := by
  unfold State.sweepList
  generalize List.range _ = l
  induction l generalizing s with
  | nil => rfl
  | cons a l ih => simp [ih]
@[simp] theorem State.sweepList_part (s : State) (t : Track) : (s.sweepList t).admin.part = s.admin.part := by
  unfold State.sweepList
  generalize List.range _ = l
  induction l generalizing s with
  | nil => rfl
  | cons a l ih => simp [ih]
@[simp] theorem State.sweepLists_rope (s : State) : (s.sweepLists).rope = s.rope := by simp [State.sweepLists]
@[simp] theorem State.sweepLists_link (s : State) : (s.sweepLists).link = s.link := by simp [State.sweepLists]
@[simp] theorem State.sweepLists_pinHeld (s : State) : (s.sweepLists).pinHeld = s.pinHeld := by simp [State.sweepLists]
@[simp] theorem State.sweepLists_pending (s : State) : (s.sweepLists).pending = s.pending := by simp [State.sweepLists]
@[simp] theorem State.sweepLists_part (s : State) : (s.sweepLists).admin.part = s.admin.part := by
  simp [State.sweepLists]
@[simp] theorem State.tachStop_tracker (s : State) : (s.tachStop).tracker = s.tracker := by simp [State.tachStop]
@[simp] theorem State.tachStop_link (s : State) : (s.tachStop).link = s.link := by simp [State.tachStop]
@[simp] theorem State.tachStop_pinHeld (s : State) : (s.tachStop).pinHeld = s.pinHeld := by simp [State.tachStop]
@[simp] theorem State.tachStop_pending (s : State) : (s.tachStop).pending = s.pending := by simp [State.tachStop]
@[simp] theorem State.tachStop_part (s : State) : (s.tachStop).admin.part = s.admin.part := by simp [State.tachStop]
@[simp] theorem State.tachStart_tracker (s : State) : (s.tachStart).tracker = s.tracker := by simp [State.tachStart]
@[simp] theorem State.tachStart_rail (s : State) : (s.tachStart).rail = s.rail := by simp [State.tachStart]
@[simp] theorem State.tachStart_doors (s : State) : (s.tachStart).doors = s.doors := by simp [State.tachStart]
@[simp] theorem State.tachStart_link (s : State) : (s.tachStart).link = s.link := by simp [State.tachStart]
@[simp] theorem State.tachStart_tel (s : State) : (s.tachStart).tel = s.tel := by simp [State.tachStart]
@[simp] theorem State.tachStart_chain (s : State) : (s.tachStart).chain = s.chain := by simp [State.tachStart]
@[simp] theorem State.tachStart_pinHeld (s : State) : (s.tachStart).pinHeld = s.pinHeld := by simp [State.tachStart]
@[simp] theorem State.tachStart_pending (s : State) : (s.tachStart).pending = s.pending := by simp [State.tachStart]
@[simp] theorem State.tachStart_part (s : State) : (s.tachStart).admin.part = s.admin.part := by simp [State.tachStart]
@[simp] theorem State.setSpeed_tracker (s : State) : (s.setSpeed).tracker = s.tracker := by
  unfold State.setSpeed; dsimp only; split <;> simp
@[simp] theorem State.setSpeed_rail (s : State) : (s.setSpeed).rail = s.rail := by
  unfold State.setSpeed; dsimp only; split <;> simp
@[simp] theorem State.setSpeed_doors (s : State) : (s.setSpeed).doors = s.doors := by
  unfold State.setSpeed; dsimp only; split <;> simp
@[simp] theorem State.setSpeed_link (s : State) : (s.setSpeed).link = s.link := by
  unfold State.setSpeed; dsimp only; split <;> simp
@[simp] theorem State.setSpeed_tel (s : State) : (s.setSpeed).tel = s.tel := by
  unfold State.setSpeed; dsimp only; split <;> simp
@[simp] theorem State.setSpeed_chain (s : State) : (s.setSpeed).chain = s.chain := by
  unfold State.setSpeed; dsimp only; split <;> simp
@[simp] theorem State.setSpeed_pinHeld (s : State) : (s.setSpeed).pinHeld = s.pinHeld := by
  unfold State.setSpeed; dsimp only; split <;> simp
@[simp] theorem State.setSpeed_pending (s : State) : (s.setSpeed).pending = s.pending := by
  unfold State.setSpeed; dsimp only; split <;> simp
@[simp] theorem State.setSpeed_part (s : State) : (s.setSpeed).admin.part = s.admin.part := by
  unfold State.setSpeed; dsimp only; split <;> simp
@[simp] theorem State.judgeOverspeed_tracker (s : State) : (s.judgeOverspeed).tracker = s.tracker := by
  simp [State.judgeOverspeed]
@[simp] theorem State.judgeOverspeed_link (s : State) : (s.judgeOverspeed).link = s.link := by
  simp [State.judgeOverspeed]
@[simp] theorem State.judgeOverspeed_pinHeld (s : State) : (s.judgeOverspeed).pinHeld = s.pinHeld := by
  simp [State.judgeOverspeed]
@[simp] theorem State.judgeOverspeed_pending (s : State) : (s.judgeOverspeed).pending = s.pending := by
  simp [State.judgeOverspeed]
@[simp] theorem State.judgeOverspeed_part (s : State) : (s.judgeOverspeed).admin.part = s.admin.part := by
  simp [State.judgeOverspeed]
@[simp] theorem State.judgeReverse_tracker (s : State) : (s.judgeReverse).tracker = s.tracker := by
  simp [State.judgeReverse]
@[simp] theorem State.judgeReverse_link (s : State) : (s.judgeReverse).link = s.link := by simp [State.judgeReverse]
@[simp] theorem State.judgeReverse_pinHeld (s : State) : (s.judgeReverse).pinHeld = s.pinHeld := by
  simp [State.judgeReverse]
@[simp] theorem State.judgeReverse_pending (s : State) : (s.judgeReverse).pending = s.pending := by
  simp [State.judgeReverse]
@[simp] theorem State.judgeReverse_part (s : State) : (s.judgeReverse).admin.part = s.admin.part := by
  simp [State.judgeReverse]
@[simp] theorem State.judgeTach_tracker (s : State) (b : Bool) : (s.judgeTach b).tracker = s.tracker := by
  unfold State.judgeTach; (repeat' split) <;> simp
@[simp] theorem State.judgeTach_link (s : State) (b : Bool) : (s.judgeTach b).link = s.link := by
  unfold State.judgeTach; (repeat' split) <;> simp
@[simp] theorem State.judgeTach_pinHeld (s : State) (b : Bool) : (s.judgeTach b).pinHeld = s.pinHeld := by
  unfold State.judgeTach; (repeat' split) <;> simp
@[simp] theorem State.judgeTach_pending (s : State) (b : Bool) : (s.judgeTach b).pending = s.pending := by
  unfold State.judgeTach; (repeat' split) <;> simp
@[simp] theorem State.judgeTach_part (s : State) (b : Bool) : (s.judgeTach b).admin.part = s.admin.part := by
  unfold State.judgeTach; (repeat' split) <;> simp
@[simp] theorem State.stopTimerStop_rope (s : State) : (s.stopTimerStop).rope = s.rope := by simp [State.stopTimerStop]
@[simp] theorem State.stopTimerStop_tracker (s : State) : (s.stopTimerStop).tracker = s.tracker := by
  simp [State.stopTimerStop]
@[simp] theorem State.stopTimerStop_rail (s : State) : (s.stopTimerStop).rail = s.rail := by simp [State.stopTimerStop]
@[simp] theorem State.stopTimerStop_doors (s : State) : (s.stopTimerStop).doors = s.doors := by
  simp [State.stopTimerStop]
@[simp] theorem State.stopTimerStop_link (s : State) : (s.stopTimerStop).link = s.link := by simp [State.stopTimerStop]
@[simp] theorem State.stopTimerStop_tel (s : State) : (s.stopTimerStop).tel = s.tel := by simp [State.stopTimerStop]
@[simp] theorem State.stopTimerStop_pinHeld (s : State) : (s.stopTimerStop).pinHeld = s.pinHeld := by
  simp [State.stopTimerStop]
@[simp] theorem State.stopTimerStop_pending (s : State) : (s.stopTimerStop).pending = s.pending := by
  simp [State.stopTimerStop]
@[simp] theorem State.stopTimerStop_part (s : State) : (s.stopTimerStop).admin.part = s.admin.part := by
  simp [State.stopTimerStop]
@[simp] theorem State.gate_link (s : State) : (s.gate).link = s.link := by unfold State.gate; dsimp only; split <;> simp
@[simp] theorem State.gate_pinHeld (s : State) : (s.gate).pinHeld = s.pinHeld := by
  unfold State.gate; dsimp only; split <;> simp
@[simp] theorem State.gate_pending (s : State) : (s.gate).pending = s.pending := by
  unfold State.gate; dsimp only; split <;> simp
@[simp] theorem State.gate_part (s : State) : (s.gate).admin.part = s.admin.part := by
  unfold State.gate; dsimp only; split <;> simp
@[simp] theorem State.driveRunChanged_tracker (s : State) : (s.driveRunChanged).tracker = s.tracker := by
  unfold State.driveRunChanged; (repeat' split) <;> simp
@[simp] theorem State.driveRunChanged_link (s : State) : (s.driveRunChanged).link = s.link := by
  unfold State.driveRunChanged; (repeat' split) <;> simp
@[simp] theorem State.driveRunChanged_pinHeld (s : State) : (s.driveRunChanged).pinHeld = s.pinHeld := by
  unfold State.driveRunChanged; (repeat' split) <;> simp
@[simp] theorem State.driveRunChanged_pending (s : State) : (s.driveRunChanged).pending = s.pending := by
  unfold State.driveRunChanged; (repeat' split) <;> simp
@[simp] theorem State.driveRunChanged_part (s : State) : (s.driveRunChanged).admin.part = s.admin.part := by
  unfold State.driveRunChanged; (repeat' split) <;> simp
@[simp] theorem State.tachExpiry_tracker (s : State) : (s.tachExpiry).tracker = s.tracker := by
  unfold State.tachExpiry; split <;> simp
@[simp] theorem State.tachExpiry_link (s : State) : (s.tachExpiry).link = s.link := by
  unfold State.tachExpiry; split <;> simp
@[simp] theorem State.tachExpiry_pinHeld (s : State) : (s.tachExpiry).pinHeld = s.pinHeld := by
  unfold State.tachExpiry; split <;> simp
@[simp] theorem State.tachExpiry_pending (s : State) : (s.tachExpiry).pending = s.pending := by
  unfold State.tachExpiry; split <;> simp
@[simp] theorem State.tachExpiry_part (s : State) : (s.tachExpiry).admin.part = s.admin.part := by
  unfold State.tachExpiry; split <;> simp

/-! ## What the cabin tracker leaves -/

@[simp] theorem State.locate_rope (s : State) (c : Nat) (l : Location) : (s.locate c l).rope = s.rope := by
  simp [State.locate]
@[simp] theorem State.locate_rail (s : State) (c : Nat) (l : Location) : (s.locate c l).rail = s.rail := by
  simp [State.locate]
@[simp] theorem State.locate_doors (s : State) (c : Nat) (l : Location) : (s.locate c l).doors = s.doors := by
  simp [State.locate]
@[simp] theorem State.locate_link (s : State) (c : Nat) (l : Location) : (s.locate c l).link = s.link := by
  simp [State.locate]
@[simp] theorem State.locate_tel (s : State) (c : Nat) (l : Location) : (s.locate c l).tel = s.tel := by
  simp [State.locate]
@[simp] theorem State.locate_chain (s : State) (c : Nat) (l : Location) : (s.locate c l).chain = s.chain := by
  simp [State.locate]
@[simp] theorem State.locate_pinHeld (s : State) (c : Nat) (l : Location) : (s.locate c l).pinHeld = s.pinHeld := by
  simp [State.locate]
@[simp] theorem State.locate_pending (s : State) (c : Nat) (l : Location) : (s.locate c l).pending = s.pending := by
  simp [State.locate]
@[simp] theorem State.locate_part (s : State) (c : Nat) (l : Location) : (s.locate c l).admin.part = s.admin.part := by
  simp [State.locate]
@[simp] theorem State.locateSome_rope (s : State) (c : Option Nat) (l : Location) : (s.locateSome c l).rope = s.rope := by
  unfold State.locateSome; split <;> simp
@[simp] theorem State.locateSome_rail (s : State) (c : Option Nat) (l : Location) : (s.locateSome c l).rail = s.rail := by
  unfold State.locateSome; split <;> simp
@[simp] theorem State.locateSome_doors (s : State) (c : Option Nat) (l : Location) : (s.locateSome c l).doors = s.doors := by
  unfold State.locateSome; split <;> simp
@[simp] theorem State.locateSome_link (s : State) (c : Option Nat) (l : Location) : (s.locateSome c l).link = s.link := by
  unfold State.locateSome; split <;> simp
@[simp] theorem State.locateSome_tel (s : State) (c : Option Nat) (l : Location) : (s.locateSome c l).tel = s.tel := by
  unfold State.locateSome; split <;> simp
@[simp] theorem State.locateSome_chain (s : State) (c : Option Nat) (l : Location) : (s.locateSome c l).chain = s.chain := by
  unfold State.locateSome; split <;> simp
@[simp] theorem State.locateSome_pinHeld (s : State) (c : Option Nat) (l : Location) : (s.locateSome c l).pinHeld = s.pinHeld := by
  unfold State.locateSome; split <;> simp
@[simp] theorem State.locateSome_pending (s : State) (c : Option Nat) (l : Location) : (s.locateSome c l).pending = s.pending := by
  unfold State.locateSome; split <;> simp
@[simp] theorem State.locateSome_part (s : State) (c : Option Nat) (l : Location) : (s.locateSome c l).admin.part = s.admin.part := by
  unfold State.locateSome; split <;> simp
@[simp] theorem State.resolve_rope (s : State) (c : Nat) : (s.resolve c).1.rope = s.rope := by
  unfold State.resolve; (repeat' split) <;> simp
@[simp] theorem State.resolve_link (s : State) (c : Nat) : (s.resolve c).1.link = s.link := by
  unfold State.resolve; (repeat' split) <;> simp
@[simp] theorem State.resolve_pinHeld (s : State) (c : Nat) : (s.resolve c).1.pinHeld = s.pinHeld := by
  unfold State.resolve; (repeat' split) <;> simp
@[simp] theorem State.resolve_pending (s : State) (c : Nat) : (s.resolve c).1.pending = s.pending := by
  unfold State.resolve; (repeat' split) <;> simp
@[simp] theorem State.resolve_part (s : State) (c : Nat) : (s.resolve c).1.admin.part = s.admin.part := by
  unfold State.resolve; (repeat' split) <;> simp
@[simp] theorem State.rebuildTrack_rope (s : State) (t : Track) : (s.rebuildTrack t).rope = s.rope := by
  unfold State.rebuildTrack; dsimp only; split <;> simp
@[simp] theorem State.rebuildTrack_rail (s : State) (t : Track) : (s.rebuildTrack t).rail = s.rail := by
  unfold State.rebuildTrack; dsimp only; split <;> simp
@[simp] theorem State.rebuildTrack_doors (s : State) (t : Track) : (s.rebuildTrack t).doors = s.doors := by
  unfold State.rebuildTrack; dsimp only; split <;> simp
@[simp] theorem State.rebuildTrack_link (s : State) (t : Track) : (s.rebuildTrack t).link = s.link := by
  unfold State.rebuildTrack; dsimp only; split <;> simp
@[simp] theorem State.rebuildTrack_tel (s : State) (t : Track) : (s.rebuildTrack t).tel = s.tel := by
  unfold State.rebuildTrack; dsimp only; split <;> simp
@[simp] theorem State.rebuildTrack_chain (s : State) (t : Track) : (s.rebuildTrack t).chain = s.chain := by
  unfold State.rebuildTrack; dsimp only; split <;> simp
@[simp] theorem State.rebuildTrack_pinHeld (s : State) (t : Track) : (s.rebuildTrack t).pinHeld = s.pinHeld := by
  unfold State.rebuildTrack; dsimp only; split <;> simp
@[simp] theorem State.rebuildTrack_pending (s : State) (t : Track) : (s.rebuildTrack t).pending = s.pending := by
  unfold State.rebuildTrack; dsimp only; split <;> simp
@[simp] theorem State.rebuildTrack_part (s : State) (t : Track) : (s.rebuildTrack t).admin.part = s.admin.part := by
  unfold State.rebuildTrack; dsimp only; split <;> simp
@[simp] theorem State.rebuildSequences_rope (s : State) : (s.rebuildSequences).rope = s.rope := by
  simp [State.rebuildSequences]
@[simp] theorem State.rebuildSequences_rail (s : State) : (s.rebuildSequences).rail = s.rail := by
  simp [State.rebuildSequences]
@[simp] theorem State.rebuildSequences_doors (s : State) : (s.rebuildSequences).doors = s.doors := by
  simp [State.rebuildSequences]
@[simp] theorem State.rebuildSequences_link (s : State) : (s.rebuildSequences).link = s.link := by
  simp [State.rebuildSequences]
@[simp] theorem State.rebuildSequences_tel (s : State) : (s.rebuildSequences).tel = s.tel := by
  simp [State.rebuildSequences]
@[simp] theorem State.rebuildSequences_chain (s : State) : (s.rebuildSequences).chain = s.chain := by
  simp [State.rebuildSequences]
@[simp] theorem State.rebuildSequences_pinHeld (s : State) : (s.rebuildSequences).pinHeld = s.pinHeld := by
  simp [State.rebuildSequences]
@[simp] theorem State.rebuildSequences_pending (s : State) : (s.rebuildSequences).pending = s.pending := by
  simp [State.rebuildSequences]
@[simp] theorem State.rebuildSequences_part (s : State) : (s.rebuildSequences).admin.part = s.admin.part := by
  simp [State.rebuildSequences]
@[simp] theorem State.removeFromStation_rope (s : State) (c : Nat) : (s.removeFromStation c).1.rope = s.rope := by
  unfold State.removeFromStation; split <;> simp
@[simp] theorem State.removeFromStation_tracker (s : State) (c : Nat) : (s.removeFromStation c).1.tracker = s.tracker := by
  unfold State.removeFromStation; split <;> simp
@[simp] theorem State.removeFromStation_link (s : State) (c : Nat) : (s.removeFromStation c).1.link = s.link := by
  unfold State.removeFromStation; split <;> simp
@[simp] theorem State.removeFromStation_tel (s : State) (c : Nat) : (s.removeFromStation c).1.tel = s.tel := by
  unfold State.removeFromStation; split <;> simp
@[simp] theorem State.removeFromStation_chain (s : State) (c : Nat) : (s.removeFromStation c).1.chain = s.chain := by
  unfold State.removeFromStation; split <;> simp
@[simp] theorem State.removeFromStation_pinHeld (s : State) (c : Nat) : (s.removeFromStation c).1.pinHeld = s.pinHeld := by
  unfold State.removeFromStation; split <;> simp
@[simp] theorem State.removeFromStation_pending (s : State) (c : Nat) : (s.removeFromStation c).1.pending = s.pending := by
  unfold State.removeFromStation; split <;> simp
@[simp] theorem State.removeFromStation_part (s : State) (c : Nat) : (s.removeFromStation c).1.admin.part = s.admin.part := by
  unfold State.removeFromStation; split <;> simp
@[simp] theorem State.removeFromTrain_rope (s : State) (t : Track) (c : Nat) : (s.removeFromTrain t c).1.rope = s.rope := by
  unfold State.removeFromTrain; split <;> simp
@[simp] theorem State.removeFromTrain_rail (s : State) (t : Track) (c : Nat) : (s.removeFromTrain t c).1.rail = s.rail := by
  unfold State.removeFromTrain; split <;> simp
@[simp] theorem State.removeFromTrain_doors (s : State) (t : Track) (c : Nat) : (s.removeFromTrain t c).1.doors = s.doors := by
  unfold State.removeFromTrain; split <;> simp
@[simp] theorem State.removeFromTrain_link (s : State) (t : Track) (c : Nat) : (s.removeFromTrain t c).1.link = s.link := by
  unfold State.removeFromTrain; split <;> simp
@[simp] theorem State.removeFromTrain_tel (s : State) (t : Track) (c : Nat) : (s.removeFromTrain t c).1.tel = s.tel := by
  unfold State.removeFromTrain; split <;> simp
@[simp] theorem State.removeFromTrain_chain (s : State) (t : Track) (c : Nat) : (s.removeFromTrain t c).1.chain = s.chain := by
  unfold State.removeFromTrain; split <;> simp
@[simp] theorem State.removeFromTrain_pinHeld (s : State) (t : Track) (c : Nat) : (s.removeFromTrain t c).1.pinHeld = s.pinHeld := by
  unfold State.removeFromTrain; split <;> simp
@[simp] theorem State.removeFromTrain_pending (s : State) (t : Track) (c : Nat) : (s.removeFromTrain t c).1.pending = s.pending := by
  unfold State.removeFromTrain; split <;> simp
@[simp] theorem State.removeFromTrain_part (s : State) (t : Track) (c : Nat) : (s.removeFromTrain t c).1.admin.part = s.admin.part := by
  unfold State.removeFromTrain; split <;> simp
@[simp] theorem State.orderFaultIf_rope (s : State) (b : Bool) (t : Track) (c : Option Nat) : (s.orderFaultIf b t c).rope = s.rope := by
  unfold State.orderFaultIf; split <;> simp
@[simp] theorem State.orderFaultIf_link (s : State) (b : Bool) (t : Track) (c : Option Nat) : (s.orderFaultIf b t c).link = s.link := by
  unfold State.orderFaultIf; split <;> simp
@[simp] theorem State.orderFaultIf_pinHeld (s : State) (b : Bool) (t : Track) (c : Option Nat) : (s.orderFaultIf b t c).pinHeld = s.pinHeld := by
  unfold State.orderFaultIf; split <;> simp
@[simp] theorem State.orderFaultIf_pending (s : State) (b : Bool) (t : Track) (c : Option Nat) : (s.orderFaultIf b t c).pending = s.pending := by
  unfold State.orderFaultIf; split <;> simp
@[simp] theorem State.orderFaultIf_part (s : State) (b : Bool) (t : Track) (c : Option Nat) : (s.orderFaultIf b t c).admin.part = s.admin.part := by
  unfold State.orderFaultIf; split <;> simp
@[simp] theorem State.removeEverywhere_rope (s : State) (c : Nat) : (s.removeEverywhere c).1.rope = s.rope := by
  simp [State.removeEverywhere]
@[simp] theorem State.removeEverywhere_link (s : State) (c : Nat) : (s.removeEverywhere c).1.link = s.link := by
  simp [State.removeEverywhere]
@[simp] theorem State.removeEverywhere_tel (s : State) (c : Nat) : (s.removeEverywhere c).1.tel = s.tel := by
  simp [State.removeEverywhere]
@[simp] theorem State.removeEverywhere_chain (s : State) (c : Nat) : (s.removeEverywhere c).1.chain = s.chain := by
  simp [State.removeEverywhere]
@[simp] theorem State.removeEverywhere_pinHeld (s : State) (c : Nat) : (s.removeEverywhere c).1.pinHeld = s.pinHeld := by
  simp [State.removeEverywhere]
@[simp] theorem State.removeEverywhere_pending (s : State) (c : Nat) : (s.removeEverywhere c).1.pending = s.pending := by
  simp [State.removeEverywhere]
@[simp] theorem State.removeEverywhere_part (s : State) (c : Nat) : (s.removeEverywhere c).1.admin.part = s.admin.part := by
  simp [State.removeEverywhere]
@[simp] theorem State.place_rope (s : State) (c : Nat) (l : Location) : (s.place c l).rope = s.rope := by
  simp [State.place]
@[simp] theorem State.place_link (s : State) (c : Nat) (l : Location) : (s.place c l).link = s.link := by
  simp [State.place]
@[simp] theorem State.place_pinHeld (s : State) (c : Nat) (l : Location) : (s.place c l).pinHeld = s.pinHeld := by
  simp [State.place]
@[simp] theorem State.place_pending (s : State) (c : Nat) (l : Location) : (s.place c l).pending = s.pending := by
  simp [State.place]
@[simp] theorem State.place_part (s : State) (c : Nat) (l : Location) : (s.place c l).admin.part = s.admin.part := by
  simp [State.place]
@[simp] theorem State.placeSome_rope (s : State) (c : Option Nat) (l : Location) : (s.placeSome c l).rope = s.rope := by
  unfold State.placeSome; split <;> simp
@[simp] theorem State.placeSome_link (s : State) (c : Option Nat) (l : Location) : (s.placeSome c l).link = s.link := by
  unfold State.placeSome; split <;> simp
@[simp] theorem State.placeSome_pinHeld (s : State) (c : Option Nat) (l : Location) : (s.placeSome c l).pinHeld = s.pinHeld := by
  unfold State.placeSome; split <;> simp
@[simp] theorem State.placeSome_pending (s : State) (c : Option Nat) (l : Location) : (s.placeSome c l).pending = s.pending := by
  unfold State.placeSome; split <;> simp
@[simp] theorem State.placeSome_part (s : State) (c : Option Nat) (l : Location) : (s.placeSome c l).admin.part = s.admin.part := by
  unfold State.placeSome; split <;> simp
@[simp] theorem State.appendTrain_rope (s : State) (t : Track) (r : TrainRecord) (n : Fin 22) : (s.appendTrain t r n).rope = s.rope := by
  unfold State.appendTrain; split <;> simp
@[simp] theorem State.appendTrain_link (s : State) (t : Track) (r : TrainRecord) (n : Fin 22) : (s.appendTrain t r n).link = s.link := by
  unfold State.appendTrain; split <;> simp
@[simp] theorem State.appendTrain_pinHeld (s : State) (t : Track) (r : TrainRecord) (n : Fin 22) : (s.appendTrain t r n).pinHeld = s.pinHeld := by
  unfold State.appendTrain; split <;> simp
@[simp] theorem State.appendTrain_pending (s : State) (t : Track) (r : TrainRecord) (n : Fin 22) : (s.appendTrain t r n).pending = s.pending := by
  unfold State.appendTrain; split <;> simp
@[simp] theorem State.appendTrain_part (s : State) (t : Track) (r : TrainRecord) (n : Fin 22) : (s.appendTrain t r n).admin.part = s.admin.part := by
  unfold State.appendTrain; split <;> simp
@[simp] theorem State.countTrip_rope (s : State) (c : Option Nat) : (s.countTrip c).rope = s.rope := by
  unfold State.countTrip; split <;> simp
@[simp] theorem State.countTrip_rail (s : State) (c : Option Nat) : (s.countTrip c).rail = s.rail := by
  unfold State.countTrip; split <;> simp
@[simp] theorem State.countTrip_doors (s : State) (c : Option Nat) : (s.countTrip c).doors = s.doors := by
  unfold State.countTrip; split <;> simp
@[simp] theorem State.countTrip_link (s : State) (c : Option Nat) : (s.countTrip c).link = s.link := by
  unfold State.countTrip; split <;> simp
@[simp] theorem State.countTrip_tel (s : State) (c : Option Nat) : (s.countTrip c).tel = s.tel := by
  unfold State.countTrip; split <;> simp
@[simp] theorem State.countTrip_chain (s : State) (c : Option Nat) : (s.countTrip c).chain = s.chain := by
  unfold State.countTrip; split <;> simp
@[simp] theorem State.countTrip_pinHeld (s : State) (c : Option Nat) : (s.countTrip c).pinHeld = s.pinHeld := by
  unfold State.countTrip; split <;> simp
@[simp] theorem State.countTrip_pending (s : State) (c : Option Nat) : (s.countTrip c).pending = s.pending := by
  unfold State.countTrip; split <;> simp
@[simp] theorem State.countTrip_part (s : State) (c : Option Nat) : (s.countTrip c).admin.part = s.admin.part := by
  unfold State.countTrip; split <;> simp
@[simp] theorem State.valleyLaunch_rope (s : State) (c : Option Nat) (b : Bool) (p : Profile) : (s.valleyLaunch c b p).rope = s.rope := by
  simp [State.valleyLaunch]
@[simp] theorem State.valleyLaunch_link (s : State) (c : Option Nat) (b : Bool) (p : Profile) : (s.valleyLaunch c b p).link = s.link := by
  simp [State.valleyLaunch]
@[simp] theorem State.valleyLaunch_pinHeld (s : State) (c : Option Nat) (b : Bool) (p : Profile) : (s.valleyLaunch c b p).pinHeld = s.pinHeld := by
  simp [State.valleyLaunch]
@[simp] theorem State.valleyLaunch_pending (s : State) (c : Option Nat) (b : Bool) (p : Profile) : (s.valleyLaunch c b p).pending = s.pending := by
  simp [State.valleyLaunch]
@[simp] theorem State.valleyLaunch_part (s : State) (c : Option Nat) (b : Bool) (p : Profile) : (s.valleyLaunch c b p).admin.part = s.admin.part := by
  simp [State.valleyLaunch]
@[simp] theorem State.checkArrivalPosition_link (s : State) (t : Track) (r : TrainRecord) (a : Nat) : (s.checkArrivalPosition t r a).link = s.link := by
  unfold State.checkArrivalPosition; dsimp only; (repeat' split) <;> simp
@[simp] theorem State.checkArrivalPosition_pinHeld (s : State) (t : Track) (r : TrainRecord) (a : Nat) : (s.checkArrivalPosition t r a).pinHeld = s.pinHeld := by
  unfold State.checkArrivalPosition; dsimp only; (repeat' split) <;> simp
@[simp] theorem State.checkArrivalPosition_pending (s : State) (t : Track) (r : TrainRecord) (a : Nat) : (s.checkArrivalPosition t r a).pending = s.pending := by
  unfold State.checkArrivalPosition; dsimp only; (repeat' split) <;> simp
@[simp] theorem State.checkArrivalPosition_part (s : State) (t : Track) (r : TrainRecord) (a : Nat) : (s.checkArrivalPosition t r a).admin.part = s.admin.part := by
  unfold State.checkArrivalPosition; dsimp only; (repeat' split) <;> simp
@[simp] theorem State.arrivalChecks_link (s : State) (t : Track) (i a : Nat) : (s.arrivalChecks t i a).link = s.link := by
  have h : ∀ (l : List SeatRef) (s : State) (c : Option Nat),
      (l.foldl (fun s x => s.missSeat t c x) s).link = s.link := by
    intro l; induction l with
    | nil => intro s c; rfl
    | cons a l ih => intro s c; simp [ih]
  unfold State.arrivalChecks; split <;> simp [h]
@[simp] theorem State.arrivalChecks_pinHeld (s : State) (t : Track) (i a : Nat) : (s.arrivalChecks t i a).pinHeld = s.pinHeld := by
  have h : ∀ (l : List SeatRef) (s : State) (c : Option Nat),
      (l.foldl (fun s x => s.missSeat t c x) s).pinHeld = s.pinHeld := by
    intro l; induction l with
    | nil => intro s c; rfl
    | cons a l ih => intro s c; simp [ih]
  unfold State.arrivalChecks; split <;> simp [h]
@[simp] theorem State.arrivalChecks_pending (s : State) (t : Track) (i a : Nat) : (s.arrivalChecks t i a).pending = s.pending := by
  have h : ∀ (l : List SeatRef) (s : State) (c : Option Nat),
      (l.foldl (fun s x => s.missSeat t c x) s).pending = s.pending := by
    intro l; induction l with
    | nil => intro s c; rfl
    | cons a l ih => intro s c; simp [ih]
  unfold State.arrivalChecks; split <;> simp [h]
@[simp] theorem State.arrivalChecks_part (s : State) (t : Track) (i a : Nat) : (s.arrivalChecks t i a).admin.part = s.admin.part := by
  have h : ∀ (l : List SeatRef) (s : State) (c : Option Nat),
      (l.foldl (fun s x => s.missSeat t c x) s).admin.part = s.admin.part := by
    intro l; induction l with
    | nil => intro s c; rfl
    | cons a l ih => intro s c; simp [ih]
  unfold State.arrivalChecks; split <;> simp [h]
@[simp] theorem State.unknownArrival_rope (s : State) (t : Track) (c : Option Nat) : (s.unknownArrival t c).rope = s.rope := by
  simp [State.unknownArrival]
@[simp] theorem State.unknownArrival_link (s : State) (t : Track) (c : Option Nat) : (s.unknownArrival t c).link = s.link := by
  simp [State.unknownArrival]
@[simp] theorem State.unknownArrival_pinHeld (s : State) (t : Track) (c : Option Nat) : (s.unknownArrival t c).pinHeld = s.pinHeld := by
  simp [State.unknownArrival]
@[simp] theorem State.unknownArrival_pending (s : State) (t : Track) (c : Option Nat) : (s.unknownArrival t c).pending = s.pending := by
  simp [State.unknownArrival]
@[simp] theorem State.unknownArrival_part (s : State) (t : Track) (c : Option Nat) : (s.unknownArrival t c).admin.part = s.admin.part := by
  simp [State.unknownArrival]
@[simp] theorem State.unknownSummitArrival_rope (s : State) (c : Nat) : (s.unknownSummitArrival c).rope = s.rope := by
  simp [State.unknownSummitArrival]
@[simp] theorem State.unknownSummitArrival_link (s : State) (c : Nat) : (s.unknownSummitArrival c).link = s.link := by
  simp [State.unknownSummitArrival]
@[simp] theorem State.unknownSummitArrival_pinHeld (s : State) (c : Nat) : (s.unknownSummitArrival c).pinHeld = s.pinHeld := by
  simp [State.unknownSummitArrival]
@[simp] theorem State.unknownSummitArrival_pending (s : State) (c : Nat) : (s.unknownSummitArrival c).pending = s.pending := by
  simp [State.unknownSummitArrival]
@[simp] theorem State.unknownSummitArrival_part (s : State) (c : Nat) : (s.unknownSummitArrival c).admin.part = s.admin.part := by
  simp [State.unknownSummitArrival]
@[simp] theorem State.summitArrivalUnread_link (s : State) (a : Nat) : (s.summitArrivalUnread a).link = s.link := by
  unfold State.summitArrivalUnread; split <;> simp
@[simp] theorem State.summitArrivalUnread_pinHeld (s : State) (a : Nat) : (s.summitArrivalUnread a).pinHeld = s.pinHeld := by
  unfold State.summitArrivalUnread; split <;> simp
@[simp] theorem State.summitArrivalUnread_pending (s : State) (a : Nat) : (s.summitArrivalUnread a).pending = s.pending := by
  unfold State.summitArrivalUnread; split <;> simp
@[simp] theorem State.summitArrivalUnread_part (s : State) (a : Nat) : (s.summitArrivalUnread a).admin.part = s.admin.part := by
  unfold State.summitArrivalUnread; split <;> simp
@[simp] theorem State.summitArrivalGiven_link (s : State) (c a : Nat) : (s.summitArrivalGiven c a).link = s.link := by
  unfold State.summitArrivalGiven; (repeat' split) <;> simp
@[simp] theorem State.summitArrivalGiven_pinHeld (s : State) (c a : Nat) : (s.summitArrivalGiven c a).pinHeld = s.pinHeld := by
  unfold State.summitArrivalGiven; (repeat' split) <;> simp
@[simp] theorem State.summitArrivalGiven_pending (s : State) (c a : Nat) : (s.summitArrivalGiven c a).pending = s.pending := by
  unfold State.summitArrivalGiven; (repeat' split) <;> simp
@[simp] theorem State.summitArrivalGiven_part (s : State) (c a : Nat) : (s.summitArrivalGiven c a).admin.part = s.admin.part := by
  unfold State.summitArrivalGiven; (repeat' split) <;> simp
@[simp] theorem State.summitArrivalUnresolved_link (s : State) (a : Nat) : (s.summitArrivalUnresolved a).link = s.link := by
  unfold State.summitArrivalUnresolved; split <;> simp
@[simp] theorem State.summitArrivalUnresolved_pinHeld (s : State) (a : Nat) : (s.summitArrivalUnresolved a).pinHeld = s.pinHeld := by
  unfold State.summitArrivalUnresolved; split <;> simp
@[simp] theorem State.summitArrivalUnresolved_pending (s : State) (a : Nat) : (s.summitArrivalUnresolved a).pending = s.pending := by
  unfold State.summitArrivalUnresolved; split <;> simp
@[simp] theorem State.summitArrivalUnresolved_part (s : State) (a : Nat) : (s.summitArrivalUnresolved a).admin.part = s.admin.part := by
  unfold State.summitArrivalUnresolved; split <;> simp
@[simp] theorem State.summitArrival_link (s : State) (c a : Nat) : (s.summitArrival c a).link = s.link := by
  have h := State.resolve_link s c
  unfold State.summitArrival; split
  · simp
  · split <;> rename_i e <;> rw [e] at h <;> simpa using h
@[simp] theorem State.summitArrival_pinHeld (s : State) (c a : Nat) : (s.summitArrival c a).pinHeld = s.pinHeld := by
  have h := State.resolve_pinHeld s c
  unfold State.summitArrival; split
  · simp
  · split <;> rename_i e <;> rw [e] at h <;> simpa using h
@[simp] theorem State.summitArrival_pending (s : State) (c a : Nat) : (s.summitArrival c a).pending = s.pending := by
  have h := State.resolve_pending s c
  unfold State.summitArrival; split
  · simp
  · split <;> rename_i e <;> rw [e] at h <;> simpa using h
@[simp] theorem State.summitArrival_part (s : State) (c a : Nat) : (s.summitArrival c a).admin.part = s.admin.part := by
  have h := State.resolve_part s c
  unfold State.summitArrival; split
  · simp
  · split <;> rename_i e <;> rw [e] at h <;> simpa using h
@[simp] theorem State.placeDeparture_rope (s : State) (c : Nat) : (s.placeDeparture c).rope = s.rope := by
  simp [State.placeDeparture]
@[simp] theorem State.placeDeparture_link (s : State) (c : Nat) : (s.placeDeparture c).link = s.link := by
  simp [State.placeDeparture]
@[simp] theorem State.placeDeparture_pinHeld (s : State) (c : Nat) : (s.placeDeparture c).pinHeld = s.pinHeld := by
  simp [State.placeDeparture]
@[simp] theorem State.placeDeparture_pending (s : State) (c : Nat) : (s.placeDeparture c).pending = s.pending := by
  simp [State.placeDeparture]
@[simp] theorem State.placeDeparture_part (s : State) (c : Nat) : (s.placeDeparture c).admin.part = s.admin.part := by
  simp [State.placeDeparture]
@[simp] theorem State.appendDeparture_rope (s : State) (c : Option Nat) (a : Nat) : (s.appendDeparture c a).rope = s.rope := by
  simp [State.appendDeparture]
@[simp] theorem State.appendDeparture_link (s : State) (c : Option Nat) (a : Nat) : (s.appendDeparture c a).link = s.link := by
  simp [State.appendDeparture]
@[simp] theorem State.appendDeparture_pinHeld (s : State) (c : Option Nat) (a : Nat) : (s.appendDeparture c a).pinHeld = s.pinHeld := by
  simp [State.appendDeparture]
@[simp] theorem State.appendDeparture_pending (s : State) (c : Option Nat) (a : Nat) : (s.appendDeparture c a).pending = s.pending := by
  simp [State.appendDeparture]
@[simp] theorem State.appendDeparture_part (s : State) (c : Option Nat) (a : Nat) : (s.appendDeparture c a).admin.part = s.admin.part := by
  simp [State.appendDeparture]
@[simp] theorem State.summitDeparture_rope (s : State) (c a : Nat) : (s.summitDeparture c a).rope = s.rope := by
  have h := State.resolve_rope s c
  unfold State.summitDeparture; split
  · simp
  · split <;> rename_i e <;> rw [e] at h <;> simpa using h
@[simp] theorem State.summitDeparture_link (s : State) (c a : Nat) : (s.summitDeparture c a).link = s.link := by
  have h := State.resolve_link s c
  unfold State.summitDeparture; split
  · simp
  · split <;> rename_i e <;> rw [e] at h <;> simpa using h
@[simp] theorem State.summitDeparture_pinHeld (s : State) (c a : Nat) : (s.summitDeparture c a).pinHeld = s.pinHeld := by
  have h := State.resolve_pinHeld s c
  unfold State.summitDeparture; split
  · simp
  · split <;> rename_i e <;> rw [e] at h <;> simpa using h
@[simp] theorem State.summitDeparture_pending (s : State) (c a : Nat) : (s.summitDeparture c a).pending = s.pending := by
  have h := State.resolve_pending s c
  unfold State.summitDeparture; split
  · simp
  · split <;> rename_i e <;> rw [e] at h <;> simpa using h
@[simp] theorem State.summitDeparture_part (s : State) (c a : Nat) : (s.summitDeparture c a).admin.part = s.admin.part := by
  have h := State.resolve_part s c
  unfold State.summitDeparture; split
  · simp
  · split <;> rename_i e <;> rw [e] at h <;> simpa using h
@[simp] theorem State.judgePassage_link (s : State) (t : Track) (r : TrainRecord) (x : SeatRef) (a : Nat) : (s.judgePassage t r x a).link = s.link := by
  unfold State.judgePassage; dsimp only; (repeat' split) <;> simp
@[simp] theorem State.judgePassage_pinHeld (s : State) (t : Track) (r : TrainRecord) (x : SeatRef) (a : Nat) : (s.judgePassage t r x a).pinHeld = s.pinHeld := by
  unfold State.judgePassage; dsimp only; (repeat' split) <;> simp
@[simp] theorem State.judgePassage_pending (s : State) (t : Track) (r : TrainRecord) (x : SeatRef) (a : Nat) : (s.judgePassage t r x a).pending = s.pending := by
  unfold State.judgePassage; dsimp only; (repeat' split) <;> simp
@[simp] theorem State.judgePassage_part (s : State) (t : Track) (r : TrainRecord) (x : SeatRef) (a : Nat) : (s.judgePassage t r x a).admin.part = s.admin.part := by
  unfold State.judgePassage; dsimp only; (repeat' split) <;> simp
@[simp] theorem State.matchPassage_link (s : State) (t : Track) (n : Nat) (x : SeatRef) (a : Nat) : (s.matchPassage t n x a).link = s.link := by
  unfold State.matchPassage; (repeat' split) <;> simp
@[simp] theorem State.matchPassage_pinHeld (s : State) (t : Track) (n : Nat) (x : SeatRef) (a : Nat) : (s.matchPassage t n x a).pinHeld = s.pinHeld := by
  unfold State.matchPassage; (repeat' split) <;> simp
@[simp] theorem State.matchPassage_pending (s : State) (t : Track) (n : Nat) (x : SeatRef) (a : Nat) : (s.matchPassage t n x a).pending = s.pending := by
  unfold State.matchPassage; (repeat' split) <;> simp
@[simp] theorem State.matchPassage_part (s : State) (t : Track) (n : Nat) (x : SeatRef) (a : Nat) : (s.matchPassage t n x a).admin.part = s.admin.part := by
  unfold State.matchPassage; (repeat' split) <;> simp
@[simp] theorem State.passage_link (s : State) (x : SeatRef) (a : Nat) : (s.passage x a).link = s.link := by
  unfold State.passage; split <;> simp
@[simp] theorem State.passage_pinHeld (s : State) (x : SeatRef) (a : Nat) : (s.passage x a).pinHeld = s.pinHeld := by
  unfold State.passage; split <;> simp
@[simp] theorem State.passage_pending (s : State) (x : SeatRef) (a : Nat) : (s.passage x a).pending = s.pending := by
  unfold State.passage; split <;> simp
@[simp] theorem State.passage_part (s : State) (x : SeatRef) (a : Nat) : (s.passage x a).admin.part = s.admin.part := by
  unfold State.passage; split <;> simp
@[simp] theorem State.changeTrackMode_rope (s : State) (t : Track) (m : TrackMode) : (s.changeTrackMode t m).rope = s.rope := by
  simp [State.changeTrackMode]
@[simp] theorem State.changeTrackMode_rail (s : State) (t : Track) (m : TrackMode) : (s.changeTrackMode t m).rail = s.rail := by
  simp [State.changeTrackMode]
@[simp] theorem State.changeTrackMode_doors (s : State) (t : Track) (m : TrackMode) : (s.changeTrackMode t m).doors = s.doors := by
  simp [State.changeTrackMode]
@[simp] theorem State.changeTrackMode_link (s : State) (t : Track) (m : TrackMode) : (s.changeTrackMode t m).link = s.link := by
  simp [State.changeTrackMode]
@[simp] theorem State.changeTrackMode_tel (s : State) (t : Track) (m : TrackMode) : (s.changeTrackMode t m).tel = s.tel := by
  simp [State.changeTrackMode]
@[simp] theorem State.changeTrackMode_chain (s : State) (t : Track) (m : TrackMode) : (s.changeTrackMode t m).chain = s.chain := by
  simp [State.changeTrackMode]
@[simp] theorem State.changeTrackMode_pinHeld (s : State) (t : Track) (m : TrackMode) : (s.changeTrackMode t m).pinHeld = s.pinHeld := by
  simp [State.changeTrackMode]
@[simp] theorem State.changeTrackMode_pending (s : State) (t : Track) (m : TrackMode) : (s.changeTrackMode t m).pending = s.pending := by
  simp [State.changeTrackMode]
@[simp] theorem State.changeTrackMode_part (s : State) (t : Track) (m : TrackMode) : (s.changeTrackMode t m).admin.part = s.admin.part := by
  simp [State.changeTrackMode]
@[simp] theorem State.takeTrackOff_link (s : State) (t : Track) : (s.takeTrackOff t).link = s.link := by
  unfold State.takeTrackOff; dsimp only; split <;> simp
@[simp] theorem State.takeTrackOff_pinHeld (s : State) (t : Track) : (s.takeTrackOff t).pinHeld = s.pinHeld := by
  unfold State.takeTrackOff; dsimp only; split <;> simp
@[simp] theorem State.takeTrackOff_pending (s : State) (t : Track) : (s.takeTrackOff t).pending = s.pending := by
  unfold State.takeTrackOff; dsimp only; split <;> simp
@[simp] theorem State.takeTrackOff_part (s : State) (t : Track) : (s.takeTrackOff t).admin.part = s.admin.part := by
  unfold State.takeTrackOff; dsimp only; split <;> simp

/-! ## What the door channels leaves -/

@[simp] theorem State.startOpenDoor_rope (s : State) (k : Fin 8) : (s.startOpenDoor k).rope = s.rope := by
  simp [State.startOpenDoor]
@[simp] theorem State.startOpenDoor_tracker (s : State) (k : Fin 8) : (s.startOpenDoor k).tracker = s.tracker := by
  simp [State.startOpenDoor]
@[simp] theorem State.startOpenDoor_link (s : State) (k : Fin 8) : (s.startOpenDoor k).link = s.link := by
  simp [State.startOpenDoor]
@[simp] theorem State.startOpenDoor_tel (s : State) (k : Fin 8) : (s.startOpenDoor k).tel = s.tel := by
  simp [State.startOpenDoor]
@[simp] theorem State.startOpenDoor_chain (s : State) (k : Fin 8) : (s.startOpenDoor k).chain = s.chain := by
  simp [State.startOpenDoor]
@[simp] theorem State.startOpenDoor_pinHeld (s : State) (k : Fin 8) : (s.startOpenDoor k).pinHeld = s.pinHeld := by
  simp [State.startOpenDoor]
@[simp] theorem State.startOpenDoor_pending (s : State) (k : Fin 8) : (s.startOpenDoor k).pending = s.pending := by
  simp [State.startOpenDoor]
@[simp] theorem State.startOpenDoor_part (s : State) (k : Fin 8) : (s.startOpenDoor k).admin.part = s.admin.part := by
  simp [State.startOpenDoor]
@[simp] theorem State.startCloseDoor_rope (s : State) (k : Fin 8) : (s.startCloseDoor k).rope = s.rope := by
  simp [State.startCloseDoor]
@[simp] theorem State.startCloseDoor_tracker (s : State) (k : Fin 8) : (s.startCloseDoor k).tracker = s.tracker := by
  simp [State.startCloseDoor]
@[simp] theorem State.startCloseDoor_link (s : State) (k : Fin 8) : (s.startCloseDoor k).link = s.link := by
  simp [State.startCloseDoor]
@[simp] theorem State.startCloseDoor_tel (s : State) (k : Fin 8) : (s.startCloseDoor k).tel = s.tel := by
  simp [State.startCloseDoor]
@[simp] theorem State.startCloseDoor_chain (s : State) (k : Fin 8) : (s.startCloseDoor k).chain = s.chain := by
  simp [State.startCloseDoor]
@[simp] theorem State.startCloseDoor_pinHeld (s : State) (k : Fin 8) : (s.startCloseDoor k).pinHeld = s.pinHeld := by
  simp [State.startCloseDoor]
@[simp] theorem State.startCloseDoor_pending (s : State) (k : Fin 8) : (s.startCloseDoor k).pending = s.pending := by
  simp [State.startCloseDoor]
@[simp] theorem State.startCloseDoor_part (s : State) (k : Fin 8) : (s.startCloseDoor k).admin.part = s.admin.part := by
  simp [State.startCloseDoor]
@[simp] theorem State.startOpenGate_rope (s : State) (k : Fin 8) : (s.startOpenGate k).rope = s.rope := by
  simp [State.startOpenGate]
@[simp] theorem State.startOpenGate_tracker (s : State) (k : Fin 8) : (s.startOpenGate k).tracker = s.tracker := by
  simp [State.startOpenGate]
@[simp] theorem State.startOpenGate_rail (s : State) (k : Fin 8) : (s.startOpenGate k).rail = s.rail := by
  simp [State.startOpenGate]
@[simp] theorem State.startOpenGate_link (s : State) (k : Fin 8) : (s.startOpenGate k).link = s.link := by
  simp [State.startOpenGate]
@[simp] theorem State.startOpenGate_tel (s : State) (k : Fin 8) : (s.startOpenGate k).tel = s.tel := by
  simp [State.startOpenGate]
@[simp] theorem State.startOpenGate_chain (s : State) (k : Fin 8) : (s.startOpenGate k).chain = s.chain := by
  simp [State.startOpenGate]
@[simp] theorem State.startOpenGate_pinHeld (s : State) (k : Fin 8) : (s.startOpenGate k).pinHeld = s.pinHeld := by
  simp [State.startOpenGate]
@[simp] theorem State.startOpenGate_pending (s : State) (k : Fin 8) : (s.startOpenGate k).pending = s.pending := by
  simp [State.startOpenGate]
@[simp] theorem State.startOpenGate_part (s : State) (k : Fin 8) : (s.startOpenGate k).admin.part = s.admin.part := by
  simp [State.startOpenGate]
@[simp] theorem State.raiseOpenFail_rope (s : State) (k : Fin 8) : (s.raiseOpenFail k).rope = s.rope := by
  simp [State.raiseOpenFail]
@[simp] theorem State.raiseOpenFail_tracker (s : State) (k : Fin 8) : (s.raiseOpenFail k).tracker = s.tracker := by
  simp [State.raiseOpenFail]
@[simp] theorem State.raiseOpenFail_link (s : State) (k : Fin 8) : (s.raiseOpenFail k).link = s.link := by
  simp [State.raiseOpenFail]
@[simp] theorem State.raiseOpenFail_pinHeld (s : State) (k : Fin 8) : (s.raiseOpenFail k).pinHeld = s.pinHeld := by
  simp [State.raiseOpenFail]
@[simp] theorem State.raiseOpenFail_pending (s : State) (k : Fin 8) : (s.raiseOpenFail k).pending = s.pending := by
  simp [State.raiseOpenFail]
@[simp] theorem State.raiseOpenFail_part (s : State) (k : Fin 8) : (s.raiseOpenFail k).admin.part = s.admin.part := by
  simp [State.raiseOpenFail]
@[simp] theorem State.judgeOffer_rope (s : State) (k : Fin 8) (n : BitVec 16) (q : Profile) : (s.judgeOffer k n q).rope = s.rope := by
  unfold State.judgeOffer State.judgeOpen State.judgeClose State.judgeGate; (repeat' split) <;> simp
@[simp] theorem State.judgeOffer_tracker (s : State) (k : Fin 8) (n : BitVec 16) (q : Profile) : (s.judgeOffer k n q).tracker = s.tracker := by
  unfold State.judgeOffer State.judgeOpen State.judgeClose State.judgeGate; (repeat' split) <;> simp
@[simp] theorem State.judgeOffer_link (s : State) (k : Fin 8) (n : BitVec 16) (q : Profile) : (s.judgeOffer k n q).link = s.link := by
  unfold State.judgeOffer State.judgeOpen State.judgeClose State.judgeGate; (repeat' split) <;> simp
@[simp] theorem State.judgeOffer_tel (s : State) (k : Fin 8) (n : BitVec 16) (q : Profile) : (s.judgeOffer k n q).tel = s.tel := by
  unfold State.judgeOffer State.judgeOpen State.judgeClose State.judgeGate; (repeat' split) <;> simp
@[simp] theorem State.judgeOffer_chain (s : State) (k : Fin 8) (n : BitVec 16) (q : Profile) : (s.judgeOffer k n q).chain = s.chain := by
  unfold State.judgeOffer State.judgeOpen State.judgeClose State.judgeGate; (repeat' split) <;> simp
@[simp] theorem State.judgeOffer_pinHeld (s : State) (k : Fin 8) (n : BitVec 16) (q : Profile) : (s.judgeOffer k n q).pinHeld = s.pinHeld := by
  unfold State.judgeOffer State.judgeOpen State.judgeClose State.judgeGate; (repeat' split) <;> simp
@[simp] theorem State.judgeOffer_pending (s : State) (k : Fin 8) (n : BitVec 16) (q : Profile) : (s.judgeOffer k n q).pending = s.pending := by
  unfold State.judgeOffer State.judgeOpen State.judgeClose State.judgeGate; (repeat' split) <;> simp
@[simp] theorem State.judgeOffer_part (s : State) (k : Fin 8) (n : BitVec 16) (q : Profile) : (s.judgeOffer k n q).admin.part = s.admin.part := by
  unfold State.judgeOffer State.judgeOpen State.judgeClose State.judgeGate; (repeat' split) <;> simp
@[simp] theorem State.readSensor_rope (s : State) (k : Fin 8) : (s.readSensor k).rope = s.rope := by
  unfold State.readSensor; dsimp only; (repeat' split) <;> simp
@[simp] theorem State.readSensor_tracker (s : State) (k : Fin 8) : (s.readSensor k).tracker = s.tracker := by
  unfold State.readSensor; dsimp only; (repeat' split) <;> simp
@[simp] theorem State.readSensor_link (s : State) (k : Fin 8) : (s.readSensor k).link = s.link := by
  unfold State.readSensor; dsimp only; (repeat' split) <;> simp
@[simp] theorem State.readSensor_tel (s : State) (k : Fin 8) : (s.readSensor k).tel = s.tel := by
  unfold State.readSensor; dsimp only; (repeat' split) <;> simp
@[simp] theorem State.readSensor_chain (s : State) (k : Fin 8) : (s.readSensor k).chain = s.chain := by
  unfold State.readSensor; dsimp only; (repeat' split) <;> simp
@[simp] theorem State.readSensor_pinHeld (s : State) (k : Fin 8) : (s.readSensor k).pinHeld = s.pinHeld := by
  unfold State.readSensor; dsimp only; (repeat' split) <;> simp
@[simp] theorem State.readSensor_pending (s : State) (k : Fin 8) : (s.readSensor k).pending = s.pending := by
  unfold State.readSensor; dsimp only; (repeat' split) <;> simp
@[simp] theorem State.readSensor_part (s : State) (k : Fin 8) : (s.readSensor k).admin.part = s.admin.part := by
  unfold State.readSensor; dsimp only; (repeat' split) <;> simp
@[simp] theorem State.offerCabin_rope (s : State) (k : Fin 8) (r : StationRecord) : (s.offerCabin k r).rope = s.rope := by
  unfold State.offerCabin State.serve; dsimp only; (repeat' split) <;> simp
@[simp] theorem State.offerCabin_tracker (s : State) (k : Fin 8) (r : StationRecord) : (s.offerCabin k r).tracker = s.tracker := by
  unfold State.offerCabin State.serve; dsimp only; (repeat' split) <;> simp
@[simp] theorem State.offerCabin_link (s : State) (k : Fin 8) (r : StationRecord) : (s.offerCabin k r).link = s.link := by
  unfold State.offerCabin State.serve; dsimp only; (repeat' split) <;> simp
@[simp] theorem State.offerCabin_pinHeld (s : State) (k : Fin 8) (r : StationRecord) : (s.offerCabin k r).pinHeld = s.pinHeld := by
  unfold State.offerCabin State.serve; dsimp only; (repeat' split) <;> simp
@[simp] theorem State.offerCabin_pending (s : State) (k : Fin 8) (r : StationRecord) : (s.offerCabin k r).pending = s.pending := by
  unfold State.offerCabin State.serve; dsimp only; (repeat' split) <;> simp
@[simp] theorem State.offerCabin_part (s : State) (k : Fin 8) (r : StationRecord) : (s.offerCabin k r).admin.part = s.admin.part := by
  unfold State.offerCabin State.serve; dsimp only; (repeat' split) <;> simp
@[simp] theorem State.powerDown_rope (s : State) (k : Fin 8) : (s.powerDown k).rope = s.rope := by
  unfold State.powerDown; split <;> simp
@[simp] theorem State.powerDown_tracker (s : State) (k : Fin 8) : (s.powerDown k).tracker = s.tracker := by
  unfold State.powerDown; split <;> simp
@[simp] theorem State.powerDown_link (s : State) (k : Fin 8) : (s.powerDown k).link = s.link := by
  unfold State.powerDown; split <;> simp
@[simp] theorem State.powerDown_tel (s : State) (k : Fin 8) : (s.powerDown k).tel = s.tel := by
  unfold State.powerDown; split <;> simp
@[simp] theorem State.powerDown_chain (s : State) (k : Fin 8) : (s.powerDown k).chain = s.chain := by
  unfold State.powerDown; split <;> simp
@[simp] theorem State.powerDown_pinHeld (s : State) (k : Fin 8) : (s.powerDown k).pinHeld = s.pinHeld := by
  unfold State.powerDown; split <;> simp
@[simp] theorem State.powerDown_pending (s : State) (k : Fin 8) : (s.powerDown k).pending = s.pending := by
  unfold State.powerDown; split <;> simp
@[simp] theorem State.powerDown_part (s : State) (k : Fin 8) : (s.powerDown k).admin.part = s.admin.part := by
  unfold State.powerDown; split <;> simp
@[simp] theorem State.cutPower_rope (s : State) (k : Fin 8) : (s.cutPower k).rope = s.rope := by
  unfold State.cutPower; split <;> simp
@[simp] theorem State.cutPower_tracker (s : State) (k : Fin 8) : (s.cutPower k).tracker = s.tracker := by
  unfold State.cutPower; split <;> simp
@[simp] theorem State.cutPower_link (s : State) (k : Fin 8) : (s.cutPower k).link = s.link := by
  unfold State.cutPower; split <;> simp
@[simp] theorem State.cutPower_tel (s : State) (k : Fin 8) : (s.cutPower k).tel = s.tel := by
  unfold State.cutPower; split <;> simp
@[simp] theorem State.cutPower_chain (s : State) (k : Fin 8) : (s.cutPower k).chain = s.chain := by
  unfold State.cutPower; split <;> simp
@[simp] theorem State.cutPower_pinHeld (s : State) (k : Fin 8) : (s.cutPower k).pinHeld = s.pinHeld := by
  unfold State.cutPower; split <;> simp
@[simp] theorem State.cutPower_pending (s : State) (k : Fin 8) : (s.cutPower k).pending = s.pending := by
  unfold State.cutPower; split <;> simp
@[simp] theorem State.cutPower_part (s : State) (k : Fin 8) : (s.cutPower k).admin.part = s.admin.part := by
  unfold State.cutPower; split <;> simp
@[simp] theorem State.enterFault_rope (s : State) (k : Fin 8) : (s.enterFault k).rope = s.rope := by
  simp [State.enterFault]
@[simp] theorem State.enterFault_tracker (s : State) (k : Fin 8) : (s.enterFault k).tracker = s.tracker := by
  simp [State.enterFault]
@[simp] theorem State.enterFault_link (s : State) (k : Fin 8) : (s.enterFault k).link = s.link := by
  simp [State.enterFault]
@[simp] theorem State.enterFault_tel (s : State) (k : Fin 8) : (s.enterFault k).tel = s.tel := by
  simp [State.enterFault]
@[simp] theorem State.enterFault_chain (s : State) (k : Fin 8) : (s.enterFault k).chain = s.chain := by
  simp [State.enterFault]
@[simp] theorem State.enterFault_pinHeld (s : State) (k : Fin 8) : (s.enterFault k).pinHeld = s.pinHeld := by
  simp [State.enterFault]
@[simp] theorem State.enterFault_pending (s : State) (k : Fin 8) : (s.enterFault k).pending = s.pending := by
  simp [State.enterFault]
@[simp] theorem State.enterFault_part (s : State) (k : Fin 8) : (s.enterFault k).admin.part = s.admin.part := by
  simp [State.enterFault]
@[simp] theorem State.dropMember_rope (s : State) (k : Fin 8) : (s.dropMember k).rope = s.rope := by
  unfold State.dropMember; split <;> simp
@[simp] theorem State.dropMember_tracker (s : State) (k : Fin 8) : (s.dropMember k).tracker = s.tracker := by
  unfold State.dropMember; split <;> simp
@[simp] theorem State.dropMember_link (s : State) (k : Fin 8) : (s.dropMember k).link = s.link := by
  unfold State.dropMember; split <;> simp
@[simp] theorem State.dropMember_tel (s : State) (k : Fin 8) : (s.dropMember k).tel = s.tel := by
  unfold State.dropMember; split <;> simp
@[simp] theorem State.dropMember_chain (s : State) (k : Fin 8) : (s.dropMember k).chain = s.chain := by
  unfold State.dropMember; split <;> simp
@[simp] theorem State.dropMember_pinHeld (s : State) (k : Fin 8) : (s.dropMember k).pinHeld = s.pinHeld := by
  unfold State.dropMember; split <;> simp
@[simp] theorem State.dropMember_pending (s : State) (k : Fin 8) : (s.dropMember k).pending = s.pending := by
  unfold State.dropMember; split <;> simp
@[simp] theorem State.dropMember_part (s : State) (k : Fin 8) : (s.dropMember k).admin.part = s.admin.part := by
  unfold State.dropMember; split <;> simp
@[simp] theorem State.dropSupply_rope (s : State) (k : Fin 8) : (s.dropSupply k).rope = s.rope := by
  have h : ∀ (l : List (Fin 8)) (s : State), (l.foldl State.dropMember s).rope = s.rope := by
    intro l; induction l with
    | nil => intro s; rfl
    | cons a l ih => intro s; simp [ih]
  unfold State.dropSupply; split <;> simp [h]
@[simp] theorem State.dropSupply_tracker (s : State) (k : Fin 8) : (s.dropSupply k).tracker = s.tracker := by
  have h : ∀ (l : List (Fin 8)) (s : State), (l.foldl State.dropMember s).tracker = s.tracker := by
    intro l; induction l with
    | nil => intro s; rfl
    | cons a l ih => intro s; simp [ih]
  unfold State.dropSupply; split <;> simp [h]
@[simp] theorem State.dropSupply_link (s : State) (k : Fin 8) : (s.dropSupply k).link = s.link := by
  have h : ∀ (l : List (Fin 8)) (s : State), (l.foldl State.dropMember s).link = s.link := by
    intro l; induction l with
    | nil => intro s; rfl
    | cons a l ih => intro s; simp [ih]
  unfold State.dropSupply; split <;> simp [h]
@[simp] theorem State.dropSupply_tel (s : State) (k : Fin 8) : (s.dropSupply k).tel = s.tel := by
  have h : ∀ (l : List (Fin 8)) (s : State), (l.foldl State.dropMember s).tel = s.tel := by
    intro l; induction l with
    | nil => intro s; rfl
    | cons a l ih => intro s; simp [ih]
  unfold State.dropSupply; split <;> simp [h]
@[simp] theorem State.dropSupply_chain (s : State) (k : Fin 8) : (s.dropSupply k).chain = s.chain := by
  have h : ∀ (l : List (Fin 8)) (s : State), (l.foldl State.dropMember s).chain = s.chain := by
    intro l; induction l with
    | nil => intro s; rfl
    | cons a l ih => intro s; simp [ih]
  unfold State.dropSupply; split <;> simp [h]
@[simp] theorem State.dropSupply_pinHeld (s : State) (k : Fin 8) : (s.dropSupply k).pinHeld = s.pinHeld := by
  have h : ∀ (l : List (Fin 8)) (s : State), (l.foldl State.dropMember s).pinHeld = s.pinHeld := by
    intro l; induction l with
    | nil => intro s; rfl
    | cons a l ih => intro s; simp [ih]
  unfold State.dropSupply; split <;> simp [h]
@[simp] theorem State.dropSupply_pending (s : State) (k : Fin 8) : (s.dropSupply k).pending = s.pending := by
  have h : ∀ (l : List (Fin 8)) (s : State), (l.foldl State.dropMember s).pending = s.pending := by
    intro l; induction l with
    | nil => intro s; rfl
    | cons a l ih => intro s; simp [ih]
  unfold State.dropSupply; split <;> simp [h]
@[simp] theorem State.dropSupply_part (s : State) (k : Fin 8) : (s.dropSupply k).admin.part = s.admin.part := by
  have h : ∀ (l : List (Fin 8)) (s : State), (l.foldl State.dropMember s).admin.part = s.admin.part := by
    intro l; induction l with
    | nil => intro s; rfl
    | cons a l ih => intro s; simp [ih]
  unfold State.dropSupply; split <;> simp [h]
@[simp] theorem State.overcurrentRise_rope (s : State) (k : Fin 8) : (s.overcurrentRise k).rope = s.rope := by
  unfold State.overcurrentRise; split <;> simp
@[simp] theorem State.overcurrentRise_tracker (s : State) (k : Fin 8) : (s.overcurrentRise k).tracker = s.tracker := by
  unfold State.overcurrentRise; split <;> simp
@[simp] theorem State.overcurrentRise_link (s : State) (k : Fin 8) : (s.overcurrentRise k).link = s.link := by
  unfold State.overcurrentRise; split <;> simp
@[simp] theorem State.overcurrentRise_pinHeld (s : State) (k : Fin 8) : (s.overcurrentRise k).pinHeld = s.pinHeld := by
  unfold State.overcurrentRise; split <;> simp
@[simp] theorem State.overcurrentRise_pending (s : State) (k : Fin 8) : (s.overcurrentRise k).pending = s.pending := by
  unfold State.overcurrentRise; split <;> simp
@[simp] theorem State.overcurrentRise_part (s : State) (k : Fin 8) : (s.overcurrentRise k).admin.part = s.admin.part := by
  unfold State.overcurrentRise; split <;> simp
@[simp] theorem State.openExpired_rope (s : State) (k : Fin 8) : (s.openExpired k).rope = s.rope := by
  unfold State.openExpired; dsimp only; split <;> simp
@[simp] theorem State.openExpired_tracker (s : State) (k : Fin 8) : (s.openExpired k).tracker = s.tracker := by
  unfold State.openExpired; dsimp only; split <;> simp
@[simp] theorem State.openExpired_link (s : State) (k : Fin 8) : (s.openExpired k).link = s.link := by
  unfold State.openExpired; dsimp only; split <;> simp
@[simp] theorem State.openExpired_pinHeld (s : State) (k : Fin 8) : (s.openExpired k).pinHeld = s.pinHeld := by
  unfold State.openExpired; dsimp only; split <;> simp
@[simp] theorem State.openExpired_pending (s : State) (k : Fin 8) : (s.openExpired k).pending = s.pending := by
  unfold State.openExpired; dsimp only; split <;> simp
@[simp] theorem State.openExpired_part (s : State) (k : Fin 8) : (s.openExpired k).admin.part = s.admin.part := by
  unfold State.openExpired; dsimp only; split <;> simp
@[simp] theorem State.jam_rope (s : State) (k : Fin 8) (a : ActionKind) : (s.jam k a).rope = s.rope := by
  unfold State.jam; split <;> simp
@[simp] theorem State.jam_tracker (s : State) (k : Fin 8) (a : ActionKind) : (s.jam k a).tracker = s.tracker := by
  unfold State.jam; split <;> simp
@[simp] theorem State.jam_link (s : State) (k : Fin 8) (a : ActionKind) : (s.jam k a).link = s.link := by
  unfold State.jam; split <;> simp
@[simp] theorem State.jam_pinHeld (s : State) (k : Fin 8) (a : ActionKind) : (s.jam k a).pinHeld = s.pinHeld := by
  unfold State.jam; split <;> simp
@[simp] theorem State.jam_pending (s : State) (k : Fin 8) (a : ActionKind) : (s.jam k a).pending = s.pending := by
  unfold State.jam; split <;> simp
@[simp] theorem State.jam_part (s : State) (k : Fin 8) (a : ActionKind) : (s.jam k a).admin.part = s.admin.part := by
  unfold State.jam; split <;> simp
@[simp] theorem State.closeExpired_rope (s : State) (k : Fin 8) : (s.closeExpired k).rope = s.rope := by
  unfold State.closeExpired; dsimp only; (repeat' split) <;> simp
@[simp] theorem State.closeExpired_tracker (s : State) (k : Fin 8) : (s.closeExpired k).tracker = s.tracker := by
  unfold State.closeExpired; dsimp only; (repeat' split) <;> simp
@[simp] theorem State.closeExpired_link (s : State) (k : Fin 8) : (s.closeExpired k).link = s.link := by
  unfold State.closeExpired; dsimp only; (repeat' split) <;> simp
@[simp] theorem State.closeExpired_pinHeld (s : State) (k : Fin 8) : (s.closeExpired k).pinHeld = s.pinHeld := by
  unfold State.closeExpired; dsimp only; (repeat' split) <;> simp
@[simp] theorem State.closeExpired_pending (s : State) (k : Fin 8) : (s.closeExpired k).pending = s.pending := by
  unfold State.closeExpired; dsimp only; (repeat' split) <;> simp
@[simp] theorem State.closeExpired_part (s : State) (k : Fin 8) : (s.closeExpired k).admin.part = s.admin.part := by
  unfold State.closeExpired; dsimp only; (repeat' split) <;> simp
@[simp] theorem State.driveExpiry_rope (s : State) (k : Fin 8) : (s.driveExpiry k).rope = s.rope := by
  unfold State.driveExpiry; dsimp only; (repeat' split) <;> simp
@[simp] theorem State.driveExpiry_tracker (s : State) (k : Fin 8) : (s.driveExpiry k).tracker = s.tracker := by
  unfold State.driveExpiry; dsimp only; (repeat' split) <;> simp
@[simp] theorem State.driveExpiry_link (s : State) (k : Fin 8) : (s.driveExpiry k).link = s.link := by
  unfold State.driveExpiry; dsimp only; (repeat' split) <;> simp
@[simp] theorem State.driveExpiry_pinHeld (s : State) (k : Fin 8) : (s.driveExpiry k).pinHeld = s.pinHeld := by
  unfold State.driveExpiry; dsimp only; (repeat' split) <;> simp
@[simp] theorem State.driveExpiry_pending (s : State) (k : Fin 8) : (s.driveExpiry k).pending = s.pending := by
  unfold State.driveExpiry; dsimp only; (repeat' split) <;> simp
@[simp] theorem State.driveExpiry_part (s : State) (k : Fin 8) : (s.driveExpiry k).admin.part = s.admin.part := by
  unfold State.driveExpiry; dsimp only; (repeat' split) <;> simp
@[simp] theorem State.openEndRise_rope (s : State) (k : Fin 8) : (s.openEndRise k).rope = s.rope := by
  unfold State.openEndRise; dsimp only; (repeat' split) <;> simp
@[simp] theorem State.openEndRise_tracker (s : State) (k : Fin 8) : (s.openEndRise k).tracker = s.tracker := by
  unfold State.openEndRise; dsimp only; (repeat' split) <;> simp
@[simp] theorem State.openEndRise_link (s : State) (k : Fin 8) : (s.openEndRise k).link = s.link := by
  unfold State.openEndRise; dsimp only; (repeat' split) <;> simp
@[simp] theorem State.openEndRise_tel (s : State) (k : Fin 8) : (s.openEndRise k).tel = s.tel := by
  unfold State.openEndRise; dsimp only; (repeat' split) <;> simp
@[simp] theorem State.openEndRise_chain (s : State) (k : Fin 8) : (s.openEndRise k).chain = s.chain := by
  unfold State.openEndRise; dsimp only; (repeat' split) <;> simp
@[simp] theorem State.openEndRise_pinHeld (s : State) (k : Fin 8) : (s.openEndRise k).pinHeld = s.pinHeld := by
  unfold State.openEndRise; dsimp only; (repeat' split) <;> simp
@[simp] theorem State.openEndRise_pending (s : State) (k : Fin 8) : (s.openEndRise k).pending = s.pending := by
  unfold State.openEndRise; dsimp only; (repeat' split) <;> simp
@[simp] theorem State.openEndRise_part (s : State) (k : Fin 8) : (s.openEndRise k).admin.part = s.admin.part := by
  unfold State.openEndRise; dsimp only; (repeat' split) <;> simp
@[simp] theorem State.lockedRise_rope (s : State) (k : Fin 8) : (s.lockedRise k).rope = s.rope := by
  unfold State.lockedRise; dsimp only; (repeat' split) <;> simp
@[simp] theorem State.lockedRise_tracker (s : State) (k : Fin 8) : (s.lockedRise k).tracker = s.tracker := by
  unfold State.lockedRise; dsimp only; (repeat' split) <;> simp
@[simp] theorem State.lockedRise_link (s : State) (k : Fin 8) : (s.lockedRise k).link = s.link := by
  unfold State.lockedRise; dsimp only; (repeat' split) <;> simp
@[simp] theorem State.lockedRise_tel (s : State) (k : Fin 8) : (s.lockedRise k).tel = s.tel := by
  unfold State.lockedRise; dsimp only; (repeat' split) <;> simp
@[simp] theorem State.lockedRise_chain (s : State) (k : Fin 8) : (s.lockedRise k).chain = s.chain := by
  unfold State.lockedRise; dsimp only; (repeat' split) <;> simp
@[simp] theorem State.lockedRise_pinHeld (s : State) (k : Fin 8) : (s.lockedRise k).pinHeld = s.pinHeld := by
  unfold State.lockedRise; dsimp only; (repeat' split) <;> simp
@[simp] theorem State.lockedRise_pending (s : State) (k : Fin 8) : (s.lockedRise k).pending = s.pending := by
  unfold State.lockedRise; dsimp only; (repeat' split) <;> simp
@[simp] theorem State.lockedRise_part (s : State) (k : Fin 8) : (s.lockedRise k).admin.part = s.admin.part := by
  unfold State.lockedRise; dsimp only; (repeat' split) <;> simp
@[simp] theorem State.lockedFall_rope (s : State) (k : Fin 8) : (s.lockedFall k).rope = s.rope := by
  unfold State.lockedFall; dsimp only; split <;> simp
@[simp] theorem State.lockedFall_tracker (s : State) (k : Fin 8) : (s.lockedFall k).tracker = s.tracker := by
  unfold State.lockedFall; dsimp only; split <;> simp
@[simp] theorem State.lockedFall_link (s : State) (k : Fin 8) : (s.lockedFall k).link = s.link := by
  unfold State.lockedFall; dsimp only; split <;> simp
@[simp] theorem State.lockedFall_tel (s : State) (k : Fin 8) : (s.lockedFall k).tel = s.tel := by
  unfold State.lockedFall; dsimp only; split <;> simp
@[simp] theorem State.lockedFall_chain (s : State) (k : Fin 8) : (s.lockedFall k).chain = s.chain := by
  unfold State.lockedFall; dsimp only; split <;> simp
@[simp] theorem State.lockedFall_pinHeld (s : State) (k : Fin 8) : (s.lockedFall k).pinHeld = s.pinHeld := by
  unfold State.lockedFall; dsimp only; split <;> simp
@[simp] theorem State.lockedFall_pending (s : State) (k : Fin 8) : (s.lockedFall k).pending = s.pending := by
  unfold State.lockedFall; dsimp only; split <;> simp
@[simp] theorem State.lockedFall_part (s : State) (k : Fin 8) : (s.lockedFall k).admin.part = s.admin.part := by
  unfold State.lockedFall; dsimp only; split <;> simp
@[simp] theorem State.openEndChanged_rope (s : State) (k : Fin 8) : (s.openEndChanged k).rope = s.rope := by
  unfold State.openEndChanged; dsimp only; split <;> simp
@[simp] theorem State.openEndChanged_tracker (s : State) (k : Fin 8) : (s.openEndChanged k).tracker = s.tracker := by
  unfold State.openEndChanged; dsimp only; split <;> simp
@[simp] theorem State.openEndChanged_link (s : State) (k : Fin 8) : (s.openEndChanged k).link = s.link := by
  unfold State.openEndChanged; dsimp only; split <;> simp
@[simp] theorem State.openEndChanged_tel (s : State) (k : Fin 8) : (s.openEndChanged k).tel = s.tel := by
  unfold State.openEndChanged; dsimp only; split <;> simp
@[simp] theorem State.openEndChanged_chain (s : State) (k : Fin 8) : (s.openEndChanged k).chain = s.chain := by
  unfold State.openEndChanged; dsimp only; split <;> simp
@[simp] theorem State.openEndChanged_pinHeld (s : State) (k : Fin 8) : (s.openEndChanged k).pinHeld = s.pinHeld := by
  unfold State.openEndChanged; dsimp only; split <;> simp
@[simp] theorem State.openEndChanged_pending (s : State) (k : Fin 8) : (s.openEndChanged k).pending = s.pending := by
  unfold State.openEndChanged; dsimp only; split <;> simp
@[simp] theorem State.openEndChanged_part (s : State) (k : Fin 8) : (s.openEndChanged k).admin.part = s.admin.part := by
  unfold State.openEndChanged; dsimp only; split <;> simp
@[simp] theorem State.lockedChanged_rope (s : State) (k : Fin 8) : (s.lockedChanged k).rope = s.rope := by
  unfold State.lockedChanged; dsimp only; split <;> simp
@[simp] theorem State.lockedChanged_tracker (s : State) (k : Fin 8) : (s.lockedChanged k).tracker = s.tracker := by
  unfold State.lockedChanged; dsimp only; split <;> simp
@[simp] theorem State.lockedChanged_link (s : State) (k : Fin 8) : (s.lockedChanged k).link = s.link := by
  unfold State.lockedChanged; dsimp only; split <;> simp
@[simp] theorem State.lockedChanged_tel (s : State) (k : Fin 8) : (s.lockedChanged k).tel = s.tel := by
  unfold State.lockedChanged; dsimp only; split <;> simp
@[simp] theorem State.lockedChanged_chain (s : State) (k : Fin 8) : (s.lockedChanged k).chain = s.chain := by
  unfold State.lockedChanged; dsimp only; split <;> simp
@[simp] theorem State.lockedChanged_pinHeld (s : State) (k : Fin 8) : (s.lockedChanged k).pinHeld = s.pinHeld := by
  unfold State.lockedChanged; dsimp only; split <;> simp
@[simp] theorem State.lockedChanged_pending (s : State) (k : Fin 8) : (s.lockedChanged k).pending = s.pending := by
  unfold State.lockedChanged; dsimp only; split <;> simp
@[simp] theorem State.lockedChanged_part (s : State) (k : Fin 8) : (s.lockedChanged k).admin.part = s.admin.part := by
  unfold State.lockedChanged; dsimp only; split <;> simp
@[simp] theorem State.abandon_rope (s : State) (k : Fin 8) : (s.abandon k).rope = s.rope := by simp [State.abandon]
@[simp] theorem State.abandon_tracker (s : State) (k : Fin 8) : (s.abandon k).tracker = s.tracker := by
  simp [State.abandon]
@[simp] theorem State.abandon_rail (s : State) (k : Fin 8) : (s.abandon k).rail = s.rail := by simp [State.abandon]
@[simp] theorem State.abandon_link (s : State) (k : Fin 8) : (s.abandon k).link = s.link := by simp [State.abandon]
@[simp] theorem State.abandon_tel (s : State) (k : Fin 8) : (s.abandon k).tel = s.tel := by simp [State.abandon]
@[simp] theorem State.abandon_chain (s : State) (k : Fin 8) : (s.abandon k).chain = s.chain := by simp [State.abandon]
@[simp] theorem State.abandon_pinHeld (s : State) (k : Fin 8) : (s.abandon k).pinHeld = s.pinHeld := by
  simp [State.abandon]
@[simp] theorem State.abandon_pending (s : State) (k : Fin 8) : (s.abandon k).pending = s.pending := by
  simp [State.abandon]
@[simp] theorem State.abandon_part (s : State) (k : Fin 8) : (s.abandon k).admin.part = s.admin.part := by
  simp [State.abandon]
@[simp] theorem State.clearActs_rope (s : State) (k : Fin 8) : (s.clearActs k).rope = s.rope := by
  unfold State.clearActs; dsimp only; (repeat' split) <;> simp
@[simp] theorem State.clearActs_tracker (s : State) (k : Fin 8) : (s.clearActs k).tracker = s.tracker := by
  unfold State.clearActs; dsimp only; (repeat' split) <;> simp
@[simp] theorem State.clearActs_link (s : State) (k : Fin 8) : (s.clearActs k).link = s.link := by
  unfold State.clearActs; dsimp only; (repeat' split) <;> simp
@[simp] theorem State.clearActs_pinHeld (s : State) (k : Fin 8) : (s.clearActs k).pinHeld = s.pinHeld := by
  unfold State.clearActs; dsimp only; (repeat' split) <;> simp
@[simp] theorem State.clearActs_pending (s : State) (k : Fin 8) : (s.clearActs k).pending = s.pending := by
  unfold State.clearActs; dsimp only; (repeat' split) <;> simp
@[simp] theorem State.clearActs_part (s : State) (k : Fin 8) : (s.clearActs k).admin.part = s.admin.part := by
  unfold State.clearActs; dsimp only; (repeat' split) <;> simp
@[simp] theorem State.clearEdge_rope (s : State) (k : Fin 8) : (s.clearEdge k).rope = s.rope := by
  unfold State.clearEdge; split <;> simp
@[simp] theorem State.clearEdge_tracker (s : State) (k : Fin 8) : (s.clearEdge k).tracker = s.tracker := by
  unfold State.clearEdge; split <;> simp
@[simp] theorem State.clearEdge_link (s : State) (k : Fin 8) : (s.clearEdge k).link = s.link := by
  unfold State.clearEdge; split <;> simp
@[simp] theorem State.clearEdge_pinHeld (s : State) (k : Fin 8) : (s.clearEdge k).pinHeld = s.pinHeld := by
  unfold State.clearEdge; split <;> simp
@[simp] theorem State.clearEdge_pending (s : State) (k : Fin 8) : (s.clearEdge k).pending = s.pending := by
  unfold State.clearEdge; split <;> simp
@[simp] theorem State.clearEdge_part (s : State) (k : Fin 8) : (s.clearEdge k).admin.part = s.admin.part := by
  unfold State.clearEdge; split <;> simp
@[simp] theorem State.moveToLocal_rope (s : State) (k : Fin 8) : (s.moveToLocal k).rope = s.rope := by
  unfold State.moveToLocal; dsimp only; split <;> simp
@[simp] theorem State.moveToLocal_tracker (s : State) (k : Fin 8) : (s.moveToLocal k).tracker = s.tracker := by
  unfold State.moveToLocal; dsimp only; split <;> simp
@[simp] theorem State.moveToLocal_link (s : State) (k : Fin 8) : (s.moveToLocal k).link = s.link := by
  unfold State.moveToLocal; dsimp only; split <;> simp
@[simp] theorem State.moveToLocal_tel (s : State) (k : Fin 8) : (s.moveToLocal k).tel = s.tel := by
  unfold State.moveToLocal; dsimp only; split <;> simp
@[simp] theorem State.moveToLocal_chain (s : State) (k : Fin 8) : (s.moveToLocal k).chain = s.chain := by
  unfold State.moveToLocal; dsimp only; split <;> simp
@[simp] theorem State.moveToLocal_pinHeld (s : State) (k : Fin 8) : (s.moveToLocal k).pinHeld = s.pinHeld := by
  unfold State.moveToLocal; dsimp only; split <;> simp
@[simp] theorem State.moveToLocal_pending (s : State) (k : Fin 8) : (s.moveToLocal k).pending = s.pending := by
  unfold State.moveToLocal; dsimp only; split <;> simp
@[simp] theorem State.moveToLocal_part (s : State) (k : Fin 8) : (s.moveToLocal k).admin.part = s.admin.part := by
  unfold State.moveToLocal; dsimp only; split <;> simp

/-! ## What the station rail unit leaves -/

@[simp] theorem State.setProgress_rope (s : State) (i q : Nat) : (s.setProgress i q).rope = s.rope := by
  simp [State.setProgress]
@[simp] theorem State.setProgress_tracker (s : State) (i q : Nat) : (s.setProgress i q).tracker = s.tracker := by
  simp [State.setProgress]
@[simp] theorem State.setProgress_doors (s : State) (i q : Nat) : (s.setProgress i q).doors = s.doors := by
  simp [State.setProgress]
@[simp] theorem State.setProgress_link (s : State) (i q : Nat) : (s.setProgress i q).link = s.link := by
  simp [State.setProgress]
@[simp] theorem State.setProgress_tel (s : State) (i q : Nat) : (s.setProgress i q).tel = s.tel := by
  simp [State.setProgress]
@[simp] theorem State.setProgress_chain (s : State) (i q : Nat) : (s.setProgress i q).chain = s.chain := by
  simp [State.setProgress]
@[simp] theorem State.setProgress_pinHeld (s : State) (i q : Nat) : (s.setProgress i q).pinHeld = s.pinHeld := by
  simp [State.setProgress]
@[simp] theorem State.setProgress_pending (s : State) (i q : Nat) : (s.setProgress i q).pending = s.pending := by
  simp [State.setProgress]
@[simp] theorem State.setProgress_part (s : State) (i q : Nat) : (s.setProgress i q).admin.part = s.admin.part := by
  simp [State.setProgress]
@[simp] theorem State.judgeSkip_rope (s : State) (q : Nat) (k : Fin 8) (c : Option Nat) : (s.judgeSkip q k c).rope = s.rope := by
  unfold State.judgeSkip; split <;> simp
@[simp] theorem State.judgeSkip_tracker (s : State) (q : Nat) (k : Fin 8) (c : Option Nat) : (s.judgeSkip q k c).tracker = s.tracker := by
  unfold State.judgeSkip; split <;> simp
@[simp] theorem State.judgeSkip_link (s : State) (q : Nat) (k : Fin 8) (c : Option Nat) : (s.judgeSkip q k c).link = s.link := by
  unfold State.judgeSkip; split <;> simp
@[simp] theorem State.judgeSkip_pinHeld (s : State) (q : Nat) (k : Fin 8) (c : Option Nat) : (s.judgeSkip q k c).pinHeld = s.pinHeld := by
  unfold State.judgeSkip; split <;> simp
@[simp] theorem State.judgeSkip_pending (s : State) (q : Nat) (k : Fin 8) (c : Option Nat) : (s.judgeSkip q k c).pending = s.pending := by
  unfold State.judgeSkip; split <;> simp
@[simp] theorem State.judgeSkip_part (s : State) (q : Nat) (k : Fin 8) (c : Option Nat) : (s.judgeSkip q k c).admin.part = s.admin.part := by
  unfold State.judgeSkip; split <;> simp
@[simp] theorem State.bayArrival_rope (s : State) (k : Fin 8) : (s.bayArrival k).rope = s.rope := by
  unfold State.bayArrival; (repeat' split) <;> simp
@[simp] theorem State.bayArrival_tracker (s : State) (k : Fin 8) : (s.bayArrival k).tracker = s.tracker := by
  unfold State.bayArrival; (repeat' split) <;> simp
@[simp] theorem State.bayArrival_link (s : State) (k : Fin 8) : (s.bayArrival k).link = s.link := by
  unfold State.bayArrival; (repeat' split) <;> simp
@[simp] theorem State.bayArrival_pinHeld (s : State) (k : Fin 8) : (s.bayArrival k).pinHeld = s.pinHeld := by
  unfold State.bayArrival; (repeat' split) <;> simp
@[simp] theorem State.bayArrival_pending (s : State) (k : Fin 8) : (s.bayArrival k).pending = s.pending := by
  unfold State.bayArrival; (repeat' split) <;> simp
@[simp] theorem State.bayArrival_part (s : State) (k : Fin 8) : (s.bayArrival k).admin.part = s.admin.part := by
  unfold State.bayArrival; (repeat' split) <;> simp
@[simp] theorem State.raiseNotLocked_rope (s : State) (c : Option Nat) : (s.raiseNotLocked c).rope = s.rope := by
  simp [State.raiseNotLocked]
@[simp] theorem State.raiseNotLocked_tracker (s : State) (c : Option Nat) : (s.raiseNotLocked c).tracker = s.tracker := by
  simp [State.raiseNotLocked]
@[simp] theorem State.raiseNotLocked_link (s : State) (c : Option Nat) : (s.raiseNotLocked c).link = s.link := by
  simp [State.raiseNotLocked]
@[simp] theorem State.raiseNotLocked_pinHeld (s : State) (c : Option Nat) : (s.raiseNotLocked c).pinHeld = s.pinHeld := by
  simp [State.raiseNotLocked]
@[simp] theorem State.raiseNotLocked_pending (s : State) (c : Option Nat) : (s.raiseNotLocked c).pending = s.pending := by
  simp [State.raiseNotLocked]
@[simp] theorem State.raiseNotLocked_part (s : State) (c : Option Nat) : (s.raiseNotLocked c).admin.part = s.admin.part := by
  simp [State.raiseNotLocked]
@[simp] theorem State.lockCheck_rope (s : State) : (s.lockCheck).rope = s.rope := by
  unfold State.lockCheck; (repeat' split) <;> simp
@[simp] theorem State.lockCheck_tracker (s : State) : (s.lockCheck).tracker = s.tracker := by
  unfold State.lockCheck; (repeat' split) <;> simp
@[simp] theorem State.lockCheck_link (s : State) : (s.lockCheck).link = s.link := by
  unfold State.lockCheck; (repeat' split) <;> simp
@[simp] theorem State.lockCheck_pinHeld (s : State) : (s.lockCheck).pinHeld = s.pinHeld := by
  unfold State.lockCheck; (repeat' split) <;> simp
@[simp] theorem State.lockCheck_pending (s : State) : (s.lockCheck).pending = s.pending := by
  unfold State.lockCheck; (repeat' split) <;> simp
@[simp] theorem State.lockCheck_part (s : State) : (s.lockCheck).admin.part = s.admin.part := by
  unfold State.lockCheck; (repeat' split) <;> simp
@[simp] theorem State.handEdge_rope (s : State) (d : Detector) (b : Bool) : (s.handEdge d b).rope = s.rope := by
  unfold State.handEdge; (repeat' split) <;> simp
@[simp] theorem State.handEdge_tracker (s : State) (d : Detector) (b : Bool) : (s.handEdge d b).tracker = s.tracker := by
  unfold State.handEdge; (repeat' split) <;> simp
@[simp] theorem State.handEdge_link (s : State) (d : Detector) (b : Bool) : (s.handEdge d b).link = s.link := by
  unfold State.handEdge; (repeat' split) <;> simp
@[simp] theorem State.handEdge_pinHeld (s : State) (d : Detector) (b : Bool) : (s.handEdge d b).pinHeld = s.pinHeld := by
  unfold State.handEdge; (repeat' split) <;> simp
@[simp] theorem State.handEdge_pending (s : State) (d : Detector) (b : Bool) : (s.handEdge d b).pending = s.pending := by
  unfold State.handEdge; (repeat' split) <;> simp
@[simp] theorem State.handEdge_part (s : State) (d : Detector) (b : Bool) : (s.handEdge d b).admin.part = s.admin.part := by
  unfold State.handEdge; (repeat' split) <;> simp
@[simp] theorem State.modDetector_rope (s : State) (d : Fin 9) (f : DetectorUnit → DetectorUnit) : (s.modDetector d f).rope = s.rope := by
  simp [State.modDetector]
@[simp] theorem State.modDetector_tracker (s : State) (d : Fin 9) (f : DetectorUnit → DetectorUnit) : (s.modDetector d f).tracker = s.tracker := by
  simp [State.modDetector]
@[simp] theorem State.modDetector_doors (s : State) (d : Fin 9) (f : DetectorUnit → DetectorUnit) : (s.modDetector d f).doors = s.doors := by
  simp [State.modDetector]
@[simp] theorem State.modDetector_link (s : State) (d : Fin 9) (f : DetectorUnit → DetectorUnit) : (s.modDetector d f).link = s.link := by
  simp [State.modDetector]
@[simp] theorem State.modDetector_tel (s : State) (d : Fin 9) (f : DetectorUnit → DetectorUnit) : (s.modDetector d f).tel = s.tel := by
  simp [State.modDetector]
@[simp] theorem State.modDetector_chain (s : State) (d : Fin 9) (f : DetectorUnit → DetectorUnit) : (s.modDetector d f).chain = s.chain := by
  simp [State.modDetector]
@[simp] theorem State.modDetector_pinHeld (s : State) (d : Fin 9) (f : DetectorUnit → DetectorUnit) : (s.modDetector d f).pinHeld = s.pinHeld := by
  simp [State.modDetector]
@[simp] theorem State.modDetector_pending (s : State) (d : Fin 9) (f : DetectorUnit → DetectorUnit) : (s.modDetector d f).pending = s.pending := by
  simp [State.modDetector]
@[simp] theorem State.modDetector_part (s : State) (d : Fin 9) (f : DetectorUnit → DetectorUnit) : (s.modDetector d f).admin.part = s.admin.part := by
  simp [State.modDetector]
@[simp] theorem State.makeEdge_rope (s : State) (d : Detector) : (s.makeEdge d).rope = s.rope := by
  simp [State.makeEdge]
@[simp] theorem State.makeEdge_tracker (s : State) (d : Detector) : (s.makeEdge d).tracker = s.tracker := by
  simp [State.makeEdge]
@[simp] theorem State.makeEdge_link (s : State) (d : Detector) : (s.makeEdge d).link = s.link := by
  simp [State.makeEdge]
@[simp] theorem State.makeEdge_pinHeld (s : State) (d : Detector) : (s.makeEdge d).pinHeld = s.pinHeld := by
  simp [State.makeEdge]
@[simp] theorem State.makeEdge_pending (s : State) (d : Detector) : (s.makeEdge d).pending = s.pending := by
  simp [State.makeEdge]
@[simp] theorem State.makeEdge_part (s : State) (d : Detector) : (s.makeEdge d).admin.part = s.admin.part := by
  simp [State.makeEdge]
@[simp] theorem State.levelChanged_rope (s : State) (d : Detector) : (s.levelChanged d).rope = s.rope := by
  unfold State.levelChanged; dsimp only; (repeat' split) <;> simp
@[simp] theorem State.levelChanged_tracker (s : State) (d : Detector) : (s.levelChanged d).tracker = s.tracker := by
  unfold State.levelChanged; dsimp only; (repeat' split) <;> simp
@[simp] theorem State.levelChanged_link (s : State) (d : Detector) : (s.levelChanged d).link = s.link := by
  unfold State.levelChanged; dsimp only; (repeat' split) <;> simp
@[simp] theorem State.levelChanged_pinHeld (s : State) (d : Detector) : (s.levelChanged d).pinHeld = s.pinHeld := by
  unfold State.levelChanged; dsimp only; (repeat' split) <;> simp
@[simp] theorem State.levelChanged_pending (s : State) (d : Detector) : (s.levelChanged d).pending = s.pending := by
  unfold State.levelChanged; dsimp only; (repeat' split) <;> simp
@[simp] theorem State.levelChanged_part (s : State) (d : Detector) : (s.levelChanged d).admin.part = s.admin.part := by
  unfold State.levelChanged; dsimp only; (repeat' split) <;> simp
@[simp] theorem State.debounceExpiry_rope (s : State) (d : Detector) : (s.debounceExpiry d).rope = s.rope := by
  unfold State.debounceExpiry; split <;> simp
@[simp] theorem State.debounceExpiry_tracker (s : State) (d : Detector) : (s.debounceExpiry d).tracker = s.tracker := by
  unfold State.debounceExpiry; split <;> simp
@[simp] theorem State.debounceExpiry_link (s : State) (d : Detector) : (s.debounceExpiry d).link = s.link := by
  unfold State.debounceExpiry; split <;> simp
@[simp] theorem State.debounceExpiry_pinHeld (s : State) (d : Detector) : (s.debounceExpiry d).pinHeld = s.pinHeld := by
  unfold State.debounceExpiry; split <;> simp
@[simp] theorem State.debounceExpiry_pending (s : State) (d : Detector) : (s.debounceExpiry d).pending = s.pending := by
  unfold State.debounceExpiry; split <;> simp
@[simp] theorem State.debounceExpiry_part (s : State) (d : Detector) : (s.debounceExpiry d).admin.part = s.admin.part := by
  unfold State.debounceExpiry; split <;> simp

/-! ## What the post poller and the seat checker leaves -/

@[simp] theorem State.modPost_rope (s : State) (p : Post) (f : PostEntry → PostEntry) : (s.modPost p f).rope = s.rope := by
  simp [State.modPost]
@[simp] theorem State.modPost_tracker (s : State) (p : Post) (f : PostEntry → PostEntry) : (s.modPost p f).tracker = s.tracker := by
  simp [State.modPost]
@[simp] theorem State.modPost_rail (s : State) (p : Post) (f : PostEntry → PostEntry) : (s.modPost p f).rail = s.rail := by
  simp [State.modPost]
@[simp] theorem State.modPost_doors (s : State) (p : Post) (f : PostEntry → PostEntry) : (s.modPost p f).doors = s.doors := by
  simp [State.modPost]
@[simp] theorem State.modPost_link (s : State) (p : Post) (f : PostEntry → PostEntry) : (s.modPost p f).link = s.link := by
  simp [State.modPost]
@[simp] theorem State.modPost_tel (s : State) (p : Post) (f : PostEntry → PostEntry) : (s.modPost p f).tel = s.tel := by
  simp [State.modPost]
@[simp] theorem State.modPost_chain (s : State) (p : Post) (f : PostEntry → PostEntry) : (s.modPost p f).chain = s.chain := by
  simp [State.modPost]
@[simp] theorem State.modPost_pinHeld (s : State) (p : Post) (f : PostEntry → PostEntry) : (s.modPost p f).pinHeld = s.pinHeld := by
  simp [State.modPost]
@[simp] theorem State.modPost_pending (s : State) (p : Post) (f : PostEntry → PostEntry) : (s.modPost p f).pending = s.pending := by
  simp [State.modPost]
@[simp] theorem State.modPost_part (s : State) (p : Post) (f : PostEntry → PostEntry) : (s.modPost p f).admin.part = s.admin.part := by
  simp [State.modPost]
@[simp] theorem State.modSeat_rope (s : State) (r : SeatRef) (f : SeatEntry → SeatEntry) : (s.modSeat r f).rope = s.rope := by
  simp [State.modSeat]
@[simp] theorem State.modSeat_tracker (s : State) (r : SeatRef) (f : SeatEntry → SeatEntry) : (s.modSeat r f).tracker = s.tracker := by
  simp [State.modSeat]
@[simp] theorem State.modSeat_rail (s : State) (r : SeatRef) (f : SeatEntry → SeatEntry) : (s.modSeat r f).rail = s.rail := by
  simp [State.modSeat]
@[simp] theorem State.modSeat_doors (s : State) (r : SeatRef) (f : SeatEntry → SeatEntry) : (s.modSeat r f).doors = s.doors := by
  simp [State.modSeat]
@[simp] theorem State.modSeat_link (s : State) (r : SeatRef) (f : SeatEntry → SeatEntry) : (s.modSeat r f).link = s.link := by
  simp [State.modSeat]
@[simp] theorem State.modSeat_tel (s : State) (r : SeatRef) (f : SeatEntry → SeatEntry) : (s.modSeat r f).tel = s.tel := by
  simp [State.modSeat]
@[simp] theorem State.modSeat_chain (s : State) (r : SeatRef) (f : SeatEntry → SeatEntry) : (s.modSeat r f).chain = s.chain := by
  simp [State.modSeat]
@[simp] theorem State.modSeat_pinHeld (s : State) (r : SeatRef) (f : SeatEntry → SeatEntry) : (s.modSeat r f).pinHeld = s.pinHeld := by
  simp [State.modSeat]
@[simp] theorem State.modSeat_pending (s : State) (r : SeatRef) (f : SeatEntry → SeatEntry) : (s.modSeat r f).pending = s.pending := by
  simp [State.modSeat]
@[simp] theorem State.modSeat_part (s : State) (r : SeatRef) (f : SeatEntry → SeatEntry) : (s.modSeat r f).admin.part = s.admin.part := by
  simp [State.modSeat]
@[simp] theorem State.dropAbsent_rope (s : State) (p : Post) : (s.dropAbsent p).rope = s.rope := by
  unfold State.dropAbsent; dsimp only; (repeat' split) <;> simp
@[simp] theorem State.dropAbsent_tracker (s : State) (p : Post) : (s.dropAbsent p).tracker = s.tracker := by
  unfold State.dropAbsent; dsimp only; (repeat' split) <;> simp
@[simp] theorem State.dropAbsent_rail (s : State) (p : Post) : (s.dropAbsent p).rail = s.rail := by
  unfold State.dropAbsent; dsimp only; (repeat' split) <;> simp
@[simp] theorem State.dropAbsent_doors (s : State) (p : Post) : (s.dropAbsent p).doors = s.doors := by
  unfold State.dropAbsent; dsimp only; (repeat' split) <;> simp
@[simp] theorem State.dropAbsent_link (s : State) (p : Post) : (s.dropAbsent p).link = s.link := by
  unfold State.dropAbsent; dsimp only; (repeat' split) <;> simp
@[simp] theorem State.dropAbsent_tel (s : State) (p : Post) : (s.dropAbsent p).tel = s.tel := by
  unfold State.dropAbsent; dsimp only; (repeat' split) <;> simp
@[simp] theorem State.dropAbsent_pinHeld (s : State) (p : Post) : (s.dropAbsent p).pinHeld = s.pinHeld := by
  unfold State.dropAbsent; dsimp only; (repeat' split) <;> simp
@[simp] theorem State.dropAbsent_pending (s : State) (p : Post) : (s.dropAbsent p).pending = s.pending := by
  unfold State.dropAbsent; dsimp only; (repeat' split) <;> simp
@[simp] theorem State.dropAbsent_part (s : State) (p : Post) : (s.dropAbsent p).admin.part = s.admin.part := by
  unfold State.dropAbsent; dsimp only; (repeat' split) <;> simp
@[simp] theorem State.dropSilent_rope (s : State) (p : Post) : (s.dropSilent p).rope = s.rope := by
  unfold State.dropSilent; dsimp only; (repeat' split) <;> simp
@[simp] theorem State.dropSilent_tracker (s : State) (p : Post) : (s.dropSilent p).tracker = s.tracker := by
  unfold State.dropSilent; dsimp only; (repeat' split) <;> simp
@[simp] theorem State.dropSilent_rail (s : State) (p : Post) : (s.dropSilent p).rail = s.rail := by
  unfold State.dropSilent; dsimp only; (repeat' split) <;> simp
@[simp] theorem State.dropSilent_doors (s : State) (p : Post) : (s.dropSilent p).doors = s.doors := by
  unfold State.dropSilent; dsimp only; (repeat' split) <;> simp
@[simp] theorem State.dropSilent_link (s : State) (p : Post) : (s.dropSilent p).link = s.link := by
  unfold State.dropSilent; dsimp only; (repeat' split) <;> simp
@[simp] theorem State.dropSilent_tel (s : State) (p : Post) : (s.dropSilent p).tel = s.tel := by
  unfold State.dropSilent; dsimp only; (repeat' split) <;> simp
@[simp] theorem State.dropSilent_pinHeld (s : State) (p : Post) : (s.dropSilent p).pinHeld = s.pinHeld := by
  unfold State.dropSilent; dsimp only; (repeat' split) <;> simp
@[simp] theorem State.dropSilent_pending (s : State) (p : Post) : (s.dropSilent p).pending = s.pending := by
  unfold State.dropSilent; dsimp only; (repeat' split) <;> simp
@[simp] theorem State.dropSilent_part (s : State) (p : Post) : (s.dropSilent p).admin.part = s.admin.part := by
  unfold State.dropSilent; dsimp only; (repeat' split) <;> simp
@[simp] theorem State.dropLimit_rope (s : State) (r : SeatRef) : (s.dropLimit r).rope = s.rope := by
  unfold State.dropLimit; dsimp only; (repeat' split) <;> simp
@[simp] theorem State.dropLimit_tracker (s : State) (r : SeatRef) : (s.dropLimit r).tracker = s.tracker := by
  unfold State.dropLimit; dsimp only; (repeat' split) <;> simp
@[simp] theorem State.dropLimit_rail (s : State) (r : SeatRef) : (s.dropLimit r).rail = s.rail := by
  unfold State.dropLimit; dsimp only; (repeat' split) <;> simp
@[simp] theorem State.dropLimit_doors (s : State) (r : SeatRef) : (s.dropLimit r).doors = s.doors := by
  unfold State.dropLimit; dsimp only; (repeat' split) <;> simp
@[simp] theorem State.dropLimit_link (s : State) (r : SeatRef) : (s.dropLimit r).link = s.link := by
  unfold State.dropLimit; dsimp only; (repeat' split) <;> simp
@[simp] theorem State.dropLimit_tel (s : State) (r : SeatRef) : (s.dropLimit r).tel = s.tel := by
  unfold State.dropLimit; dsimp only; (repeat' split) <;> simp
@[simp] theorem State.dropLimit_pinHeld (s : State) (r : SeatRef) : (s.dropLimit r).pinHeld = s.pinHeld := by
  unfold State.dropLimit; dsimp only; (repeat' split) <;> simp
@[simp] theorem State.dropLimit_pending (s : State) (r : SeatRef) : (s.dropLimit r).pending = s.pending := by
  unfold State.dropLimit; dsimp only; (repeat' split) <;> simp
@[simp] theorem State.dropLimit_part (s : State) (r : SeatRef) : (s.dropLimit r).admin.part = s.admin.part := by
  unfold State.dropLimit; dsimp only; (repeat' split) <;> simp
@[simp] theorem State.dropSwitch_rope (s : State) (r : SeatRef) : (s.dropSwitch r).rope = s.rope := by
  unfold State.dropSwitch; dsimp only; (repeat' split) <;> simp
@[simp] theorem State.dropSwitch_tracker (s : State) (r : SeatRef) : (s.dropSwitch r).tracker = s.tracker := by
  unfold State.dropSwitch; dsimp only; (repeat' split) <;> simp
@[simp] theorem State.dropSwitch_rail (s : State) (r : SeatRef) : (s.dropSwitch r).rail = s.rail := by
  unfold State.dropSwitch; dsimp only; (repeat' split) <;> simp
@[simp] theorem State.dropSwitch_doors (s : State) (r : SeatRef) : (s.dropSwitch r).doors = s.doors := by
  unfold State.dropSwitch; dsimp only; (repeat' split) <;> simp
@[simp] theorem State.dropSwitch_link (s : State) (r : SeatRef) : (s.dropSwitch r).link = s.link := by
  unfold State.dropSwitch; dsimp only; (repeat' split) <;> simp
@[simp] theorem State.dropSwitch_tel (s : State) (r : SeatRef) : (s.dropSwitch r).tel = s.tel := by
  unfold State.dropSwitch; dsimp only; (repeat' split) <;> simp
@[simp] theorem State.dropSwitch_pinHeld (s : State) (r : SeatRef) : (s.dropSwitch r).pinHeld = s.pinHeld := by
  unfold State.dropSwitch; dsimp only; (repeat' split) <;> simp
@[simp] theorem State.dropSwitch_pending (s : State) (r : SeatRef) : (s.dropSwitch r).pending = s.pending := by
  unfold State.dropSwitch; dsimp only; (repeat' split) <;> simp
@[simp] theorem State.dropSwitch_part (s : State) (r : SeatRef) : (s.dropSwitch r).admin.part = s.admin.part := by
  unfold State.dropSwitch; dsimp only; (repeat' split) <;> simp
@[simp] theorem State.buildRoll_rope (s : State) : (s.buildRoll).rope = s.rope := by simp [State.buildRoll]
@[simp] theorem State.buildRoll_tracker (s : State) : (s.buildRoll).tracker = s.tracker := by simp [State.buildRoll]
@[simp] theorem State.buildRoll_rail (s : State) : (s.buildRoll).rail = s.rail := by simp [State.buildRoll]
@[simp] theorem State.buildRoll_doors (s : State) : (s.buildRoll).doors = s.doors := by simp [State.buildRoll]
@[simp] theorem State.buildRoll_link (s : State) : (s.buildRoll).link = s.link := by simp [State.buildRoll]
@[simp] theorem State.buildRoll_tel (s : State) : (s.buildRoll).tel = s.tel := by simp [State.buildRoll]
@[simp] theorem State.buildRoll_chain (s : State) : (s.buildRoll).chain = s.chain := by simp [State.buildRoll]
@[simp] theorem State.buildRoll_pinHeld (s : State) : (s.buildRoll).pinHeld = s.pinHeld := by simp [State.buildRoll]
@[simp] theorem State.buildRoll_pending (s : State) : (s.buildRoll).pending = s.pending := by simp [State.buildRoll]
@[simp] theorem State.buildRoll_part (s : State) : (s.buildRoll).admin.part = s.admin.part := by simp [State.buildRoll]
@[simp] theorem State.abandonRoll_rope (s : State) : (s.abandonRoll).rope = s.rope := by simp [State.abandonRoll]
@[simp] theorem State.abandonRoll_tracker (s : State) : (s.abandonRoll).tracker = s.tracker := by
  simp [State.abandonRoll]
@[simp] theorem State.abandonRoll_rail (s : State) : (s.abandonRoll).rail = s.rail := by simp [State.abandonRoll]
@[simp] theorem State.abandonRoll_doors (s : State) : (s.abandonRoll).doors = s.doors := by simp [State.abandonRoll]
@[simp] theorem State.abandonRoll_link (s : State) : (s.abandonRoll).link = s.link := by simp [State.abandonRoll]
@[simp] theorem State.abandonRoll_tel (s : State) : (s.abandonRoll).tel = s.tel := by simp [State.abandonRoll]
@[simp] theorem State.abandonRoll_chain (s : State) : (s.abandonRoll).chain = s.chain := by simp [State.abandonRoll]
@[simp] theorem State.abandonRoll_pinHeld (s : State) : (s.abandonRoll).pinHeld = s.pinHeld := by
  simp [State.abandonRoll]
@[simp] theorem State.abandonRoll_pending (s : State) : (s.abandonRoll).pending = s.pending := by
  simp [State.abandonRoll]
@[simp] theorem State.abandonRoll_part (s : State) : (s.abandonRoll).admin.part = s.admin.part := by
  simp [State.abandonRoll]
@[simp] theorem State.rollPeriod_rope (s : State) : (s.rollPeriod).rope = s.rope := by
  unfold State.rollPeriod; dsimp only; split <;> simp
@[simp] theorem State.rollPeriod_tracker (s : State) : (s.rollPeriod).tracker = s.tracker := by
  unfold State.rollPeriod; dsimp only; split <;> simp
@[simp] theorem State.rollPeriod_rail (s : State) : (s.rollPeriod).rail = s.rail := by
  unfold State.rollPeriod; dsimp only; split <;> simp
@[simp] theorem State.rollPeriod_doors (s : State) : (s.rollPeriod).doors = s.doors := by
  unfold State.rollPeriod; dsimp only; split <;> simp
@[simp] theorem State.rollPeriod_link (s : State) : (s.rollPeriod).link = s.link := by
  unfold State.rollPeriod; dsimp only; split <;> simp
@[simp] theorem State.rollPeriod_tel (s : State) : (s.rollPeriod).tel = s.tel := by
  unfold State.rollPeriod; dsimp only; split <;> simp
@[simp] theorem State.rollPeriod_chain (s : State) : (s.rollPeriod).chain = s.chain := by
  unfold State.rollPeriod; dsimp only; split <;> simp
@[simp] theorem State.rollPeriod_pinHeld (s : State) : (s.rollPeriod).pinHeld = s.pinHeld := by
  unfold State.rollPeriod; dsimp only; split <;> simp
@[simp] theorem State.rollPeriod_pending (s : State) : (s.rollPeriod).pending = s.pending := by
  unfold State.rollPeriod; dsimp only; split <;> simp
@[simp] theorem State.rollPeriod_part (s : State) : (s.rollPeriod).admin.part = s.admin.part := by
  unfold State.rollPeriod; dsimp only; split <;> simp
@[simp] theorem State.raiseLost_rope (s : State) : (s.raiseLost).rope = s.rope := by
  unfold State.raiseLost; dsimp only; split <;> simp
@[simp] theorem State.raiseLost_tracker (s : State) : (s.raiseLost).tracker = s.tracker := by
  unfold State.raiseLost; dsimp only; split <;> simp
@[simp] theorem State.raiseLost_link (s : State) : (s.raiseLost).link = s.link := by
  unfold State.raiseLost; dsimp only; split <;> simp
@[simp] theorem State.raiseLost_pinHeld (s : State) : (s.raiseLost).pinHeld = s.pinHeld := by
  unfold State.raiseLost; dsimp only; split <;> simp
@[simp] theorem State.raiseLost_pending (s : State) : (s.raiseLost).pending = s.pending := by
  unfold State.raiseLost; dsimp only; split <;> simp
@[simp] theorem State.raiseLost_part (s : State) : (s.raiseLost).admin.part = s.admin.part := by
  unfold State.raiseLost; dsimp only; split <;> simp
@[simp] theorem State.rollDeadline_rope (s : State) : (s.rollDeadline).rope = s.rope := by
  unfold State.rollDeadline; split <;> simp
@[simp] theorem State.rollDeadline_tracker (s : State) : (s.rollDeadline).tracker = s.tracker := by
  unfold State.rollDeadline; split <;> simp
@[simp] theorem State.rollDeadline_link (s : State) : (s.rollDeadline).link = s.link := by
  unfold State.rollDeadline; split <;> simp
@[simp] theorem State.rollDeadline_pinHeld (s : State) : (s.rollDeadline).pinHeld = s.pinHeld := by
  unfold State.rollDeadline; split <;> simp
@[simp] theorem State.rollDeadline_pending (s : State) : (s.rollDeadline).pending = s.pending := by
  unfold State.rollDeadline; split <;> simp
@[simp] theorem State.rollDeadline_part (s : State) : (s.rollDeadline).admin.part = s.admin.part := by
  unfold State.rollDeadline; split <;> simp
@[simp] theorem State.judgePresent_rope (s : State) (p : Post) (b : Bool) : (s.judgePresent p b).rope = s.rope := by
  unfold State.judgePresent; dsimp only; (repeat' split) <;> simp
@[simp] theorem State.judgePresent_tracker (s : State) (p : Post) (b : Bool) : (s.judgePresent p b).tracker = s.tracker := by
  unfold State.judgePresent; dsimp only; (repeat' split) <;> simp
@[simp] theorem State.judgePresent_link (s : State) (p : Post) (b : Bool) : (s.judgePresent p b).link = s.link := by
  unfold State.judgePresent; dsimp only; (repeat' split) <;> simp
@[simp] theorem State.judgePresent_pinHeld (s : State) (p : Post) (b : Bool) : (s.judgePresent p b).pinHeld = s.pinHeld := by
  unfold State.judgePresent; dsimp only; (repeat' split) <;> simp
@[simp] theorem State.judgePresent_pending (s : State) (p : Post) (b : Bool) : (s.judgePresent p b).pending = s.pending := by
  unfold State.judgePresent; dsimp only; (repeat' split) <;> simp
@[simp] theorem State.judgePresent_part (s : State) (p : Post) (b : Bool) : (s.judgePresent p b).admin.part = s.admin.part := by
  unfold State.judgePresent; dsimp only; (repeat' split) <;> simp
@[simp] theorem State.takeAttention_rope (s : State) (p : Post) : (s.takeAttention p).rope = s.rope := by
  simp [State.takeAttention]
@[simp] theorem State.takeAttention_tracker (s : State) (p : Post) : (s.takeAttention p).tracker = s.tracker := by
  simp [State.takeAttention]
@[simp] theorem State.takeAttention_rail (s : State) (p : Post) : (s.takeAttention p).rail = s.rail := by
  simp [State.takeAttention]
@[simp] theorem State.takeAttention_doors (s : State) (p : Post) : (s.takeAttention p).doors = s.doors := by
  simp [State.takeAttention]
@[simp] theorem State.takeAttention_link (s : State) (p : Post) : (s.takeAttention p).link = s.link := by
  simp [State.takeAttention]
@[simp] theorem State.takeAttention_tel (s : State) (p : Post) : (s.takeAttention p).tel = s.tel := by
  simp [State.takeAttention]
@[simp] theorem State.takeAttention_chain (s : State) (p : Post) : (s.takeAttention p).chain = s.chain := by
  simp [State.takeAttention]
@[simp] theorem State.takeAttention_pinHeld (s : State) (p : Post) : (s.takeAttention p).pinHeld = s.pinHeld := by
  simp [State.takeAttention]
@[simp] theorem State.takeAttention_pending (s : State) (p : Post) : (s.takeAttention p).pending = s.pending := by
  simp [State.takeAttention]
@[simp] theorem State.takeAttention_part (s : State) (p : Post) : (s.takeAttention p).admin.part = s.admin.part := by
  simp [State.takeAttention]
@[simp] theorem State.rollAnswer_rope (s : State) (l : List Byte) (p : Post) : (State.rollAnswer l s p).rope = s.rope := by
  unfold State.rollAnswer; dsimp only; (repeat' split) <;> simp
@[simp] theorem State.rollAnswer_tracker (s : State) (l : List Byte) (p : Post) : (State.rollAnswer l s p).tracker = s.tracker := by
  unfold State.rollAnswer; dsimp only; (repeat' split) <;> simp
@[simp] theorem State.rollAnswer_link (s : State) (l : List Byte) (p : Post) : (State.rollAnswer l s p).link = s.link := by
  unfold State.rollAnswer; dsimp only; (repeat' split) <;> simp
@[simp] theorem State.rollAnswer_pinHeld (s : State) (l : List Byte) (p : Post) : (State.rollAnswer l s p).pinHeld = s.pinHeld := by
  unfold State.rollAnswer; dsimp only; (repeat' split) <;> simp
@[simp] theorem State.rollAnswer_pending (s : State) (l : List Byte) (p : Post) : (State.rollAnswer l s p).pending = s.pending := by
  unfold State.rollAnswer; dsimp only; (repeat' split) <;> simp
@[simp] theorem State.rollAnswer_part (s : State) (l : List Byte) (p : Post) : (State.rollAnswer l s p).admin.part = s.admin.part := by
  unfold State.rollAnswer; dsimp only; (repeat' split) <;> simp
@[simp] theorem State.foldRollAnswer_rope (s : State) (u : List Post) (l : List Byte) : (u.foldl (State.rollAnswer l) s).rope = s.rope := by
  induction u generalizing s with
  | nil => rfl
  | cons a u ih => simp [ih]
@[simp] theorem State.foldRollAnswer_tracker (s : State) (u : List Post) (l : List Byte) : (u.foldl (State.rollAnswer l) s).tracker = s.tracker := by
  induction u generalizing s with
  | nil => rfl
  | cons a u ih => simp [ih]
@[simp] theorem State.foldRollAnswer_link (s : State) (u : List Post) (l : List Byte) : (u.foldl (State.rollAnswer l) s).link = s.link := by
  induction u generalizing s with
  | nil => rfl
  | cons a u ih => simp [ih]
@[simp] theorem State.foldRollAnswer_pinHeld (s : State) (u : List Post) (l : List Byte) : (u.foldl (State.rollAnswer l) s).pinHeld = s.pinHeld := by
  induction u generalizing s with
  | nil => rfl
  | cons a u ih => simp [ih]
@[simp] theorem State.foldRollAnswer_pending (s : State) (u : List Post) (l : List Byte) : (u.foldl (State.rollAnswer l) s).pending = s.pending := by
  induction u generalizing s with
  | nil => rfl
  | cons a u ih => simp [ih]
@[simp] theorem State.foldRollAnswer_part (s : State) (u : List Post) (l : List Byte) : (u.foldl (State.rollAnswer l) s).admin.part = s.admin.part := by
  induction u generalizing s with
  | nil => rfl
  | cons a u ih => simp [ih]
@[simp] theorem State.rollAnswers_rope (s : State) (l : List Byte) : (s.rollAnswers l).rope = s.rope := by
  unfold State.rollAnswers; split <;> simp
@[simp] theorem State.rollAnswers_tracker (s : State) (l : List Byte) : (s.rollAnswers l).tracker = s.tracker := by
  unfold State.rollAnswers; split <;> simp
@[simp] theorem State.rollAnswers_link (s : State) (l : List Byte) : (s.rollAnswers l).link = s.link := by
  unfold State.rollAnswers; split <;> simp
@[simp] theorem State.rollAnswers_pinHeld (s : State) (l : List Byte) : (s.rollAnswers l).pinHeld = s.pinHeld := by
  unfold State.rollAnswers; split <;> simp
@[simp] theorem State.rollAnswers_pending (s : State) (l : List Byte) : (s.rollAnswers l).pending = s.pending := by
  unfold State.rollAnswers; split <;> simp
@[simp] theorem State.rollAnswers_part (s : State) (l : List Byte) : (s.rollAnswers l).admin.part = s.admin.part := by
  unfold State.rollAnswers; split <;> simp
@[simp] theorem State.rollReturned_rope (s : State) : (s.rollReturned).rope = s.rope := by
  unfold State.rollReturned; dsimp only; split <;> simp
@[simp] theorem State.rollReturned_tracker (s : State) : (s.rollReturned).tracker = s.tracker := by
  unfold State.rollReturned; dsimp only; split <;> simp
@[simp] theorem State.rollReturned_rail (s : State) : (s.rollReturned).rail = s.rail := by
  unfold State.rollReturned; dsimp only; split <;> simp
@[simp] theorem State.rollReturned_doors (s : State) : (s.rollReturned).doors = s.doors := by
  unfold State.rollReturned; dsimp only; split <;> simp
@[simp] theorem State.rollReturned_link (s : State) : (s.rollReturned).link = s.link := by
  unfold State.rollReturned; dsimp only; split <;> simp
@[simp] theorem State.rollReturned_tel (s : State) : (s.rollReturned).tel = s.tel := by
  unfold State.rollReturned; dsimp only; split <;> simp
@[simp] theorem State.rollReturned_pinHeld (s : State) : (s.rollReturned).pinHeld = s.pinHeld := by
  unfold State.rollReturned; dsimp only; split <;> simp
@[simp] theorem State.rollReturned_pending (s : State) : (s.rollReturned).pending = s.pending := by
  unfold State.rollReturned; dsimp only; split <;> simp
@[simp] theorem State.rollReturned_part (s : State) : (s.rollReturned).admin.part = s.admin.part := by
  unfold State.rollReturned; dsimp only; split <;> simp
@[simp] theorem State.takeRoll_rope (s : State) (l : List Byte) : (s.takeRoll l).rope = s.rope := by
  unfold State.takeRoll; (repeat' split) <;> simp
@[simp] theorem State.takeRoll_tracker (s : State) (l : List Byte) : (s.takeRoll l).tracker = s.tracker := by
  unfold State.takeRoll; (repeat' split) <;> simp
@[simp] theorem State.takeRoll_link (s : State) (l : List Byte) : (s.takeRoll l).link = s.link := by
  unfold State.takeRoll; (repeat' split) <;> simp
@[simp] theorem State.takeRoll_pinHeld (s : State) (l : List Byte) : (s.takeRoll l).pinHeld = s.pinHeld := by
  unfold State.takeRoll; (repeat' split) <;> simp
@[simp] theorem State.takeRoll_pending (s : State) (l : List Byte) : (s.takeRoll l).pending = s.pending := by
  unfold State.takeRoll; (repeat' split) <;> simp
@[simp] theorem State.takeRoll_part (s : State) (l : List Byte) : (s.takeRoll l).admin.part = s.admin.part := by
  unfold State.takeRoll; (repeat' split) <;> simp
@[simp] theorem State.samplePeriod_rope (s : State) : (s.samplePeriod).rope = s.rope := by simp [State.samplePeriod]
@[simp] theorem State.samplePeriod_tracker (s : State) : (s.samplePeriod).tracker = s.tracker := by
  simp [State.samplePeriod]
@[simp] theorem State.samplePeriod_rail (s : State) : (s.samplePeriod).rail = s.rail := by simp [State.samplePeriod]
@[simp] theorem State.samplePeriod_doors (s : State) : (s.samplePeriod).doors = s.doors := by simp [State.samplePeriod]
@[simp] theorem State.samplePeriod_link (s : State) : (s.samplePeriod).link = s.link := by simp [State.samplePeriod]
@[simp] theorem State.samplePeriod_tel (s : State) : (s.samplePeriod).tel = s.tel := by simp [State.samplePeriod]
@[simp] theorem State.samplePeriod_chain (s : State) : (s.samplePeriod).chain = s.chain := by simp [State.samplePeriod]
@[simp] theorem State.samplePeriod_pinHeld (s : State) : (s.samplePeriod).pinHeld = s.pinHeld := by
  simp [State.samplePeriod]
@[simp] theorem State.samplePeriod_pending (s : State) : (s.samplePeriod).pending = s.pending := by
  simp [State.samplePeriod]
@[simp] theorem State.samplePeriod_part (s : State) : (s.samplePeriod).admin.part = s.admin.part := by
  simp [State.samplePeriod]
@[simp] theorem State.missAsk_rope (s : State) (p : Post) : (s.missAsk p).rope = s.rope := by
  unfold State.missAsk; dsimp only; split <;> simp
@[simp] theorem State.missAsk_tracker (s : State) (p : Post) : (s.missAsk p).tracker = s.tracker := by
  unfold State.missAsk; dsimp only; split <;> simp
@[simp] theorem State.missAsk_link (s : State) (p : Post) : (s.missAsk p).link = s.link := by
  unfold State.missAsk; dsimp only; split <;> simp
@[simp] theorem State.missAsk_pinHeld (s : State) (p : Post) : (s.missAsk p).pinHeld = s.pinHeld := by
  unfold State.missAsk; dsimp only; split <;> simp
@[simp] theorem State.missAsk_pending (s : State) (p : Post) : (s.missAsk p).pending = s.pending := by
  unfold State.missAsk; dsimp only; split <;> simp
@[simp] theorem State.missAsk_part (s : State) (p : Post) : (s.missAsk p).admin.part = s.admin.part := by
  unfold State.missAsk; dsimp only; split <;> simp
@[simp] theorem State.endAsk_rope (s : State) : (s.endAsk).rope = s.rope := by simp [State.endAsk]
@[simp] theorem State.endAsk_tracker (s : State) : (s.endAsk).tracker = s.tracker := by simp [State.endAsk]
@[simp] theorem State.endAsk_rail (s : State) : (s.endAsk).rail = s.rail := by simp [State.endAsk]
@[simp] theorem State.endAsk_doors (s : State) : (s.endAsk).doors = s.doors := by simp [State.endAsk]
@[simp] theorem State.endAsk_link (s : State) : (s.endAsk).link = s.link := by simp [State.endAsk]
@[simp] theorem State.endAsk_tel (s : State) : (s.endAsk).tel = s.tel := by simp [State.endAsk]
@[simp] theorem State.endAsk_chain (s : State) : (s.endAsk).chain = s.chain := by simp [State.endAsk]
@[simp] theorem State.endAsk_pinHeld (s : State) : (s.endAsk).pinHeld = s.pinHeld := by simp [State.endAsk]
@[simp] theorem State.endAsk_pending (s : State) : (s.endAsk).pending = s.pending := by simp [State.endAsk]
@[simp] theorem State.endAsk_part (s : State) : (s.endAsk).admin.part = s.admin.part := by simp [State.endAsk]
@[simp] theorem State.askDeadline_rope (s : State) : (s.askDeadline).rope = s.rope := by
  unfold State.askDeadline; (repeat' split) <;> simp
@[simp] theorem State.askDeadline_tracker (s : State) : (s.askDeadline).tracker = s.tracker := by
  unfold State.askDeadline; (repeat' split) <;> simp
@[simp] theorem State.askDeadline_link (s : State) : (s.askDeadline).link = s.link := by
  unfold State.askDeadline; (repeat' split) <;> simp
@[simp] theorem State.askDeadline_pinHeld (s : State) : (s.askDeadline).pinHeld = s.pinHeld := by
  unfold State.askDeadline; (repeat' split) <;> simp
@[simp] theorem State.askDeadline_pending (s : State) : (s.askDeadline).pending = s.pending := by
  unfold State.askDeadline; (repeat' split) <;> simp
@[simp] theorem State.askDeadline_part (s : State) : (s.askDeadline).admin.part = s.admin.part := by
  unfold State.askDeadline; (repeat' split) <;> simp
@[simp] theorem State.beyondStop_rope (s : State) (r : SeatRef) : (s.beyondStop r).rope = s.rope := by
  unfold State.beyondStop; dsimp only; split <;> simp
@[simp] theorem State.beyondStop_tracker (s : State) (r : SeatRef) : (s.beyondStop r).tracker = s.tracker := by
  unfold State.beyondStop; dsimp only; split <;> simp
@[simp] theorem State.beyondStop_link (s : State) (r : SeatRef) : (s.beyondStop r).link = s.link := by
  unfold State.beyondStop; dsimp only; split <;> simp
@[simp] theorem State.beyondStop_pinHeld (s : State) (r : SeatRef) : (s.beyondStop r).pinHeld = s.pinHeld := by
  unfold State.beyondStop; dsimp only; split <;> simp
@[simp] theorem State.beyondStop_pending (s : State) (r : SeatRef) : (s.beyondStop r).pending = s.pending := by
  unfold State.beyondStop; dsimp only; split <;> simp
@[simp] theorem State.beyondStop_part (s : State) (r : SeatRef) : (s.beyondStop r).admin.part = s.admin.part := by
  unfold State.beyondStop; dsimp only; split <;> simp
@[simp] theorem State.withinStop_rope (s : State) (r : SeatRef) : (s.withinStop r).rope = s.rope := by
  simp [State.withinStop]
@[simp] theorem State.withinStop_tracker (s : State) (r : SeatRef) : (s.withinStop r).tracker = s.tracker := by
  simp [State.withinStop]
@[simp] theorem State.withinStop_rail (s : State) (r : SeatRef) : (s.withinStop r).rail = s.rail := by
  simp [State.withinStop]
@[simp] theorem State.withinStop_doors (s : State) (r : SeatRef) : (s.withinStop r).doors = s.doors := by
  simp [State.withinStop]
@[simp] theorem State.withinStop_link (s : State) (r : SeatRef) : (s.withinStop r).link = s.link := by
  simp [State.withinStop]
@[simp] theorem State.withinStop_tel (s : State) (r : SeatRef) : (s.withinStop r).tel = s.tel := by
  simp [State.withinStop]
@[simp] theorem State.withinStop_pinHeld (s : State) (r : SeatRef) : (s.withinStop r).pinHeld = s.pinHeld := by
  simp [State.withinStop]
@[simp] theorem State.withinStop_pending (s : State) (r : SeatRef) : (s.withinStop r).pending = s.pending := by
  simp [State.withinStop]
@[simp] theorem State.withinStop_part (s : State) (r : SeatRef) : (s.withinStop r).admin.part = s.admin.part := by
  simp [State.withinStop]
@[simp] theorem State.beyondWarn_rope (s : State) (r : SeatRef) : (s.beyondWarn r).rope = s.rope := by
  simp [State.beyondWarn]
@[simp] theorem State.beyondWarn_tracker (s : State) (r : SeatRef) : (s.beyondWarn r).tracker = s.tracker := by
  simp [State.beyondWarn]
@[simp] theorem State.beyondWarn_link (s : State) (r : SeatRef) : (s.beyondWarn r).link = s.link := by
  simp [State.beyondWarn]
@[simp] theorem State.beyondWarn_pinHeld (s : State) (r : SeatRef) : (s.beyondWarn r).pinHeld = s.pinHeld := by
  simp [State.beyondWarn]
@[simp] theorem State.beyondWarn_pending (s : State) (r : SeatRef) : (s.beyondWarn r).pending = s.pending := by
  simp [State.beyondWarn]
@[simp] theorem State.beyondWarn_part (s : State) (r : SeatRef) : (s.beyondWarn r).admin.part = s.admin.part := by
  simp [State.beyondWarn]
@[simp] theorem State.judgeOffset_rope (s : State) (r : SeatRef) (o : Int) : (s.judgeOffset r o).rope = s.rope := by
  unfold State.judgeOffset; dsimp only; (repeat' split) <;> simp
@[simp] theorem State.judgeOffset_tracker (s : State) (r : SeatRef) (o : Int) : (s.judgeOffset r o).tracker = s.tracker := by
  unfold State.judgeOffset; dsimp only; (repeat' split) <;> simp
@[simp] theorem State.judgeOffset_link (s : State) (r : SeatRef) (o : Int) : (s.judgeOffset r o).link = s.link := by
  unfold State.judgeOffset; dsimp only; (repeat' split) <;> simp
@[simp] theorem State.judgeOffset_pinHeld (s : State) (r : SeatRef) (o : Int) : (s.judgeOffset r o).pinHeld = s.pinHeld := by
  unfold State.judgeOffset; dsimp only; (repeat' split) <;> simp
@[simp] theorem State.judgeOffset_pending (s : State) (r : SeatRef) (o : Int) : (s.judgeOffset r o).pending = s.pending := by
  unfold State.judgeOffset; dsimp only; (repeat' split) <;> simp
@[simp] theorem State.judgeOffset_part (s : State) (r : SeatRef) (o : Int) : (s.judgeOffset r o).admin.part = s.admin.part := by
  unfold State.judgeOffset; dsimp only; (repeat' split) <;> simp
@[simp] theorem State.judgeSwitches_rope (s : State) (r : SeatRef) (b : Bool) : (s.judgeSwitches r b).rope = s.rope := by
  unfold State.judgeSwitches; dsimp only; (repeat' split) <;> simp
@[simp] theorem State.judgeSwitches_tracker (s : State) (r : SeatRef) (b : Bool) : (s.judgeSwitches r b).tracker = s.tracker := by
  unfold State.judgeSwitches; dsimp only; (repeat' split) <;> simp
@[simp] theorem State.judgeSwitches_link (s : State) (r : SeatRef) (b : Bool) : (s.judgeSwitches r b).link = s.link := by
  unfold State.judgeSwitches; dsimp only; (repeat' split) <;> simp
@[simp] theorem State.judgeSwitches_pinHeld (s : State) (r : SeatRef) (b : Bool) : (s.judgeSwitches r b).pinHeld = s.pinHeld := by
  unfold State.judgeSwitches; dsimp only; (repeat' split) <;> simp
@[simp] theorem State.judgeSwitches_pending (s : State) (r : SeatRef) (b : Bool) : (s.judgeSwitches r b).pending = s.pending := by
  unfold State.judgeSwitches; dsimp only; (repeat' split) <;> simp
@[simp] theorem State.judgeSwitches_part (s : State) (r : SeatRef) (b : Bool) : (s.judgeSwitches r b).admin.part = s.admin.part := by
  unfold State.judgeSwitches; dsimp only; (repeat' split) <;> simp
@[simp] theorem State.seatEntry_rope (s : State) (p : Post) (e : SeatReport) : (State.seatEntry p s e).rope = s.rope := by
  unfold State.seatEntry; dsimp only; split <;> simp
@[simp] theorem State.seatEntry_tracker (s : State) (p : Post) (e : SeatReport) : (State.seatEntry p s e).tracker = s.tracker := by
  unfold State.seatEntry; dsimp only; split <;> simp
@[simp] theorem State.seatEntry_link (s : State) (p : Post) (e : SeatReport) : (State.seatEntry p s e).link = s.link := by
  unfold State.seatEntry; dsimp only; split <;> simp
@[simp] theorem State.seatEntry_pinHeld (s : State) (p : Post) (e : SeatReport) : (State.seatEntry p s e).pinHeld = s.pinHeld := by
  unfold State.seatEntry; dsimp only; split <;> simp
@[simp] theorem State.seatEntry_pending (s : State) (p : Post) (e : SeatReport) : (State.seatEntry p s e).pending = s.pending := by
  unfold State.seatEntry; dsimp only; split <;> simp
@[simp] theorem State.seatEntry_part (s : State) (p : Post) (e : SeatReport) : (State.seatEntry p s e).admin.part = s.admin.part := by
  unfold State.seatEntry; dsimp only; split <;> simp
@[simp] theorem State.clearSeat_rope (s : State) (r : SeatRef) : (s.clearSeat r).rope = s.rope := by
  simp [State.clearSeat]
@[simp] theorem State.clearSeat_tracker (s : State) (r : SeatRef) : (s.clearSeat r).tracker = s.tracker := by
  simp [State.clearSeat]
@[simp] theorem State.clearSeat_rail (s : State) (r : SeatRef) : (s.clearSeat r).rail = s.rail := by
  simp [State.clearSeat]
@[simp] theorem State.clearSeat_doors (s : State) (r : SeatRef) : (s.clearSeat r).doors = s.doors := by
  simp [State.clearSeat]
@[simp] theorem State.clearSeat_link (s : State) (r : SeatRef) : (s.clearSeat r).link = s.link := by
  simp [State.clearSeat]
@[simp] theorem State.clearSeat_tel (s : State) (r : SeatRef) : (s.clearSeat r).tel = s.tel := by simp [State.clearSeat]
@[simp] theorem State.clearSeat_pinHeld (s : State) (r : SeatRef) : (s.clearSeat r).pinHeld = s.pinHeld := by
  simp [State.clearSeat]
@[simp] theorem State.clearSeat_pending (s : State) (r : SeatRef) : (s.clearSeat r).pending = s.pending := by
  simp [State.clearSeat]
@[simp] theorem State.clearSeat_part (s : State) (r : SeatRef) : (s.clearSeat r).admin.part = s.admin.part := by
  simp [State.clearSeat]

/-! ## What the telephony unit leaves -/

@[simp] theorem State.openLocal_rope (s : State) (i : Fin 4) (r : CallRecord) (l : Fin 2) : (s.openLocal i r l).rope = s.rope := by
  unfold State.openLocal; dsimp only; split <;> simp
@[simp] theorem State.openLocal_tracker (s : State) (i : Fin 4) (r : CallRecord) (l : Fin 2) : (s.openLocal i r l).tracker = s.tracker := by
  unfold State.openLocal; dsimp only; split <;> simp
@[simp] theorem State.openLocal_rail (s : State) (i : Fin 4) (r : CallRecord) (l : Fin 2) : (s.openLocal i r l).rail = s.rail := by
  unfold State.openLocal; dsimp only; split <;> simp
@[simp] theorem State.openLocal_doors (s : State) (i : Fin 4) (r : CallRecord) (l : Fin 2) : (s.openLocal i r l).doors = s.doors := by
  unfold State.openLocal; dsimp only; split <;> simp
@[simp] theorem State.openLocal_link (s : State) (i : Fin 4) (r : CallRecord) (l : Fin 2) : (s.openLocal i r l).link = s.link := by
  unfold State.openLocal; dsimp only; split <;> simp
@[simp] theorem State.openLocal_chain (s : State) (i : Fin 4) (r : CallRecord) (l : Fin 2) : (s.openLocal i r l).chain = s.chain := by
  unfold State.openLocal; dsimp only; split <;> simp
@[simp] theorem State.openLocal_pinHeld (s : State) (i : Fin 4) (r : CallRecord) (l : Fin 2) : (s.openLocal i r l).pinHeld = s.pinHeld := by
  unfold State.openLocal; dsimp only; split <;> simp
@[simp] theorem State.openLocal_pending (s : State) (i : Fin 4) (r : CallRecord) (l : Fin 2) : (s.openLocal i r l).pending = s.pending := by
  unfold State.openLocal; dsimp only; split <;> simp
@[simp] theorem State.openLocal_part (s : State) (i : Fin 4) (r : CallRecord) (l : Fin 2) : (s.openLocal i r l).admin.part = s.admin.part := by
  unfold State.openLocal; dsimp only; split <;> simp
@[simp] theorem State.fallback_rope (s : State) (i : Fin 4) (x : ClearReason) : (s.fallback i x).rope = s.rope := by
  unfold State.fallback; split <;> simp
@[simp] theorem State.fallback_tracker (s : State) (i : Fin 4) (x : ClearReason) : (s.fallback i x).tracker = s.tracker := by
  unfold State.fallback; split <;> simp
@[simp] theorem State.fallback_link (s : State) (i : Fin 4) (x : ClearReason) : (s.fallback i x).link = s.link := by
  unfold State.fallback; split <;> simp
@[simp] theorem State.fallback_pinHeld (s : State) (i : Fin 4) (x : ClearReason) : (s.fallback i x).pinHeld = s.pinHeld := by
  unfold State.fallback; split <;> simp
@[simp] theorem State.fallback_pending (s : State) (i : Fin 4) (x : ClearReason) : (s.fallback i x).pending = s.pending := by
  unfold State.fallback; split <;> simp
@[simp] theorem State.fallback_part (s : State) (i : Fin 4) (x : ClearReason) : (s.fallback i x).admin.part = s.admin.part := by
  unfold State.fallback; split <;> simp
@[simp] theorem State.raiseByButton_rope (s : State) (i : Fin 4) : (s.raiseByButton i).rope = s.rope := by
  unfold State.raiseByButton; dsimp only; split <;> simp
@[simp] theorem State.raiseByButton_tracker (s : State) (i : Fin 4) : (s.raiseByButton i).tracker = s.tracker := by
  unfold State.raiseByButton; dsimp only; split <;> simp
@[simp] theorem State.raiseByButton_rail (s : State) (i : Fin 4) : (s.raiseByButton i).rail = s.rail := by
  unfold State.raiseByButton; dsimp only; split <;> simp
@[simp] theorem State.raiseByButton_doors (s : State) (i : Fin 4) : (s.raiseByButton i).doors = s.doors := by
  unfold State.raiseByButton; dsimp only; split <;> simp
@[simp] theorem State.raiseByButton_link (s : State) (i : Fin 4) : (s.raiseByButton i).link = s.link := by
  unfold State.raiseByButton; dsimp only; split <;> simp
@[simp] theorem State.raiseByButton_chain (s : State) (i : Fin 4) : (s.raiseByButton i).chain = s.chain := by
  unfold State.raiseByButton; dsimp only; split <;> simp
@[simp] theorem State.raiseByButton_pinHeld (s : State) (i : Fin 4) : (s.raiseByButton i).pinHeld = s.pinHeld := by
  unfold State.raiseByButton; dsimp only; split <;> simp
@[simp] theorem State.raiseByButton_pending (s : State) (i : Fin 4) : (s.raiseByButton i).pending = s.pending := by
  unfold State.raiseByButton; dsimp only; split <;> simp
@[simp] theorem State.raiseByButton_part (s : State) (i : Fin 4) : (s.raiseByButton i).admin.part = s.admin.part := by
  unfold State.raiseByButton; dsimp only; split <;> simp
@[simp] theorem State.answer_rope (s : State) (i : Fin 4) : (s.answer i).rope = s.rope := by
  unfold State.answer; dsimp only; split <;> simp
@[simp] theorem State.answer_tracker (s : State) (i : Fin 4) : (s.answer i).tracker = s.tracker := by
  unfold State.answer; dsimp only; split <;> simp
@[simp] theorem State.answer_rail (s : State) (i : Fin 4) : (s.answer i).rail = s.rail := by
  unfold State.answer; dsimp only; split <;> simp
@[simp] theorem State.answer_doors (s : State) (i : Fin 4) : (s.answer i).doors = s.doors := by
  unfold State.answer; dsimp only; split <;> simp
@[simp] theorem State.answer_link (s : State) (i : Fin 4) : (s.answer i).link = s.link := by
  unfold State.answer; dsimp only; split <;> simp
@[simp] theorem State.answer_chain (s : State) (i : Fin 4) : (s.answer i).chain = s.chain := by
  unfold State.answer; dsimp only; split <;> simp
@[simp] theorem State.answer_pinHeld (s : State) (i : Fin 4) : (s.answer i).pinHeld = s.pinHeld := by
  unfold State.answer; dsimp only; split <;> simp
@[simp] theorem State.answer_pending (s : State) (i : Fin 4) : (s.answer i).pending = s.pending := by
  unfold State.answer; dsimp only; split <;> simp
@[simp] theorem State.answer_part (s : State) (i : Fin 4) : (s.answer i).admin.part = s.admin.part := by
  unfold State.answer; dsimp only; split <;> simp
@[simp] theorem State.wentOnHook_rope (s : State) (l : Fin 2) : (s.wentOnHook l).rope = s.rope := by
  unfold State.wentOnHook; split <;> simp
@[simp] theorem State.wentOnHook_tracker (s : State) (l : Fin 2) : (s.wentOnHook l).tracker = s.tracker := by
  unfold State.wentOnHook; split <;> simp
@[simp] theorem State.wentOnHook_link (s : State) (l : Fin 2) : (s.wentOnHook l).link = s.link := by
  unfold State.wentOnHook; split <;> simp
@[simp] theorem State.wentOnHook_pinHeld (s : State) (l : Fin 2) : (s.wentOnHook l).pinHeld = s.pinHeld := by
  unfold State.wentOnHook; split <;> simp
@[simp] theorem State.wentOnHook_pending (s : State) (l : Fin 2) : (s.wentOnHook l).pending = s.pending := by
  unfold State.wentOnHook; split <;> simp
@[simp] theorem State.wentOnHook_part (s : State) (l : Fin 2) : (s.wentOnHook l).admin.part = s.admin.part := by
  unfold State.wentOnHook; split <;> simp
@[simp] theorem State.callExpiry_rope (s : State) (i : Fin 4) : (s.callExpiry i).rope = s.rope := by
  unfold State.callExpiry; dsimp only; (repeat' split) <;> simp
@[simp] theorem State.callExpiry_tracker (s : State) (i : Fin 4) : (s.callExpiry i).tracker = s.tracker := by
  unfold State.callExpiry; dsimp only; (repeat' split) <;> simp
@[simp] theorem State.callExpiry_link (s : State) (i : Fin 4) : (s.callExpiry i).link = s.link := by
  unfold State.callExpiry; dsimp only; (repeat' split) <;> simp
@[simp] theorem State.callExpiry_pinHeld (s : State) (i : Fin 4) : (s.callExpiry i).pinHeld = s.pinHeld := by
  unfold State.callExpiry; dsimp only; (repeat' split) <;> simp
@[simp] theorem State.callExpiry_pending (s : State) (i : Fin 4) : (s.callExpiry i).pending = s.pending := by
  unfold State.callExpiry; dsimp only; (repeat' split) <;> simp
@[simp] theorem State.callExpiry_part (s : State) (i : Fin 4) : (s.callExpiry i).admin.part = s.admin.part := by
  unfold State.callExpiry; dsimp only; (repeat' split) <;> simp
@[simp] theorem State.unexpectedCall_rope (s : State) : (s.unexpectedCall).rope = s.rope := by
  simp [State.unexpectedCall]
@[simp] theorem State.unexpectedCall_tracker (s : State) : (s.unexpectedCall).tracker = s.tracker := by
  simp [State.unexpectedCall]
@[simp] theorem State.unexpectedCall_rail (s : State) : (s.unexpectedCall).rail = s.rail := by
  simp [State.unexpectedCall]
@[simp] theorem State.unexpectedCall_doors (s : State) : (s.unexpectedCall).doors = s.doors := by
  simp [State.unexpectedCall]
@[simp] theorem State.unexpectedCall_link (s : State) : (s.unexpectedCall).link = s.link := by
  simp [State.unexpectedCall]
@[simp] theorem State.unexpectedCall_chain (s : State) : (s.unexpectedCall).chain = s.chain := by
  simp [State.unexpectedCall]
@[simp] theorem State.unexpectedCall_pinHeld (s : State) : (s.unexpectedCall).pinHeld = s.pinHeld := by
  simp [State.unexpectedCall]
@[simp] theorem State.unexpectedCall_pending (s : State) : (s.unexpectedCall).pending = s.pending := by
  simp [State.unexpectedCall]
@[simp] theorem State.unexpectedCall_part (s : State) : (s.unexpectedCall).admin.part = s.admin.part := by
  simp [State.unexpectedCall]
@[simp] theorem State.callRinging_rope (s : State) (i : Fin 4) : (s.callRinging i).rope = s.rope := by
  unfold State.callRinging; split <;> simp
@[simp] theorem State.callRinging_tracker (s : State) (i : Fin 4) : (s.callRinging i).tracker = s.tracker := by
  unfold State.callRinging; split <;> simp
@[simp] theorem State.callRinging_rail (s : State) (i : Fin 4) : (s.callRinging i).rail = s.rail := by
  unfold State.callRinging; split <;> simp
@[simp] theorem State.callRinging_doors (s : State) (i : Fin 4) : (s.callRinging i).doors = s.doors := by
  unfold State.callRinging; split <;> simp
@[simp] theorem State.callRinging_link (s : State) (i : Fin 4) : (s.callRinging i).link = s.link := by
  unfold State.callRinging; split <;> simp
@[simp] theorem State.callRinging_chain (s : State) (i : Fin 4) : (s.callRinging i).chain = s.chain := by
  unfold State.callRinging; split <;> simp
@[simp] theorem State.callRinging_pinHeld (s : State) (i : Fin 4) : (s.callRinging i).pinHeld = s.pinHeld := by
  unfold State.callRinging; split <;> simp
@[simp] theorem State.callRinging_pending (s : State) (i : Fin 4) : (s.callRinging i).pending = s.pending := by
  unfold State.callRinging; split <;> simp
@[simp] theorem State.callRinging_part (s : State) (i : Fin 4) : (s.callRinging i).admin.part = s.admin.part := by
  unfold State.callRinging; split <;> simp
@[simp] theorem State.callAnswer_rope (s : State) (i : Fin 4) : (s.callAnswer i).rope = s.rope := by
  unfold State.callAnswer; split <;> simp
@[simp] theorem State.callAnswer_tracker (s : State) (i : Fin 4) : (s.callAnswer i).tracker = s.tracker := by
  unfold State.callAnswer; split <;> simp
@[simp] theorem State.callAnswer_rail (s : State) (i : Fin 4) : (s.callAnswer i).rail = s.rail := by
  unfold State.callAnswer; split <;> simp
@[simp] theorem State.callAnswer_doors (s : State) (i : Fin 4) : (s.callAnswer i).doors = s.doors := by
  unfold State.callAnswer; split <;> simp
@[simp] theorem State.callAnswer_link (s : State) (i : Fin 4) : (s.callAnswer i).link = s.link := by
  unfold State.callAnswer; split <;> simp
@[simp] theorem State.callAnswer_chain (s : State) (i : Fin 4) : (s.callAnswer i).chain = s.chain := by
  unfold State.callAnswer; split <;> simp
@[simp] theorem State.callAnswer_pinHeld (s : State) (i : Fin 4) : (s.callAnswer i).pinHeld = s.pinHeld := by
  unfold State.callAnswer; split <;> simp
@[simp] theorem State.callAnswer_pending (s : State) (i : Fin 4) : (s.callAnswer i).pending = s.pending := by
  unfold State.callAnswer; split <;> simp
@[simp] theorem State.callAnswer_part (s : State) (i : Fin 4) : (s.callAnswer i).admin.part = s.admin.part := by
  unfold State.callAnswer; split <;> simp
@[simp] theorem State.raiseHeldRecord_rope (s : State) (i : Fin 4) : (s.raiseHeldRecord i).rope = s.rope := by
  unfold State.raiseHeldRecord; dsimp only; split <;> simp
@[simp] theorem State.raiseHeldRecord_tracker (s : State) (i : Fin 4) : (s.raiseHeldRecord i).tracker = s.tracker := by
  unfold State.raiseHeldRecord; dsimp only; split <;> simp
@[simp] theorem State.raiseHeldRecord_link (s : State) (i : Fin 4) : (s.raiseHeldRecord i).link = s.link := by
  unfold State.raiseHeldRecord; dsimp only; split <;> simp
@[simp] theorem State.raiseHeldRecord_pinHeld (s : State) (i : Fin 4) : (s.raiseHeldRecord i).pinHeld = s.pinHeld := by
  unfold State.raiseHeldRecord; dsimp only; split <;> simp
@[simp] theorem State.raiseHeldRecord_pending (s : State) (i : Fin 4) : (s.raiseHeldRecord i).pending = s.pending := by
  unfold State.raiseHeldRecord; dsimp only; split <;> simp
@[simp] theorem State.raiseHeldRecord_part (s : State) (i : Fin 4) : (s.raiseHeldRecord i).admin.part = s.admin.part := by
  unfold State.raiseHeldRecord; dsimp only; split <;> simp
@[simp] theorem State.callPriority_rope (s : State) (i : Fin 4) (x : Priority) : (s.callPriority i x).rope = s.rope := by
  unfold State.callPriority; dsimp only; (repeat' split) <;> simp
@[simp] theorem State.callPriority_tracker (s : State) (i : Fin 4) (x : Priority) : (s.callPriority i x).tracker = s.tracker := by
  unfold State.callPriority; dsimp only; (repeat' split) <;> simp
@[simp] theorem State.callPriority_link (s : State) (i : Fin 4) (x : Priority) : (s.callPriority i x).link = s.link := by
  unfold State.callPriority; dsimp only; (repeat' split) <;> simp
@[simp] theorem State.callPriority_pinHeld (s : State) (i : Fin 4) (x : Priority) : (s.callPriority i x).pinHeld = s.pinHeld := by
  unfold State.callPriority; dsimp only; (repeat' split) <;> simp
@[simp] theorem State.callPriority_pending (s : State) (i : Fin 4) (x : Priority) : (s.callPriority i x).pending = s.pending := by
  unfold State.callPriority; dsimp only; (repeat' split) <;> simp
@[simp] theorem State.callPriority_part (s : State) (i : Fin 4) (x : Priority) : (s.callPriority i x).admin.part = s.admin.part := by
  unfold State.callPriority; dsimp only; (repeat' split) <;> simp
@[simp] theorem State.loseRecord_rope (s : State) (i : Fin 4) : (s.loseRecord i).rope = s.rope := by
  unfold State.loseRecord; dsimp only; split <;> simp
@[simp] theorem State.loseRecord_tracker (s : State) (i : Fin 4) : (s.loseRecord i).tracker = s.tracker := by
  unfold State.loseRecord; dsimp only; split <;> simp
@[simp] theorem State.loseRecord_link (s : State) (i : Fin 4) : (s.loseRecord i).link = s.link := by
  unfold State.loseRecord; dsimp only; split <;> simp
@[simp] theorem State.loseRecord_pinHeld (s : State) (i : Fin 4) : (s.loseRecord i).pinHeld = s.pinHeld := by
  unfold State.loseRecord; dsimp only; split <;> simp
@[simp] theorem State.loseRecord_pending (s : State) (i : Fin 4) : (s.loseRecord i).pending = s.pending := by
  unfold State.loseRecord; dsimp only; split <;> simp
@[simp] theorem State.loseRecord_part (s : State) (i : Fin 4) : (s.loseRecord i).admin.part = s.admin.part := by
  unfold State.loseRecord; dsimp only; split <;> simp
@[simp] theorem State.turnHelp_rope (s : State) (i : Fin 4) : (s.turnHelp i).rope = s.rope := by
  unfold State.turnHelp; dsimp only; split <;> simp
@[simp] theorem State.turnHelp_tracker (s : State) (i : Fin 4) : (s.turnHelp i).tracker = s.tracker := by
  unfold State.turnHelp; dsimp only; split <;> simp
@[simp] theorem State.turnHelp_link (s : State) (i : Fin 4) : (s.turnHelp i).link = s.link := by
  unfold State.turnHelp; dsimp only; split <;> simp
@[simp] theorem State.turnHelp_pinHeld (s : State) (i : Fin 4) : (s.turnHelp i).pinHeld = s.pinHeld := by
  unfold State.turnHelp; dsimp only; split <;> simp
@[simp] theorem State.turnHelp_pending (s : State) (i : Fin 4) : (s.turnHelp i).pending = s.pending := by
  unfold State.turnHelp; dsimp only; split <;> simp
@[simp] theorem State.turnHelp_part (s : State) (i : Fin 4) : (s.turnHelp i).admin.part = s.admin.part := by
  unfold State.turnHelp; dsimp only; split <;> simp
@[simp] theorem State.play_rope (s : State) (l : Fin 2) (b : List Byte) : (s.play l b).rope = s.rope := by
  simp [State.play]
@[simp] theorem State.play_tracker (s : State) (l : Fin 2) (b : List Byte) : (s.play l b).tracker = s.tracker := by
  simp [State.play]
@[simp] theorem State.play_rail (s : State) (l : Fin 2) (b : List Byte) : (s.play l b).rail = s.rail := by
  simp [State.play]
@[simp] theorem State.play_doors (s : State) (l : Fin 2) (b : List Byte) : (s.play l b).doors = s.doors := by
  simp [State.play]
@[simp] theorem State.play_link (s : State) (l : Fin 2) (b : List Byte) : (s.play l b).link = s.link := by
  simp [State.play]
@[simp] theorem State.play_chain (s : State) (l : Fin 2) (b : List Byte) : (s.play l b).chain = s.chain := by
  simp [State.play]
@[simp] theorem State.play_pinHeld (s : State) (l : Fin 2) (b : List Byte) : (s.play l b).pinHeld = s.pinHeld := by
  simp [State.play]
@[simp] theorem State.play_pending (s : State) (l : Fin 2) (b : List Byte) : (s.play l b).pending = s.pending := by
  simp [State.play]
@[simp] theorem State.play_part (s : State) (l : Fin 2) (b : List Byte) : (s.play l b).admin.part = s.admin.part := by
  simp [State.play]
@[simp] theorem State.sendVoice_rope (s : State) (v : VoiceName) (b : List Byte) : (s.sendVoice v b).rope = s.rope := by
  unfold State.sendVoice; dsimp only; split <;> simp
@[simp] theorem State.sendVoice_tracker (s : State) (v : VoiceName) (b : List Byte) : (s.sendVoice v b).tracker = s.tracker := by
  unfold State.sendVoice; dsimp only; split <;> simp
@[simp] theorem State.sendVoice_rail (s : State) (v : VoiceName) (b : List Byte) : (s.sendVoice v b).rail = s.rail := by
  unfold State.sendVoice; dsimp only; split <;> simp
@[simp] theorem State.sendVoice_doors (s : State) (v : VoiceName) (b : List Byte) : (s.sendVoice v b).doors = s.doors := by
  unfold State.sendVoice; dsimp only; split <;> simp
@[simp] theorem State.sendVoice_link (s : State) (v : VoiceName) (b : List Byte) : (s.sendVoice v b).link = s.link := by
  unfold State.sendVoice; dsimp only; split <;> simp
@[simp] theorem State.sendVoice_chain (s : State) (v : VoiceName) (b : List Byte) : (s.sendVoice v b).chain = s.chain := by
  unfold State.sendVoice; dsimp only; split <;> simp
@[simp] theorem State.sendVoice_pinHeld (s : State) (v : VoiceName) (b : List Byte) : (s.sendVoice v b).pinHeld = s.pinHeld := by
  unfold State.sendVoice; dsimp only; split <;> simp
@[simp] theorem State.sendVoice_pending (s : State) (v : VoiceName) (b : List Byte) : (s.sendVoice v b).pending = s.pending := by
  unfold State.sendVoice; dsimp only; split <;> simp
@[simp] theorem State.sendVoice_part (s : State) (v : VoiceName) (b : List Byte) : (s.sendVoice v b).admin.part = s.admin.part := by
  unfold State.sendVoice; dsimp only; split <;> simp
@[simp] theorem State.codecBlock_rope (s : State) (l : Fin 2) (b : List Byte) : (s.codecBlock l b).rope = s.rope := by
  unfold State.codecBlock; dsimp only; (repeat' split) <;> simp
@[simp] theorem State.codecBlock_tracker (s : State) (l : Fin 2) (b : List Byte) : (s.codecBlock l b).tracker = s.tracker := by
  unfold State.codecBlock; dsimp only; (repeat' split) <;> simp
@[simp] theorem State.codecBlock_rail (s : State) (l : Fin 2) (b : List Byte) : (s.codecBlock l b).rail = s.rail := by
  unfold State.codecBlock; dsimp only; (repeat' split) <;> simp
@[simp] theorem State.codecBlock_doors (s : State) (l : Fin 2) (b : List Byte) : (s.codecBlock l b).doors = s.doors := by
  unfold State.codecBlock; dsimp only; (repeat' split) <;> simp
@[simp] theorem State.codecBlock_link (s : State) (l : Fin 2) (b : List Byte) : (s.codecBlock l b).link = s.link := by
  unfold State.codecBlock; dsimp only; (repeat' split) <;> simp
@[simp] theorem State.codecBlock_chain (s : State) (l : Fin 2) (b : List Byte) : (s.codecBlock l b).chain = s.chain := by
  unfold State.codecBlock; dsimp only; (repeat' split) <;> simp
@[simp] theorem State.codecBlock_pinHeld (s : State) (l : Fin 2) (b : List Byte) : (s.codecBlock l b).pinHeld = s.pinHeld := by
  unfold State.codecBlock; dsimp only; (repeat' split) <;> simp
@[simp] theorem State.codecBlock_pending (s : State) (l : Fin 2) (b : List Byte) : (s.codecBlock l b).pending = s.pending := by
  unfold State.codecBlock; dsimp only; (repeat' split) <;> simp
@[simp] theorem State.codecBlock_part (s : State) (l : Fin 2) (b : List Byte) : (s.codecBlock l b).admin.part = s.admin.part := by
  unfold State.codecBlock; dsimp only; (repeat' split) <;> simp
@[simp] theorem State.insertFrame_rope (s : State) (v : VoiceName) (f : Byte × List Byte) : (s.insertFrame v f).rope = s.rope := by
  unfold State.insertFrame; dsimp only; (repeat' split) <;> simp
@[simp] theorem State.insertFrame_tracker (s : State) (v : VoiceName) (f : Byte × List Byte) : (s.insertFrame v f).tracker = s.tracker := by
  unfold State.insertFrame; dsimp only; (repeat' split) <;> simp
@[simp] theorem State.insertFrame_rail (s : State) (v : VoiceName) (f : Byte × List Byte) : (s.insertFrame v f).rail = s.rail := by
  unfold State.insertFrame; dsimp only; (repeat' split) <;> simp
@[simp] theorem State.insertFrame_doors (s : State) (v : VoiceName) (f : Byte × List Byte) : (s.insertFrame v f).doors = s.doors := by
  unfold State.insertFrame; dsimp only; (repeat' split) <;> simp
@[simp] theorem State.insertFrame_link (s : State) (v : VoiceName) (f : Byte × List Byte) : (s.insertFrame v f).link = s.link := by
  unfold State.insertFrame; dsimp only; (repeat' split) <;> simp
@[simp] theorem State.insertFrame_chain (s : State) (v : VoiceName) (f : Byte × List Byte) : (s.insertFrame v f).chain = s.chain := by
  unfold State.insertFrame; dsimp only; (repeat' split) <;> simp
@[simp] theorem State.insertFrame_pinHeld (s : State) (v : VoiceName) (f : Byte × List Byte) : (s.insertFrame v f).pinHeld = s.pinHeld := by
  unfold State.insertFrame; dsimp only; (repeat' split) <;> simp
@[simp] theorem State.insertFrame_pending (s : State) (v : VoiceName) (f : Byte × List Byte) : (s.insertFrame v f).pending = s.pending := by
  unfold State.insertFrame; dsimp only; (repeat' split) <;> simp
@[simp] theorem State.insertFrame_part (s : State) (v : VoiceName) (f : Byte × List Byte) : (s.insertFrame v f).admin.part = s.admin.part := by
  unfold State.insertFrame; dsimp only; (repeat' split) <;> simp
@[simp] theorem State.takeVoice_rope (s : State) (c : Contents) : (s.takeVoice c).rope = s.rope := by
  unfold State.takeVoice; (repeat' split) <;> simp
@[simp] theorem State.takeVoice_tracker (s : State) (c : Contents) : (s.takeVoice c).tracker = s.tracker := by
  unfold State.takeVoice; (repeat' split) <;> simp
@[simp] theorem State.takeVoice_rail (s : State) (c : Contents) : (s.takeVoice c).rail = s.rail := by
  unfold State.takeVoice; (repeat' split) <;> simp
@[simp] theorem State.takeVoice_doors (s : State) (c : Contents) : (s.takeVoice c).doors = s.doors := by
  unfold State.takeVoice; (repeat' split) <;> simp
@[simp] theorem State.takeVoice_link (s : State) (c : Contents) : (s.takeVoice c).link = s.link := by
  unfold State.takeVoice; (repeat' split) <;> simp
@[simp] theorem State.takeVoice_chain (s : State) (c : Contents) : (s.takeVoice c).chain = s.chain := by
  unfold State.takeVoice; (repeat' split) <;> simp
@[simp] theorem State.takeVoice_pinHeld (s : State) (c : Contents) : (s.takeVoice c).pinHeld = s.pinHeld := by
  unfold State.takeVoice; (repeat' split) <;> simp
@[simp] theorem State.takeVoice_pending (s : State) (c : Contents) : (s.takeVoice c).pending = s.pending := by
  unfold State.takeVoice; (repeat' split) <;> simp
@[simp] theorem State.takeVoice_part (s : State) (c : Contents) : (s.takeVoice c).admin.part = s.admin.part := by
  unfold State.takeVoice; (repeat' split) <;> simp
@[simp] theorem State.playOn_rope (s : State) (v : VoiceName) (b : List Byte) : (s.playOn v b).rope = s.rope := by
  unfold State.playOn; split <;> simp
@[simp] theorem State.playOn_tracker (s : State) (v : VoiceName) (b : List Byte) : (s.playOn v b).tracker = s.tracker := by
  unfold State.playOn; split <;> simp
@[simp] theorem State.playOn_rail (s : State) (v : VoiceName) (b : List Byte) : (s.playOn v b).rail = s.rail := by
  unfold State.playOn; split <;> simp
@[simp] theorem State.playOn_doors (s : State) (v : VoiceName) (b : List Byte) : (s.playOn v b).doors = s.doors := by
  unfold State.playOn; split <;> simp
@[simp] theorem State.playOn_link (s : State) (v : VoiceName) (b : List Byte) : (s.playOn v b).link = s.link := by
  unfold State.playOn; split <;> simp
@[simp] theorem State.playOn_chain (s : State) (v : VoiceName) (b : List Byte) : (s.playOn v b).chain = s.chain := by
  unfold State.playOn; split <;> simp
@[simp] theorem State.playOn_pinHeld (s : State) (v : VoiceName) (b : List Byte) : (s.playOn v b).pinHeld = s.pinHeld := by
  unfold State.playOn; split <;> simp
@[simp] theorem State.playOn_pending (s : State) (v : VoiceName) (b : List Byte) : (s.playOn v b).pending = s.pending := by
  unfold State.playOn; split <;> simp
@[simp] theorem State.playOn_part (s : State) (v : VoiceName) (b : List Byte) : (s.playOn v b).admin.part = s.admin.part := by
  unfold State.playOn; split <;> simp
@[simp] theorem State.playout_rope (s : State) (v : VoiceName) : (s.playout v).rope = s.rope := by
  unfold State.playout; dsimp only; (repeat' split) <;> simp
@[simp] theorem State.playout_tracker (s : State) (v : VoiceName) : (s.playout v).tracker = s.tracker := by
  unfold State.playout; dsimp only; (repeat' split) <;> simp
@[simp] theorem State.playout_rail (s : State) (v : VoiceName) : (s.playout v).rail = s.rail := by
  unfold State.playout; dsimp only; (repeat' split) <;> simp
@[simp] theorem State.playout_doors (s : State) (v : VoiceName) : (s.playout v).doors = s.doors := by
  unfold State.playout; dsimp only; (repeat' split) <;> simp
@[simp] theorem State.playout_link (s : State) (v : VoiceName) : (s.playout v).link = s.link := by
  unfold State.playout; dsimp only; (repeat' split) <;> simp
@[simp] theorem State.playout_chain (s : State) (v : VoiceName) : (s.playout v).chain = s.chain := by
  unfold State.playout; dsimp only; (repeat' split) <;> simp
@[simp] theorem State.playout_pinHeld (s : State) (v : VoiceName) : (s.playout v).pinHeld = s.pinHeld := by
  unfold State.playout; dsimp only; (repeat' split) <;> simp
@[simp] theorem State.playout_pending (s : State) (v : VoiceName) : (s.playout v).pending = s.pending := by
  unfold State.playout; dsimp only; (repeat' split) <;> simp
@[simp] theorem State.playout_part (s : State) (v : VoiceName) : (s.playout v).admin.part = s.admin.part := by
  unfold State.playout; dsimp only; (repeat' split) <;> simp

/-! ## What the summit link supervisor and the stop chain leaves -/

@[simp] theorem State.followLink_rope (s : State) : (s.followLink).rope = s.rope := by
  unfold State.followLink; split <;> simp
@[simp] theorem State.followLink_tracker (s : State) : (s.followLink).tracker = s.tracker := by
  unfold State.followLink; split <;> simp
@[simp] theorem State.followLink_rail (s : State) : (s.followLink).rail = s.rail := by
  unfold State.followLink; split <;> simp
@[simp] theorem State.followLink_doors (s : State) : (s.followLink).doors = s.doors := by
  unfold State.followLink; split <;> simp
@[simp] theorem State.followLink_tel (s : State) : (s.followLink).tel = s.tel := by
  unfold State.followLink; split <;> simp
@[simp] theorem State.followLink_pinHeld (s : State) : (s.followLink).pinHeld = s.pinHeld := by
  unfold State.followLink; split <;> simp
@[simp] theorem State.followLink_pending (s : State) : (s.followLink).pending = s.pending := by
  unfold State.followLink; split <;> simp
@[simp] theorem State.followLink_part (s : State) : (s.followLink).admin.part = s.admin.part := by
  unfold State.followLink; split <;> simp
@[simp] theorem State.readRequest_rope (s : State) (c : Category) : (s.readRequest c).rope = s.rope := by
  unfold State.readRequest; dsimp only; (repeat' split) <;> simp
@[simp] theorem State.readRequest_tracker (s : State) (c : Category) : (s.readRequest c).tracker = s.tracker := by
  unfold State.readRequest; dsimp only; (repeat' split) <;> simp
@[simp] theorem State.readRequest_pinHeld (s : State) (c : Category) : (s.readRequest c).pinHeld = s.pinHeld := by
  unfold State.readRequest; dsimp only; (repeat' split) <;> simp
@[simp] theorem State.readRequest_pending (s : State) (c : Category) : (s.readRequest c).pending = s.pending := by
  unfold State.readRequest; dsimp only; (repeat' split) <;> simp
@[simp] theorem State.readRequest_part (s : State) (c : Category) : (s.readRequest c).admin.part = s.admin.part := by
  unfold State.readRequest; dsimp only; (repeat' split) <;> simp
@[simp] theorem State.acceptBeat_rope (s : State) (n : Byte) (c : Category) : (s.acceptBeat n c).rope = s.rope := by
  unfold State.acceptBeat; dsimp only; split <;> simp
@[simp] theorem State.acceptBeat_tracker (s : State) (n : Byte) (c : Category) : (s.acceptBeat n c).tracker = s.tracker := by
  unfold State.acceptBeat; dsimp only; split <;> simp
@[simp] theorem State.acceptBeat_pinHeld (s : State) (n : Byte) (c : Category) : (s.acceptBeat n c).pinHeld = s.pinHeld := by
  unfold State.acceptBeat; dsimp only; split <;> simp
@[simp] theorem State.acceptBeat_pending (s : State) (n : Byte) (c : Category) : (s.acceptBeat n c).pending = s.pending := by
  unfold State.acceptBeat; dsimp only; split <;> simp
@[simp] theorem State.acceptBeat_part (s : State) (n : Byte) (c : Category) : (s.acceptBeat n c).admin.part = s.admin.part := by
  unfold State.acceptBeat; dsimp only; split <;> simp
@[simp] theorem State.takeBeat_rope (s : State) (n : Nat) (c : Contents) : (s.takeBeat n c).rope = s.rope := by
  unfold State.takeBeat; (repeat' split) <;> simp
@[simp] theorem State.takeBeat_tracker (s : State) (n : Nat) (c : Contents) : (s.takeBeat n c).tracker = s.tracker := by
  unfold State.takeBeat; (repeat' split) <;> simp
@[simp] theorem State.takeBeat_pinHeld (s : State) (n : Nat) (c : Contents) : (s.takeBeat n c).pinHeld = s.pinHeld := by
  unfold State.takeBeat; (repeat' split) <;> simp
@[simp] theorem State.takeBeat_pending (s : State) (n : Nat) (c : Contents) : (s.takeBeat n c).pending = s.pending := by
  unfold State.takeBeat; (repeat' split) <;> simp
@[simp] theorem State.takeBeat_part (s : State) (n : Nat) (c : Contents) : (s.takeBeat n c).admin.part = s.admin.part := by
  unfold State.takeBeat; (repeat' split) <;> simp
@[simp] theorem State.guardExpiry_rope (s : State) : (s.guardExpiry).rope = s.rope := by simp [State.guardExpiry]
@[simp] theorem State.guardExpiry_tracker (s : State) : (s.guardExpiry).tracker = s.tracker := by
  simp [State.guardExpiry]
@[simp] theorem State.guardExpiry_rail (s : State) : (s.guardExpiry).rail = s.rail := by simp [State.guardExpiry]
@[simp] theorem State.guardExpiry_doors (s : State) : (s.guardExpiry).doors = s.doors := by simp [State.guardExpiry]
@[simp] theorem State.guardExpiry_tel (s : State) : (s.guardExpiry).tel = s.tel := by simp [State.guardExpiry]
@[simp] theorem State.guardExpiry_chain (s : State) : (s.guardExpiry).chain = s.chain := by simp [State.guardExpiry]
@[simp] theorem State.guardExpiry_pinHeld (s : State) : (s.guardExpiry).pinHeld = s.pinHeld := by
  simp [State.guardExpiry]
@[simp] theorem State.guardExpiry_pending (s : State) : (s.guardExpiry).pending = s.pending := by
  simp [State.guardExpiry]
@[simp] theorem State.guardExpiry_part (s : State) : (s.guardExpiry).admin.part = s.admin.part := by
  simp [State.guardExpiry]
@[simp] theorem State.valleyBeat_rope (s : State) : (s.valleyBeat).rope = s.rope := by simp [State.valleyBeat]
@[simp] theorem State.valleyBeat_tracker (s : State) : (s.valleyBeat).tracker = s.tracker := by simp [State.valleyBeat]
@[simp] theorem State.valleyBeat_rail (s : State) : (s.valleyBeat).rail = s.rail := by simp [State.valleyBeat]
@[simp] theorem State.valleyBeat_doors (s : State) : (s.valleyBeat).doors = s.doors := by simp [State.valleyBeat]
@[simp] theorem State.valleyBeat_tel (s : State) : (s.valleyBeat).tel = s.tel := by simp [State.valleyBeat]
@[simp] theorem State.valleyBeat_chain (s : State) : (s.valleyBeat).chain = s.chain := by simp [State.valleyBeat]
@[simp] theorem State.valleyBeat_pinHeld (s : State) : (s.valleyBeat).pinHeld = s.pinHeld := by simp [State.valleyBeat]
@[simp] theorem State.valleyBeat_pending (s : State) : (s.valleyBeat).pending = s.pending := by simp [State.valleyBeat]
@[simp] theorem State.valleyBeat_part (s : State) : (s.valleyBeat).admin.part = s.admin.part := by
  simp [State.valleyBeat]
@[simp] theorem State.modFilter_rope (s : State) (i : StopInput) (f : StopFilter → StopFilter) : (s.modFilter i f).rope = s.rope := by
  simp [State.modFilter]
@[simp] theorem State.modFilter_tracker (s : State) (i : StopInput) (f : StopFilter → StopFilter) : (s.modFilter i f).tracker = s.tracker := by
  simp [State.modFilter]
@[simp] theorem State.modFilter_rail (s : State) (i : StopInput) (f : StopFilter → StopFilter) : (s.modFilter i f).rail = s.rail := by
  simp [State.modFilter]
@[simp] theorem State.modFilter_doors (s : State) (i : StopInput) (f : StopFilter → StopFilter) : (s.modFilter i f).doors = s.doors := by
  simp [State.modFilter]
@[simp] theorem State.modFilter_link (s : State) (i : StopInput) (f : StopFilter → StopFilter) : (s.modFilter i f).link = s.link := by
  simp [State.modFilter]
@[simp] theorem State.modFilter_tel (s : State) (i : StopInput) (f : StopFilter → StopFilter) : (s.modFilter i f).tel = s.tel := by
  simp [State.modFilter]
@[simp] theorem State.modFilter_pinHeld (s : State) (i : StopInput) (f : StopFilter → StopFilter) : (s.modFilter i f).pinHeld = s.pinHeld := by
  simp [State.modFilter]
@[simp] theorem State.modFilter_pending (s : State) (i : StopInput) (f : StopFilter → StopFilter) : (s.modFilter i f).pending = s.pending := by
  simp [State.modFilter]
@[simp] theorem State.modFilter_part (s : State) (i : StopInput) (f : StopFilter → StopFilter) : (s.modFilter i f).admin.part = s.admin.part := by
  simp [State.modFilter]
@[simp] theorem State.filterExpiry_rope (s : State) (i : StopInput) : (s.filterExpiry i).rope = s.rope := by
  unfold State.filterExpiry; dsimp only; (repeat' split) <;> simp
@[simp] theorem State.filterExpiry_tracker (s : State) (i : StopInput) : (s.filterExpiry i).tracker = s.tracker := by
  unfold State.filterExpiry; dsimp only; (repeat' split) <;> simp
@[simp] theorem State.filterExpiry_link (s : State) (i : StopInput) : (s.filterExpiry i).link = s.link := by
  unfold State.filterExpiry; dsimp only; (repeat' split) <;> simp
@[simp] theorem State.filterExpiry_pinHeld (s : State) (i : StopInput) : (s.filterExpiry i).pinHeld = s.pinHeld := by
  unfold State.filterExpiry; dsimp only; (repeat' split) <;> simp
@[simp] theorem State.filterExpiry_pending (s : State) (i : StopInput) : (s.filterExpiry i).pending = s.pending := by
  unfold State.filterExpiry; dsimp only; (repeat' split) <;> simp
@[simp] theorem State.filterExpiry_part (s : State) (i : StopInput) : (s.filterExpiry i).admin.part = s.admin.part := by
  unfold State.filterExpiry; dsimp only; (repeat' split) <;> simp
@[simp] theorem State.stopTimerExpiry_rope (s : State) : (s.stopTimerExpiry).rope = s.rope := by
  unfold State.stopTimerExpiry; split <;> simp
@[simp] theorem State.stopTimerExpiry_tracker (s : State) : (s.stopTimerExpiry).tracker = s.tracker := by
  unfold State.stopTimerExpiry; split <;> simp
@[simp] theorem State.stopTimerExpiry_link (s : State) : (s.stopTimerExpiry).link = s.link := by
  unfold State.stopTimerExpiry; split <;> simp
@[simp] theorem State.stopTimerExpiry_pinHeld (s : State) : (s.stopTimerExpiry).pinHeld = s.pinHeld := by
  unfold State.stopTimerExpiry; split <;> simp
@[simp] theorem State.stopTimerExpiry_pending (s : State) : (s.stopTimerExpiry).pending = s.pending := by
  unfold State.stopTimerExpiry; split <;> simp
@[simp] theorem State.stopTimerExpiry_part (s : State) : (s.stopTimerExpiry).admin.part = s.admin.part := by
  unfold State.stopTimerExpiry; split <;> simp
@[simp] theorem State.consoleStop_rope (s : State) (c : Category) : (s.consoleStop c).rope = s.rope := by
  simp [State.consoleStop]
@[simp] theorem State.consoleStop_tracker (s : State) (c : Category) : (s.consoleStop c).tracker = s.tracker := by
  simp [State.consoleStop]
@[simp] theorem State.consoleStop_link (s : State) (c : Category) : (s.consoleStop c).link = s.link := by
  simp [State.consoleStop]
@[simp] theorem State.consoleStop_pinHeld (s : State) (c : Category) : (s.consoleStop c).pinHeld = s.pinHeld := by
  simp [State.consoleStop]
@[simp] theorem State.consoleStop_pending (s : State) (c : Category) : (s.consoleStop c).pending = s.pending := by
  simp [State.consoleStop]
@[simp] theorem State.consoleStop_part (s : State) (c : Category) : (s.consoleStop c).admin.part = s.admin.part := by
  simp [State.consoleStop]
@[simp] theorem State.permit_rope (s : State) : (s.permit).rope = s.rope := by simp [State.permit]
@[simp] theorem State.permit_tracker (s : State) : (s.permit).tracker = s.tracker := by simp [State.permit]
@[simp] theorem State.permit_link (s : State) : (s.permit).link = s.link := by simp [State.permit]
@[simp] theorem State.permit_tel (s : State) : (s.permit).tel = s.tel := by simp [State.permit]
@[simp] theorem State.permit_pinHeld (s : State) : (s.permit).pinHeld = s.pinHeld := by simp [State.permit]
@[simp] theorem State.permit_pending (s : State) : (s.permit).pending = s.pending := by simp [State.permit]
@[simp] theorem State.permit_part (s : State) : (s.permit).admin.part = s.admin.part := by simp [State.permit]
@[simp] theorem State.clearNotices_rope (s : State) : (s.clearNotices).rope = s.rope := by simp [State.clearNotices]
@[simp] theorem State.clearNotices_tracker (s : State) : (s.clearNotices).tracker = s.tracker := by
  simp [State.clearNotices]
@[simp] theorem State.clearNotices_rail (s : State) : (s.clearNotices).rail = s.rail := by simp [State.clearNotices]
@[simp] theorem State.clearNotices_doors (s : State) : (s.clearNotices).doors = s.doors := by simp [State.clearNotices]
@[simp] theorem State.clearNotices_link (s : State) : (s.clearNotices).link = s.link := by simp [State.clearNotices]
@[simp] theorem State.clearNotices_tel (s : State) : (s.clearNotices).tel = s.tel := by simp [State.clearNotices]
@[simp] theorem State.clearNotices_pinHeld (s : State) : (s.clearNotices).pinHeld = s.pinHeld := by
  simp [State.clearNotices]
@[simp] theorem State.clearNotices_pending (s : State) : (s.clearNotices).pending = s.pending := by
  simp [State.clearNotices]
@[simp] theorem State.clearNotices_part (s : State) : (s.clearNotices).admin.part = s.admin.part := by
  simp [State.clearNotices]

end Sys2Proof.Machine
end

