-- ==== Sys2Proof/Laws/StopChain.lean ====
section
/-! SUPPORT. What the stop chain's shared operations do to the stop chain: changes of A, raises and withdrawals. -/

namespace Sys2Proof.Machine

/-- Whether a code has a record in the set. -/
def State.inSet (s : State) (c : Cause) : Bool := s.chain.causes.any fun r => decide (r.code = c)

theorem State.inSet_true {s : State} {c : Cause} : s.inSet c = true ↔ ∃ r ∈ s.chain.causes, r.code = c := by
  simp [State.inSet]

theorem State.inSet_false {s : State} {c : Cause} : s.inSet c = false ↔ ∀ r ∈ s.chain.causes, r.code ≠ c := by
  simp [State.inSet]

/-! ## Changes of A -/

theorem State.judgeStopTimer_keeps (s : State) (o n : Category) :
    (s.judgeStopTimer o n).chain.causes = s.chain.causes ∧ (s.judgeStopTimer o n).chain.asserted = s.chain.asserted ∧
      (s.judgeStopTimer o n).chain.table = s.chain.table ∧ (s.judgeStopTimer o n).chain.filters = s.chain.filters := by
  unfold State.judgeStopTimer; split <;> simp

/-- A change of A leaves the set, the cause table and the filters, and gives A its value. -/
theorem State.setAsserted_chain (s : State) (n : Category) :
    (s.setAsserted n).chain.causes = s.chain.causes ∧ (s.setAsserted n).chain.asserted = n ∧
      (s.setAsserted n).chain.table = s.chain.table ∧ (s.setAsserted n).chain.filters = s.chain.filters := by
  unfold State.setAsserted; dsimp only; split
  · simp [*]
  · simp [State.judgeStopTimer_keeps]

@[simp] theorem State.setAsserted_causes (s : State) (n : Category) : (s.setAsserted n).chain.causes = s.chain.causes :=
  (s.setAsserted_chain n).1
@[simp] theorem State.setAsserted_asserted (s : State) (n : Category) : (s.setAsserted n).chain.asserted = n :=
  (s.setAsserted_chain n).2.1
@[simp] theorem State.setAsserted_table (s : State) (n : Category) : (s.setAsserted n).chain.table = s.chain.table :=
  (s.setAsserted_chain n).2.2.1
@[simp] theorem State.setAsserted_filters (s : State) (n : Category) :
    (s.setAsserted n).chain.filters = s.chain.filters := (s.setAsserted_chain n).2.2.2

@[simp] theorem State.judgeRise_causes (s : State) : s.judgeRise.chain.causes = s.chain.causes := by
  unfold State.judgeRise; split <;> simp
@[simp] theorem State.judgeRise_table (s : State) : s.judgeRise.chain.table = s.chain.table := by
  unfold State.judgeRise; split <;> simp
@[simp] theorem State.judgeRise_filters (s : State) : s.judgeRise.chain.filters = s.chain.filters := by
  unfold State.judgeRise; split <;> simp

/-- A after it has been judged: the demanded category where that is higher. -/
@[simp] theorem State.judgeRise_asserted (s : State) :
    s.judgeRise.chain.asserted = if s.chain.asserted.rank < s.demanded.rank then s.demanded else s.chain.asserted := by
  unfold State.judgeRise; split <;> simp

/-- After A has been judged it is above every record's category. -/
theorem State.judgeRise_covers (s : State) : ∀ r ∈ s.judgeRise.chain.causes, r.category.rank ≤ s.judgeRise.chain.asserted.rank := by
  intro r hr
  rw [State.judgeRise_causes] at hr
  have := demandedOf_ge hr
  rw [State.judgeRise_asserted]; unfold State.demanded; split <;> omega

theorem State.judgeRise_ge (s : State) : s.chain.asserted.rank ≤ s.judgeRise.chain.asserted.rank := by
  rw [State.judgeRise_asserted]; split <;> omega

/-- A that has been judged is what it was or some record's category. -/
theorem State.judgeRise_from (s : State) :
    s.judgeRise.chain.asserted = s.chain.asserted ∨
      ∃ r ∈ s.judgeRise.chain.causes, r.category = s.judgeRise.chain.asserted := by
  rw [State.judgeRise_asserted, State.judgeRise_causes]; unfold State.demanded; split
  · rename_i h
    rcases demandedOf_mem s.chain.causes with e | e
    · rw [e] at h; simp [Category.rank] at h
    · exact .inr e
  · exact .inl rfl

/-- The stop timer's counter is the only one a change of A counts in. -/
theorem State.setAsserted_counter (s : State) (n : Category) (i : Fin 50) (h : i ≠ Ctr.stopTimer) :
    (s.setAsserted n).chain.counters[i] = s.chain.counters[i] := by
  unfold State.setAsserted; dsimp only; split
  · rfl
  · simp only [State.notice_chain]; unfold State.judgeStopTimer; split
    · simp only [State.countChain_chain, State.modChain_chain, State.tellDoors_chain]; exact bump_ne _ _ _ h
    · simp

theorem State.judgeRise_counter (s : State) (i : Fin 50) (h : i ≠ Ctr.stopTimer) :
    s.judgeRise.chain.counters[i] = s.chain.counters[i] := by
  unfold State.judgeRise; split
  · exact State.setAsserted_counter _ _ _ h
  · rfl

/-! ## Raises -/

/-- A raise of a code in the set. -/
theorem State.raise_known {s : State} {c : Cause} (h : s.inSet c = true) (d : Detail) (m : Bool) :
    s.raise c d m =
      ((s.countChain (Ctr.raises (causeCode c))).modChain fun u =>
        { u with causes := u.causes.map fun r =>
          if r.code = c then r.again (s.chain.table[causeCode c]).category d m else r }).judgeRise := by
  unfold State.raise; exact if_pos h

/-- A raise of a code not in the set. -/
theorem State.raise_new {s : State} {c : Cause} (h : s.inSet c = false) (d : Detail) (m : Bool) :
    s.raise c d m =
      ((s.countChain (Ctr.raises (causeCode c))).modChain fun u =>
        { u with causes := u.causes ++ [newRecord c (s.chain.table[causeCode c]).category d m] }).judgeRise.handOnEntry
          (newRecord c (s.chain.table[causeCode c]).category d m) := by
  unfold State.raise; exact if_neg (by simpa [State.inSet] using h)

/-- The stop chain after a raise is that of one judgement of A over the set the raise leaves. -/
theorem State.raise_chain (s : State) (c : Cause) (d : Detail) (m : Bool) :
    ∃ l : List CauseRecord,
      (l = if s.inSet c then s.chain.causes.map fun r =>
            if r.code = c then r.again (s.chain.table[causeCode c]).category d m else r
          else s.chain.causes ++ [newRecord c (s.chain.table[causeCode c]).category d m]) ∧
      (s.raise c d m).chain =
        (((s.countChain (Ctr.raises (causeCode c))).modChain fun u => { u with causes := l }).judgeRise).chain := by
  cases h : s.inSet c
  · exact ⟨_, rfl, by rw [State.raise_new h, State.handOnEntry_chain]; rfl⟩
  · exact ⟨_, rfl, by rw [State.raise_known h]; rfl⟩

/-- The set after a raise. -/
theorem State.raise_causes (s : State) (c : Cause) (d : Detail) (m : Bool) :
    (s.raise c d m).chain.causes =
      if s.inSet c then s.chain.causes.map fun r =>
        if r.code = c then r.again (s.chain.table[causeCode c]).category d m else r
      else s.chain.causes ++ [newRecord c (s.chain.table[causeCode c]).category d m] := by
  obtain ⟨l, hl, e⟩ := s.raise_chain c d m
  rw [e, State.judgeRise_causes, ← hl]; rfl

@[simp] theorem State.raise_table (s : State) (c : Cause) (d : Detail) (m : Bool) :
    (s.raise c d m).chain.table = s.chain.table := by
  obtain ⟨l, -, e⟩ := s.raise_chain c d m; simp [e]
@[simp] theorem State.raise_filters (s : State) (c : Cause) (d : Detail) (m : Bool) :
    (s.raise c d m).chain.filters = s.chain.filters := by
  obtain ⟨l, -, e⟩ := s.raise_chain c d m; simp [e]

/-- A never falls in a raise. -/
theorem State.raise_asserted_ge (s : State) (c : Cause) (d : Detail) (m : Bool) :
    s.chain.asserted.rank ≤ (s.raise c d m).chain.asserted.rank := by
  obtain ⟨l, -, e⟩ := s.raise_chain c d m
  rw [e]; simpa using State.judgeRise_ge
    ((s.countChain (Ctr.raises (causeCode c))).modChain fun u => { u with causes := l })

/-- After a raise A is above every record's category. -/
theorem State.raise_covers (s : State) (c : Cause) (d : Detail) (m : Bool) :
    ∀ r ∈ (s.raise c d m).chain.causes, r.category.rank ≤ (s.raise c d m).chain.asserted.rank := by
  obtain ⟨l, -, e⟩ := s.raise_chain c d m
  rw [e]; exact State.judgeRise_covers _

/-- A raised code is in the set after the raise. -/
theorem State.raise_mem (s : State) (c : Cause) (d : Detail) (m : Bool) :
    ∃ r ∈ (s.raise c d m).chain.causes, r.code = c ∧ (m = false → r.present = true) ∧
      (d.requested.getD .none).rank ≤ r.category.rank := by
  rw [State.raise_causes]
  cases h : s.inSet c
  · refine ⟨_, List.mem_append_right _ (List.mem_singleton_self _), rfl, ?_, ?_⟩ <;> simp [newRecord]
  · obtain ⟨r, hr, e⟩ := State.inSet_true.mp h
    refine ⟨_, List.mem_map_of_mem hr, ?_⟩
    simp only [e, if_true]
    refine ⟨e, ?_, ?_⟩ <;> simp [CauseRecord.again]
    intro h; simp [h]

/-- A code in the set stays in it through a raise. -/
theorem State.raise_stays {s : State} {c : Cause} (h : ∃ r ∈ s.chain.causes, r.code = c) (c' : Cause) (d : Detail)
    (m : Bool) : ∃ r ∈ (s.raise c' d m).chain.causes, r.code = c := by
  obtain ⟨r, hr, e⟩ := h
  rw [State.raise_causes]
  split
  · refine ⟨_, List.mem_map_of_mem hr, ?_⟩; split <;> simp [CauseRecord.again, e]
  · exact ⟨r, List.mem_append_left _ hr, e⟩

/-- A raise reaches only the blocks of `raiseReach`. -/
theorem State.raise_reach (s : State) (c : Cause) (d : Detail) (m : Bool) : s.changesOnly (s.raise c d m) raiseReach := by
  refine ⟨fun b hb => ?_, by simp, by simp⟩
  cases b <;> simp_all [raiseReach, State.sameBlock]

/-! ## Withdrawals -/

theorem State.withdraw_known {s : State} {c : Cause} (h : s.inSet c = true) :
    s.withdraw c = s.modChain fun u =>
      { u with causes := u.causes.map fun r => if r.code = c then { r with present := false } else r } := by
  unfold State.withdraw; exact if_pos h

theorem State.withdraw_stray {s : State} {c : Cause} (h : s.inSet c = false) :
    s.withdraw c = s.countChain Ctr.strayWithdrawal := by
  unfold State.withdraw; exact if_neg (by simpa [State.inSet] using h)

@[simp] theorem State.withdraw_asserted (s : State) (c : Cause) :
    (s.withdraw c).chain.asserted = s.chain.asserted := by
  unfold State.withdraw; split <;> simp

end Sys2Proof.Machine
end

