-- ==== Sys2Proof/WellFormed.lean ====
section
/-! DEFINITION. Which commands are well formed: a frame's contents are of its kind, a codec block is a whole block. The
meanings are total: an ill-formed command still has one. -/

namespace Sys2Proof

/-- The kind code a received frame's byte 2 gives (R1). -/
def receivedKind (bytes : List Byte) : Nat := (bytes.getD 2 0).toNat / 16

/-- Whether the contents an operand reads are of the frame's kind: BEAT 4, TERMINAL_EVENT 5, CALL 6, VOICE 7 with 40
samples, ADMIN_REQUEST 8 with a payload of at least a code and a tag (R4, R7 to R9), of one byte each: the tag's width is
R9's, the code's is the model's choice (log 48). -/
def contentsFit (bytes : List Byte) (c : Contents) : Bool :=
  match c with
  | .unread => true
  | .beat _ _ => receivedKind bytes == 4
  | .terminal _ _ _ => receivedKind bytes == 5
  | .call _ _ _ _ _ _ => receivedKind bytes == 6
  | .voice _ _ samples => receivedKind bytes == 7 && samples.length == 40
  | .admin _ _ => receivedKind bytes == 8 && decide (8 ≤ bytes.length)

/-- Whether a command is well formed. -/
def Instr.wellFormed : Instr → Bool
  | .frameReceived _ bytes contents => contentsFit bytes contents
  | .codecBlock _ samples => samples.length == 40
  | .hardReset | .rejoinTimerExpiry _ | .arbiterPick _ | .frameLeaves _ | .rollPeriodExpiry | .rollDeadlineExpiry
  | .samplePeriodExpiry | .askSend | .askDeadlineExpiry | .tachometerPulse _ | .gateExpiry | .driveRunChange _
  | .tachSilentTimerExpiry | .ageSweepExpiry | .detectorLevelChange _ _ | .detectorDebounceExpiry _ | .arrRead _
  | .lchRead _ | .openEndChange _ _ | .lockedChange _ _ | .driveTimerExpiry _ | .reverseTimerExpiry _
  | .powerGoodExpiry _ | .overcurrent _ _ | .localKeyChange _ _ | .localOpenChange _ _ | .localCloseChange _ _
  | .localDriveTimerExpiry _ | .earlyGuardExpiry | .lateTimerExpiry | .valleyBeatTimerExpiry | .offHook _ | .onHook _
  | .helpButton | .callTimerExpiry _ | .playoutTimerExpiry _ | .stopFilterLevelChange _ _
  | .stopFilterDebounceExpiry _ | .stopTimerExpiry | .identify _ _ | .statusRead _ _ | .causesRead _ _ _ | .stop _ _ _
  | .countersRead _ _ _ _ _ | .tableRead _ _ _ | .partTableWrite _ _ _ | .classTableWrite _ _ _ _ _ _
  | .postTableWrite _ _ _ _ | .seatTableWrite _ _ _ _ _ | .ropeTableWrite _ _ _ | .stationTableWrite _ _ _ _
  | .channelTableWrite _ _ _ | .causeTableWrite _ _ _ _ | .telephonyTableWrite _ _ _ | .cabinSettingsWrite _ _ _
  | .cabinLoad _ _ _ _ _ | .cabinPurge _ _ _ | .cabinFlushLearned _ _ | .cabinFind _ _ _ | .cabinNext _ _ _
  | .listRead _ _ _ _ | .trackOn _ _ _ | .trackOff _ _ _ | .channelPower _ _ _ _ | .groupPower _ _ _ _
  | .channelReset _ _ _ | .channelLockout _ _ _ _ | .channelRead _ _ _ | .postClear _ _ _ | .restartPermit _ _
  | .causesClearNotices _ _ | .callPlace _ _ _ _ | .callClear _ _ _ | .restartPart _ _ | .resetPinAsserted => true

end Sys2Proof
end

