-- ==== Sys2Proof/Tests/Slice0.lean ====
section
/-! SUPPORT. Tests of the 720: values the manual prints (its check word, its worked examples), the refusals of
`Instr.wellFormed`, and for every obligation with hypotheses a state and operands that meet them. -/

namespace Sys2Proof.Tests

open Sys2Proof Sys2Proof.Machine

set_option Elab.async false

/-! ## Small states -/

/-- The console. -/
def con : Requester := ⟨.station, 64⟩

/-- The summit. -/
def sum : Requester := ⟨.line, 63⟩

/-- The state a command answers; the given one where it stops. -/
def after (c : Instr) (s : State) : State :=
  match exec c s with
  | .next t => t
  | _ => s

/-- A part at rest: both ports ACTIVE, the link LINKED, an empty cause set, the rope in STANDSTILL. -/
def rest : State :=
  { State.reset with
    station := { portInitial with mode := .active }
    line := { portInitial with mode := .active }
    rope := { ropeInitial false .forward with zeros := 2, standstill := true }
    link := { linkInitial with state := .linked }
    tel := telephonyReset telephonyDefault (Vector.replicate 2 false)
    chain := { chainReset causeTableDefault (Vector.replicate 5 false) with causes := [], asserted := .none }
    admin := adminInitial }

/-- The frame of a header and a payload, with its check word (R2). -/
def frameOf (b0 b1 b2 : Byte) (payload : List Byte) : List Byte :=
  let body := [b0, b1, b2, BitVec.ofNat 8 payload.length] ++ payload
  body ++ crcBytes body

/-- A queued frame of a kind and sub-kind byte and a one-byte payload. -/
def queued (b2 : Byte) (n : Byte) : Frame := ⟨127, 0, b2, .raw [n], .own⟩

/-- A station list record of a cabin. -/
def railed (number : BitVec 16) (cabin : Option Nat) (progress : Nat) (door : DoorState) : StationRecord :=
  ⟨number, cabin, false, ⟨.passenger, .auto⟩, progress, door⟩

/-- A STATIC cabin entry. -/
def static (id : Nat) (l : Location) : CabinEntry := ⟨id, .static, ⟨.passenger, .auto⟩, l, 0, none⟩

/-- A train list record that left at odometer 0. -/
def train (cabin : Option Nat) (next : Nat) : TrainRecord := ⟨cabin, false, 0, next, ⟨.passenger, .auto⟩⟩

/-- One door channel of a state changed. -/
def door (k : Fin 8) (f : Channel → Channel) (s : State) : State := s.modChannel k f

/-- An action in flight. -/
def act (k : ActionKind) (r : Role) : Action := ⟨k, r, 50, 10, 3⟩

/-- A served cabin of record 3 on a channel of a role. -/
def serving (r : Role) (wrote : Option DoorState) : Option Served := some ⟨3, some 7, ⟨.passenger, .auto⟩, r, wrote⟩

/-- One call record of a state replaced. -/
def call (i : Fin 4) (r : CallRecord) (s : State) : State := s.modRecord i fun _ => r

/-- A CONNECTED outgoing call of line 1 to summit line 2 on voice channel A. -/
def talking : CallRecord := ⟨.connected, 1, .summit 2, .routine, true, 0, some .a, false, some 1, true, none⟩

/-- LINE 0 off-hook in `rest`. -/
def offHook0 : State := rest.setHook 0 true

/-! ## The manual's values -/

/-- R2: the check register over the ASCII bytes of "123456789". -/
theorem test_crc_of_the_digits : crc [0x31, 0x32, 0x33, 0x34, 0x35, 0x36, 0x37, 0x38, 0x39] = 0x29B1 := by decide +kernel

/-- R2: the register over a whole frame with its check word is zero, and a changed byte is found. -/
theorem test_crc_of_a_frame :
    frameCheck (frameOf 0x80 63 0x40 [5, 0]) = none ∧ frameCheck [0x80, 63, 0x40, 0, 0, 0] = some Ctr.check := by decide +kernel

/-! ### Ports and queues -/

/-- The line port with an error count and a mode. -/
def lineAt (m : PortMode) (errors : Nat) : State :=
  { rest with line := { rest.line with mode := m, errors := errors, rejoin := if m = .detached then some 1000 else none } }

/-- Section 1.4: at 90 a bad frame makes 98 and WARNED. -/
theorem test_bad_frame_warns :
    let t := after (.frameReceived .line [0x80, 63, 0x40, 0, 0, 0] .unread) (lineAt .active 90)
    (t.line.mode, t.line.errors) = (.warned, 98) := by decide +kernel

/-- Section 1.4: at 191 a bad frame makes 199 and DETACHED, LINE_DETACHED present, the rejoin timer running. -/
theorem test_bad_frame_detaches :
    let t := after (.frameReceived .line [0x80, 63, 0x40, 0, 0, 0] .unread) (lineAt .muted 191)
    (t.line.mode, t.line.errors, t.line.rejoin) = (.detached, 199, some 1000) ∧
      (t.chain.causes.map fun r => (r.code, r.present)) = [(.lineDetached, true)] := by decide +kernel

/-- Section 1.4: after 1,000 ms the port is REJOINING and LINE_DETACHED's condition gone. -/
theorem test_rejoin_timer :
    let t := after (.rejoinTimerExpiry .line) (lineAt .detached 199)
    (t.line.mode, t.line.errors, t.line.goodRun, t.line.rejoin) = (.rejoining, 199, 0, none) := by decide +kernel

/-- Section 2.3, frames 5, 7 and 10: to 127 on the other port, MARK dropped as protected, hairpin. -/
theorem test_ten_frames :
    ((after (.frameReceived .line (frameOf 127 63 0xC0 [1]) .unread) rest).station.queues[(3 : Fin 4)]).length = 1 ∧
      (after (.frameReceived .station (frameOf 127 65 0x10 [1]) .unread) rest).switch.counters[Ctr.protectedDrop 0] = 1 ∧
      (after (.frameReceived .station (frameOf 70 64 0xC0 [1]) .unread) rest).switch.counters[Ctr.hairpin 0] = 1 := by
  decide +kernel

/-- Section 2.4: the full SAFETY queue of the example, the link busy. -/
def safety : State :=
  { rest with line := { rest.line with
    queues := rest.line.queues.set 0 [queued 0 41, queued 0x40 17, queued 0x10 9, queued 0x40 18, queued 0x40 19,
      queued 0 42, queued 0x40 20, queued 0x10 10]
    inFlight := some (3, queued 0xC0 0) } }

/-- Section 2.4: BEAT 21 removes BEAT 17; DATA then removes the oldest frame, ROLL 41. -/
theorem test_full_safety_queue :
    let s := safety.offer .line 0 (queued 0x40 21)
    s.line.queues[(0 : Fin 4)] = [queued 0 41, queued 0x10 9, queued 0x40 18, queued 0x40 19, queued 0 42,
        queued 0x40 20, queued 0x10 10, queued 0x40 21] ∧
      (s.offer .line 0 (queued 0xC0 1)).line.queues[(0 : Fin 4)] = [queued 0x10 9, queued 0x40 18, queued 0x40 19,
        queued 0 42, queued 0x40 20, queued 0x10 10, queued 0x40 21, queued 0xC0 1] := by decide +kernel

/-- Section 2.5, pick 8: from turn 7 with class 3 alone the walk takes turn 4 and the position is turn 5. -/
theorem test_mixed_walk :
    let s : State := { rest with line := { rest.line with
      queues := rest.line.queues.set 3 [queued 0xC0 2], turn := 6 } }
    let t := after (.arbiterPick .line) s
    t.line.inFlight = some (3, queued 0xC0 2) ∧ t.line.turn = 4 := by decide +kernel

/-- R17: the frame in transmission leaves and is counted in its class. -/
theorem test_frame_leaves :
    let t := after (.frameLeaves .line) safety
    t.line.inFlight = none ∧ t.line.counters[Ctr.transmitted 3] = 1 := by decide +kernel

/-! ### Posts and seats -/

/-- Section 3.10: posts 1, 2 and 3 fitted, last roll 41, last mark 7; seat 1 of post 2 in BAND mode, warn 150, stop 300,
confirm 2, supervised. -/
def posts : State :=
  let s := [0, 1, 2].foldl (fun (s : State) p => s.modPost p fun e => { e with fitted := true })
    { rest with poller := { rest.poller with rollNumber := 41, markNumber := 7 } }
  s.modSeat ⟨1, 1⟩ fun e =>
    { e with
      fitted := true, track := .up, compare := .band, warn := 150, stop := 300, confirm := 2, supervised := true }

/-- Section 3.10, event 1: MARK 8 and the sweep. -/
theorem test_sample_period :
    let t := after .samplePeriodExpiry posts
    t.poller.markNumber = 8 ∧ t.poller.sweep = [0, 1, 2] := by decide +kernel

/-- Section 3.10, event 1: the asker takes post 1. -/
theorem test_ask_send :
    let t := after .askSend (after .samplePeriodExpiry posts)
    (t.poller.ask.map fun a => (a.post, a.phase)) = some (0, .queued) ∧ t.poller.sweep = [1, 2] := by decide +kernel

/-- Section 3.10, event 4: ROLL 42 in QUEUED. -/
theorem test_roll_period : (after .rollPeriodExpiry posts).poller.roll = some (42, .queued) := by decide +kernel

/-- Section 3.10, event 11: the lost roll raises the line port's error count by 8 and the consecutive lost count to 1. -/
theorem test_roll_deadline :
    let t := after .rollDeadlineExpiry
      { posts with poller := { posts.poller with roll := some (43, .awaiting), rollDeadline := some 60 } }
    (t.poller.roll, t.poller.lost, t.line.errors) = (none, 1, 8) := by decide +kernel

/-- Section 3.10, event 8: the missed ask of post 3. -/
theorem test_ask_deadline :
    let t := after .askDeadlineExpiry
      { posts with poller := { posts.poller with ask := some ⟨2, .awaiting, 0, some 20, false⟩ } }
    t.poller.ask = none ∧ (t.post 2).missed = 1 := by decide +kernel

/-- Section 3.10, events 6 and 9: offset −342 raises SEAT_WARN, offset −351 after it SEAT_LIMIT. -/
theorem test_seat_offsets :
    let s := posts.judgeOffset ⟨1, 1⟩ (-342)
    (s.chain.causes.map fun r => (r.code, r.occurrences, r.present)) = [(.seatWarn, 1, false)] ∧
      (((s.judgeOffset ⟨1, 1⟩ (-351)).chain.causes).map fun r => (r.code, r.occurrences, r.present)) =
        [(.seatWarn, 2, false), (.seatLimit, 1, true)] := by decide +kernel

/-! ### Rope and cabins -/

/-- Section 4.6: pulse pitch 3,000, overspeed limit 6,500, L_UP 1,500, slip +12, both tracks TRACKED. -/
def roped (gate : Int) : State :=
  { rest with
    rope := { rest.rope with
      table := { ropeDefault with pitch := 3000, overspeed := 6500, launchUp := 1500, lengthUp := 2000000 }
      gate := gate, slip := 12, speed := 5976, odo := 317519455, zeros := 0, standstill := false }
    tracker := { rest.tracker with modes := ⟨.tracked, .tracked⟩ } }

/-- Section 4.6: 51 pulses make 5,976 mm/s; −2 make −234. -/
theorem test_gate :
    (after .gateExpiry (roped 51)).rope.speed = 5976 ∧ (after .gateExpiry (roped (-2))).rope.speed = -234 := by
  decide +kernel

/-- Section 4.6: the limits of the gate speed, before the clamp. -/
theorem test_gate_limits :
    gateSpeed 32767 65535 = 83882240 ∧ gateSpeed (-32768) 65535 = -83884800 ∧ gateSpeed 25 1 = 0 := by decide +kernel

/-- Section 4.6: the position of a record, the back-dating term, a departure's odometer. -/
theorem test_positions :
    (roped 0).rope.position .up (train none 0) = 1241798 ∧ backTerm 5976 37 = 221 ∧ backTerm (-117) 37 = -4 ∧
      (roped 0).rope.departureOdo 37 = 317519455 - 56604 := by decide +kernel

/-- Section 4.6: a deviation of +37 takes the slip from 12 to 21, of −7 by −1; at the clamp 65,000 and 4,000 make 65,535. -/
theorem test_slip :
    ((roped 0).offerDeviation .up 37).rope.slip = 21 ∧ ((roped 0).offerDeviation .up (-7)).rope.slip = 11 ∧
      (((roped 0).modRope fun u => { u with slip := 65000 }).offerDeviation .up 4000).rope.slip = 65535 := by
  decide +kernel

/-- R59: a pulse of pitch 3,000 each way. -/
theorem test_pulse :
    (after (.tachometerPulse .forward) (roped 0)).rope.odo = 317522455 ∧
      (after (.tachometerPulse .reverse) (roped 0)).rope.gate = -1 := by decide +kernel

/-- R64: the tach-silent timer's expiry raises TACH_SILENT, of category FAST; drive-run at standstill starts the timer. -/
theorem test_tach_silent :
    (after .tachSilentTimerExpiry (rest.modRope fun u => { u with tachTimer := some 2000 })).chain.asserted = .fast ∧
      (after (.driveRunChange true) rest).rope.tachTimer = some 2000 := by decide +kernel

/-- R77: the age sweep removes a LEARNED entry at NONE that reaches the age time. -/
theorem test_age_sweep :
    let s : State := { rest with tracker := { rest.tracker with
      settings := { rest.tracker.settings with ageTime := 5 }
      cabins := [static 3 .nowhere, ⟨4, .learned, ⟨.goods, .auto⟩, .nowhere, 0, some 4⟩,
        ⟨9, .learned, ⟨.goods, .auto⟩, .up, 0, some 4⟩] } }
    ((after .ageSweepExpiry s).tracker.cabins.map fun e => e.id) = [3, 9] := by decide +kernel

/-! ### Station and doors -/

/-- Bays 0 and 2 and LCK fitted, cabins 40 and 41 on the rail behind LCK's reach, cabin 42 on the DOWN list. -/
def station : State :=
  let s := [0, 2, 8].foldl (fun (s : State) d => s.modDetector d fun u => { u with entry := ⟨true, .presentHigh, 20⟩ }) rest
  { s with
    rail := { s.rail with generator := 19, cabins := [railed 17 (some 40) 1 .opened, railed 18 (some 41) 0 .assumedClosed] }
    tracker := { s.tracker with
      cabins := [static 40 .station, static 41 .station, static 42 .down], lists := ⟨[], [train (some 42) 0]⟩
      modes := ⟨.tracked, .tracked⟩ } }

/-- R104: cabin 42 arrives and is recorded as record 19. -/
theorem test_arrival :
    let t := after (.arrRead (some 42)) station
    (t.rail.cabins.map fun r => (r.number, r.cabin)) = [(17, some 40), (18, some 41), (19, some 42)] ∧
      t.tracker.lists.down = [] := by decide +kernel

/-- R109, R111: cabin 40 launched with its doors open: DOOR_NOT_LOCKED, and the cabin on the UP list. -/
theorem test_launch :
    let t := after (.lchRead (some 40)) station
    (t.rail.cabins.map fun r => r.number) = [18] ∧ (t.tracker.lists.up.map fun r => r.cabin) = [some 40] ∧
      (t.chain.causes.map fun r => r.code) = [.doorNotLocked] := by decide +kernel

/-- R99: a level change starts the debounce; its expiry makes the edge, which takes the oldest record not yet past bay 0. -/
theorem test_detector :
    let t := after (.detectorLevelChange (.bay 0) true) station
    (t.rail.detectors[(0 : Fin 9)]).timer = some 20 ∧
      ((after (.detectorDebounceExpiry (.bay 0)) t).rail.cabins.map fun r => r.progress) = [1, 1] := by decide +kernel

/-- Section 7.11: a close drive reaches its time with an attempt left and reverses; the reverse timer starts the next. -/
theorem test_close_retry :
    let s := door 2 (fun c =>
      { c with state := .closing, action := some (act .closeDoor .closeDoor), attemptsLeft := 2, driveTimer := some 5000 })
      rest
    let t := after (.driveTimerExpiry 2) s
    ((t.channel 2).state, (t.channel 2).attemptsLeft, (t.channel 2).reverseTimer) = (.reversing, 1, some 1000) ∧
      ((after (.reverseTimerExpiry 2) t).channel 2).state = .closing := by decide +kernel

/-- R124, R125: OPEN_END ends an opening with OPEN, LOCKED a close with CLOSED_LOCKED. -/
theorem test_end_sensors :
    let s : State := { rest with rail := { rest.rail with cabins := [railed 3 (some 7) 1 .opening] } }
    let o := door 0 (fun c =>
      { c with state := .opening, action := some (act .openDoor .openDoor), served := serving .openDoor none }) s
    let c := door 0 (fun c =>
      { c with state := .closing, action := some (act .closeDoor .closeDoor), served := serving .closeDoor none }) s
    ((after (.openEndChange 0 true) o).rail.cabins.map fun r => r.door) = [.opened] ∧
      ((after (.lockedChange 0 true) c).rail.cabins.map fun r => r.door) = [.closedLocked] := by decide +kernel

/-- R119: the power-good timer's expiry takes POWERING to READY. -/
theorem test_power_good :
    ((after (.powerGoodExpiry 4) (door 4 (fun c => { c with state := .powering, powerTimer := some 20 }) rest)).channel
      4).state = .ready := by decide +kernel

/-- R121: overcurrent takes a powered channel to FAULT and raises CHANNEL_FAULT. -/
theorem test_overcurrent :
    let t := after (.overcurrent 4 true) (door 4 (fun c => { c with state := .ready, ownOn := true }) rest)
    (t.channel 4).state = .fault ∧ (t.chain.causes.map fun r => r.code) = [.channelFault] := by decide +kernel

/-- R130, R131: the key takes a channel to LOCAL, a press starts a drive for the drive time, the timer ends it. -/
theorem test_local_drive :
    let s := after (.localKeyChange 1 true) (door 1 (fun c => { c with state := .ready }) rest)
    let t := after (.localOpenChange 1 true) s
    let u := after (.localCloseChange 1 true) s
    (s.channel 1).mode = .local_ ∧ (t.channel 1).driveOpen = true ∧ (u.channel 1).driveClose = true ∧
      ((after (.localDriveTimerExpiry 1) t).channel 1).driveOpen = false := by decide +kernel

/-! ### Link, telephony, stop chain -/

/-- R137, R138: a beat in RECOVERING makes the link LINKED; its guard is 100 ms, its late timer 400 ms. -/
theorem test_beat :
    let s : State := { rest with link := { rest.link with state := .recovering, lastBeat := some 9 } }
    let t := after (.frameReceived .line (frameOf 0 63 0x40 [10, 0]) (.beat 10 (some .none))) s
    (t.link.state, t.link.guard, t.link.late) = (.linked, some 100, some 400) ∧
      (after .earlyGuardExpiry t).link.guard = none := by decide +kernel

/-- R139, R142: the late timer's expiry makes the link SILENT; the valley beat takes the next number. -/
theorem test_link_timers :
    (after .lateTimerExpiry { rest with link := { rest.link with late := some 400 } }).link.state = .silent ∧
      (after .valleyBeatTimerExpiry rest).link.valleyNumber = 1 := by decide +kernel

/-- R153: off-hook on LINE 1 opens the hotline call in SETUP on channel A; on-hook frees it. -/
theorem test_hooks :
    let t := after (.offHook 1) rest
    ((t.record 0).state, (t.record 0).channel, (t.record 0).timer) = (.setup, some .a, some 2000) ∧
      ((after (.onHook 1) t).record 0).state = .free := by decide +kernel

/-- R154: the help button opens an EMERGENCY call of LINE 1; pressed in a call it raises the call to EMERGENCY. -/
theorem test_help_button :
    ((after .helpButton rest).record 0).priority = .emergency ∧
      ((after .helpButton (call 3 talking rest)).record 3).priority = .emergency := by decide +kernel

/-- R151: a call in SETUP whose time is over is freed. -/
theorem test_call_timer :
    ((after (.callTimerExpiry 3) (call 3 { talking with state := .setup, timer := some 2000 } rest)).record 3).state =
      .free := by decide +kernel

/-- R166, R168: a block of a CONNECTED summit call takes the next number; playout takes the expected frame. -/
theorem test_voice :
    let s := call 3 talking rest
    let p := s.modVoice .a fun w =>
      { w with playing := true, timer := some 5, expected := some 7, jitter := [(7, List.replicate 40 9)] }
    (((after (.codecBlock 1 (List.replicate 40 1)) s).tel.voices[(0 : Fin 2)]).txSeq) = 1 ∧
      ((after (.playoutTimerExpiry .a) p).tel.codec[(1 : Fin 2)]) = List.replicate 40 9 := by decide +kernel

/-- Section 10.9, time 0.0: stop input 1 low starts the debounce; after it STOP_INPUT_1 raises A to FAST. -/
theorem test_stop_input :
    let s := after (.stopFilterLevelChange (.stop 1) false) rest
    let t := after (.stopFilterDebounceExpiry (.stop 1)) s
    (s.stopFilter (.stop 1)).timer = some 10 ∧ t.chain.asserted = .fast ∧ t.stopLines = (true, true, false) := by
  decide +kernel

/-- R181: the stop timer's expiry raises STOP_OVERRUN. -/
theorem test_stop_timer :
    ((after .stopTimerExpiry (rest.modChain fun u => { u with timer := some 30000 })).chain.causes.map fun r => r.code) =
      [.stopOverrun] := by decide +kernel

/-- Section 10.9: the set of time 12.0, at standstill. -/
def stopped : State :=
  rest.modChain fun u =>
    { u with
      asserted := .emergency
      causes := [⟨.stopInput1, .fast, {}, 1, true⟩, ⟨.doorJam, .service, {}, 1, false⟩,
        ⟨.summitStop, .emergency, {}, 1, false⟩] }

/-- Section 10.9, time 15.0: the permit keeps STOP_INPUT_1 and A falls to FAST. -/
theorem test_permit :
    let t := after (.restartPermit con 1) stopped
    (t.chain.causes.map fun r => r.code) = [.stopInput1] ∧ t.chain.asserted = .fast := by decide +kernel

/-- R192: the reset pin holds the part; its release is the hard reset, whose end is the state after power-on. -/
theorem test_resets :
    (after .resetPinAsserted rest).pinHeld = true ∧
      (after (.hardReset) stopped).chain.asserted = State.reset.chain.asserted ∧
      (after (.restartPart con 1) rest).chain.asserted = .emergency := by decide +kernel

/-! ### Requests -/

/-- R186: each request of the console is counted under the result the manual gives it. -/
def counted (c : Instr) (s : State) (r : Result) : Bool :=
  (after c s).admin.counters[Ctr.request (resultIndex r)] == 1

theorem test_reads_answered :
    counted (.identify con 1) rest .done ∧ counted (.statusRead sum 1) rest .done ∧
      counted (.causesRead con 1 0) rest .endOfTable ∧ counted (.countersRead con 1 (some .telephony) 38 false) rest .endOfTable ∧
      counted (.tableRead con 1 .other) rest .badValue ∧ counted (.listRead con 1 (some .up) 96) rest .badValue ∧
      counted (.cabinFind con 1 7) rest .notFound ∧ counted (.cabinNext con 1 7) rest .endOfTable ∧
      counted (.channelRead con 1 8) rest .badValue ∧ counted (.identify ⟨.line, 64⟩ 1) rest .notPermitted := by
  decide +kernel

theorem test_writes_answered :
    counted (.partTableWrite con 1 ⟨80, some .t, some .strict, 250, 500, 1000, 1000, true⟩) rest .badValue ∧
      counted (.classTableWrite con 1 (some .line) 12 (some .drop) 0) rest .done ∧
      counted (.postTableWrite con 1 49 true) rest .badValue ∧
      counted (.seatTableWrite con 1 1 4 ⟨false, some .up, 0, 0, some .off, 0, 0, 1, false⟩) rest .badValue ∧
      counted (.ropeTableWrite con 1 rest.rope.table) (roped 0) .inMotion ∧
      counted (.stationTableWrite con 1 (some .lck) ⟨true, some .presentHigh, 0⟩) (roped 0) .inMotion ∧
      counted (.channelTableWrite con 1 (.group 2 0)) rest .badValue ∧
      counted (.causeTableWrite con 1 39 ⟨some .fast, true, true⟩) rest .badValue ∧
      counted (.telephonyTableWrite con 1 ⟨3, 3, 3, false⟩) rest .done ∧
      counted (.cabinSettingsWrite con 1 ⟨true, 1441, some .goods, some .auto⟩) rest .badValue := by decide +kernel

theorem test_requests_answered :
    counted (.stop con 1 (some .none)) rest .badValue ∧ counted (.cabinLoad con 1 4096 (some .goods) (some .auto)) rest .badValue ∧
      counted (.cabinPurge con 1 40) station .inUse ∧ counted (.cabinFlushLearned con 1) rest .done ∧
      counted (.trackOn con 1 (some .up)) rest .done ∧ counted (.trackOff con 1 (some .up)) (roped 0) .inMotion ∧
      counted (.channelPower con 1 8 true) rest .badValue ∧ counted (.groupPower con 1 0 true) rest .done ∧
      counted (.channelReset con 1 0) rest .done ∧ counted (.channelLockout con 1 0 true) rest .done ∧
      counted (.postClear con 1 48) rest .done ∧ counted (.restartPermit con 1) (roped 0) .inMotion ∧
      counted (.causesClearNotices con 1) rest .done ∧ counted (.callPlace con 1 .localLine (some .routine)) rest .badRequest ∧
      counted (.callClear con 1 3) rest .notFound := by decide +kernel

/-! ## Ill-formed commands are refused by `Instr.wellFormed` -/

theorem test_illformed_contents_of_another_kind :
    Instr.wellFormed (.frameReceived .line (frameOf 0 63 0x50 [1, 0]) (.beat 1 (some .none))) = false ∧
      Instr.wellFormed (.frameReceived .line (frameOf 0 63 0x40 [1, 0]) (.terminal (some .arrival) 1 0)) = false ∧
      Instr.wellFormed (.frameReceived .line (frameOf 0 63 0x70 [1])
        (.call 0 0 0 (some .routine) (some none) (some .normal))) = false ∧
      Instr.wellFormed (.frameReceived .line (frameOf 0 63 0x60 [1]) (.voice (some .a) 0 (List.replicate 40 0))) = false ∧
      Instr.wellFormed (.frameReceived .station (frameOf 0 64 0xC0 [1, 2]) (.admin 1 (.fits .identify))) = false := by
  decide +kernel

theorem test_illformed_lengths :
    Instr.wellFormed (.frameReceived .line (frameOf 0 63 0x70 [1]) (.voice (some .a) 0 (List.replicate 39 0))) = false ∧
      Instr.wellFormed (.frameReceived .station (frameOf 0 64 0x80 [1]) (.admin 1 (.fits .identify))) = false ∧
      Instr.wellFormed (.codecBlock 0 (List.replicate 41 0)) = false := by decide +kernel

theorem test_wellformed_commands :
    Instr.wellFormed (.frameReceived .line (frameOf 0 63 0x40 [1, 0]) (.beat 1 (some .none))) = true ∧
      Instr.wellFormed (.codecBlock 0 (List.replicate 40 0)) = true := by decide +kernel

/-! ## No obligation has empty hypotheses

Each theorem gives states and operands that meet the hypotheses of the obligation it names, clause by clause. -/

theorem witness_StepTakesTheFrontCommand : State.reset.pending = [] := by decide +kernel

theorem witness_ResetPin :
    ({ rest with pinHeld := true }).pinHeld = true ∧ Instr.gateExpiry ≠ .hardReset ∧ Instr.gateExpiry ≠ .resetPinAsserted := by
  decide +kernel

/-- The one hypothesis of SamplePeriodExpiry, GateExpiry and AgeSweep. -/
theorem witness_pin_released : posts.pinHeld = false ∧ (roped 0).pinHeld = false ∧ station.pinHeld = false := by decide +kernel

/-- The hypotheses every request statement has, and all those of CabinFlushLearned and PostClear: the pin released, a console
request; or a summit request. -/
theorem witness_requests :
    rest.pinHeld = false ∧ rest.isConsole con = true ∧ (sum.port = .line ∧ sum.src = 63) ∧ rest.rope.standstill = true ∧
      (roped 0).rope.standstill = false ∧ (roped 0).pinHeld = false ∧ (roped 0).isConsole con = true := by decide +kernel

/-- Every cause in category FAST, without notice and call. -/
def uncalled : State := rest.modChain fun u => { u with table := Vector.replicate 39 ⟨.fast, false, false⟩ }

theorem witness_HardResetValues : rest.tel.hooks[(0 : Fin 2)] = false ∧ offHook0.tel.hooks[(0 : Fin 2)] = true := by
  decide +kernel

/-- At standstill with a stop call and without one, LINE 0 on-hook and off-hook; in motion. -/
theorem witness_RestartPartKeepsTheTables :
    let calls := fun s : State =>
      (s.chain.table[causeCode .resetLatch]).call.toNat + (s.chain.table[causeCode .summitSilent]).call.toNat
    (rest.pinHeld = false ∧ rest.isConsole con = true ∧ rest.rope.standstill = true ∧ calls rest ≠ 0 ∧
        rest.tel.hooks[(0 : Fin 2)] = false) ∧
      (offHook0.isConsole con = true ∧ offHook0.rope.standstill = true ∧ offHook0.tel.hooks[(0 : Fin 2)] = true) ∧
      (uncalled.isConsole con = true ∧ uncalled.rope.standstill = true ∧ calls uncalled = 0) ∧
      ((roped 0).pinHeld = false ∧ (roped 0).isConsole con = true ∧ (roped 0).rope.standstill = false) := by decide +kernel

theorem witness_RejoinTimerAndFrameLeaves :
    (((lineAt .detached 199).port .line).mode = .detached ∧ ((lineAt .detached 199).port .line).rejoin = some 1000) ∧
      (rest.port .line).mode ≠ .detached ∧ (rest.port .line).inFlight = none ∧
      (safety.port .line).inFlight = some (3, queued 0xC0 0) ∧ (queued 0xC0 0).origin = .own ∧
      (rollFrame 4).origin = .roll 4 ∧ (askFrame 2 9).origin = .ask 9 ∧ rest.poller.ask = none ∧
      ({ rest.poller with ask := some ⟨2, .queued, 9, none, false⟩ }).ask = some ⟨2, .queued, 9, none, false⟩ := by decide +kernel

/-- A line port whose queue of a class holds one frame, in a scheduler mode. -/
def picking (sch : Scheduler) (m : PortMode) (c : Fin 4) (turn : Fin 7) : State :=
  { rest with
    line := { rest.line with mode := m, queues := rest.line.queues.set c [queued 0xC0 1], turn := turn }
    admin := { rest.admin with part := { rest.admin.part with scheduler := sch } } }

theorem witness_ArbiterPick_strict :
    (let s := picking .strict .warned 3 0;
      s.pinHeld = false ∧ (s.port .line).inFlight = none ∧ s.admin.part.scheduler = .strict ∧
        (s.port .line).queues[(3 : Fin 4)] = queued 0xC0 1 :: [] ∧
        (∀ d : Fin 4, d < 3 → (s.port .line).queues[d] = []) ∧ (s.port .line).mode = .warned) ∧
      (let s := picking .strict .muted 0 0;
        (s.port .line).queues[(0 : Fin 4)] = queued 0xC0 1 :: [] ∧ (s.port .line).mode = .muted) ∧
      ∀ d : Fin 4, (rest.port .station).queues[d] = [] := by decide +kernel

theorem witness_ArbiterPick_mixed :
    (let s := picking .mixed .muted 0 0;
      (s.port .line).inFlight = none ∧ s.admin.part.scheduler = .mixed ∧
        (s.port .line).queues[(0 : Fin 4)] = queued 0xC0 1 :: [] ∧ (s.port .line).mode = .muted) ∧
      (let s := picking .mixed .active 3 4;
        (s.port .line).mode = .active ∧ (s.port .line).queues[(0 : Fin 4)] = [] ∧
          (∀ j : Fin 7, j < 6 →
            (s.port .line).queues[([1, 2, 1, 3, 1, 2, 1] : List (Fin 4)).getD ((s.port .line).turn + j).val 0] = []) ∧
          (s.port .line).queues[([1, 2, 1, 3, 1, 2, 1] : List (Fin 4)).getD ((s.port .line).turn + 6).val 0] =
            queued 0xC0 1 :: []) ∧
      (let s := picking .mixed .active 1 0;
        (s.port .line).queues[([1, 2, 1, 3, 1, 2, 1] : List (Fin 4)).getD ((s.port .line).turn + 0).val 0] =
          queued 0xC0 1 :: []) := by decide +kernel

theorem witness_Reception :
    ([1, 2, 3, 4, 5] : List Byte).length < 6 ∧
      (let b : List Byte := [0, 0, 0, 1, 0, 0];
        6 ≤ b.length ∧ b.length ≤ 70 ∧ (b.getD 3 0).toNat + 6 ≠ b.length) ∧
      (let b : List Byte := [0, 0, 0, 0, 0, 0];
        6 ≤ b.length ∧ (b.getD 3 0).toNat + 6 = b.length ∧ crc b ≠ 0) ∧
      (let b : List Byte := [0, 0, 0, 3, 1, 2, 3, 0, 0];
        b.length ≤ 70 ∧ (b.getD 3 0).toNat + 6 = b.length ∧ crc b ≠ 0) ∧
      (∀ l ∈ ([[], [7, 8]] : List (List Byte)),
        let b := frameOf 0 63 0xD0 l;
        6 ≤ b.length ∧ b.length ≤ 70 ∧ (b.getD 3 0).toNat + 6 = b.length ∧ crc b = 0 ∧
          12 < (b.getD 2 0).toNat / 16) ∧
      ((lineAt .muted 191).port .line).mode = .muted ∧ ((lineAt .detached 199).port .line).mode = .detached ∧
      frameCheck (frameOf 0 63 0x40 [1, 0]) = none := by decide +kernel

/-- A REJOINING line port whose run of good frames has a length. -/
def rejoining (run : Nat) : State :=
  { State.reset with line := { State.reset.line with goodRun := run } }

theorem witness_Reception_rejoining :
    ((rejoining 14).pinHeld = false ∧ ((rejoining 14).port .line).mode = .rejoining ∧
        ((rejoining 14).port .line).goodRun < 15) ∧
      (((rejoining 15).port .line).mode = .rejoining ∧ 15 ≤ ((rejoining 15).port .line).goodRun) ∧
      (frameCheck [0, 0, 0, 1, 0, 0] = some Ctr.length ∧ ∀ c : Fin 4, ((rejoining 15).port .line).queues[c] = []) := by
  decide +kernel

theorem witness_Reception_long : 70 < (List.replicate 71 (0 : Byte)).length := by simp

/-- Error counts at the ends of the ranges that a good or a bad frame moves them over, in every mode. -/
theorem witness_Reception_errors :
    (∀ m ∈ [PortMode.active, .warned, .muted, .detached, .rejoining], ((lineAt m 96).port .line).mode = m) ∧
      ((lineAt .active 0).port .line).errors - 1 = 0 ∧ min 255 (((lineAt .muted 255).port .line).errors + 8) = 255 ∧
      (96 ≤ min 255 (88 + 8) ∧ ¬ 96 ≤ min 255 (87 + 8)) ∧ (128 ≤ min 255 (120 + 8) ∧ 96 - 1 < 96) ∧
      (192 ≤ min 255 (184 + 8) ∧ 128 - 1 < 128) := by decide +kernel

/-- A line port whose queue of a class holds a number of equal frames, its link busy, so that nothing is due. -/
def filled (m : PortMode) (c : Fin 4) (n : Nat) : State :=
  { rest with line := { rest.line with
    mode := m, queues := rest.line.queues.set c (List.replicate n (queued 0x40 1)), inFlight := some (3, queued 0xC0 0) } }

theorem witness_OfferPolicy_settled (m : PortMode) (c : Fin 4) (n : Nat) : (filled m c n).settle .line = filled m c n :=
  State.settle_of_none (.inl rfl) (by simp [State.askReady, filled, rest, State.reset, pollerInitial])

/-- A port with nothing due that follows its error count into each mode, frames waiting in each class. -/
theorem witness_Reception_mode_change (m : PortMode) (c : Fin 4) : (filled m c 5).settle .line = filled m c 5 :=
  witness_OfferPolicy_settled m c 5

/-- R14: entry to MUTED flushes and counts class 3 with the ROLL that waits in it, and keeps class 0. -/
theorem test_muted_flush :
    let s : State := { rest with
      line := { rest.line with
        queues := (rest.line.queues.set 0 [queued 0x40 1]).set 3 [rollFrame 42], inFlight := some (3, queued 0xC0 0) }
      poller := { rest.poller with roll := some (42, .queued) } }
    let t := s.changeMode .line .muted
    t.line.queues.toList = [[queued 0x40 1], [], [], []] ∧ t.line.counters[Ctr.mutedDrop 3] = 1 ∧ t.poller.roll = none := by
  decide +kernel

theorem witness_OfferPolicy_full : safety.settle .line = safety := State.settle_of_none (.inl rfl) (by decide +kernel)

theorem witness_OfferPolicy :
    (∀ c : Fin 4, let u := (filled .active c 7).port .line;
      takesOffer u.mode c = true ∧ u.queues[c].length < (if c.val < 2 then 8 else 16)) ∧
      (((filled .active 3 15).port .line).queues[(3 : Fin 4)]).length < 16 ∧
      (∀ c : Fin 4, (if c.val < 2 then 8 else 16) ≤ (((filled .active c 16).port .line).queues[c]).length) ∧
      takesOffer ((filled .muted 0 0).port .line).mode 1 = false ∧
      takesOffer .detached 0 = false ∧ takesOffer .rejoining 3 = false := by decide +kernel

theorem witness_OfferPolicy_evictions :
    8 ≤ ((safety.port .line).queues[(0 : Fin 4)]).length ∧
      (safety.port .line).queues[(0 : Fin 4)] = [queued 0 41] ++ queued 0x40 17 ::
        [queued 0x10 9, queued 0x40 18, queued 0x40 19, queued 0 42, queued 0x40 20, queued 0x10 10] ∧
      (∀ x ∈ [queued 0 41], x.kindNibble ≠ (queued 0x40 21).kindNibble) ∧
      (queued 0x40 17).kindNibble = (queued 0x40 21).kindNibble ∧
      (∀ x ∈ (safety.port .line).queues[(0 : Fin 4)], x.kindNibble ≠ (queued 0xC0 1).kindNibble) := by decide +kernel

/-- The outstanding roll's and ask's own frame, in QUEUED and in AWAITING, and another's; no ask; the two other origins. -/
theorem witness_OfferPolicy_dropped :
    (rollFrame 42).origin = .roll 42 ∧ (after .rollPeriodExpiry posts).poller.roll = some (42, .queued) ∧
      ({ posts.poller with roll := some (42, .awaiting) }).roll ≠ some (42, .queued) ∧ rest.poller.roll = none ∧
      (askFrame 2 4).origin = .ask 4 ∧
      (∀ x ∈ [((4 : Nat), Phase.queued), (4, .awaiting), (3, .queued)],
        let a : OutstandingAsk := ⟨2, x.2, x.1, none, false⟩;
        ({ posts.poller with ask := some a }).ask = some a) ∧
      rest.poller.ask = none ∧ (queued 0 1).origin = .own ∧ ({ queued 0 1 with origin := .switched }).origin = .switched := by
  decide +kernel

theorem witness_SentFrameReadsBack :
    ({ queued 0 0 with payload := .raw (List.replicate 64 5) }).payloadBytes.length ≤ 64 ∧
      ({ queued 0 0 with payload := .raw [] }).payloadBytes.length ≤ 64 := by decide +kernel

theorem witness_ReportReadsBack :
    let r : ReportReading := ⟨8, true, List.replicate 3 ⟨3, true, true, -32768⟩ ++ [⟨0, false, true, 32767⟩],
      List.replicate 4 ⟨3, 1023⟩⟩
    r.seats.length ≤ 4 ∧ r.passages.length ≤ 4 ∧ (∀ e ∈ r.seats, -32768 ≤ e.offset ∧ e.offset ≤ 32767) ∧
      ∀ e ∈ r.passages, e.age ≤ 1023 := by decide +kernel

theorem witness_RollsBuiltAndLost :
    rest.poller.roll = none ∧ (after .rollPeriodExpiry posts).poller.roll = some (42, .queued) ∧
      ({ rest.poller with roll := some (1, .awaiting) }).roll = some (1, .awaiting) ∧ rest.poller.rollDeadline = none ∧
      ({ rest.poller with rollDeadline := some 60 }).rollDeadline = some 60 := by decide +kernel

/-- A returning ROLL of 13 and of 14 bytes, of another number and of the outstanding roll's. -/
theorem witness_RollsBuiltAndLost_returning :
    let s : State := { rest with poller := { rest.poller with roll := some (42, .awaiting) } };
    (List.replicate 13 (42 : Byte)).length ≠ 14 ∧
      ((41 : Byte) :: List.replicate 13 0).length = 14 ∧
      (∀ x, s.poller.roll = some x → x.1 ≠ ((41 : Byte) :: List.replicate 13 0).getD 0 0) ∧
      (s.poller.roll = some (42, .awaiting) ∧ ((42, .awaiting) : Byte × Phase).1 =
        ((42 : Byte) :: List.replicate 13 0).getD 0 0) := by
  refine ⟨by decide +kernel, by decide +kernel, ?_, by decide +kernel⟩
  rintro x ⟨⟩
  decide +kernel

/-- Answer bits of posts 1 and 48: present, wanting attention, neither; with a share alone and with another. -/
theorem witness_RollsBuiltAndLost_answers :
    let bits : List Byte := 42 :: 0x40 :: List.replicate 10 0 ++ [0x02, 0]
    let shared := fun l : List Post => l.foldl (fun (s : State) p => s.modPost p fun e => { e with absentShare := true }) posts;
    ((bits.getD (1 + (0 : Post).val / 4) 0).getLsbD (7 - 2 * ((0 : Post).val % 4)) = false ∧
        (bits.getD (1 + (0 : Post).val / 4) 0).getLsbD (6 - 2 * ((0 : Post).val % 4)) = true) ∧
      (bits.getD (1 + (47 : Post).val / 4) 0).getLsbD (7 - 2 * ((47 : Post).val % 4)) = true ∧
      (posts.post 47).fitted = false ∧
      ((posts.post 0).fitted = true ∧ (posts.post 0).absentShare = false ∧ (posts.post 0).absent ≠ 1) ∧
      (((shared [0]).post 0).fitted = true ∧ ((shared [0]).post 0).absentShare = true ∧
        ∀ q, q ≠ 0 → ((shared [0]).post q).absentShare = false) ∧
      (((shared [0, 2]).post 0).absentShare = true ∧ ∃ q, q ≠ 0 ∧ ((shared [0, 2]).post q).absentShare = true) ∧
      (((posts.modPost 0 fun e => { e with absent := 1 }).post 0).absent = 1) := by decide +kernel

/-- Posts 1 and 3 wait to be asked. -/
def waiting : State :=
  { posts with poller := { posts.poller with attention := [2], sweep := [0] } }

/-- Post 1 is asked and its deadline runs, with a number of missed asks. -/
def asking (missed : Nat) : State :=
  let s := posts.modPost 0 fun e => { e with missed := missed };
  { s with poller := { s.poller with ask := some ⟨0, .awaiting, 4, some 20, false⟩ } }

/-- The line queue of class 2 is full and its link busy. -/
def crowded : State :=
  { rest with line := { rest.line with
    queues := rest.line.queues.set 2 (List.replicate 16 (queued 0 0)), inFlight := some (3, queued 0 0) } }

theorem witness_AsksSentAndEnded_due :
    waiting.duePick .line = waiting ∧ (asking 1).duePick .line = asking 1 ∧ crowded.duePick .line = crowded :=
  ⟨State.duePick_of_none (.inr (by decide +kernel)), State.duePick_of_none (.inr (by decide +kernel)),
    State.duePick_of_none (.inl rfl)⟩

theorem witness_AsksSentAndEnded :
    (waiting.poller.ask = none ∧ waiting.line.mode = .active ∧
        (waiting.line.queues[(2 : Fin 4)]).length < 16 ∧ waiting.poller.attention = 2 :: []) ∧
      (let s := after .samplePeriodExpiry posts;
        s.poller.attention = [] ∧ s.poller.sweep = 0 :: [1, 2]) ∧
      ((asking 1).poller.ask = some ⟨0, .awaiting, 4, some 20, false⟩ ∧
        ((asking 1).post 0).fitted = true ∧ ((asking 1).post 0).missed ≠ 2) ∧
      ((asking 2).post 0).missed = 2 ∧ (lineAt .muted 130).line.mode = .muted ∧
      16 ≤ (crowded.line.queues[(2 : Fin 4)]).length ∧
      (let s : State := { rest with poller := { rest.poller with ask := some ⟨9, .queued, 0, none, false⟩ } };
        (s.post 9).fitted = false ∧ s.poller.ask = some ⟨9, .queued, 0, none, false⟩) := by decide +kernel

/-- Post 1's ask with a service mark, on a line port in a mode. -/
def asked (unfitted : Bool) (m : PortMode) : State :=
  let s := asking 2
  { s with
    line := { s.line with mode := m }
    poller := { s.poller with ask := some ⟨0, .awaiting, 4, some 20, unfitted⟩ } }

/-- Reports of marks 7, 6 and 5 at mark number 7, in service and out of it, on an ACTIVE and a MUTED port; a share of
POST_SILENT alone and with another. -/
theorem witness_AsksSentAndEnded_report :
    let shared := fun l : List Post => l.foldl (fun (s : State) p => s.modPost p fun e => { e with silentShare := true }) (asking 1);
    readReport [] = none ∧
      (let r : ReportReading := ⟨7, true, [⟨1, false, true, -342⟩], [⟨2, 1023⟩]⟩;
        readReport (writeReport r) = some r) ∧
      (∀ b : Bool, ((asked b .active).poller.ask.map fun a => a.unfitted) = some b ∧
        ((asked b .muted).post 0).fitted = true) ∧
      ((asked false .active).poller.markNumber = 7 ∧ ((7 : Byte) - 7).toNat ≤ 1 ∧ ((7 : Byte) - 6).toNat ≤ 1 ∧
        ¬ ((7 : Byte) - 5).toNat ≤ 1 ∧ ¬ ((7 : Byte) - 8).toNat ≤ 1) ∧
      ((asked false .active).line.mode = .active ∧ (asked false .muted).line.mode = .muted) ∧
      (((asked false .active).post 0).missed = 2 ∧ ((asking 1).post 0).missed ≠ 2) ∧
      (((shared [0]).post 0).silentShare = true ∧ ∀ q, q ≠ 0 → ((shared [0]).post q).silentShare = false) ∧
      ((shared [0, 2]).post 2).silentShare = true := by decide +kernel

/-- Seat 1 of post 2 in the UP sequence, seat 0 of post 3 in the DOWN one; the UP list's second record expects it. -/
def passing (position : Nat) : State :=
  let s := (roped 0).modSeat ⟨1, 1⟩ fun e => { e with fitted := true, position := position, window := 0 }
  { s with tracker := { s.tracker with
    seqs := ⟨[⟨1, 1⟩], [⟨2, 0⟩]⟩, lists := ⟨[train none 3, train (some 7) 0], []⟩ } }

theorem witness_AsksSentAndEnded_passage :
    (⟨1, 0⟩ ∉ (passing 0).tracker.seqs.up ∧ ⟨1, 0⟩ ∉ (passing 0).tracker.seqs.down) ∧
      ((passing 0).tracker.seqs.get .up = [] ++ (⟨1, 1⟩ : SeatRef) :: []) ∧
      ((passing 0).tracker.seqs.get .down = [] ++ (⟨2, 0⟩ : SeatRef) :: [] ∧ ⟨2, 0⟩ ∉ (passing 0).tracker.seqs.up ∧
        ∀ r ∈ (passing 0).tracker.lists.get .down, r.next ≠ 0) ∧
      ((passing 0).tracker.lists.get .up = [train none 3] ++ train (some 7) 0 :: [] ∧
        (∀ y ∈ [train none 3], y.next ≠ 0) ∧ (train (some 7) 0).next = 0) ∧
      (let d := fun position : Nat => (roped 0).rope.position .up (train (some 7) 0) - (((passing position).seat ⟨1, 1⟩).position : Int);
        (d 1241798).natAbs ≤ ((passing 1241798).seat ⟨1, 1⟩).window ∧ ((passing 0).seat ⟨1, 1⟩).window < (d 0).natAbs) := by
  decide +kernel

/-- The example rope with a slip estimate and a slip condition. -/
def slipped (slip : Int) (slipping : Bool) : State := (roped 0).modRope fun u => { u with slip := slip, slipping := slipping }

/-- A deviation for a TRACKED and an UNTRACKED track, within the clamp and past it each way; S at the slip limit and one
above it each way, with the condition there and not. -/
theorem witness_AsksSentAndEnded_slip :
    ((roped 0).tracker.modes.get .up = .tracked ∧ rest.tracker.modes.get .down = .untracked) ∧
      (max (-65535) (min 65535 ((65000 : Int) + (2140 : Int).tdiv 4)) = 65000 + (2140 : Int).tdiv 4 ∧
        max (-65535) (min 65535 ((65000 : Int) + (2144 : Int).tdiv 4)) ≠ 65000 + (2144 : Int).tdiv 4 ∧
        max (-65535) (min 65535 ((-65535 : Int) + (-3 : Int).tdiv 4)) = -65535 ∧
        max (-65535) (min 65535 ((-65535 : Int) + (-4 : Int).tdiv 4)) ≠ -65535 + (-4 : Int).tdiv 4) ∧
      (∀ b : Bool,
        let above := fun slip : Int =>
          decide ((slipped slip b).rope.table.slipLimit < (slipped slip b).rope.slip.natAbs);
        above ((roped 0).rope.table.slipLimit : Int) = false ∧ above (-((roped 0).rope.table.slipLimit : Int)) = false ∧
          above ((roped 0).rope.table.slipLimit + 1 : Int) = true ∧
          above (-((roped 0).rope.table.slipLimit + 1 : Int)) = true ∧ (slipped 0 b).rope.slipping = b) := by decide +kernel

/-- R71: S passing above the slip limit raises ROPE_SLIP, and its return to the limit withdraws it; the record stays. -/
theorem test_rope_slip :
    let limit : Int := (roped 0).rope.table.slipLimit
    let told := fun s : State => (s.rope.slipping, s.chain.causes.map fun r => (r.code, r.present))
    let s := (slipped limit false).offerDeviation .up 4
    told s = (true, [(.ropeSlip, true)]) ∧ told (s.offerDeviation .up (-4)) = (false, [(.ropeSlip, false)]) ∧
      told ((slipped (-limit) false).offerDeviation .up (-3)) = (false, []) := by decide +kernel

/-- The kind, destination and source of a frame's bytes. -/
def kindOf (b : List Byte) : Option Kind := kindOfCode ((b.getD 2 0).toNat / 16)
def dstOf (b : List Byte) : Nat := ((b.getD 0 0).extractLsb' 0 7 : Addr).toNat
def srcOf (b : List Byte) : Nat := ((b.getD 1 0).extractLsb' 0 7 : Addr).toNat

/-- Frames the switch drops as protected, consumes, drops as from the wrong source, and drops for want of a consumer. -/
theorem witness_GoodFrameIsForwarded_consumed :
    (∀ x ∈ ([(0x00, .roll), (0x10, .mark), (0x20, .ask), (0xB0, .postClear)] : List (Byte × Kind)),
      frameCheck (frameOf 127 65 x.1 []) = none ∧ kindOf (frameOf 127 65 x.1 []) = some x.2) ∧
      (let b := frameOf 0x80 0 0 (List.replicate 14 0);
        frameCheck b = none ∧ kindOf b = some .roll ∧ (b.getD 0 0).getLsbD 7 = true) ∧
      (let w := (((asking 1).countPort .line Ctr.good).errorDown .line).dueAsk
        let b := frameOf 0 1 0x30 [];
        frameCheck b = none ∧ kindOf b = some .report ∧ (w.poller.ask.map fun a => a.post.val + 1) = some (srcOf b) ∧
          (((rest.countPort .line Ctr.good).errorDown .line).dueAsk).poller.ask = none) ∧
      (∀ x ∈ ([(0x40, .beat), (0x50, .terminalEvent), (0x60, .call), (0x70, .voice)] : List (Byte × Kind)),
        let b := frameOf 0 63 x.1 [];
        frameCheck b = none ∧ kindOf b = some x.2 ∧ dstOf b = 0 ∧ srcOf b = 63 ∧ srcOf (frameOf 0 62 x.1 []) ≠ 63) ∧
      (let b := frameOf 0 64 0x80 [1, 1];
        frameCheck b = none ∧ kindOf b = some .adminRequest ∧ dstOf b = 0) ∧
      (let b := frameOf 0 64 0xC0 [];
        frameCheck b = none ∧ kindOf b = some .data ∧ dstOf b = 0) := by decide +kernel

/-- A class table of one entry in every place, and an unknown-address mask. -/
def switching (a : ClassAction) (m : Mask) : State :=
  { rest with
    switch := { rest.switch with classes := Vector.replicate 26 ⟨a, 2⟩ }
    admin := { rest.admin with part := { rest.admin.part with mask := m } } }

/-- DATA frames to the ends of the ranges of destinations, with every action of the class table and every mask. -/
theorem witness_GoodFrameIsForwarded :
    (rest.port .station).mode = .active ∧ (rest.port .station).errors = 0 ∧
      (∀ d ∈ ([1, 48, 49, 62, 63, 64, 79, 80, 126, 127] : List Byte),
        frameCheck (frameOf d 64 0xC0 []) = none ∧ kindOf (frameOf d 64 0xC0 []) = some .data ∧
          dstOf (frameOf d 64 0xC0 []) = d.toNat) ∧
      rest.switch.entry .station .data = ⟨.forward, 3⟩ ∧ rest.admin.part.mask = .neither ∧
      rest.admin.part.console.toNat = 64 ∧
      (∀ a : ClassAction, (switching a .both).switch.entry .line .data = ⟨a, 2⟩ ∧
        (switching a .both).switch.entry .station .data = ⟨a, 2⟩) ∧
      (∀ m : Mask, (switching .forward m).admin.part.mask = m) := by
  refine ⟨by decide +kernel, by decide +kernel, by decide +kernel, by decide +kernel, by decide +kernel, by decide +kernel,
    ?_, fun _ => rfl⟩
  intro a
  constructor <;> simp [switching, SwitchUnit.entry]

/-- Seat 1 of post 2 with a compare mode, a beyond-stop count and its share. -/
def seat (m : Compare) (beyond : Nat) (share : Bool) : SeatEntry :=
  { posts.seat ⟨1, 1⟩ with compare := m, beyond := beyond, limitShare := share }

theorem witness_SeatOffsetJudgement :
    (seat .off 0 false).compare = .off ∧
      (let e := seat .band 0 false;
        e.compare = .band ∧ (150 : Int) = ((-150 : Int).natAbs : Int) ∧ (150 : Int) ≤ e.warn ∧ (150 : Int) ≤ e.stop) ∧
      (let e := seat .above 0 false;
        e.compare = .above ∧ (e.warn : Int) < 300 ∧ (300 : Int) ≤ e.stop) ∧
      (let e := seat .below 0 false;
        e.compare = .below ∧ (301 : Int) = -(-301) ∧ (e.stop : Int) < 301 ∧ min e.confirm (e.beyond + 1) < e.confirm) ∧
      (let e := seat .below 1 false;
        (e.warn : Int) < 301 ∧ (e.stop : Int) < 301 ∧ min e.confirm (e.beyond + 1) = e.confirm ∧ e.limitShare = false) ∧
      (seat .above 2 true).limitShare = true := by decide +kernel

/-- A sensor fault short of the confirm count, reaching it, and with the share held, in two compare modes. -/
theorem witness_SeatOffsetJudgement_sensor_fault :
    (let e := seat .band 0 false;
      e.compare = .band ∧ (32768 : Int) = ((-32768 : Int).natAbs : Int) ∧ min e.confirm (e.beyond + 1) < e.confirm) ∧
      (let e := seat .above 1 false;
        e.compare = .above ∧ min e.confirm (e.beyond + 1) = e.confirm ∧ e.limitShare = false) ∧
      (seat .below 1 true).limitShare = true := by decide +kernel

/-- `posts` with the entry of seat 1 of post 2 changed. -/
def seated (f : SeatEntry → SeatEntry) : State := posts.modSeat ⟨1, 1⟩ f

/-- A sensor fault is counted and, reaching the confirm count, gives the seat its share and raises SEAT_LIMIT (R52). -/
theorem test_sensor_fault :
    let t := (seated fun e => { e with beyond := 1 }).judgeOffset ⟨1, 1⟩ (-32768)
    ((t.seat ⟨1, 1⟩).limitShare, t.poller.counters[Ctr.sensorFault]) = (true, 1) ∧
      (t.chain.causes.map fun r => (r.code, r.present)) = [(.seatWarn, false), (.seatLimit, true)] := by decide +kernel

theorem witness_SeatOffsetJudgement_switches :
    (rest.seat ⟨1, 1⟩).fitted = false ∧
      ((posts.seat ⟨1, 1⟩).fitted = true ∧ (posts.seat ⟨1, 1⟩).supervised = true ∧
        (posts.seat ⟨1, 1⟩).switchShare = false ∧ (posts.seat ⟨1, 1⟩).limitShare = false) ∧
      (((seated fun e => { e with supervised := false }).seat ⟨1, 1⟩).supervised = false) ∧
      (let s := seated fun e => { e with switchShare := true, limitShare := true };
        ((s.seat ⟨1, 1⟩).switchShare = true ∧ (s.seat ⟨1, 1⟩).limitShare = true) ∧
          (∀ p : Post, ∀ k : Fin 4, (⟨p, k⟩ : SeatRef) ≠ ⟨1, 1⟩ →
            (s.seat ⟨p, k⟩).limitShare = false ∧ (s.seat ⟨p, k⟩).switchShare = false) ∧
          (let t := s.modSeat ⟨47, 3⟩ fun e => { e with switchShare := true, limitShare := true };
            (⟨47, 3⟩ : SeatRef) ≠ ⟨1, 1⟩ ∧ (t.seat ⟨47, 3⟩).limitShare = true ∧ (t.seat ⟨47, 3⟩).switchShare = true)) := by
  decide +kernel

theorem witness_TachometerPulse :
    (roped 0).rope.gate ≠ 32767 ∧ (roped 32767).rope.gate = 32767 ∧ (roped 32767).rope.gate ≠ -32768 ∧
      (roped (-32768)).rope.gate = -32768 := by decide +kernel

theorem witness_DriveRunAndTachSilent :
    rest.rope.driveRun = false ∧ rest.rope.tachTimer = none ∧ (after (.driveRunChange true) rest).rope.driveRun = true ∧
      (after (.driveRunChange true) rest).rope.tachTimer = some 2000 := by decide +kernel

/-- The example rope with one seat at 1,000 mm on the UP track and a record past it, in a track mode. -/
def swept (m : TrackMode) : State :=
  let s := (roped 0).modSeat ⟨1, 1⟩ fun e => { e with fitted := true, position := 1000, window := 500 }
  { s with tracker := { s.tracker with
    seqs := ⟨[⟨1, 1⟩], []⟩, lists := ⟨[train (some 40) 0], []⟩, modes := ⟨m, .tracked⟩ } }

/-- A record past a seat it still expects, on a TRACKED and on an UNTRACKED track, and the same record once it has passed. -/
theorem witness_GateExpiry :
    (∀ m : TrackMode, (swept m).pinHeld = false ∧ (swept m).tracker.lists.get .up = [] ++ train (some 40) 0 :: [] ∧
        (swept m).tracker.modes.get .up = m ∧
        (((swept m).tracker.seqs.get .up).drop 0).takeWhile (fun x =>
          decide ((((swept m).seat x).position : Int) + ((swept m).seat x).window <
            (swept m).rope.position .up (train (some 40) 0))) ≠ []) ∧
      ((swept .tracked).tracker.seqs.get .up).drop (train (some 40) 1).next = [] := by
  refine ⟨?_, by decide +kernel⟩
  intro m
  cases m <;> decide +kernel

/-- R62, R63: 56 pulses make 6,562 mm/s and raise OVERSPEED, 51 then withdraw it; −2 raise REVERSE_MOTION. -/
theorem test_speed_conditions :
    let told := fun (gate : Int) (s : State) =>
      let t := after .gateExpiry (s.modRope fun u => { u with gate := gate })
      (t, t.chain.causes.map fun r => (r.code, r.present))
    (told 56 (roped 0)).2 = [(.overspeed, true)] ∧ (told 51 (told 56 (roped 0)).1).2 = [(.overspeed, false)] ∧
      (told (-2) (roped 0)).2 = [(.reverseMotion, true)] := by decide +kernel

theorem witness_DetectorFilter :
    (let u := rest.rail.detectors[detectorIndex (.bay 7)];
      u.level ≠ true ∧ u.entry.fitted = false ∧ u.timer = none) ∧
      (let u := station.rail.detectors[detectorIndex .lck];
        u.level ≠ true ∧ u.entry.fitted = true ∧ levelPresent u.entry.polarity true ≠ u.present ∧ u.entry.debounce ≠ 0) ∧
      (let s := after (.detectorLevelChange (.bay 0) true) station;
        let u := s.rail.detectors[detectorIndex (.bay 0)];
        u.timer = some 20 ∧ u.level ≠ false ∧ u.entry.fitted = true ∧ levelPresent u.entry.polarity false = u.present) ∧
      (let s := station.modDetector 2 fun u => { u with entry := { u.entry with debounce := 0 } };
        let u := s.rail.detectors[detectorIndex (.bay 2)];
        u.entry.fitted = true ∧ levelPresent u.entry.polarity true ≠ u.present ∧ u.entry.debounce = 0) := by decide +kernel

/-- In `station` bay 0 takes record 18, the second; bay 2 takes record 17 unseen at no fitted bay; in a station with record
17 at progress 0 bay 2 finds bay 0 skipped. -/
theorem witness_BayEdgeTakesTheOldestRecord :
    (∀ r ∈ rest.rail.cabins, (7 : Fin 8).val < r.progress) ∧
      (station.rail.cabins = [railed 17 (some 40) 1 .opened] ++ railed 18 (some 41) 0 .assumedClosed :: [] ∧
        (∀ x ∈ [railed 17 (some 40) 1 .opened], (0 : Fin 8).val < x.progress)) ∧
      (station.rail.cabins = [] ++ railed 17 (some 40) 1 .opened :: [railed 18 (some 41) 0 .assumedClosed] ∧
        ∀ j : Fin 8, 1 ≤ j.val → j < 2 → station.fitted j.castSucc = false) ∧
      (let s := station.setProgress 0 0;
        s.rail.cabins[0]? = some (railed 17 (some 40) 0 .opened) ∧ s.fitted (0 : Fin 8).castSucc = true) := by decide +kernel

/-- A full station list without cabins. -/
def fullStation : State :=
  { station with
    rail := { station.rail with cabins := List.replicate 12 (railed 1 none 0 .assumedClosed) }
    tracker := { station.tracker with lists := ⟨[], []⟩ } }

theorem witness_ArrRead :
    (station.pinHeld = false ∧ station.tracker.entry 42 = some (static 42 .down) ∧
        (station.rail.cabins.filter fun r => decide (r.cabin ≠ some 42)).length < 12) ∧
      (fullStation.tracker.entry 42 = some (static 42 .down) ∧
        12 ≤ (fullStation.rail.cabins.filter fun r => decide (r.cabin ≠ some 42)).length ∧
        fullStation.tracker.lists.down = [] ∧ 12 ≤ fullStation.rail.cabins.length) ∧
      (rest.tracker.lists.down = [] ∧ rest.rail.cabins.length < 12) := by decide +kernel

theorem witness_LchRead :
    (station.tracker.entry 41).isSome = true ∧
      station.rail.cabins = [railed 17 (some 40) 1 .opened] ++ railed 18 (some 41) 0 .assumedClosed :: [] ∧
      (∀ x ∈ [railed 17 (some 40) 1 .opened], x.cabin ≠ some 41) ∧
      (station.tracker.lists.up.filter fun r => decide (r.cabin ≠ some 41)).length < 96 ∧
      DoorState.assumedClosed ≠ .closedLocked ∧ station.tracker.modes.up = .tracked := by decide +kernel

/-- A channel in a state with an action, its timers running. -/
def moving (st : ChannelState) (a : Action) (left : Nat) : Channel :=
  { channelReset channelDefault pinsInitial with
    state := st, action := some a, attemptsLeft := left, driveTimer := some 5000, reverseTimer := some 1000 }

/-- A channel in a state without an action. -/
def idle (st : ChannelState) : Channel := { channelReset channelDefault pinsInitial with state := st }

theorem witness_EndSensors :
    (let c := moving .opening (act .openDoor .openDoor) 0;
      c.pins.openEnd = false ∧ c.state = .opening ∧ c.action = some (act .openDoor .openDoor)) ∧
      (act .openGate .gate).kind = .openGate ∧ (act .openGate .gate).role = .gate ∧
      (let c := moving .closing (act .closeDoor .closeDoor) 2;
        c.pins.locked = false ∧ c.state = .closing ∧ c.action = some (act .closeDoor .closeDoor)) ∧
      (act .closeGate .gate).kind = .closeGate ∧ (act .closeGate .gate).role = .gate ∧
      (let c := idle .ready;
        c.pins.openEnd = false ∧ c.pins.locked = false ∧ c.state = .ready) ∧
      (∀ st ∈ [ChannelState.unpowered, .powering, .closing, .opening, .reversing, .halted, .fault],
        (idle st).state = st ∧ (idle st).pins.openEnd = false ∧ (idle st).pins.locked = false) ∧
      (let c := { idle .ready with pins := { pinsInitial with openEnd := true, locked := true } };
        c.pins.openEnd = true ∧ c.pins.locked = true ∧ c.state = .ready) ∧
      ({ idle .halted with pins := { pinsInitial with locked := true } }).state ≠ .ready := by decide +kernel

/-- A channel that serves record 3 under each role, with the record in the list and gone; one that serves none. -/
theorem witness_EndSensors_writes :
    (∀ r ∈ [Role.openDoor, .closeDoor, .none, .gate],
      ((door 7 (fun c => { c with served := serving r none }) rest).channel 7).served = some ⟨3, some 7, ⟨.passenger, .auto⟩, r, none⟩) ∧
      (∃ r ∈ ({ rest.rail with cabins := [railed 2 none 0 .opened, railed 3 (some 7) 1 .opening] }).cabins, r.number = 3) ∧
      (∀ r ∈ station.rail.cabins, r.number ≠ 3) ∧ (rest.channel 0).served = none := by decide +kernel

/-- R131: in READY a rise of LOCKED ends the local drive of its direction. -/
theorem test_locked_in_ready :
    let s := door 1 (fun _ => { idle .ready with
      mode := .local_, localDrive := some .closing, localTimer := some 5000, pins := { pinsInitial with key := true } }) rest
    let t := after (.lockedChange 1 true) s
    ((t.channel 1).localDrive, (t.channel 1).localTimer) = (none, none) := by decide +kernel

/-- The station of the examples with every record past bay 7, one record at progress 8 with locked doors. -/
def lastBay (d : DoorState) : State :=
  station.modRail fun u => { u with cabins := [railed 17 (some 40) 9 .opened, railed 18 (some 41) 8 d] }

theorem witness_BayEdgeTakesTheOldestRecord_lock_check :
    (∀ r ∈ rest.rail.cabins, 8 < r.progress) ∧
      (∀ d ∈ [DoorState.closedLocked, .unknown],
        (lastBay d).rail.cabins = [railed 17 (some 40) 9 .opened] ++ railed 18 (some 41) 8 d :: [] ∧
          (railed 18 (some 41) 8 d).progress ≤ 8 ∧ (railed 18 (some 41) 8 d).door = d) ∧
      ∀ x ∈ [railed 17 (some 40) 9 .opened], 8 < x.progress := by decide +kernel

/-- A READY channel of a role, its sensors at a level, in REMOTE. -/
def bay (r : Role) (level : Bool) : Channel :=
  { channelReset { channelDefault with role := r } { pinsInitial with openEnd := level, locked := level } with state := .ready }

/-- Every role and sensor level in REMOTE and LOCAL, profiles of every door mode, a gate whose cabin's doors are OPEN. -/
theorem witness_BayEdgeTakesTheOldestRecord_offer :
    (idle .halted).state ≠ .ready ∧ (idle .halted).entry.role = .none ∧ (bay .gate true).entry.role ≠ .none ∧
      (∀ r ∈ [Role.none, .openDoor, .closeDoor, .gate], ∀ b : Bool,
        (bay r b).state = .ready ∧ (bay r b).entry.role = r ∧ (bay r b).pins.openEnd = b ∧ (bay r b).pins.locked = b ∧
          (bay r b).mode ≠ .local_ ∧ ({ bay r b with mode := .local_ }).mode = .local_) ∧
      (railed 17 (some 40) 1 .opened).profile.door = .auto ∧ (railed 17 (some 40) 1 .opened).profile.door ≠ .manual ∧
      (let r := { railed 17 (some 40) 1 .opened with profile := ⟨.goods, .manual⟩ };
        r.profile.door ≠ .auto ∧ r.profile.door = .manual ∧ r.profile.cls ≠ .passenger) ∧
      (railed 17 (some 40) 1 .opened).profile.cls = .passenger ∧
      ((station.rail.cabins.find? fun x => decide (x.number = 17)).map fun x => x.door) = some .opened ∧
      ((station.rail.cabins.find? fun x => decide (x.number = 18)).map fun x => x.door) ≠ some .opened := by
  decide +kernel

/-- Clear edges in every state and mode that a clause names. -/
theorem witness_BayEdgeTakesTheOldestRecord_clear :
    (idle .unpowered).state = .unpowered ∧ (idle .fault).state = .fault ∧ (idle .halted).state = .halted ∧
      (idle .powering).state = .powering ∧
      (let c := { idle .ready with mode := .local_ };
        c.state.powered = true ∧ c.mode = .local_) ∧
      (let c := { bay .gate false with gateOpen := true };
        c.mode ≠ .local_ ∧ c.state = .ready ∧ c.entry.role = .gate ∧ c.gateOpen = true ∧ c.pins.locked = false) ∧
      (let c := { bay .gate true with gateOpen := true };
        c.gateOpen = true ∧ c.pins.locked = true ∧ (bay .gate true).gateOpen = false) ∧
      (let c := moving .opening (act .openGate .gate) 0;
        c.mode ≠ .local_ ∧ c.action = some (act .openGate .gate) ∧ c.state = .opening) ∧
      (moving .opening (act .openDoor .openDoor) 0).action = some (act .openDoor .openDoor) ∧
      (∀ st ∈ [ChannelState.closing, .reversing],
        (moving st (act .closeDoor .closeDoor) 1).state = st ∧
          (moving st (act .closeDoor .closeDoor) 1).action = some (act .closeDoor .closeDoor) ∧
          (moving st (act .closeGate .gate) 1).action = some (act .closeGate .gate)) := by decide +kernel

theorem witness_DriveAndReverseTimers :
    (idle .ready).driveTimer = none ∧ (idle .ready).reverseTimer = none ∧
      (let c := moving .opening (act .openDoor .openDoor) 0;
        c.driveTimer = some 5000 ∧ c.action = some (act .openDoor .openDoor) ∧ c.state = .opening) ∧
      (let c := moving .closing (act .closeDoor .closeDoor) 2;
        c.state = .closing ∧ 2 ≤ c.attemptsLeft) ∧
      (moving .closing (act .closeDoor .closeDoor) 1).attemptsLeft = 1 ∧
      (let c := moving .reversing (act .closeDoor .closeDoor) 1;
        c.state = .reversing ∧ c.reverseTimer = some 1000 ∧ c.pins.openEnd = false ∧ (act .closeDoor .closeDoor).role ≠ .gate) :=
  by decide +kernel

/-- The gate forms: OPEN_GATE driving, the last attempt and a reversal of CLOSE_GATE. -/
theorem witness_DriveAndReverseTimers_gate :
    (let c := moving .opening (act .openGate .gate) 0;
      c.driveTimer = some 5000 ∧ c.action = some (act .openGate .gate) ∧ c.state = .opening) ∧
      (let c := moving .closing (act .closeGate .gate) 1;
        c.driveTimer = some 5000 ∧ c.action = some (act .closeGate .gate) ∧ c.state = .closing ∧ c.attemptsLeft = 1) ∧
      (let c := moving .reversing (act .closeGate .gate) 1;
        c.action = some (act .closeGate .gate) ∧ c.state = .reversing ∧ c.pins.openEnd = false ∧
          (act .closeGate .gate).role = .gate) := by decide +kernel

theorem witness_ChannelAndGroupPower :
    (let c := idle .unpowered;
      c.entry.switching = .individual ∧ c.state = .unpowered ∧ c.entry.powerGood ≠ 0 ∧ c.powerTimer = none) ∧
      (idle .fault).state = .fault ∧ (idle .ready).state.powered = true ∧ (idle .ready).action = none ∧
      (let c := { idle .powering with powerTimer := some 20 };
        c.powerTimer = some 20 ∧ c.state = .powering) ∧
      (∀ j : Fin 8, (rest.channel j).entry.switching = .group 1 → (rest.channel j).state ≠ .fault) ∧
      rest.doors.groupOn[(1 : Fin 2)] = false ∧ rest.doors.groupTimes[(1 : Fin 2)] ≠ 0 ∧ 8 ≤ (8 : Nat) ∧ 2 ≤ (2 : Nat) := by
  decide +kernel

/-- A channel as a member of group 1. -/
def member (c : Channel) : Channel := { c with entry := { c.entry with switching := .group 1 } }

/-- Group 1 on with channels 0 and 7: a READY one and another. -/
def grouped (c : Channel) : State :=
  let s := door 7 (fun _ => member c) (door 0 (fun _ => member (idle .ready)) rest)
  s.modDoors fun u => { u with groupOn := u.groupOn.set 1 true }

/-- A member of a group; a group on with a member in FAULT, one on without; an own switch with no power and with an action. -/
theorem witness_ChannelAndGroupPower_groups :
    ((grouped (idle .fault)).channel 0).entry.switching ≠ .individual ∧
      (∃ j : Fin 8, ((grouped (idle .fault)).channel j).entry.switching = .group 1 ∧
        ((grouped (idle .fault)).channel j).state = .fault) ∧
      ((∀ j : Fin 8, ((grouped (idle .ready)).channel j).entry.switching = .group 1 →
          ((grouped (idle .ready)).channel j).state ≠ .fault) ∧
        (grouped (idle .ready)).doors.groupOn[(1 : Fin 2)] = true) ∧
      (idle .fault).state.powered = false ∧
      (let c := moving .closing (act .closeDoor .closeDoor) 1;
        c.entry.switching = .individual ∧ c.state.powered = true ∧ c.action.isSome = true) := by decide +kernel

/-- GROUP-POWER off abandons the action of a member, writes its cabin's door UNKNOWN and leaves another member in FAULT. -/
theorem test_group_off :
    let s := door 0 (fun c => { c with
      state := .closing, action := some (act .closeDoor .closeDoor), served := serving .closeDoor none })
        (grouped (idle .fault))
    let t := after (.groupPower con 1 1 false)
      (s.modRail fun u => { u with cabins := [railed 3 (some 7) 1 .closing] })
    ((t.channel 0).state, (t.channel 0).served, (t.channel 7).state) = (.unpowered, none, .fault) ∧
      (t.rail.cabins.map fun r => r.door) = [.unknown] ∧ t.doors.counters[Ctr.abandoned 0] = 1 := by decide +kernel

theorem witness_OvercurrentResetAndRead :
    (let c := idle .ready;
      c.pins.overcurrent = false ∧ c.state.powered = true ∧ c.entry.switching = .individual ∧ c.action = none) ∧
      (idle .unpowered).state.powered = false ∧
      (let s := door 0 (fun _ => idle .fault) rest;
        (s.channel 0).state = .fault ∧ ∀ j, j ≠ 0 → (s.channel j).state ≠ .fault) ∧
      (let s := door 7 (fun _ => idle .fault) (door 0 (fun _ => idle .fault) rest);
        ∃ j, j ≠ 0 ∧ (s.channel j).state = .fault) := by decide +kernel

/-- A sensing member of a group with an action in flight, the other member powered, UNPOWERED or in FAULT; a level that is
high already. -/
theorem witness_OvercurrentResetAndRead_groups :
    (∀ st ∈ [ChannelState.ready, .unpowered, .fault],
      let c := (grouped (idle st)).channel 0;
      c.pins.overcurrent = false ∧ c.state.powered = true ∧ c.entry.switching = .group 1 ∧
        ((grouped (idle st)).channel 7).entry.switching = .group 1 ∧ ((grouped (idle st)).channel 7).state = st) ∧
      (let c := member (moving .closing (act .closeDoor .closeDoor) 1);
        c.pins.overcurrent = false ∧ c.state.powered = true ∧ c.entry.switching = .group 1 ∧ c.action.isSome = true) ∧
      ({ pinsInitial with overcurrent := true }).overcurrent = true := by decide +kernel

/-- R121: an overcurrent of a grouped channel puts out the group's switch and sends the other member to UNPOWERED with its
group-off flag. -/
theorem test_overcurrent_of_a_group :
    let t := after (.overcurrent 0 true) (grouped (idle .opening))
    ((t.channel 0).state, (t.channel 7).state, (t.channel 7).groupOff, t.doors.groupOn[(1 : Fin 2)]) =
      (.fault, .unpowered, true, false) := by decide +kernel

theorem witness_LocalModeAndDrive :
    (let c := idle .ready;
      c.pins.key = false ∧ c.mode = .remote ∧ c.action = none ∧ c.localTimer = none) ∧
      (let c := moving .closing (act .closeDoor .closeDoor) 1;
        c.action.isSome = true ∧ c.state ≠ .ready) ∧
      (let c := { idle .ready with mode := .local_, pins := { pinsInitial with key := true } };
        c.pins.key = true ∧ c.mode = .local_ ∧ c.state = .ready ∧ c.pins.localOpen = false ∧ c.pins.localClose = false ∧
          c.pins.openEnd = false ∧ c.pins.locked = false) ∧
      (let c := { idle .ready with
          mode := .remoteLocked, localTimer := some 5000
          pins := ⟨true, true, false, true, true, true⟩ };
        c.mode = .remoteLocked ∧ c.pins.key = true ∧ c.action = none ∧ c.pins.localOpen = true ∧ c.pins.localClose = true ∧
          c.pins.openEnd = true ∧ c.pins.locked = true ∧ c.localTimer = some 5000 ∧
          ¬ (c.mode = .local_ ∧ c.state = .ready)) := by decide +kernel

/-- A key held in REMOTE and one off in LOCAL; a locked-out channel with the key held and an action in flight; local inputs
held outside LOCAL and READY, in either part. -/
theorem witness_LocalModeAndDrive_held :
    let held : ChannelPins := { pinsInitial with key := true, localOpen := true, localClose := true };
    (({ idle .ready with pins := held }).pins.key = true ∧ ({ idle .ready with pins := held }).mode = .remote) ∧
      ((idle .ready).pins.key = false ∧ ({ idle .ready with mode := .local_ }).mode = .local_) ∧
      (let c := { moving .closing (act .closeDoor .closeDoor) 1 with mode := .remoteLocked, pins := held };
        c.mode = .remoteLocked ∧ c.pins.key = true ∧ c.action.isSome = true ∧ c.state ≠ .ready) ∧
      (∀ c ∈ [{ idle .ready with pins := held }, { idle .halted with mode := .local_, pins := held }],
        ¬ (c.mode = .local_ ∧ c.state = .ready) ∧ c.pins.localOpen = true ∧ c.pins.localClose = true) := by decide +kernel

/-- R130: lockout off with the key held takes the channel to LOCAL and abandons its close. -/
theorem test_lockout_off :
    let s := door 2 (fun _ => { moving .closing (act .closeDoor .closeDoor) 1 with
      mode := .remoteLocked, pins := { pinsInitial with key := true } }) rest
    let t := after (.channelLockout con 1 2 false) s
    ((t.channel 2).mode, (t.channel 2).state, t.doors.counters[Ctr.abandoned 2]) = (.local_, .ready, 1) := by
  decide +kernel

theorem witness_EmergencyHaltsTheChannels :
    (∀ st ∈ [ChannelState.ready, .opening, .closing, .reversing, .unpowered, .powering, .halted, .fault],
      (idle st).state = st) ∧
      (∀ k : Fin 8, (rest.channel k).action.isSome = (rest.channel k).state.moving) ∧
      (let s := door 2 (fun _ => moving .closing (act .closeDoor .closeDoor) 2) rest;
        ∀ k : Fin 8, (s.channel k).action.isSome = (s.channel k).state.moving) := by decide +kernel

/-- The rise by a raise and by a STOP, a raise below EMERGENCY and one at it; the fall by a permit, with a gate to shut. -/
theorem witness_EmergencyHaltsTheChannels_rise_and_fall :
    (rest.chain.asserted ≠ .emergency ∧ (rest.raise .resetLatch {} false).chain.asserted = .emergency) ∧
      (rest.raise .stopInput1 {} false).chain.asserted ≠ .emergency ∧ stopped.chain.asserted = .emergency ∧
      (rest.pinHeld = false ∧ rest.isConsole con = true) ∧
      (stopped.isConsole con = true ∧ stopped.rope.standstill = true ∧
        demandedOf (stopped.chain.causes.filter fun r => r.present && decide (r.code ≠ .resetLatch)) ≠ .emergency) ∧
      (∀ b : Bool,
        let c := { bay .gate b with state := ChannelState.halted, gateOpen := true }
        c.state = .halted ∧ c.entry.role = .gate ∧ c.gateOpen = true ∧ c.mode ≠ .local_ ∧ c.pins.locked = b) ∧
      (idle .ready).state ≠ .halted ∧ (bay .gate false).gateOpen ≠ true := by decide +kernel

theorem witness_SummitLinkTimersAndBeats :
    rest.link.late = none ∧ rest.link.guard = none ∧ rest.link.state = .linked ∧ rest.link.request.rank < Category.service.rank ∧
      ({ rest.link with late := some 400, guard := some 100, state := .recovering, request := .fast }).late = some 400 ∧
      Category.fast ≠ .none ∧ (3 : Nat) ≠ 2 := by decide +kernel

/-- Contents of a BEAT that are no beat with a category: an unread payload, one with another category, another kind's. -/
theorem witness_SummitLinkTimersAndBeats_contents :
    ∀ contents ∈ [Contents.unread, .beat 9 none, .terminal (some .arrival) 1 0], ∀ m x, contents ≠ .beat m (some x) := by
  intro contents h m x
  simp only [List.mem_cons, List.not_mem_nil, or_false] at h
  rcases h with rfl | rfl | rfl <;> rintro ⟨⟩

/-- Frames of kinds BEAT and TERMINAL_EVENT from the summit on an ACTIVE line port. -/
theorem witness_SummitLinkTimersAndBeats_frames :
    rest.pinHeld = false ∧ rest.line.mode = .active ∧
      ∀ x ∈ ([(0x40, 4), (0x50, 5)] : List (Byte × Nat)),
        let b := frameOf 0 63 x.1 [1, 0];
        frameCheck b = none ∧ ((b.getD 1 0).extractLsb' 0 7 : Addr) = 63 ∧ (b.getD 2 0).toNat / 16 = x.2 := by
  decide +kernel

/-- The example rope with cabins 40 to 42, learning on or off, and an UP and a DOWN list. -/
def lines (learning : Bool) (up down : List TrainRecord) : State :=
  let s := roped 0
  { s with tracker := { s.tracker with
    cabins := [static 40 .station, static 41 .summit, static 42 .down], lists := ⟨up, down⟩
    settings := { s.tracker.settings with learning := learning } } }

/-- Unreadable reads, 0 and 4096 among them, from an empty DOWN list, one whose oldest record is anonymous and one whose
oldest record has a cabin. -/
theorem witness_ArrRead_unread :
    (∀ read ∈ [none, some 0, some 4096], ∀ id, read = some id → id = 0 ∨ 4095 < id) ∧
      (lines false [] []).tracker.lists.down = [] ∧
      ((lines false [] [train none 0]).tracker.lists.down.head? = some (train none 0) ∧ (train none 0).cabin = none) ∧
      ((lines false [] [train (some 42) 0]).tracker.lists.down.head? = some (train (some 42) 0) ∧
        (train (some 42) 0).cabin = some 42) := by
  refine ⟨?_, by decide +kernel, by decide +kernel, by decide +kernel⟩
  intro read h id hid
  rcases List.mem_cons.1 h with rfl | h
  · cases hid
  · subst hid
    simp only [List.mem_cons, Option.some.injEq, List.not_mem_nil, or_false] at h
    omega

/-- IDs at both ends of their range: known, learned, and neither for want of learning or of room; a record of the cabin's own,
the oldest or not, an anonymous oldest record, one of another cabin, none. -/
theorem witness_ArrRead_identified :
    (1 ≤ 1 ∧ 4095 ≤ 4095) ∧ ((lines false [] []).tracker.entry 42).isSome = true ∧
      ((lines true [] []).tracker.entry 4095 = none ∧ (lines true [] []).tracker.settings.learning = true ∧
        (lines true [] []).tracker.cabins.length < 192) ∧
      ((lines false [] []).tracker.entry 1 = none ∧ ¬ (lines false [] []).tracker.settings.learning = true) ∧
      ¬ ((List.range 192).map fun i => static (i + 2) .nowhere).length < 192 ∧
      ((lines false [] [train none 0, train (some 42) 0]).tracker.lists.down =
          [train none 0] ++ train (some 42) 0 :: [] ∧
        ∀ x ∈ [train none 0], x.cabin ≠ some 42) ∧
      ((lines false [] [train (some 42) 0, train none 0]).tracker.lists.down = [] ++ train (some 42) 0 :: [train none 0] ∧
        (train (some 42) 0).cabin = some 42 ∧ (train (some 42) 0).cabin ≠ none) ∧
      ∀ x ∈ (lines false [] [train none 0]).tracker.lists.down, x.cabin ≠ some 42 := by decide +kernel

/-- R92: an unreadable arrival takes the oldest DOWN record's cabin, recorded as inferred. -/
theorem test_unread_arrival :
    let t := after (.arrRead none) (lines false [] [train (some 42) 0])
    (t.rail.cabins.map fun r => (r.cabin, r.inferred)) = [(some 42, true)] ∧ t.tracker.lists.down = [] ∧
      (t.tracker.entry 42).map (fun e => e.location) = some .station := by decide +kernel

/-- Launches: unreadable from an empty and a filled station list; known and learned cabins, listed and not; a strange cabin
with an anonymous oldest record, with one of a cabin, with none. -/
theorem witness_LchRead_forms :
    rest.rail.cabins = [] ∧ rest.tracker.entry 4095 = none ∧ ¬ rest.tracker.settings.learning = true ∧
      station.rail.cabins.head? = some (railed 17 (some 40) 1 .opened) ∧ (railed 17 (some 40) 1 .opened).cabin ≠ none ∧
      station.rail.cabins = [] ++ railed 17 (some 40) 1 .opened :: [railed 18 (some 41) 0 .assumedClosed] ∧
      ((station.tracker.entry 42).isSome = true ∧ ∀ x ∈ station.rail.cabins, x.cabin ≠ some 42) ∧
      ((lines true [] []).tracker.entry 1 = none ∧ (lines true [] []).tracker.settings.learning = true ∧
        (lines true [] []).tracker.cabins.length < 192) ∧
      (fullStation.rail.cabins.head? = some (railed 1 none 0 .assumedClosed) ∧ fullStation.tracker.entry 1 = none ∧
        ¬ fullStation.tracker.settings.learning = true ∧ (railed 1 none 0 .assumedClosed).cabin = none) := by
  decide +kernel

/-- R88, R110: an unlisted launch of a known cabin onto a full UP list raises ORDER_FAULT, DOOR_NOT_LOCKED and TRACK_FULL and
leaves its location NONE. -/
theorem test_launch_onto_a_full_list :
    let t := after (.lchRead (some 40)) (lines false (List.replicate 96 (train none 0)) [])
    (t.chain.causes.map fun r => r.code) = [.orderFault, .doorNotLocked, .trackFull] ∧ t.tracker.lists.up.length = 96 ∧
      (t.tracker.entry 40).map (fun e => e.location) = some .nowhere := by decide +kernel

/-- The ID behind an older record, at the head, behind an anonymous oldest record, on no record; ID 0; an unknown ID; windows
missed and met at a known age, and an unknown one. -/
theorem witness_SummitLinkTimersAndBeats_arrivals :
    (∀ up : List TrainRecord, (lines false up []).tracker.entry 40 = some (static 40 .station) ∧
      (lines false up []).tracker.entry 7 = none ∧ (lines false up []).tracker.settings.learning = false ∧
      (lines false up []).tracker.modes.up = .tracked) ∧
      ([train (some 41) 0, train (some 40) 0] = [train (some 41) 0] ++ train (some 40) 0 :: [] ∧
        (train (some 40) 0).cabin = some 40 ∧ ∀ x ∈ [train (some 41) 0], x.cabin ≠ some 40) ∧
      ((train none 0).cabin = none ∧ (lines false [train none 0] []).tracker.oldestAnonymous .up = true) ∧
      ((∀ x ∈ [train (some 41) 0], x.cabin ≠ some 40) ∧
        (lines false [train (some 41) 0] []).tracker.oldestAnonymous .up = false) ∧
      (let s := lines false [] []
        let away := fun age : Nat =>
          ((s.rope.table.launchUp : Int) + ((s.rope.odo - (train none 0).departure).toInt).tdiv 256 - s.rope.slip -
            (s.rope.speed * age).tdiv 1000 - (s.rope.table.lengthUp : Int)).natAbs;
        s.rope.table.arrivalWindow < away 0 ∧ (0 : Nat) ≠ 1023) := by
  refine ⟨fun _ => ⟨rfl, rfl, rfl, rfl⟩, by decide +kernel, by decide +kernel, by decide +kernel, by decide +kernel⟩

/-- Departures onto a list with room and onto a full one, of a cabin at the summit, elsewhere, and unknown. -/
theorem witness_SummitLinkTimersAndBeats_departures :
    (∀ down : List TrainRecord, (lines false [] down).tracker.entry 41 = some (static 41 .summit) ∧
      (lines false [] down).tracker.entry 40 = some (static 40 .station) ∧
      (lines false [] down).tracker.entry 7 = none ∧ (lines false [] down).tracker.modes.down = .tracked) ∧
      Location.station ≠ .summit ∧
      ((List.replicate 95 (train none 0)).filter fun r => decide (r.cabin ≠ some 41)).length < 96 ∧
      96 ≤ ((List.replicate 96 (train none 0)).filter fun r => decide (r.cabin ≠ some 41)).length := by
  refine ⟨fun _ => ⟨rfl, rfl, rfl, rfl⟩, by decide +kernel, by decide +kernel, by decide +kernel⟩

/-- Sound telephony with a call to the summit, and the link's late timer running. -/
def losing : State :=
  { call 3 talking rest with link := { rest.link with late := some 400 } }

theorem witness_LineLossEndsEverySummitCall :
    losing.pinHeld = false ∧ losing.link.late = some 400 ∧ (losing.record 3).remote.isSummit = true ∧
      (after .lateTimerExpiry losing).tel.stack = [] := by decide +kernel

theorem witness_LineLoss_telephony_sound : losing.tel.Sound := by
  refine ⟨by decide +kernel, by decide +kernel, by decide +kernel, by decide +kernel, ?_, by decide +kernel⟩
  intro i j v
  cases v <;> revert i j <;> decide +kernel

theorem witness_FreeingACall :
    (let r := (call 3 talking rest).record 3;
      r.known = true ∧ r.remote = .summit 2) ∧ (rest.record 0).known = false ∧
      ((talking.priority ≠ .emergency ∧ talking.order ≠ none) ∧
        (let r := { talking with priority := .emergency, order := none };
          r.priority = .emergency ∧ r.order = none)) := by decide +kernel

/-- A held call of line 1 in record 2, its stack, both channels free. -/
def onHold : State :=
  call 2 { talking with state := .held, channel := none, timer := some 120000 } rest |>.modTel fun u => { u with stack := [2] }

/-- A held call with its line free, on-hook and off-hook; with its line busy; with no channel free. -/
theorem witness_FreeingACall_resumption :
    (rest.tel.resumable = none ∧ rest.tel.freeChannel = some .a) ∧
      (onHold.tel.resumable = some 2 ∧ onHold.tel.freeChannel = some .a ∧
        onHold.tel.hooks[(onHold.record 2).line] = false) ∧
      (let s := onHold.setHook 1 true;
        s.tel.resumable = some 2 ∧ s.tel.hooks[(s.record 2).line] = true ∧ (s.record 2).remote = .summit 2) ∧
      ((call 1 talking onHold).tel.resumable = none) ∧
      (call 0 { talking with line := 0, channel := some .b } (call 1 { talking with line := 0 } onHold)).tel.freeChannel =
        none := by decide +kernel

/-- A victim held, and ones freed: on a full stack, not CONNECTED, not to the summit. -/
theorem witness_FreeingACall_victims :
    (let s := call 3 talking rest;
      (s.record 3).state = .connected ∧ (s.record 3).remote = .summit 2 ∧ (s.record 3).channel = some .a ∧
        s.tel.stack.length < 2) ∧
      (let s := call 3 talking (rest.modTel fun u => { u with stack := [0, 1] });
        2 ≤ s.tel.stack.length) ∧
      ({ talking with state := .setup }).state ≠ .connected ∧ ({ talking with remote := .localLine 0 }).remote.isSummit = false := by
  decide +kernel

/-- Line 1 active in an EMERGENCY record, in a record with a channel, in one without, in none; a channel free and none, with
and without a call to preempt. -/
theorem witness_FreeingACall_preemption :
    ((call 3 { talking with priority := .emergency } rest).tel.activeRecord 1 = some 3) ∧
      ((call 3 talking rest).tel.activeRecord 1 = some 3 ∧ talking.priority ≠ .emergency ∧ talking.channel = some .a) ∧
      (rest.tel.activeRecord 1 = none ∧ rest.tel.freeChannel = some .a) ∧
      (let s := call 0 { talking with line := 0, channel := some .b, order := some 4 }
          (call 2 { talking with line := 0, priority := .operations } rest);
        s.tel.activeRecord 1 = none ∧ s.tel.freeChannel = none ∧
          (s.record 0).state = .connected ∧ (s.record 0).remote.isSummit = true ∧ (s.record 0).priority ≠ .emergency ∧
          (s.record 0).priority.rank < (s.record 2).priority.rank ∧ (s.record 0).channel = some .b ∧
          (s.record 1).state ≠ .connected ∧ (s.record 3).state ≠ .connected) ∧
      (let s := call 0 { talking with line := 0, channel := some .b, priority := .emergency }
          (call 2 { talking with line := 0, state := .setup } rest);
        s.tel.freeChannel = none ∧ (s.record 2).state ≠ .connected ∧ (s.record 0).priority = .emergency) := by
  decide +kernel

theorem witness_Hooks :
    rest.tel.hooks[(0 : Fin 2)] = false ∧ rest.tel.activeRecord 0 = none ∧ rest.tel.activeRecord 1 = none ∧
      rest.tel.freeRecord = some 0 ∧ rest.tel.freeChannel = some .a ∧ rest.link.state ≠ .silent ∧
      (let s := call 2 { talking with state := .ringingIn } rest;
        s.tel.hooks[(1 : Fin 2)] = false ∧ s.tel.ringingRecord 1 = some 2 ∧ (s.record 2).remote = .summit 2) ∧
      (let s := call 2 { talking with state := .ringingOut, line := 0, remote := .localLine 1, channel := none } rest;
        s.tel.hooks[(1 : Fin 2)] = false ∧ s.tel.ringingRecord 1 = some 2 ∧ (s.record 2).remote = .localLine 1) ∧
      (let s := call 2 { talking with state := .ringingIn, line := 0, remote := .none, channel := none, known := false } rest;
        s.tel.hooks[(0 : Fin 2)] = false ∧ s.tel.ringingRecord 0 = some 2 ∧ (s.record 2).remote = .none ∧
          s.link.state ≠ .silent ∧ s.tel.freeChannel = some .a) ∧
      (let s := (call 2 talking rest).setHook 1 true;
        s.tel.hooks[(1 : Fin 2)] = true ∧ s.tel.activeRecord 1 = some 2) ∧
      (rest.setHook 1 true).tel.activeRecord 1 = none := by decide +kernel

theorem witness_HelpButtonAndCallTimer :
    (let s := call 2 talking rest;
      s.tel.activeRecord 1 = some 2 ∧ (s.record 2).priority ≠ .emergency ∧ (s.record 2).known = true ∧
        (s.record 2).remote = .summit 2) ∧
      (let s := call 2 { talking with priority := .emergency } rest;
        (s.record 2).priority = .emergency) ∧
      (let s := call 2 { talking with known := false, remote := .localLine 0 } rest;
        s.tel.activeRecord 1 = some 2 ∧ (s.record 2).known = false) ∧
      (rest.tel.activeRecord 1 = none ∧ rest.tel.freeRecord = some 0 ∧ rest.tel.freeChannel = some .a ∧
        rest.link.state ≠ .silent) ∧
      ({ rest.link with state := .silent }).state = .silent ∧ rest.tel.table.fallback = true ∧ rest.tel.activeRecord 0 = none ∧
      (rest.record 3).timer = none ∧
      (let r := { talking with state := .held, timer := some 120000 };
        r.timer = some 120000 ∧ r.state = .held) := by decide +kernel

/-- Both voice channels in calls of LINE 0 of a priority: one CONNECTED, one in SETUP. -/
def busyLines (p : Priority) : State :=
  call 2 { talking with line := 0, priority := p, channel := some .b }
    (call 3 { talking with line := 0, state := .setup } rest)

/-- LINE 1 in no record: preemption finds a victim, or none; the link SILENT; fallback on and off, LINE 0 on-hook, off-hook
and active. -/
theorem witness_HelpButtonAndCallTimer_opening :
    ((busyLines .routine).tel.activeRecord 1 = none ∧ (busyLines .routine).tel.freeRecord = some 0 ∧
        (busyLines .routine).link.state ≠ .silent ∧ (busyLines .routine).tel.freeChannel = none ∧
        (busyLines .routine).tel.preemption (some 0) 1 = some ([2], .b)) ∧
      ((busyLines .emergency).tel.freeChannel = none ∧ (busyLines .emergency).tel.preemption (some 0) 1 = none ∧
        (busyLines .emergency).tel.activeRecord 0 ≠ none) ∧
      ({ rest.link with state := .silent }).state = .silent ∧
      (rest.tel.table.fallback = true ∧ rest.tel.activeRecord 0 = none ∧ rest.tel.hooks[(0 : Fin 2)] = false) ∧
      (offHook0.tel.table.fallback = true ∧ offHook0.tel.activeRecord 0 = none ∧ offHook0.tel.hooks[(0 : Fin 2)] = true) ∧
      ({ rest.tel.table with fallback := false }).fallback ≠ true := by decide +kernel

/-- Stop-call triggers: LINE 0 active, a HELD call of LINE 0, no FREE record; open with LINE 0 on-hook, off-hook with a free
channel, with none, and with the link SILENT. -/
theorem witness_HelpButtonAndCallTimer_stop_call :
    let opens := fun s : State =>
      s.tel.activeRecord 0 = none ∧ ∀ i : Fin 4, ¬ ((s.record i).state = .held ∧ (s.record i).line = 0)
    let full := ([0, 1, 2, 3] : List (Fin 4)).foldl (fun s i => call i talking s) rest
    let busy := call 3 { talking with channel := some .b } (call 2 { talking with state := .setup } offHook0);
    (¬ opens (call 1 { talking with line := 0 } rest) ∧
        ¬ opens (call 1 { talking with line := 0, state := .held, channel := none } rest) ∧
        (opens full ∧ full.tel.freeRecord = none)) ∧
      (opens rest ∧ rest.tel.freeRecord = some 0 ∧ rest.tel.hooks[(0 : Fin 2)] = false) ∧
      (opens offHook0 ∧ offHook0.tel.freeRecord = some 0 ∧ offHook0.tel.hooks[(0 : Fin 2)] = true ∧
        offHook0.link.state ≠ .silent ∧ offHook0.tel.freeChannel = some .a) ∧
      (opens busy ∧ busy.tel.freeRecord = some 0 ∧ busy.tel.hooks[(0 : Fin 2)] = true ∧ busy.tel.freeChannel = none) ∧
      ({ rest.link with state := .silent }).state = .silent := by decide +kernel

theorem witness_CodecBlockAndPlayout :
    (List.replicate 40 (128 : Byte)).length = 40 ∧ rest.tel.activeRecord 1 = none ∧
      (let s := call 3 talking rest;
        s.tel.activeRecord 1 = some 3 ∧ (s.record 3).state = .connected ∧ (s.record 3).remote = .summit 2 ∧
          (s.record 3).channel = some .a ∧ s.tel.callOn .a = some 3 ∧ s.line.mode = .active) ∧
      (lineAt .muted 130).line.mode ≠ .active ∧ (lineAt .muted 130).line.mode ≠ .warned ∧
      (let s := call 3 { talking with remote := .localLine 0, channel := none } rest;
        s.tel.activeRecord 0 = some 3 ∧ (s.record 3).remote = .localLine 0) ∧
      (rest.tel.voices[voiceIndex .b]).playing = false ∧
      (let w : VoiceUnit := ⟨0, [(7, [1])], true, some 7, some [2], false, 6, some 5⟩;
        w.playing = true ∧ w.timer = some 5 ∧ w.jitter = (7, [1]) :: [] ∧ w.expected = some 7 ∧ w.last = some [2] ∧
          w.replayUsed = false ∧ w.empties < 7) := by decide +kernel

/-- Voice channel A of a call PLAYING with the frame of its turn missing: silence in front of the eighth empty expiry, and with
a later frame queued. -/
theorem witness_CodecBlockAndPlayout_missing :
    let w : VoiceUnit := ⟨0, [], true, some 7, none, false, 6, some 5⟩;
    (w.playing = true ∧ w.timer = some 5 ∧ w.expected = some 7 ∧
        (∀ g rest, w.jitter = g :: rest → g.1 ≠ (7 : Byte)) ∧ min 8 (w.empties + 1) ≠ 8) ∧
      min 8 (({ w with empties := 7 }).empties + 1) = 8 ∧
      (∀ g rest, [((9 : Byte), [(1 : Byte)])] = g :: rest → g.1 ≠ 7) ∧ (call 3 talking rest).tel.callOn .a = some 3 := by
  refine ⟨⟨rfl, rfl, rfl, ?_, by decide +kernel⟩, by decide +kernel, ?_, by decide +kernel⟩
  · rintro g rest ⟨⟩
  · rintro g rest ⟨⟩
    decide +kernel

/-- A jitter queue of some numbers. -/
def jitter (l : List Byte) : List (Byte × List Byte) := l.map fun n => (n, [n])

theorem witness_JitterQueueJudgement :
    (jitter [254, 255, 0, 1, 2, 3, 4, 9]).Pairwise (fun a b => (a.1 - 254).toNat < (b.1 - 254).toNat) ∧
      128 ≤ (((126 : Byte) - 254).toNat) ∧ (((125 : Byte) - 254).toNat) < 128 ∧
      (∃ g ∈ jitter [254, 255], g.1 = (255 : Byte)) ∧ (∀ g ∈ jitter [254, 255, 0, 1, 2, 3, 4, 9], g.1 ≠ (5 : Byte)) ∧
      (jitter [254, 255, 0, 1, 2, 3, 4]).length < 8 ∧ 8 ≤ (jitter [254, 255, 0, 1, 2, 3, 4, 9]).length ∧
      jitter [254, 255, 0, 1, 2, 3, 4, 9] = jitter [254, 255, 0, 1, 2, 3, 4] ++ [(9, [9])] ∧
      ((5 : Byte) - 254).toNat < ((9 : Byte) - 254).toNat ∧ ((9 : Byte) - 254).toNat ≤ ((10 : Byte) - 254).toNat := by
  decide +kernel

/-- A call on channel A whose jitter queue and expected number bring each judgement about. -/
def listening (playing : Bool) (l : List Byte) : State :=
  (call 3 talking rest).modVoice .a fun w =>
    { w with playing := playing, jitter := jitter l, expected := some 254 }

theorem witness_JitterQueueJudgement_frames :
    let samples : List Byte := List.replicate 40 3
    let judged := fun (l : List Byte) (n : Byte) => judgeVoice 254 (jitter l) (n, samples);
    (List.replicate 39 (3 : Byte)).length ≠ 40 ∧ samples.length = 40 ∧
      (∀ i, ¬ ((rest.record i).state = .connected ∧ (rest.record i).channel = some .a)) ∧
      (((listening true []).record 3).state = .connected ∧ ((listening true []).record 3).channel = some .a ∧
        ((listening true []).tel.voices[voiceIndex .a]).expected = some 254) ∧
      judged [] 126 = .late ∧ judged [254] 254 = .duplicate ∧ judged [254, 255, 0, 1, 2, 3, 4, 9] 10 = .dropped ∧
      judged [255] 0 = .queued false [(255, [255]), (0, samples)] ∧
      (∃ q, judged [254, 255, 0, 1, 2, 3, 4, 9] 5 = .queued true q) := by
  refine ⟨by decide +kernel, by decide +kernel, by decide +kernel, by decide +kernel, by decide +kernel, by decide +kernel,
    by decide +kernel, by decide +kernel, _, rfl⟩

theorem witness_CallPlaceAndClear :
    rest.tel.hooks[(0 : Fin 2)] = false ∧ offHook0.tel.hooks[(0 : Fin 2)] = true ∧
      (let s := call 1 { talking with line := 0 } offHook0;
        (s.tel.activeRecord 0).isSome = true ∧ (s.record 1).state ≠ .free ∧ (s.record 0).state = .free) ∧
      (offHook0.tel.activeRecord 0 = none ∧ offHook0.link.state ≠ .silent ∧ offHook0.tel.freeRecord = some 0 ∧
        offHook0.tel.freeChannel = some .a) ∧
      (let s := call 2 { talking with state := .ringingIn, channel := some .b } (call 1 talking offHook0);
        s.tel.activeRecord 0 = none ∧ s.tel.freeChannel = none ∧ Priority.operations ≠ .emergency) := by decide +kernel

theorem witness_CallPlaceAndClear_place :
    let answered := call 1 { talking with line := 0 } offHook0;
    ((4 : Nat) = 0 + 4 ∧ (4 : Nat) ≤ 4) ∧
      ((answered.tel.activeRecord 0).isSome = true) ∧
      (let s := call 1 talking offHook0;
        s.tel.activeRecord 0 = none ∧ (s.tel.activeRecord 1).isSome = true) ∧
      (offHook0.tel.activeRecord 0 = none ∧ offHook0.tel.activeRecord 1 = none ∧ offHook0.tel.freeRecord = some 0 ∧
        offHook0.tel.hooks[(1 : Fin 2)] = false ∧ (offHook0.setHook 1 true).tel.hooks[(1 : Fin 2)] = true) ∧
      ({ rest.link with state := .silent }).state = .silent ∧
      (let s := call 3 { talking with channel := some .b } (call 2 { talking with state := .setup } offHook0);
        s.tel.activeRecord 0 = none ∧ s.tel.freeRecord = some 0 ∧ s.tel.freeChannel = none ∧
          s.tel.preemption (some 0) 0 = some ([3], .b)) ∧
      (let s := call 3 { talking with priority := .emergency, channel := some .b } (call 2 { talking with state := .setup } offHook0);
        s.tel.freeChannel = none ∧ s.tel.preemption (some 0) 0 = none) := by decide +kernel

/-- CALL frames: malformed sub-kinds and fields, references below 4 and of 4, repeats, a line active, a free line with its
handset on-hook and off-hook, no free channel with and without a victim. -/
theorem witness_CallPlaceAndClear_requests :
    7 ≤ (7 : Nat) ∧ (3 : Byte).toNat < 4 ∧ 4 ≤ (4 : Byte).toNat ∧
      (let s := call 3 { talking with ref := 4 } rest;
        (s.record 3).state ≠ .free ∧ (s.record 3).known = true ∧ (s.record 3).line = 1 ∧ (s.record 3).ref = 4 ∧
          s.tel.activeRecord 1 ≠ none) ∧
      (∀ i : Fin 4, ¬ ((rest.record i).state ≠ .free ∧ (rest.record i).known = true ∧ (rest.record i).line = 1 ∧
        (rest.record i).ref = 4)) ∧
      (rest.tel.activeRecord 1 = none ∧ rest.tel.freeChannel = some .a ∧ rest.tel.freeRecord = some 0 ∧
        rest.link.state ≠ .silent) ∧
      ((busyLines .routine).tel.freeChannel = none ∧ Priority.routine ≠ .emergency ∧
        (busyLines .routine).tel.preemption none 1 = some ([2], .b) ∧
        (([2] : List (Fin 4)).foldl State.takeVictim (busyLines .routine)).tel.freeRecord = some 0) ∧
      (busyLines .emergency).tel.preemption none 1 = none := by decide +kernel

/-- CALL frames of a known record in every state, and of none; a PRIORITY that raises and one that does not; a held call taken
off the stack with a victim, with none, on-hook and off-hook. -/
theorem witness_CallPlaceAndClear_others :
    (∀ i : Fin 4, (rest.record i).known = false) ∧
      (∀ st ∈ [CallState.setup, .ringingOut, .ringingIn, .connected, .held],
        let s := call 2 { talking with state := st, ref := 5 } rest;
        (s.record 2).known = true ∧ (s.record 2).state = st ∧ (s.record 2).remote.isSummit = true ∧ (s.record 2).line = 1 ∧
          (s.record 2).ref = 5 ∧ ∀ j : Fin 4, j < 2 → (s.record j).known = false) ∧
      (Priority.routine.rank ≤ Priority.routine.rank ∧ Priority.routine.rank < Priority.emergency.rank) ∧
      (let u := (onHold.modTel fun k => { k with stack := k.stack.filter (· != 2) }).modRecord 2 fun r =>
          { r with priority := .emergency, timer := none };
        u.tel.preemption (some 2) 1 = some ([], .a) ∧ onHold.tel.hooks[(1 : Fin 2)] = false ∧
          (onHold.setHook 1 true).tel.hooks[(1 : Fin 2)] = true ∧ (onHold.record 2).remote = .summit 2) ∧
      (let s := call 0 { talking with line := 0, state := .setup, channel := some .b }
          (call 1 { talking with line := 0, state := .setup } onHold)
        let u := (s.modTel fun k => { k with stack := k.stack.filter (· != 2) }).modRecord 2 fun r =>
          { r with priority := .emergency, timer := none };
        u.tel.preemption (some 2) 1 = none) := by decide +kernel

theorem witness_StopInputsAndStopTimer :
    ((rest.stopFilter (.stop 0)).level = false ∧ (rest.stopFilter (.stop 0)).timer = none ∧ rest.chain.timer = none) ∧
      (let s := after (.stopFilterLevelChange (.stop 0) false) rest;
        (s.stopFilter (.stop 0)).timer = some 10 ∧ (s.stopFilter (.stop 0)).level = true ∧
          (s.stopFilter (.stop 0)).active = false) ∧
      (let f : StopFilter := ⟨false, true, some 10⟩;
        f.level = false ∧ f.active = true ∧ f.timer = some 10) ∧
      ({ rest.chain with timer := some 30000 }).timer = some 30000 := by decide +kernel

theorem witness_RaiseAndWithdrawal :
    (∃ r ∈ stopped.chain.causes, r.code = .doorJam) ∧ ∀ r ∈ stopped.chain.causes, r.code ≠ .channelFault := by
  decide +kernel

/-- A raise from NONE in motion, one at standstill, one from above NONE, one of category NONE; a rise to EMERGENCY, one below
it, none; notices on and off. -/
theorem witness_RaiseAndWithdrawal_rises :
    ((roped 0).chain.asserted = .none ∧ ((roped 0).raise .stopInput1 {} false).chain.asserted ≠ .none ∧
        (roped 0).rope.standstill = false) ∧
      (rest.chain.asserted = .none ∧ rest.rope.standstill = true) ∧ stopped.chain.asserted ≠ .none ∧
      (let s := uncalled.modChain fun u => { u with table := Vector.replicate 39 ⟨.none, true, true⟩ };
        (s.raise .doorJam {} true).chain.asserted = .none) ∧
      (demandedOf rest.chain.causes).rank ≤ rest.chain.asserted.rank ∧
      (∀ c ∈ [Category.fast, .emergency],
        let s := (roped 0).modChain fun u => { u with causes := [⟨.doorJam, c, {}, 1, true⟩] };
        s.chain.asserted.rank < (demandedOf s.chain.causes).rank ∧ demandedOf s.chain.causes = c) ∧
      rest.admin.part.notices = true ∧ ({ rest.admin.part with notices := false }).notices = false := by decide +kernel

/-- R181: the raise that lifts A from NONE starts the stop timer in motion, and the next raise leaves it. -/
theorem test_stop_timer_starts :
    let s := (roped 0).raise .stopInput1 {} false
    let t := (s.modChain fun u => { u with timer := some 7 }).raise .resetLatch {} false
    s.chain.timer = some 30000 ∧ (rest.raise .stopInput1 {} false).chain.timer = none ∧ t.chain.timer = some 7 ∧
      t.chain.asserted = .emergency := by decide +kernel

theorem witness_PermitAndClearing :
    stopped.pinHeld = false ∧ stopped.isConsole con = true ∧ stopped.rope.standstill = true ∧
      (roped 0).rope.standstill = false := by decide +kernel

/-- A permit that keeps A, one between categories below EMERGENCY, one that lowers it. -/
theorem witness_PermitAndClearing_asserted :
    let left := fun s : State =>
      demandedOf (s.chain.causes.filter fun r => r.present && decide (r.code ≠ .resetLatch))
    let s := rest.modChain fun u => { u with causes := [⟨.stopInput1, .fast, {}, 1, false⟩], asserted := .fast };
    left rest = rest.chain.asserted ∧ (left s ≠ s.chain.asserted ∧ s.chain.asserted ≠ .emergency ∧ left s ≠ .emergency) ∧
      left stopped ≠ stopped.chain.asserted ∧ s.rope.standstill = true := by decide +kernel

theorem witness_StopRequest : rest.isConsole con = true ∧ (sum.port = .line ∧ sum.src = 63) ∧ Category.service ≠ .none := by
  decide +kernel

theorem witness_RightsAndAnswers :
    requestOf (.restartPermit sum 4) = some (sum, 4, .restartPermit) ∧
      ¬ (sum.port = .station ∧ sum.src = rest.admin.part.console) ∧
      ¬ (sum.port = .line ∧ sum.src = 63 ∧
        (RequestCode.restartPermit = .identify ∨ RequestCode.restartPermit = .statusRead ∨
          RequestCode.restartPermit = .causesRead ∨ RequestCode.restartPermit = .stop)) ∧
      (1 ≤ (1 : Addr).toNat ∧ (63 : Addr).toNat ≤ 63) ∧ (64 ≤ (64 : Addr).toNat ∧ (79 : Addr).toNat ≤ 79) ∧
      79 < (80 : Addr).toNat := by decide +kernel

/-- Payloads of 0, 1 and 2 bytes, a request, operands that read none, and a misfit code the summit has the right to. -/
theorem witness_RightsAndAnswers_frames :
    ([] : List Byte).length < 2 ∧ [(7 : Byte)].length < 2 ∧ 2 ≤ [(7 : Byte), 8].length ∧ rest.pinHeld = false ∧
      commandOf con 1 .identify = some (.identify con 1) ∧
      (con.port = .station ∧ con.src = rest.admin.part.console) ∧
      (sum.port = .line ∧ sum.src = 63 ∧ RequestCode.stop = .stop) ∧
      ¬ (sum.port = .station ∧ sum.src = rest.admin.part.console) ∧
      (∀ tag reading, Contents.unread ≠ .admin tag reading) ∧
      (∀ tag reading, Contents.beat 1 (some .none) ≠ .admin tag reading) := by
  refine ⟨by decide, by decide, by decide, by decide +kernel, rfl, by decide +kernel, by decide +kernel, by decide +kernel,
    ?_, ?_⟩ <;> rintro _ _ ⟨⟩

theorem witness_IdentityStatusAndCounters :
    (rest.counters .stopChain).length ≤ 50 ∧ 49 < (rest.counters .stopChain).length ∧ 0 < (rest.counters .ropeTravel).length := by
  decide +kernel

theorem witness_CausesRead :
    39 ≤ 39 ∧ (38 < 39 ∧ stopped.chain.causes.length ≤ 38) ∧ (2 < 39 ∧ 2 < stopped.chain.causes.length) := by decide +kernel

theorem witness_TableAndListReads :
    (11 < 12 ∧ station.rail.cabins.length ≤ 11 ∧ 1 < station.rail.cabins.length) ∧
      (∀ t : Track,
        let s : State := { rest with tracker := { rest.tracker with lists := ⟨[train none 0], [train (some 9) 0]⟩ } };
        0 < (s.tracker.lists.get t).length ∧ (s.tracker.lists.get t).length ≤ 1 ∧ 95 < 96) ∧
      (∀ e ∈ station.tracker.cabins, e.id ≠ 4095) ∧ station.tracker.entry 40 = some (static 40 .station) ∧
      (∀ e ∈ station.tracker.cabins, e.id ≤ 42) ∧
      (station.tracker.cabins = [static 40 .station] ++ static 41 .station :: [static 42 .down] ∧
        (∀ x ∈ [static 40 .station], x.id ≤ 40) ∧ 40 < (static 41 .station).id) := by
  refine ⟨by decide +kernel, ?_, by decide +kernel⟩
  intro t
  cases t <;> decide +kernel

theorem witness_WritesTakenAtAnySpeed :
    (64 ≤ (79 : Addr).toNat ∧ (79 : Addr).toNat ≤ 79) ∧ (100 ≤ 1000 ∧ 200 ≤ 2000 ∧ 1 ≤ 255) ∧
      ((causeMinimum .doorJam).rank ≤ Category.emergency.rank ∧
        ((rest.chain.table[causeCode .doorJam]).category).rank ≤ Category.emergency.rank) := by decide +kernel

/-- Fields one past each end of their ranges, and rejoin delays that are no multiple of 100. -/
theorem witness_WritesTakenAtAnySpeed_refusals :
    let f : PartFields := ⟨64, some .t, some .strict, 250, 500, 1000, 1000, true⟩;
    (({ f with mask := none }).mask = none ∧ ({ f with scheduler := none }).scheduler = none ∧
        ({ f with console := 63 }).console < 64 ∧ 79 < ({ f with console := 80 }).console) ∧
      (({ f with rollPeriod := 99 }).rollPeriod < 100 ∧ 1000 < ({ f with rollPeriod := 1001 }).rollPeriod ∧
        ({ f with samplePeriod := 199 }).samplePeriod < 200 ∧ 2000 < ({ f with samplePeriod := 2001 }).samplePeriod) ∧
      (({ f with rejoinStation := 0 }).rejoinStation < 100 ∧ 25500 < ({ f with rejoinStation := 25600 }).rejoinStation ∧
        ({ f with rejoinStation := 150 }).rejoinStation % 100 ≠ 0 ∧ ({ f with rejoinLine := 0 }).rejoinLine < 100 ∧
        25500 < ({ f with rejoinLine := 25600 }).rejoinLine ∧ ({ f with rejoinLine := 25450 }).rejoinLine % 100 ≠ 0) ∧
      (12 < (13 : Nat) ∧ 3 < (4 : Nat)) ∧ 3 < (⟨4, 0, 0, false⟩ : TelephonyFields).hotline ∧
      1440 < (⟨true, 1441, some .goods, some .auto⟩ : CabinSettingsFields).ageTime ∧ 1 < (2 : Nat) ∧ 255 < (256 : Nat) ∧
      38 < (39 : Nat) ∧ (⟨none, true, true⟩ : CauseFields).category = none := by decide +kernel

/-- The two fitted seats 0 and 1 of posts 2 and 3 stand at one position of one track, with windows; post 3 is fitted or not. -/
def clashing (fitted : Bool) : State :=
  let f := fun e : SeatEntry => { e with fitted := true, track := .up, position := 700, window := 300 }
  ((posts.modPost 2 fun e => { e with fitted := fitted }).modSeat ⟨1, 0⟩ f).modSeat ⟨2, 1⟩ f

theorem witness_StopRelevantWrites :
    ((posts.post 0).fitted = true ∧ (posts.post 47).fitted ≠ true ∧ rest.rope.standstill = true ∧
        (roped 0).rope.standstill = false) ∧
      (let f : SeatFields := ⟨true, some .up, 900, 300, some .band, 150, 300, 2, true⟩;
        f.position < trackLength posts.rope.table .up ∧ f.warn ≤ f.stop ∧
          (posts.seat ⟨1, 0⟩).written f .up .band ≠ posts.seat ⟨1, 0⟩) ∧
      (let e := posts.seat ⟨1, 1⟩;
        e.written ⟨e.fitted, some e.track, e.position, e.window, some e.compare, e.warn, e.stop, e.confirm, e.supervised⟩
          e.track e.compare = e) ∧
      (let f : RopeFields := { ropeDefault with lengthUp := 1000, pitch := 65535 };
        rest.rope.table ≠ f ∧ 1 ≤ f.pitch ∧ f.pitch ≤ 65535 ∧ 1000 ≤ f.lengthUp ∧
          ¬ ∃ e ∈ rest.poller.seats.toList, e.fitted = true ∧ trackLength f e.track ≤ e.position) ∧
      (let e : StationEntry := ⟨true, .presentLow, 255⟩;
        (rest.rail.detectors[detectorIndex .lck]).entry ≠ e ∧
          ((rest.rail.detectors[detectorIndex .lck]).entry.fitted ≠ e.fitted)) ∧
      (let e := { (station.rail.detectors[detectorIndex (.bay 0)]).entry with debounce := 255 };
        (station.rail.detectors[detectorIndex (.bay 0)]).entry ≠ e ∧
          (station.rail.detectors[detectorIndex (.bay 0)]).entry.fitted = e.fitted ∧
          (station.rail.detectors[detectorIndex (.bay 0)]).entry.polarity = e.polarity) ∧
      (let e : ChannelEntry := ⟨.gate, .group 0, 255, 255, 50, 7⟩;
        (rest.channel 0).entry.role ≠ e.role ∧ (rest.channel 0).entry.switching ≠ e.switching ∧
          ((door 0 (fun _ => idle .ready) rest).channel 0).state.powered = true) := by decide +kernel

/-- The write that fits post 3, and one that gives seat 1 of post 2 the place of another seat, bring two listed seats to one
position; the other writes of the two leave none there. -/
theorem witness_StopRelevantWrites_clashes :
    let clash := fun (s : State) (fitted : Post → Bool) (entry : SeatRef → SeatEntry) (x y : SeatRef) =>
      let listed := fun x : SeatRef => fitted x.post = true ∧ (entry x).fitted = true ∧ (entry x).window ≠ 0
      s.pinHeld = false ∧ listed x ∧ listed y ∧ x ≠ y ∧ (entry x).track = (entry y).track ∧ (entry x).position = (entry y).position
    let s := clashing false
    let f : SeatFields := ⟨true, some .up, 700, 1, some .off, 0, 0, 1, false⟩;
    clash s (fun q => decide (q = 2) || (s.post q).fitted) s.seat ⟨1, 0⟩ ⟨2, 1⟩ ∧
      ¬ clash s (fun q => (s.post q).fitted) s.seat ⟨1, 0⟩ ⟨2, 1⟩ ∧
      clash s (fun q => (s.post q).fitted)
        (fun x => if x = ⟨1, 1⟩ then (s.seat ⟨1, 1⟩).written f .up .off else s.seat x) ⟨1, 0⟩ ⟨1, 1⟩ ∧
      ¬ clash s (fun q => (s.post q).fitted)
        (fun x => if x = ⟨1, 1⟩ then (s.seat ⟨1, 1⟩).written { f with window := 0 } .up .off else s.seat x) ⟨1, 0⟩ ⟨1, 1⟩ ∧
      trackLength s.rope.table .up ≤ trackLength s.rope.table .up := by decide +kernel

/-- R49, R86: the post write and the seat write that clash are refused with BAD_VALUE; the same seat with window 0 is taken. -/
theorem test_position_clashes :
    let seat := fun window : Nat =>
      counted (.seatTableWrite con 1 2 1 ⟨true, some .up, 700, window, some .off, 0, 0, 1, false⟩) (clashing false)
    counted (.postTableWrite con 1 3 true) (clashing false) .badValue ∧ seat 1 .badValue ∧ seat 0 .done := by decide +kernel

/-- No two seats of `rest` clash, whatever post is fitted. -/
theorem witness_StopRelevantWrites_no_clash : ∀ x : SeatRef, ¬ (rest.seat x).fitted = true := by
  intro x
  simp [rest, State.reset, pollerInitial, State.seat, seatDefault]

/-- A sole share and a shared one; entries one past each end of their tables and fields. -/
theorem witness_StopRelevantWrites_bounds :
    (let shared := fun l : List Post => l.foldl (fun (s : State) p =>
        s.modPost p fun e => { e with absentShare := true, silentShare := true }) posts;
      (((shared [1]).post 1).absentShare = true ∧ ((shared [1]).post 1).silentShare = true ∧
        ∀ q, q ≠ 1 → ((shared [1]).post q).absentShare = false ∧ ((shared [1]).post q).silentShare = false) ∧
      ((shared [0, 1]).post 0).absentShare = true) ∧
      (48 < (49 : Nat) ∧ 3 < (4 : Nat)) ∧
      (let f : SeatFields := ⟨true, none, 8000001, 65536, none, 32768, 32768, 5, true⟩;
        f.track = none ∧ f.compare = none ∧ 8000000 < f.position ∧ 65535 < f.window ∧ 32767 < f.warn ∧ 32767 < f.stop ∧
          4 < f.confirm ∧ ({ f with stop := 32767 }).stop < f.warn ∧ ({ f with confirm := 0 }).confirm = 0) ∧
      (let s := posts.modSeat ⟨1, 1⟩ fun e => { e with position := 2000 };
        ∃ e ∈ s.poller.seats.toList, e.fitted = true ∧ trackLength { ropeDefault with lengthUp := 2000 } e.track ≤ e.position) ∧
      (∀ f ∈ [{ ropeDefault with pitch := 0 }, { ropeDefault with overspeed := 99 }, { ropeDefault with stopTime := 121 }],
        ¬ (1 ≤ f.pitch ∧ 100 ≤ f.overspeed ∧ f.stopTime ≤ 120)) ∧
      (⟨true, none, 20⟩ : StationFields).polarity = none ∧ 255 < (⟨true, some .presentHigh, 256⟩ : StationFields).debounce ∧
      7 < (8 : Nat) ∧ 50 < (51 : Nat) := by decide +kernel

/-- A switching change of an unpowered channel to a group that is on and to one that is off; a category lowered, one clamped
and lowered, one clamped to the present category, one raised. -/
theorem witness_StopRelevantWrites_switching_and_category :
    (let s := grouped (idle .ready);
      (s.channel 1).entry.switching ≠ .group 1 ∧ (s.channel 1).state.powered = false ∧
        s.doors.groupOn[(1 : Fin 2)] = true ∧ s.doors.groupOn[(0 : Fin 2)] = false ∧
        (s.channel 1).entry.role = .none) ∧
      (let present := fun c => (rest.chain.table[causeCode c]).category.rank;
        Category.service.rank < present .stopInput0 ∧ ¬ Category.service.rank < (causeMinimum .stopInput0).rank ∧
          (Category.none.rank < (causeMinimum .stopInput0).rank ∧ (causeMinimum .stopInput0).rank < present .stopInput0) ∧
          (Category.fast.rank < (causeMinimum .seatSwitch).rank ∧ present .seatSwitch ≤ (causeMinimum .seatSwitch).rank) ∧
          present .doorJam < Category.fast.rank) := by decide +kernel

theorem witness_CabinLoad :
    (∃ e ∈ station.tracker.cabins, e.id = 40) ∧ (∀ e ∈ station.tracker.cabins, e.id ≠ 4095) ∧
      192 ≤ ((List.range 192).map fun i => static (i + 1) .nowhere).length ∧ 4095 < (4096 : Nat) ∧
      ((none : Option CabinClass) = none ∨ some DoorMode.auto = none) ∧
      (station.tracker.cabins = [static 40 .station, static 41 .station, static 42 .down] ++ [] ∧
        (∀ e ∈ [static 40 .station, static 41 .station, static 42 .down], e.id < 4095) ∧
        station.tracker.cabins.length < 192) := by decide +kernel

theorem witness_CabinPurge :
    (∀ e ∈ station.tracker.cabins, e.id ≠ 1) ∧
      (station.tracker.entry 40 = some (static 40 .station) ∧ (static 40 .station).location ≠ .nowhere) ∧
      (let u : Tracker := { station.tracker with cabins := [static 4095 .nowhere] };
        u.entry 4095 = some (static 4095 .nowhere) ∧ (static 4095 .nowhere).location = .nowhere) := by decide +kernel

theorem witness_TrackOnAndOff :
    rest.tracker.modes.get .up = .untracked ∧ station.tracker.modes.get .down = .tracked ∧
      station.tracker.modes = ⟨.tracked, .tracked⟩ ∧
      ({ rest.tracker with modes := ⟨.tracked, .untracked⟩ }).modes = (PerTrack.mk .untracked .untracked).set .up .tracked :=
  by decide +kernel

/-- A permit at standstill lowers A: the hypotheses of the headline rule and the way it allows. -/
theorem witness_AssertedFallsOnlyByAPermit :
    let s := { stopped with pending := [.restartPermit con 1] };
    ∃ t, step s = .next t ∧ t.chain.asserted.rank < s.chain.asserted.rank :=
  ⟨after (.restartPermit con 1) stopped, rfl, by decide +kernel⟩

/-- The same by an ADMIN_REQUEST frame from the console's address that carries the permit. -/
theorem witness_AssertedFallsOnlyByAPermit_frame :
    let c : Instr := .frameReceived .station (frameOf 0 64 0x80 [0, 1]) (.admin 1 (.fits .restartPermit));
    let s := { stopped with pending := [c] };
    s.consolePermit c = true ∧ ∃ t, step s = .next t ∧ t.chain.asserted.rank < s.chain.asserted.rank :=
  ⟨by decide +kernel, after (.frameReceived .station (frameOf 0 64 0x80 [0, 1]) (.admin 1 (.fits .restartPermit))) stopped,
    rfl, by decide +kernel⟩

/-! ### Sound states that step

For each invariant a state that has it, other than the reset state, with a command waiting that answers a next state. -/

/-- A state with one gate expiry waiting. -/
def ticking (s : State) : State := { s with pending := [.gateExpiry] }

theorem witness_EveryStepKeeps (s : State) : ∃ t, step (ticking s) = .next t :=
  ⟨after .gateExpiry { s with pending := [] }, by
    simp only [step, ticking, after, exec, execGateExpiry]; cases s.pinHeld <;> rfl⟩

theorem witness_EveryStepKeepsThePortsSound :
    (ticking (lineAt .warned 100)).station.Sound ∧ (ticking (lineAt .warned 100)).line.Sound :=
  ⟨⟨by decide +kernel, show 0 < 96 by decide, by decide +kernel, by decide +kernel⟩,
    ⟨by decide +kernel, show 96 ≤ 100 ∧ 100 < 128 by decide, by decide +kernel, by decide +kernel⟩⟩

theorem witness_EveryStepKeepsTheStopChainSound : (ticking stopped).ChainSound := by
  refine ⟨by decide +kernel, by decide +kernel, ?_, by decide +kernel⟩
  intro c
  cases c <;> decide +kernel

theorem witness_EveryStepKeepsTheRopeSound : (ticking (roped 0)).RopeSound := by
  unfold State.RopeSound
  decide +kernel

theorem witness_EveryStepKeepsTheListsSound : (ticking station).ListsSound := by
  unfold State.ListsSound CabinEntry.Sound
  decide +kernel

theorem witness_EveryStepKeepsTheTelephonySound : (ticking losing).tel.Sound := witness_LineLoss_telephony_sound

theorem witness_EveryStepKeepsTheDoorsSound :
    (ticking (door 2 (fun _ => { moving .closing (act .closeDoor .closeDoor) 2 with ownOn := true }) rest)).DoorsSound := by
  unfold State.DoorsSound Doors.SoundChannel
  decide +kernel

end Sys2Proof.Tests
end

/-! The cabin table requests that remove entries: CABIN-PURGE (R79) and CABIN-FLUSH-LEARNED (R80). -/

namespace Sys2Proof.Machine

/-! ## A console request while the part runs -/

/-- The reset pin and the rights stand aside: what is left is the request's own rule, settled (R185 steps 2 and 4). -/
theorem State.live_request_console {s : State} {rq : Requester} (hpin : s.pinHeld = false) (hcon : s.isConsole rq = true)
    (code : RequestCode) (tag : Byte) (own : State → Reply) :
    s.live (fun s => s.request rq code tag own) = .next (State.settleRequest rq code tag (own s)) := by
  rw [State.live_run hpin, State.request_taken (State.mayRequest_console hcon code)]

theorem exec_cabinPurge_console {s : State} {rq : Requester} (hpin : s.pinHeld = false) (hcon : s.isConsole rq = true)
    (tag : Byte) (id : Nat) :
    exec (.cabinPurge rq tag id) s = .next (State.settleRequest rq .cabinPurge tag (s.doCabinPurge id)) :=
  State.live_request_console hpin hcon .cabinPurge tag fun s => s.doCabinPurge id

theorem exec_cabinFlushLearned_console {s : State} {rq : Requester} (hpin : s.pinHeld = false)
    (hcon : s.isConsole rq = true) (tag : Byte) :
    exec (.cabinFlushLearned rq tag) s = .next (State.settleRequest rq .cabinFlushLearned tag s.doFlushLearned) :=
  State.live_request_console hpin hcon .cabinFlushLearned tag State.doFlushLearned

/-! ## The entries of the cabin table -/

theorem cabinInRange_iff {id : Nat} : cabinInRange id = true ↔ 1 ≤ id ∧ id ≤ 4095 := by
  simp [cabinInRange]

theorem cabinInRange_false_iff {id : Nat} : cabinInRange id = false ↔ id = 0 ∨ 4095 < id := by
  rw [← Bool.not_eq_true, cabinInRange_iff]
  omega

theorem Tracker.entry_eq_none_iff {u : Tracker} {id : Nat} : u.entry id = none ↔ ∀ e ∈ u.cabins, e.id ≠ id := by
  simp [Tracker.entry]

/-- The tracker without the entry of an ID. -/
def Tracker.dropEntry (u : Tracker) (id : Nat) : Tracker :=
  { u with cabins := u.cabins.filter fun e => decide (e.id ≠ id) }

@[simp] theorem Tracker.entry_dropEntry (u : Tracker) (id : Nat) : (u.dropEntry id).entry id = none := by
  rw [Tracker.entry_eq_none_iff]
  intro e he
  exact of_decide_eq_true (List.mem_filter.mp he).2

/-- An entry ages, and is flushed, exactly when it is LEARNED with location NONE (R77, R80). -/
theorem CabinEntry.ages_eq_decide (e : CabinEntry) : e.ages = decide (e.kind = .learned ∧ e.location = .nowhere) :=
  (Bool.decide_and _ _).symm

/-! ## CABIN-PURGE case by case (R79) -/

theorem State.doCabinPurge_of_outOfRange {s : State} {id : Nat} (hid : id = 0 ∨ 4095 < id) :
    s.doCabinPurge id = s.refuse .badValue := by
  rw [State.doCabinPurge, if_pos (cabinInRange_false_iff.mpr hid)]

theorem State.doCabinPurge_of_noEntry {s : State} {id : Nat} (hid : cabinInRange id = true)
    (he : s.tracker.entry id = none) : s.doCabinPurge id = s.refuse .notFound := by
  simp [State.doCabinPurge, hid, he]

theorem State.doCabinPurge_of_inUse {s : State} {id : Nat} {e : CabinEntry} (hid : cabinInRange id = true)
    (he : s.tracker.entry id = some e) (hl : e.location ≠ .nowhere) : s.doCabinPurge id = s.refuse .inUse := by
  simp [State.doCabinPurge, hid, he, hl]

theorem State.doCabinPurge_of_nowhere {s : State} {id : Nat} {e : CabinEntry} (hid : cabinInRange id = true)
    (he : s.tracker.entry id = some e) (hl : e.location = .nowhere) :
    s.doCabinPurge id = (s.modTracker fun u => u.dropEntry id).done := by
  simp [State.doCabinPurge, hid, he, hl, Tracker.dropEntry]

/-! ## The statements -/

/-- Settles O49: the request reaches its own rule, which decides on the ID's range, its entry and the entry's location. -/
theorem cabinPurge : Obligations.CabinPurge := by
  intro s rq tag id hpin hcon
  have hexec := exec_cabinPurge_console hpin hcon tag id
  refine ⟨fun hid => ?outOfRange, fun hlow hhigh => ?inRange⟩
  case outOfRange => rw [hexec, State.doCabinPurge_of_outOfRange hid]; rfl
  case inRange =>
    have hid : cabinInRange id = true := cabinInRange_iff.mpr ⟨hlow, hhigh⟩
    refine ⟨fun habsent => ?noEntry, fun e he hl => ?inUse, fun e he hl => ?nowhere⟩
    case noEntry => rw [hexec, State.doCabinPurge_of_noEntry hid (Tracker.entry_eq_none_iff.mpr habsent)]; rfl
    case inUse => rw [hexec, State.doCabinPurge_of_inUse hid he hl]; rfl
    case nowhere =>
      refine ⟨s.modTracker fun u => u.dropEntry id, ?_, s.tracker.entry_dropEntry id, rfl⟩
      rw [hexec, State.doCabinPurge_of_nowhere hid he hl]; rfl

/-- Settles O50: the entries the model's rule filters out and counts are those that age. -/
theorem cabinFlushLearned : Obligations.CabinFlushLearned := by
  intro s rq tag hpin hcon
  have hages : CabinEntry.ages = fun e => decide (e.kind = .learned ∧ e.location = .nowhere) :=
    funext CabinEntry.ages_eq_decide
  rw [exec_cabinFlushLearned_console hpin hcon, State.doFlushLearned, hages]
  rfl

end Sys2Proof.Machine

/-! The request that reads the stop chain's causes: CAUSES-READ (R182). -/

namespace Sys2Proof.Machine

/-! ## A request of the console or the summit while the part runs -/

/-- The console has the right to every request, the summit to those that `summitMay` names (R185 step 2). -/
theorem State.mayRequest_console_or_summit {s : State} {rq : Requester} {code : RequestCode}
    (hrq : s.isConsole rq = true ∨ (rq.port = .line ∧ rq.src = 63)) (hcode : summitMay code = true) :
    s.mayRequest rq code = true := by
  obtain hcon | ⟨hport, hsrc⟩ := hrq
  · exact State.mayRequest_console hcon code
  · exact State.mayRequest_summit hport hsrc hcode

theorem exec_causesRead_console_or_summit {s : State} {rq : Requester} (hpin : s.pinHeld = false)
    (hrq : s.isConsole rq = true ∨ (rq.port = .line ∧ rq.src = 63)) (tag : Byte) (position : Nat) :
    exec (.causesRead rq tag position) s =
      .next (State.settleRequest rq .causesRead tag (s.doCausesRead position)) := by
  change s.live (fun s => s.onCausesRead rq tag position) = _
  rw [State.live_run hpin, State.onCausesRead, State.request_taken (State.mayRequest_console_or_summit hrq rfl)]

/-! ## The answer at a position -/

theorem State.doCausesRead_of_outOfRange {s : State} {position : Nat} (hpos : 39 ≤ position) :
    s.doCausesRead position = s.refuse .badValue :=
  if_pos hpos

theorem State.doCausesRead_of_pastEnd {s : State} {position : Nat} (hpos : position < 39)
    (hend : s.chain.causes.length ≤ position) : s.doCausesRead position = s.refuse .endOfTable := by
  rw [State.doCausesRead, if_neg (Nat.not_le.mpr hpos), if_pos hend]

theorem State.doCausesRead_of_inSet {s : State} {position : Nat} (hpos : position < 39)
    (hset : position < s.chain.causes.length) :
    s.doCausesRead position =
      (s, .done, .causes s.chain.asserted s.demanded s.chain.causes.length ((s.chain.causes.drop position).take 6)) := by
  rw [State.doCausesRead, if_neg (Nat.not_le.mpr hpos), if_neg (Nat.not_le.mpr hset)]

/-! ## The statement -/

/-- Settles O44: both requesters have the right to the request, so that its own rule decides, on the position and
the number of records. -/
theorem causesRead : Obligations.CausesRead := by
  intro s rq tag position hpin hrq
  rw [exec_causesRead_console_or_summit hpin hrq]
  refine ⟨fun hpos => ?outOfRange, fun hpos hend => ?pastEnd, fun hpos hset => ?inSet⟩
  case outOfRange => rw [State.doCausesRead_of_outOfRange hpos]; rfl
  case pastEnd => rw [State.doCausesRead_of_pastEnd hpos hend]; rfl
  case inSet => rw [State.doCausesRead_of_inSet hpos hset]; rfl

end Sys2Proof.Machine

namespace Sys2Proof.Machine

/-! ## A port through offers and picks -/

/-- Queues within their capacities, and empty where the port state takes no frame (section 2.4, R14 to R16). -/
def PortUnit.QueuesSound (u : PortUnit) : Prop :=
  (∀ c : Fin 4, (u.queues[c]).length ≤ Config.queueCapacity c) ∧
    ∀ c : Fin 4, takesOffer u.mode c = false → u.queues[c] = []

theorem PortUnit.sound_iff {u : PortUnit} :
    u.Sound ↔ u.QueuesSound ∧ errorBand u.mode u.errors ∧ (u.rejoin.isSome = true ↔ u.mode = .detached) := by
  unfold PortUnit.Sound PortUnit.QueuesSound
  exact ⟨fun ⟨a, b, c, d⟩ => ⟨⟨a, c⟩, b, d⟩, fun ⟨⟨a, c⟩, b, d⟩ => ⟨a, b, c, d⟩⟩

/-- What an offer or a pick leaves of a port: its state, its error count and its rejoin timer, and queues that are
sound. -/
structure PortUnit.Carries (u v : PortUnit) : Prop where
  mode : v.mode = u.mode
  errors : v.errors = u.errors
  rejoin : v.rejoin = u.rejoin
  queues : u.QueuesSound → v.QueuesSound

theorem PortUnit.Carries.refl (u : PortUnit) : u.Carries u := ⟨rfl, rfl, rfl, id⟩

theorem PortUnit.Carries.trans {u v w : PortUnit} (h : u.Carries v) (k : v.Carries w) : u.Carries w :=
  ⟨k.mode.trans h.mode, k.errors.trans h.errors, k.rejoin.trans h.rejoin, k.queues ∘ h.queues⟩

theorem PortUnit.Carries.sound {u v : PortUnit} (h : u.Carries v) (hu : u.Sound) : v.Sound := by
  rw [PortUnit.sound_iff] at hu ⊢
  obtain ⟨hq, hb, hr⟩ := hu
  exact ⟨h.queues hq, by rw [h.mode, h.errors]; exact hb, by rw [h.mode, h.rejoin]; exact hr⟩

/-- A port whose counters, link or pattern position alone have changed. -/
theorem PortUnit.Carries.of_eq {u v : PortUnit} (hm : v.mode = u.mode) (he : v.errors = u.errors)
    (hr : v.rejoin = u.rejoin) (hq : v.queues = u.queues) : u.Carries v :=
  ⟨hm, he, hr, fun h => by unfold PortUnit.QueuesSound at h ⊢; rw [hm, hq]; exact h⟩

theorem PortUnit.QueuesSound.set {u v : PortUnit} (h : u.QueuesSound) {c : Fin 4} {q : List Frame}
    (hm : v.mode = u.mode) (hv : v.queues = u.queues.set c q) (hlen : q.length ≤ Config.queueCapacity c)
    (htakes : takesOffer u.mode c = false → q = []) : v.QueuesSound := by
  have hget : ∀ d : Fin 4, v.queues[d] = if d = c then q else u.queues[d] := by
    intro d
    by_cases e : d = c
    · subst e; simp [hv]
    · have : c.val ≠ d.val := fun e' => e (Fin.ext e'.symm)
      simp [hv, e, this]
  refine ⟨fun d => ?_, fun d hd => ?_⟩
  · rw [hget]; split
    · next e => rw [e]; exact hlen
    · exact h.1 d
  · rw [hm] at hd
    rw [hget]; split
    · next e => exact htakes (e ▸ hd)
    · exact h.2 d hd

theorem PortUnit.picked_carries (u : PortUnit) (c : Fin 4) (t : Fin 7) : u.Carries (u.picked c t) := by
  unfold PortUnit.picked
  split
  · exact .refl u
  · next f rest hq =>
    refine ⟨rfl, rfl, rfl, fun h => h.set rfl rfl ?_ fun htakes => ?_⟩
    · have := h.1 c
      rw [hq, List.length_cons] at this
      omega
    · rw [h.2 c htakes] at hq; cases hq

theorem PortUnit.duePick_carries (u : PortUnit) (m : Scheduler) : u.Carries (u.duePick m) := by
  unfold PortUnit.duePick
  split
  · exact .refl u
  · split
    · exact .refl u
    · exact u.picked_carries _ _

/-- Both ports through offers and picks. -/
def State.Carries (s t : State) : Prop := ∀ p, (s.port p).Carries (t.port p)

theorem State.Carries.refl (s : State) : s.Carries s := fun _ => .refl _

theorem State.Carries.trans {s t w : State} (h : s.Carries t) (k : t.Carries w) : s.Carries w :=
  fun p => (h p).trans (k p)

/-- Operations that leave both ports carry them. -/
theorem State.Carries.of_eq {s t : State} (hs : t.station = s.station) (hl : t.line = s.line) : s.Carries t := by
  rintro (_ | _)
  · show s.station.Carries t.station
    rw [hs]; exact .refl _
  · show s.line.Carries t.line
    rw [hl]; exact .refl _

theorem State.modPort_carries {s : State} {p : Port} {f : PortUnit → PortUnit} (hf : (s.port p).Carries (f (s.port p))) :
    s.Carries (s.modPort p f) := by
  intro q
  by_cases e : q = p
  · subst e; rw [State.modPort_port]; exact hf
  · rw [State.modPort_port_ne _ _ e]; exact .refl _

theorem State.countPort_carries (s : State) (p : Port) (i : Fin 21) : s.Carries (s.countPort p i) :=
  s.modPort_carries (.of_eq rfl rfl rfl rfl)

theorem State.duePick_carries (s : State) (p : Port) : s.Carries (s.duePick p) :=
  s.modPort_carries (PortUnit.duePick_carries _ _)

theorem State.frameDropped_carries (s : State) (f : Frame) : s.Carries (s.frameDropped f) := .of_eq (by simp) (by simp)

/-- A full class 0 queue has made room for one frame. -/
theorem classZeroRoom_length_lt {q : List Frame} (hq : q ≠ []) (f : Frame) : (classZeroRoom q f).length < q.length := by
  have hpos := List.length_pos_iff.mpr hq
  unfold classZeroRoom
  split
  · next h =>
    obtain ⟨g, hg, hk⟩ := List.any_eq_true.mp h
    rw [List.length_eraseP_of_mem hg hk]
    omega
  · rw [List.length_tail]
    omega

theorem queueCapacity_pos (c : Fin 4) : 0 < Config.queueCapacity c := by
  unfold Config.queueCapacity; split <;> decide

theorem State.push_carries (s : State) (p : Port) (c : Fin 4) (f : Frame) : s.Carries (s.push p c f).1 := by
  /- A queue replaced by another of no greater length, in a class the port takes. -/
  have hreplace : ∀ (t : State) (g : List Frame → List Frame), s.port p = t.port p → takesOffer (s.port p).mode c ≠ false →
      (((t.port p).queues[c]).length ≤ Config.queueCapacity c →
        (g (t.port p).queues[c]).length ≤ Config.queueCapacity c) →
      t.Carries (t.modPort p fun u => u.withQueue c (g u.queues[c])) := by
    intro t g ht htakes hlen
    refine t.modPort_carries ⟨rfl, rfl, rfl, fun h => h.set rfl rfl (hlen (h.1 c)) fun hno => ?_⟩
    rw [← ht] at hno
    exact absurd hno htakes
  unfold State.push
  dsimp only
  split
  · exact (s.countPort_carries p _).trans (State.frameDropped_carries _ f)
  · next htakes =>
    have hcount : s.Carries (s.countSwitch (fullDropCounter p c)) := .of_eq (by simp) (by simp)
    split
    · next hroom =>
      simp only [PortUnit.hasRoom, decide_eq_true_eq] at hroom
      exact hreplace s (· ++ [f]) rfl htakes fun _ => by simp only [List.length_append, List.length_singleton]; omega
    · next hfull =>
      simp only [PortUnit.hasRoom, decide_eq_true_eq] at hfull
      have hpos := queueCapacity_pos c
      split
      · have hzero := hreplace (s.countSwitch (fullDropCounter p c)) (fun q => classZeroRoom q f ++ [f]) (by simp) htakes
          fun hle => by
            rw [State.countSwitch_port] at hle ⊢
            have := classZeroRoom_length_lt (q := (s.port p).queues[c]) (by intro e; simp [e] at hfull; omega) f
            simp only [List.length_append, List.length_singleton]
            omega
        split
        · exact (hcount.trans hzero).trans (State.frameDropped_carries _ _)
        · exact hcount.trans hzero
      · split
        · exact hcount.trans (hreplace _ (fun q => q.tail ++ [f]) (by simp) htakes fun hle => by
            simp only [List.length_append, List.length_singleton, List.length_tail]
            omega)
        · exact hcount.trans (State.frameDropped_carries _ f)

theorem State.sendAsk_carries (s : State) : s.Carries s.sendAsk := by
  unfold State.sendAsk
  split
  · exact .refl s
  · exact State.Carries.trans (.of_eq (by simp) (by simp)) (State.push_carries _ _ _ _)

theorem State.dueAsk_carries (s : State) : s.Carries s.dueAsk := by
  unfold State.dueAsk
  dsimp only
  split
  · exact (s.duePick_carries .line).trans (State.sendAsk_carries _)
  · exact s.duePick_carries .line

theorem State.settle_carries (s : State) (p : Port) : s.Carries (s.settle p) := by
  cases p with
  | station => exact s.duePick_carries .station
  | line => exact s.dueAsk_carries.trans (State.duePick_carries _ .line)

theorem State.offerSaying_carries (s : State) (p : Port) (c : Fin 4) (f : Frame) : s.Carries (s.offerSaying p c f).1 :=
  (s.settle_carries p).trans (State.push_carries _ _ _ _)

theorem State.offer_carries (s : State) (p : Port) (c : Fin 4) (f : Frame) : s.Carries (s.offer p c f) :=
  s.offerSaying_carries p c f

theorem State.notice_carries (s : State) (r : NoticeReason) : s.Carries (s.notice r) := by
  unfold State.notice
  split
  · exact State.Carries.trans (.of_eq (by simp) (by simp)) (State.offer_carries _ _ _ _)
  · exact .of_eq (by simp) (by simp)

end Sys2Proof.Machine

namespace Sys2Proof.Machine

/-! ## Sound telephony in the course of a command -/

theorem upd_apply {α : Type} {n : Nat} (v : Vector α n) (i j : Fin n) (f : α → α) :
    (upd v i f)[j] = if j = i then f v[i] else v[j] := by
  split
  · next e => subst e; exact upd_self v j f
  · next e => exact upd_ne v i j f e

/-- Sound telephony but for the records in `out`, which are HELD and have left the stack: a command frees or resumes them
before it ends. -/
structure Telephony.SoundBut (u : Telephony) (out : Fin 4 → Prop) : Prop where
  nodup : u.stack.Nodup
  length : u.stack.length ≤ Config.stackCapacity
  held : ∀ i : Fin 4, (u.records[i]).state = .held ↔ i ∈ u.stack ∨ out i
  apart : ∀ i ∈ u.stack, ¬ out i
  priority : ∀ i ∈ u.stack, (u.records[i]).priority ≠ .emergency
  channel : ∀ i j : Fin 4, ∀ v, (u.records[i]).channel = some v → (u.records[j]).channel = some v → i = j
  jitter : ∀ k : Fin 2, ((u.voices[k]).jitter).length ≤ Config.jitterCapacity

theorem Telephony.sound_iff_soundBut {u : Telephony} : u.Sound ↔ u.SoundBut fun _ => False := by
  constructor
  · rintro ⟨hnodup, hlength, hheld, hprio, hchan, hjit⟩
    exact ⟨hnodup, hlength, by simpa using hheld, by simp, hprio, hchan, hjit⟩
  · rintro ⟨hnodup, hlength, hheld, -, hprio, hchan, hjit⟩
    exact ⟨hnodup, hlength, by simpa using hheld, hprio, hchan, hjit⟩

section
variable {u u' : Telephony} {out out' : Fin 4 → Prop}

theorem Telephony.SoundBut.congr (h : u.SoundBut out) (hout : ∀ j, out j ↔ out' j) : u.SoundBut out' := by
  have : out = out' := funext fun j => propext (hout j)
  exact this ▸ h

/-- What soundness reads of the telephony unit: the call records, the stack and the lengths of the jitter queues. -/
theorem Telephony.SoundBut.of_eq (h : u.SoundBut out) (hr : u'.records = u.records) (hs : u'.stack = u.stack)
    (hj : ∀ k : Fin 2, (u'.voices[k]).jitter.length ≤ Config.jitterCapacity) : u'.SoundBut out := by
  obtain ⟨hnodup, hlength, hheld, hapart, hprio, hchan, -⟩ := h
  refine ⟨?_, ?_, ?_, ?_, ?_, ?_, hj⟩ <;> simpa only [hr, hs]

/-- A record outside the stack and outside `out` is not HELD, and conversely. -/
theorem Telephony.SoundBut.not_held (h : u.SoundBut out) {i : Fin 4} :
    (u.records[i]).state ≠ .held ↔ i ∉ u.stack ∧ ¬ out i := by
  rw [Ne, h.held, not_or]

/-- A record replaced by one that is not HELD, which leaves the stack. -/
theorem Telephony.SoundBut.leave (h : u.SoundBut out) {i : Fin 4} {r : CallRecord}
    (hr : u'.records = upd u.records i fun _ => r) (hs : u'.stack = u.stack.filter (· != i)) (hstate : r.state ≠ .held)
    (hfree : ∀ v, r.channel = some v → ∀ j, j ≠ i → (u.records[j]).channel ≠ some v)
    (hj : ∀ k : Fin 2, (u'.voices[k]).jitter.length ≤ Config.jitterCapacity) :
    u'.SoundBut fun j => out j ∧ j ≠ i := by
  have hmem : ∀ j, j ∈ u'.stack ↔ j ∈ u.stack ∧ j ≠ i := by simp [hs]
  have hget : ∀ j : Fin 4, u'.records[j] = if j = i then r else u.records[j] := fun j => by rw [hr, upd_apply]
  refine ⟨hs ▸ h.nodup.filter _, ?_, fun j => ?_, fun j hjs => ?_, fun j hjs => ?_, fun j k v hjv hkv => ?_, hj⟩
  · exact hs ▸ Nat.le_trans (List.length_filter_le _ _) h.length
  · rw [hget, hmem]
    by_cases e : j = i
    · simp [e, hstate]
    · simpa [e] using h.held j
  · exact fun ho => h.apart j ((hmem j).mp hjs).1 ho.1
  · obtain ⟨hjs, hne⟩ := (hmem j).mp hjs
    rw [hget, if_neg hne]
    exact h.priority j hjs
  · rw [hget] at hjv hkv
    split at hjv <;> split at hkv
    · next ej ek => rw [ej, ek]
    · next ej ek => exact absurd hkv (hfree v hjv k ek)
    · next ej ek => exact absurd hjv (hfree v hkv j ej)
    · exact h.channel j k v hjv hkv

/-- A record that is not on the stack replaced by one that is not HELD. -/
theorem Telephony.SoundBut.replace (h : u.SoundBut out) {i : Fin 4} {r : CallRecord} (hi : i ∉ u.stack)
    (hr : u'.records = upd u.records i fun _ => r) (hs : u'.stack = u.stack) (hstate : r.state ≠ .held)
    (hfree : ∀ v, r.channel = some v → ∀ j, j ≠ i → (u.records[j]).channel ≠ some v)
    (hj : ∀ k : Fin 2, (u'.voices[k]).jitter.length ≤ Config.jitterCapacity) :
    u'.SoundBut fun j => out j ∧ j ≠ i := by
  refine h.leave hr ?_ hstate hfree hj
  rw [hs, List.filter_eq_self.mpr]
  intro j hjs
  have hne : j ≠ i := fun e => hi (e ▸ hjs)
  simpa using hne

/-- A record that is neither HELD before nor after. -/
theorem Telephony.SoundBut.modify (h : u.SoundBut out) {i : Fin 4} {r : CallRecord}
    (hi : (u.records[i]).state ≠ .held) (hr : u'.records = upd u.records i fun _ => r) (hs : u'.stack = u.stack)
    (hstate : r.state ≠ .held) (hfree : ∀ v, r.channel = some v → ∀ j, j ≠ i → (u.records[j]).channel ≠ some v)
    (hj : ∀ k : Fin 2, (u'.voices[k]).jitter.length ≤ Config.jitterCapacity) : u'.SoundBut out := by
  obtain ⟨hstack, hout⟩ := h.not_held.mp hi
  exact (h.replace hstack hr hs hstate hfree hj).congr fun j => ⟨And.left, fun ho => ⟨ho, fun e => hout (e ▸ ho)⟩⟩

/-- A record replaced by one of the same state. -/
theorem Telephony.SoundBut.keepState (h : u.SoundBut out) {i : Fin 4} {r : CallRecord}
    (hr : u'.records = upd u.records i fun _ => r) (hs : u'.stack = u.stack) (hstate : r.state = (u.records[i]).state)
    (hprio : i ∈ u.stack → r.priority ≠ .emergency)
    (hfree : ∀ v, r.channel = some v → ∀ j, j ≠ i → (u.records[j]).channel ≠ some v)
    (hj : ∀ k : Fin 2, (u'.voices[k]).jitter.length ≤ Config.jitterCapacity) : u'.SoundBut out := by
  have hget : ∀ j : Fin 4, u'.records[j] = if j = i then r else u.records[j] := fun j => by rw [hr, upd_apply]
  refine ⟨hs ▸ h.nodup, hs ▸ h.length, fun j => ?_, hs ▸ h.apart, fun j hjs => ?_, fun j k v hjv hkv => ?_, hj⟩
  · rw [hget, hs, ← h.held]
    split
    · next e => rw [hstate, e]
    · rfl
  · rw [hget]; rw [hs] at hjs
    split
    · next e => exact hprio (e ▸ hjs)
    · exact h.priority j hjs
  · rw [hget] at hjv hkv
    split at hjv <;> split at hkv
    · next ej ek => rw [ej, ek]
    · next ej ek => exact absurd hkv (hfree v hjv k ek)
    · next ej ek => exact absurd hjv (hfree v hkv j ej)
    · exact h.channel j k v hjv hkv

/-- A record that is not HELD is put on top of the stack. -/
theorem Telephony.SoundBut.hold (h : u.SoundBut out) {i : Fin 4} {r : CallRecord} (hi : (u.records[i]).state ≠ .held)
    (hr : u'.records = upd u.records i fun _ => r) (hs : u'.stack = i :: u.stack)
    (hroom : u.stack.length < Config.stackCapacity) (hstate : r.state = .held) (hprio : r.priority ≠ .emergency)
    (hfree : r.channel = none) (hj : ∀ k : Fin 2, (u'.voices[k]).jitter.length ≤ Config.jitterCapacity) :
    u'.SoundBut out := by
  obtain ⟨hstack, hout⟩ := h.not_held.mp hi
  have hget : ∀ j : Fin 4, u'.records[j] = if j = i then r else u.records[j] := fun j => by rw [hr, upd_apply]
  refine ⟨?_, ?_, fun j => ?_, fun j hjs => ?_, fun j hjs => ?_, fun j k v hjv hkv => ?_, hj⟩
  · rw [hs]; exact List.nodup_cons.mpr ⟨hstack, h.nodup⟩
  · rw [hs, List.length_cons]; omega
  · rw [hget, hs, List.mem_cons]
    by_cases e : j = i
    · simp [e, hstate]
    · simpa [e] using h.held j
  · rw [hs] at hjs
    obtain rfl | hjs := List.mem_cons.mp hjs
    · exact hout
    · exact h.apart j hjs
  · rw [hs] at hjs
    rw [hget]; split
    · exact hprio
    · next e => exact h.priority j ((List.mem_cons.mp hjs).resolve_left e)
  · rw [hget] at hjv hkv
    split at hjv <;> split at hkv <;> simp_all
    exact h.channel j k v hjv hkv

/-- A HELD record leaves the stack and stays HELD for a while. -/
theorem Telephony.SoundBut.unstack (h : u.SoundBut out) {i : Fin 4} (hi : i ∈ u.stack) (hr : u'.records = u.records)
    (hs : u'.stack = u.stack.filter (· != i))
    (hj : ∀ k : Fin 2, (u'.voices[k]).jitter.length ≤ Config.jitterCapacity) :
    u'.SoundBut fun j => out j ∨ j = i := by
  have hmem : ∀ j, j ∈ u'.stack ↔ j ∈ u.stack ∧ j ≠ i := by simp [hs]
  refine ⟨hs ▸ h.nodup.filter _, ?_, fun j => ?_, fun j hjs => ?_, fun j hjs => ?_, hr ▸ h.channel, hj⟩
  · exact hs ▸ Nat.le_trans (List.length_filter_le _ _) h.length
  · rw [hr, hmem, h.held]
    by_cases e : j = i
    · simp [e, hi]
    · simp [e]
  · obtain ⟨hjs, hne⟩ := (hmem j).mp hjs
    exact not_or.mpr ⟨h.apart j hjs, hne⟩
  · rw [hr]; exact h.priority j ((hmem j).mp hjs).1
end

/-! ## What the operations on call records leave of the records, the stack and the jitter queues -/

@[simp] theorem VoiceUnit.released_jitter (v : VoiceUnit) : v.released.jitter = [] := rfl

@[simp] theorem State.modRecord_records (s : State) (i : Fin 4) (f : CallRecord → CallRecord) :
    (s.modRecord i f).tel.records = upd s.tel.records i f := rfl
@[simp] theorem State.modRecord_stack (s : State) (i : Fin 4) (f : CallRecord → CallRecord) :
    (s.modRecord i f).tel.stack = s.tel.stack := rfl
@[simp] theorem State.modRecord_voices (s : State) (i : Fin 4) (f : CallRecord → CallRecord) :
    (s.modRecord i f).tel.voices = s.tel.voices := rfl
@[simp] theorem State.modVoice_records (s : State) (v : VoiceName) (f : VoiceUnit → VoiceUnit) :
    (s.modVoice v f).tel.records = s.tel.records := rfl
@[simp] theorem State.modVoice_stack (s : State) (v : VoiceName) (f : VoiceUnit → VoiceUnit) :
    (s.modVoice v f).tel.stack = s.tel.stack := rfl
@[simp] theorem State.modVoice_voices (s : State) (v : VoiceName) (f : VoiceUnit → VoiceUnit) :
    (s.modVoice v f).tel.voices = upd s.tel.voices (voiceIndex v) f := rfl

/-- Every jitter queue of the telephony unit is within its capacity. -/
def Telephony.Bounded (u : Telephony) : Prop := ∀ k : Fin 2, (u.voices[k]).jitter.length ≤ Config.jitterCapacity

theorem Telephony.Bounded.upd {u u' : Telephony} (h : u.Bounded) {k : Fin 2} {f : VoiceUnit → VoiceUnit}
    (hv : u'.voices = upd u.voices k f) (hf : (f u.voices[k]).jitter.length ≤ Config.jitterCapacity) : u'.Bounded := by
  intro j
  rw [hv, upd_apply]
  split
  · exact hf
  · exact h j

theorem State.releaseChannel_records (s : State) (i : Fin 4) :
    (s.releaseChannel i).tel.records = upd s.tel.records i fun r => { r with channel := none } := by
  unfold State.releaseChannel
  split
  · simp
  · next h => exact (upd_same (by rw [← h])).symm

@[simp] theorem State.releaseChannel_stack (s : State) (i : Fin 4) : (s.releaseChannel i).tel.stack = s.tel.stack := by
  unfold State.releaseChannel; split <;> simp

theorem State.releaseChannel_bounded {s : State} (h : s.tel.Bounded) (i : Fin 4) : (s.releaseChannel i).tel.Bounded := by
  unfold State.releaseChannel
  split
  · next v _ => exact h.upd (k := voiceIndex v) (f := VoiceUnit.released) rfl (Nat.zero_le _)
  · exact h

@[simp] theorem State.claim_records (s : State) (i : Fin 4) (v : VoiceName) :
    (s.claim i v).tel.records = upd s.tel.records i fun r => { r with channel := some v } := rfl
@[simp] theorem State.claim_stack (s : State) (i : Fin 4) (v : VoiceName) : (s.claim i v).tel.stack = s.tel.stack := rfl

theorem State.claim_bounded {s : State} (h : s.tel.Bounded) (i : Fin 4) (v : VoiceName) : (s.claim i v).tel.Bounded :=
  h.upd (k := voiceIndex v) (f := fun _ => voiceInitial) rfl (Nat.zero_le _)

@[simp] theorem Telephony.quietLines_records (u : Telephony) (r : CallRecord) : (u.quietLines r).records = u.records := by
  unfold Telephony.quietLines; split <;> rfl
@[simp] theorem Telephony.quietLines_stack (u : Telephony) (r : CallRecord) : (u.quietLines r).stack = u.stack := by
  unfold Telephony.quietLines; split <;> rfl
@[simp] theorem Telephony.quietLines_voices (u : Telephony) (r : CallRecord) : (u.quietLines r).voices = u.voices := by
  unfold Telephony.quietLines; split <;> rfl

@[simp] theorem State.connect_records (s : State) (i : Fin 4) :
    (s.connect i).tel.records =
      upd s.tel.records i fun r => { r with state := .connected, timer := none, order := some (s.tel.order + 1) } := by
  simp [State.connect]
@[simp] theorem State.connect_stack (s : State) (i : Fin 4) : (s.connect i).tel.stack = s.tel.stack := by
  simp [State.connect]
@[simp] theorem State.connect_voices (s : State) (i : Fin 4) : (s.connect i).tel.voices = s.tel.voices := by
  simp [State.connect]

@[simp] theorem State.ringIn_records (s : State) (i : Fin 4) :
    (s.ringIn i).tel.records = upd s.tel.records i fun r => { r with state := .ringingIn, timer := some Config.ringTime } :=
  rfl
@[simp] theorem State.ringIn_stack (s : State) (i : Fin 4) : (s.ringIn i).tel.stack = s.tel.stack := rfl
@[simp] theorem State.ringIn_voices (s : State) (i : Fin 4) : (s.ringIn i).tel.voices = s.tel.voices := rfl

theorem State.freeCore_records (s : State) (i : Fin 4) (reason : ClearReason) (quiet : Bool) :
    (s.freeCore i reason quiet).tel.records =
      upd s.tel.records i fun r => { r with channel := none, state := .free, timer := none } := by
  simp [State.freeCore, State.releaseChannel_records]

theorem State.freeCore_stack (s : State) (i : Fin 4) (reason : ClearReason) (quiet : Bool) :
    (s.freeCore i reason quiet).tel.stack = s.tel.stack.filter (· != i) := by
  simp [State.freeCore]

theorem State.freeCore_bounded {s : State} (h : s.tel.Bounded) (i : Fin 4) (reason : ClearReason) (quiet : Bool) :
    (s.freeCore i reason quiet).tel.Bounded := by
  intro k
  simpa [State.freeCore] using State.releaseChannel_bounded h i k

theorem State.setupCall_records (s : State) (i : Fin 4) (r : CallRecord) (v : VoiceName) :
    (s.setupCall i r v).tel.records =
      upd s.tel.records i fun _ =>
        { r with state := .setup, timer := some Config.setupTime, known := true, channel := some v } := by
  simp [State.setupCall]

theorem State.setupCall_stack (s : State) (i : Fin 4) (r : CallRecord) (v : VoiceName) :
    (s.setupCall i r v).tel.stack = s.tel.stack := by
  simp [State.setupCall]

theorem State.setupCall_bounded {s : State} (h : s.tel.Bounded) (i : Fin 4) (r : CallRecord) (v : VoiceName) :
    (s.setupCall i r v).tel.Bounded := by
  have hmod : (s.modRecord i fun _ =>
      { r with state := .setup, timer := some Config.setupTime, known := true, channel := none }).tel.Bounded := h
  intro k
  simpa [State.setupCall] using State.claim_bounded hmod i v k

end Sys2Proof.Machine

namespace Sys2Proof.Machine

/-! ## Preemption's victims (R162) -/

theorem mem_allRecords (i : Fin 4) : i ∈ allRecords := by revert i; decide

theorem Telephony.activeRecord_live {u : Telephony} {l : Fin 2} {i : Fin 4} (h : u.activeRecord l = some i) :
    (u.records[i]).state.live = true := by
  have := List.find?_some h
  simp only [CallRecord.activeOn, Bool.and_eq_true] at this
  exact this.1

theorem CallState.ne_held_of_live {c : CallState} (h : c.live = true) : c ≠ .held := by rintro rfl; cases h

theorem Telephony.freeChannel_free {u : Telephony} {v : VoiceName} (h : u.freeChannel = some v) (j : Fin 4) :
    (u.records[j]).channel ≠ some v := by
  have hfree : u.channelFree v = true := by
    unfold Telephony.freeChannel at h
    split at h
    · next ha => cases h; exact ha
    · split at h
      · next hb => cases h; exact hb
      · cases h
  simpa using List.all_eq_true.mp hfree j (mem_allRecords j)

theorem Telephony.freeRecord_free {u : Telephony} {i : Fin 4} (h : u.freeRecord = some i) :
    (u.records[i]).state = .free := by
  simpa using List.find?_some h

/-- The better of the best channel victim so far and another record (R162). -/
def Telephony.betterVictim (u : Telephony) (best : Option (Fin 4)) (i : Fin 4) : Option (Fin 4) :=
  match best with
  | none => some i
  | some j => if (u.records[i]).victimBefore u.records[j] then some i else some j

theorem Telephony.chooseVictim_eq (u : Telephony) :
    u.chooseVictim = (allRecords.filter fun i => (u.records[i]).channelVictim).foldl u.betterVictim none := rfl

theorem Telephony.betterVictim_cases (u : Telephony) (best : Option (Fin 4)) (i : Fin 4) :
    u.betterVictim best i = some i ∨ u.betterVictim best i = best := by
  unfold Telephony.betterVictim
  split
  · exact .inl rfl
  · split
    · exact .inl rfl
    · exact .inr rfl

theorem Telephony.foldl_betterVictim_mem (u : Telephony) {l : List (Fin 4)} {k : Fin 4} :
    ∀ {best : Option (Fin 4)}, l.foldl u.betterVictim best = some k → best = some k ∨ k ∈ l := by
  induction l with
  | nil => exact .inl
  | cons a l ih =>
    intro best h
    obtain h | h := ih h
    · obtain e | e := u.betterVictim_cases best a <;> rw [e] at h
      · cases h; exact .inr List.mem_cons_self
      · exact .inl h
    · exact .inr (List.mem_cons_of_mem _ h)

theorem Telephony.chooseVictim_victim {u : Telephony} {j : Fin 4} (h : u.chooseVictim = some j) :
    (u.records[j]).channelVictim = true := by
  rw [Telephony.chooseVictim_eq] at h
  obtain h | h := u.foldl_betterVictim_mem h
  · cases h
  · exact (List.mem_filter.mp h).2

theorem CallRecord.of_channelVictim {r : CallRecord} (h : r.channelVictim = true) :
    r.state = .connected ∧ r.priority ≠ .emergency := by
  simp only [CallRecord.channelVictim, Bool.and_eq_true, decide_eq_true_eq] at h
  obtain ⟨⟨hstate, -⟩, hrank⟩ := h
  exact ⟨hstate, fun e => absurd hrank (e ▸ Nat.lt_irrefl _)⟩

/-- The channel an EMERGENCY call gets once the victims in `first` are settled: a free one, else the channel victim's. -/
def Telephony.byChannel (u : Telephony) (first : List (Fin 4)) : Option (List (Fin 4) × VoiceName) :=
  match u.freeChannel with
  | some v => some (first, v)
  | none =>
    match u.chooseVictim with
    | some j => (u.records[j]).channel.map fun v => (first ++ [j], v)
    | none => none

theorem Telephony.preemption_eq (u : Telephony) (self : Option (Fin 4)) (l : Fin 2) :
    u.preemption self l =
      match u.activeRecord l with
      | none => u.byChannel []
      | some j =>
        if self = some j then u.byChannel []
        else if (u.records[j]).priority = .emergency then none
        else
          match (u.records[j]).channel with
          | some v => some ([j], v)
          | none => u.byChannel [j] := rfl

/-- What the victims of an EMERGENCY call and its channel are: live records below EMERGENCY, the call's own only where it is
CONNECTED, among them every holder of the channel. -/
structure Telephony.Preempts (u : Telephony) (call : Option (Fin 4)) (victims : List (Fin 4)) (v : VoiceName) : Prop where
  live : ∀ j ∈ victims, (u.records[j]).state.live = true
  own : ∀ j ∈ victims, call = some j → (u.records[j]).state = .connected
  priority : ∀ j ∈ victims, (u.records[j]).priority ≠ .emergency
  holder : ∀ j, (u.records[j]).channel = some v → j ∈ victims

theorem Telephony.byChannel_preempts {u : Telephony} {out : Fin 4 → Prop} (hu : u.SoundBut out)
    {self : Option (Fin 4)} {first victims : List (Fin 4)} {v : VoiceName} (h : u.byChannel first = some (victims, v))
    (hlive : ∀ j ∈ first, (u.records[j]).state.live = true) (hown : ∀ j ∈ first, self ≠ some j)
    (hprio : ∀ j ∈ first, (u.records[j]).priority ≠ .emergency) : u.Preempts self victims v := by
  unfold Telephony.byChannel at h
  split at h
  · next hv =>
    cases h
    exact ⟨hlive, fun j hj e => absurd e (hown j hj), hprio, fun j hj => absurd hj (Telephony.freeChannel_free hv j)⟩
  · split at h
    · next k hk =>
      obtain ⟨v', hv', e⟩ := Option.map_eq_some_iff.mp h
      cases e
      obtain ⟨hcon, hlow⟩ := CallRecord.of_channelVictim (Telephony.chooseVictim_victim hk)
      refine ⟨fun j hj => ?_, fun j hj e => ?_, fun j hj => ?_, fun j hj => ?_⟩
      · obtain hj | hj := List.mem_append.mp hj
        · exact hlive j hj
        · rw [List.mem_singleton.mp hj, hcon]; rfl
      · obtain hj | hj := List.mem_append.mp hj
        · exact absurd e (hown j hj)
        · rw [List.mem_singleton.mp hj, hcon]
      · obtain hj | hj := List.mem_append.mp hj
        · exact hprio j hj
        · rw [List.mem_singleton.mp hj]; exact hlow
      · rw [hu.channel j k _ hj hv']
        exact List.mem_append_right _ (List.mem_singleton_self k)
    · cases h

theorem Telephony.preemption_preempts {u : Telephony} {out : Fin 4 → Prop} (hu : u.SoundBut out)
    {self : Option (Fin 4)} {l : Fin 2} {victims : List (Fin 4)} {v : VoiceName}
    (h : u.preemption self l = some (victims, v)) : u.Preempts self victims v := by
  rw [Telephony.preemption_eq] at h
  split at h
  · exact Telephony.byChannel_preempts hu h (by simp) (by simp) (by simp)
  · next j hj =>
    have hlive : ∀ k ∈ [j], (u.records[k]).state.live = true := by
      intro k hk; rw [List.mem_singleton.mp hk]; exact Telephony.activeRecord_live hj
    split at h
    · exact Telephony.byChannel_preempts hu h (by simp) (by simp) (by simp)
    · next hself =>
      have hown : ∀ k ∈ [j], self ≠ some k := by
        intro k hk; rw [List.mem_singleton.mp hk]; exact hself
      split at h
      · cases h
      · next hlow =>
        have hprio : ∀ k ∈ [j], (u.records[k]).priority ≠ .emergency := by
          intro k hk; rw [List.mem_singleton.mp hk]; exact hlow
        split at h
        · next v' hv' =>
          cases h
          exact ⟨hlive, fun k hk e => absurd e (hown k hk), hprio,
            fun k hk => List.mem_singleton.mpr (hu.channel k j v hk hv')⟩
        · exact Telephony.byChannel_preempts hu h hlive hown hprio

/-! ## The operations on call records keep the telephony sound -/

section
variable {s : State} {out : Fin 4 → Prop}

theorem Telephony.SoundBut.bounded {u : Telephony} (h : u.SoundBut out) : u.Bounded := h.jitter

theorem State.releaseChannel_soundBut (h : s.tel.SoundBut out) (i : Fin 4) : (s.releaseChannel i).tel.SoundBut out :=
  h.keepState (i := i) (r := { s.tel.records[i] with channel := none })
    (by rw [State.releaseChannel_records]; exact upd_congr rfl) (by simp) rfl (h.priority i) (by simp)
    (State.releaseChannel_bounded h.bounded i)

theorem State.freeCore_soundBut (h : s.tel.SoundBut out) (i : Fin 4) (reason : ClearReason) (quiet : Bool) :
    (s.freeCore i reason quiet).tel.SoundBut fun j => out j ∧ j ≠ i :=
  h.leave (i := i) (r := { s.tel.records[i] with channel := none, state := .free, timer := none })
    (by rw [State.freeCore_records]; exact upd_congr rfl) (State.freeCore_stack s i reason quiet) (by simp) (by simp)
    (State.freeCore_bounded h.bounded i reason quiet)

theorem State.claim_soundBut (h : s.tel.SoundBut out) (i : Fin 4) {v : VoiceName}
    (hfree : ∀ j, j ≠ i → (s.tel.records[j]).channel ≠ some v) : (s.claim i v).tel.SoundBut out :=
  h.keepState (i := i) (r := { s.tel.records[i] with channel := some v }) (by rw [State.claim_records]; exact upd_congr rfl)
    rfl rfl (h.priority i) (by rintro _ ⟨⟩; exact hfree) (State.claim_bounded h.bounded i v)

theorem State.connect_soundBut (h : s.tel.SoundBut out) {i : Fin 4} (hi : i ∉ s.tel.stack) :
    (s.connect i).tel.SoundBut fun j => out j ∧ j ≠ i :=
  h.replace hi (r := { s.tel.records[i] with state := .connected, timer := none, order := some (s.tel.order + 1) })
    (by rw [State.connect_records]; exact upd_congr rfl) (by simp) (by simp)
    (fun v hv j hj hjv => hj (h.channel j i v hjv hv)) (by simpa using h.jitter)

theorem State.ringIn_soundBut (h : s.tel.SoundBut out) {i : Fin 4} (hi : i ∉ s.tel.stack) :
    (s.ringIn i).tel.SoundBut fun j => out j ∧ j ≠ i :=
  h.replace hi (r := { s.tel.records[i] with state := .ringingIn, timer := some Config.ringTime })
    (by rw [State.ringIn_records]; exact upd_congr rfl) rfl (by simp)
    (fun v hv j hj hjv => hj (h.channel j i v hjv hv)) (by simpa using h.jitter)

theorem State.resumeRecord_soundBut (h : s.tel.SoundBut out) {i : Fin 4} {v : VoiceName} (hi : i ∉ s.tel.stack)
    (hfree : ∀ j, j ≠ i → (s.tel.records[j]).channel ≠ some v) :
    (s.resumeRecord i v).tel.SoundBut fun j => out j ∧ j ≠ i := by
  have hclaim : ((s.claim i v).countTel Ctr.resumedCalls).tel.SoundBut out :=
    (State.claim_soundBut h i hfree).of_eq rfl rfl (State.claim_soundBut h i hfree).jitter
  unfold State.resumeRecord
  dsimp only
  split
  · rw [State.sendCall_tel]; exact State.connect_soundBut hclaim hi
  · exact State.ringIn_soundBut hclaim hi

theorem State.resumeHeld_soundBut (k : Nat) : ∀ {s : State}, s.tel.SoundBut out → (s.resumeHeld k).tel.SoundBut out := by
  induction k with
  | zero => exact fun h => h
  | succ k ih =>
    intro s h
    unfold State.resumeHeld
    split
    · next i v hi hv =>
      have hmem : i ∈ s.tel.stack := List.mem_of_find?_eq_some hi
      refine ih ?_
      have hout := h.unstack (u' := { s.tel with stack := s.tel.stack.filter (· != i) }) hmem rfl rfl h.jitter
      refine (State.resumeRecord_soundBut (s := s.modTel fun u => { u with stack := u.stack.filter (· != i) }) hout
        (by simp) fun j _ => Telephony.freeChannel_free hv j).congr fun j => ⟨fun ⟨ho, hne⟩ => ho.resolve_right hne,
          fun ho => ⟨.inl ho, fun e => h.apart i hmem (e ▸ ho)⟩⟩
    · exact h

theorem State.resumption_soundBut (h : s.tel.SoundBut out) : s.resumption.tel.SoundBut out :=
  State.resumeHeld_soundBut _ h

/-! ### Victims -/

/-- What the treatment of a victim leaves: its record, without a channel, and a stack with at most that record more. -/
theorem State.takeVictim_records (s : State) (j : Fin 4) :
    ∃ r : CallRecord, (s.takeVictim j).tel.records = upd s.tel.records j (fun _ => r) ∧ r.channel = none ∧
      r.priority = (s.tel.records[j]).priority := by
  unfold State.takeVictim
  dsimp only
  split
  · refine ⟨{ s.tel.records[j] with channel := none, state := .held, timer := some Config.holdTime }, ?_, rfl, rfl⟩
    simp only [State.sendCall_tel, State.countTel_tel, State.modTel_tel, State.modRecord_records,
      State.releaseChannel_records, upd_upd]
    exact upd_congr rfl
  · exact ⟨{ s.tel.records[j] with channel := none, state := .free, timer := none },
      (State.freeCore_records s j _ _).trans (upd_congr rfl), rfl, rfl⟩

theorem State.takeVictim_stack {s : State} {i j : Fin 4} (hi : i ≠ j) (hs : i ∉ s.tel.stack) :
    i ∉ (s.takeVictim j).tel.stack := by
  unfold State.takeVictim
  dsimp only
  split
  · simp [hi, hs]
  · simp [State.freeCore_stack, hs]

theorem State.takeVictim_soundBut (h : s.tel.SoundBut out) {j : Fin 4} (hj : ¬ out j)
    (hprio : (s.tel.records[j]).priority ≠ .emergency) : (s.takeVictim j).tel.SoundBut out := by
  unfold State.takeVictim
  dsimp only
  split
  · next hcond =>
    obtain ⟨hstate, -, hroom⟩ := hcond
    refine h.hold (i := j) (r := { s.tel.records[j] with channel := none, state := .held, timer := some Config.holdTime })
      (by rw [hstate]; simp) ?_ (by simp) hroom rfl hprio rfl
      (fun k => by simpa using State.releaseChannel_bounded h.bounded j k)
    simp only [State.sendCall_tel, State.countTel_tel, State.modTel_tel, State.modRecord_records,
      State.releaseChannel_records, upd_upd]
    exact upd_congr rfl
  · exact (State.freeCore_soundBut h j .preempted false).congr fun k =>
      ⟨And.left, fun ho => ⟨ho, fun e => hj (e ▸ ho)⟩⟩

/-- After the victims have been treated they hold no channel, and the records of the others are what they were. -/
theorem State.takeVictims_records (l : List (Fin 4)) : ∀ (s : State) (k : Fin 4),
    (k ∈ l → ((l.foldl State.takeVictim s).tel.records[k]).channel = none) ∧
      (k ∉ l → (l.foldl State.takeVictim s).tel.records[k] = s.tel.records[k]) := by
  induction l with
  | nil => exact fun s k => ⟨fun hk => absurd hk (by simp), fun _ => rfl⟩
  | cons a l ih =>
    intro s k
    obtain ⟨r, hr, hnone, -⟩ := s.takeVictim_records a
    obtain ⟨hin, hout⟩ := ih (s.takeVictim a) k
    have hstep : (s.takeVictim a).tel.records[k] = if k = a then r else s.tel.records[k] := by rw [hr, upd_apply]
    refine ⟨fun hk => ?_, fun hk => ?_⟩
    · by_cases hl : k ∈ l
      · exact hin hl
      · have hka : k = a := (List.mem_cons.mp hk).resolve_right hl
        rw [List.foldl_cons, hout hl, hstep, if_pos hka, hnone]
    · obtain ⟨hka, hl⟩ := not_or.mp (fun e => hk (List.mem_cons.mpr e))
      rw [List.foldl_cons, hout hl, hstep, if_neg hka]

theorem State.takeVictims_stack {i : Fin 4} (l : List (Fin 4)) : ∀ {s : State}, i ∉ l → i ∉ s.tel.stack →
    i ∉ (l.foldl State.takeVictim s).tel.stack := by
  induction l with
  | nil => exact fun _ hs => hs
  | cons a l ih =>
    intro s hi hs
    obtain ⟨hia, hil⟩ := not_or.mp (fun e => hi (List.mem_cons.mpr e))
    exact ih hil (State.takeVictim_stack hia hs)

theorem State.takeVictims_soundBut (l : List (Fin 4)) : ∀ {s : State}, s.tel.SoundBut out → (∀ j ∈ l, ¬ out j) →
    (∀ j ∈ l, (s.tel.records[j]).priority ≠ .emergency) → (l.foldl State.takeVictim s).tel.SoundBut out := by
  induction l with
  | nil => exact fun h _ _ => h
  | cons a l ih =>
    intro s h hout hprio
    obtain ⟨r, hr, -, hp⟩ := s.takeVictim_records a
    refine ih (State.takeVictim_soundBut h (hout a List.mem_cons_self) (hprio a List.mem_cons_self))
      (fun j hj => hout j (List.mem_cons_of_mem _ hj)) fun j hj => ?_
    rw [hr, upd_apply]
    split
    · rw [hp]; exact hprio a List.mem_cons_self
    · exact hprio j (List.mem_cons_of_mem _ hj)

/-- The victims of an EMERGENCY call treated: sound telephony, the call's record where it was, its channel free. -/
theorem State.preempted_soundBut (h : s.tel.SoundBut out) {self : Option (Fin 4)} {victims : List (Fin 4)}
    {v : VoiceName} (hp : s.tel.Preempts self victims v) :
    (victims.foldl State.takeVictim s).tel.SoundBut out ∧
      ∀ j : Fin 4, ((victims.foldl State.takeVictim s).tel.records[j]).channel ≠ some v := by
  refine ⟨State.takeVictims_soundBut victims h (fun j hj => ?_) hp.priority, fun j hj => ?_⟩
  · exact (h.not_held.mp (CallState.ne_held_of_live (hp.live j hj))).2
  · obtain ⟨hin, hout⟩ := State.takeVictims_records victims s j
    by_cases hv : j ∈ victims
    · rw [hin hv] at hj; cases hj
    · rw [hout hv] at hj; exact hv (hp.holder j hj)

/-! ### Opening a summit call -/

theorem State.setupCall_soundBut (h : s.tel.SoundBut out) {i : Fin 4} {r : CallRecord} {v : VoiceName}
    (hi : i ∉ s.tel.stack) (hfree : ∀ j, j ≠ i → (s.tel.records[j]).channel ≠ some v) :
    (s.setupCall i r v).tel.SoundBut fun j => out j ∧ j ≠ i :=
  h.replace hi (State.setupCall_records s i r v) (State.setupCall_stack s i r v) (by simp) (by rintro _ ⟨⟩; exact hfree)
    (State.setupCall_bounded h.bounded i r v)

theorem Telephony.SoundBut.drop {u : Telephony} {i : Fin 4} (h : u.SoundBut fun j => out j ∧ j ≠ i) (hi : ¬ out i) :
    u.SoundBut out :=
  h.congr fun _ => ⟨And.left, fun ho => ⟨ho, fun e => hi (e ▸ ho)⟩⟩

/-- A record that is neither HELD nor CONNECTED is opened as a summit call, or the call is refused. -/
theorem State.openSummit_soundBut (h : s.tel.SoundBut out) {i : Fin 4} (r : CallRecord)
    (hheld : (s.tel.records[i]).state ≠ .held) (hcon : (s.tel.records[i]).state ≠ .connected) :
    (s.openSummit i r).1.tel.SoundBut out := by
  obtain ⟨hstack, hout⟩ := h.not_held.mp hheld
  unfold State.openSummit
  split
  · exact h
  · split
    · next v hv => exact (State.setupCall_soundBut h hstack fun j _ => Telephony.freeChannel_free hv j).drop hout
    · split
      · split
        · next victims v hv =>
          have hp := Telephony.preemption_preempts h hv
          obtain ⟨hs, hfree⟩ := State.preempted_soundBut h hp
          have hi : i ∉ victims := fun hi => hcon (hp.own i hi rfl)
          exact State.resumption_soundBut
            ((State.setupCall_soundBut hs (State.takeVictims_stack victims hi hstack) fun j _ => hfree j).drop hout)
        · exact h
      · exact h

/-- A refused summit call has left the state as it was. -/
theorem State.openSummit_refused {s s' : State} {i : Fin 4} {r : CallRecord} {reason : ClearReason}
    (h : s.openSummit i r = (s', some reason)) : s' = s := by
  unfold State.openSummit at h
  split at h
  · cases h; rfl
  · split at h
    · cases h
    · split at h
      · split at h
        · cases h
        · cases h; rfl
      · cases h; rfl

theorem State.stopCallToSummit_soundBut (h : s.tel.SoundBut out) {i : Fin 4}
    (hheld : (s.tel.records[i]).state ≠ .held) (hcon : (s.tel.records[i]).state ≠ .connected) :
    (s.stopCallToSummit i).tel.SoundBut out := by
  unfold State.stopCallToSummit
  dsimp only
  have hopen := State.openSummit_soundBut h
    { s.tel.records[i] with remote := .summit (summitLineOf s.tel.table.operations) } hheld hcon
  split
  · next t ht => rw [ht] at hopen; exact hopen
  · next t reason ht =>
    rw [State.openSummit_refused ht]
    have hmod : (s.modRecord i fun _ =>
        { s.tel.records[i] with remote := .summit (summitLineOf s.tel.table.operations) }).tel.SoundBut out :=
      h.keepState (i := i) rfl rfl rfl (h.priority i) (fun v hv j hj hjv => hj (h.channel j i v hjv hv)) h.jitter
    exact State.resumption_soundBut ((State.freeCore_soundBut hmod i reason true).drop (h.not_held.mp hheld).2)

theorem State.stopCallTrigger_soundBut (h : s.tel.SoundBut out) : s.stopCallTrigger.tel.SoundBut out := by
  unfold State.stopCallTrigger
  split
  · next i _ hi =>
    have hopen : ((s.modRecord i fun _ => stopCallRecord i).countTel Ctr.stopCall).tel.SoundBut out :=
      h.modify (i := i) (r := stopCallRecord i) (by rw [Telephony.freeRecord_free hi]; simp) rfl rfl (by simp [stopCallRecord])
        (by simp [stopCallRecord, newCall]) h.jitter
    have hringing : (((s.modRecord i fun _ => stopCallRecord i).countTel Ctr.stopCall).tel.records[i]).state =
        .ringingIn := by
      show ((upd s.tel.records i fun _ => stopCallRecord i)[i]).state = _
      rw [upd_self]; rfl
    dsimp only
    split
    · exact State.stopCallToSummit_soundBut hopen (by rw [hringing]; simp) (by rw [hringing]; simp)
    · exact hopen
  · exact h.of_eq rfl rfl h.jitter

end
end Sys2Proof.Machine

namespace Sys2Proof.Machine

/-! ## One sound door channel -/

/-- What a sound door channel is but for its supply: `em` says whether the asserted category is EMERGENCY (R132). -/
structure Channel.Fits (em : Prop) (c : Channel) : Prop where
  action : c.action.isSome = c.state.moving
  fault : c.fault.isSome = true ↔ c.state = .fault
  drive : c.localDrive.isSome = true → c.mode = .local_ ∧ c.state = .ready
  halted : em → c.state.halts = false

/-- A channel in none of the states the halt takes has no drive output. -/
theorem Channel.drives_of_not_halts {c : Channel} (h : c.state.halts = false) :
    c.driveOpen = false ∧ c.driveClose = false := by
  unfold Channel.driveOpen Channel.driveClose
  cases hs : c.state <;> simp_all [ChannelState.halts]

theorem State.doorsSound_iff {s : State} : s.DoorsSound ↔ ∀ k, (s.channel k).Fits (s.chain.asserted = .emergency) ∧
    ((s.channel k).state.powered = true → s.doors.supplied (s.channel k) = true) := by
  refine forall_congr' fun k => ⟨?_, ?_⟩
  · rintro ⟨⟨haction, hsupply, hfault, hdrive⟩, hem⟩
    exact ⟨⟨haction, hfault, hdrive, fun e => (hem e).1⟩, hsupply⟩
  · rintro ⟨⟨haction, hfault, hdrive, hem⟩, hsupply⟩
    exact ⟨⟨haction, hsupply, hfault, hdrive⟩, fun e => ⟨hem e, Channel.drives_of_not_halts (hem e)⟩⟩

theorem Channel.Fits.anyway {em em' : Prop} {c : Channel} (h : c.Fits em) (hem : em' → em) : c.Fits em' :=
  ⟨h.action, h.fault, h.drive, fun e => h.halted (hem e)⟩

theorem ChannelState.halts_of_moving {st : ChannelState} (h : st.moving = true) : st.halts = true := by
  cases st <;> simp_all [ChannelState.moving, ChannelState.halts]

theorem ChannelState.powered_of_moving {st : ChannelState} (h : st.moving = true) : st.powered = true := by
  cases st <;> simp_all [ChannelState.moving, ChannelState.powered]

theorem ChannelState.ne_ready_of_moving {st : ChannelState} (h : st.moving = true) : st ≠ .ready := by
  rintro rfl; cases h

theorem ChannelState.ne_fault_of_powered {st : ChannelState} (h : st.powered = true) : st ≠ .fault := by
  rintro rfl; cases h

theorem Channel.Fits.no_drive {em : Prop} {c : Channel} (h : c.Fits em) (hs : c.state ≠ .ready) : c.localDrive = none := by
  cases hd : c.localDrive
  · rfl
  · exact absurd (h.drive (by simp [hd])).2 hs

theorem Channel.Fits.no_drive_of_mode {em : Prop} {c : Channel} (h : c.Fits em) (hm : c.mode ≠ .local_) :
    c.localDrive = none := by
  cases hd : c.localDrive
  · rfl
  · exact absurd (h.drive (by simp [hd])).1 hm

/-- A channel may stand where another stood: same supply, no power that was not there, and it fits where the other fits. -/
structure Channel.Follows (em : Prop) (c d : Channel) : Prop where
  switching : d.entry.switching = c.entry.switching
  own : d.ownOn = c.ownOn
  powered : d.state.powered = true → c.state.powered = true
  fits : c.Fits em → d.Fits em

section
variable {em : Prop} {c d : Channel}

theorem Channel.Follows.refl (c : Channel) : c.Follows em c := ⟨rfl, rfl, id, id⟩

theorem Channel.Follows.trans {e : Channel} (h : c.Follows em d) (k : d.Follows em e) : c.Follows em e :=
  ⟨k.switching.trans h.switching, k.own.trans h.own, h.powered ∘ k.powered, k.fits ∘ h.fits⟩

/-- A change of what soundness does not read: the served cabin, the change set, the inputs, timers, flags. -/
theorem Channel.Follows.of_eq (hsw : d.entry.switching = c.entry.switching) (hown : d.ownOn = c.ownOn)
    (hst : d.state = c.state) (hmode : d.mode = c.mode) (hact : d.action.isSome = c.action.isSome)
    (hfault : d.fault = c.fault) (hdrive : d.localDrive = c.localDrive) : c.Follows em d :=
  ⟨hsw, hown, hst ▸ id, fun ⟨a, b, e, f⟩ =>
    ⟨by rw [hact, hst, a], by rw [hfault, hst]; exact b, by rw [hdrive, hmode, hst]; exact e, by rw [hst]; exact f⟩⟩

/-- A new state for a powered channel without a local drive that may stand at EMERGENCY if the new state may. -/
theorem Channel.Follows.move (hsw : d.entry.switching = c.entry.switching) (hown : d.ownOn = c.ownOn)
    (hpow : c.state.powered = true) (hact : d.action.isSome = d.state.moving) (hfault : d.fault = c.fault)
    (hst : d.state ≠ .fault) (hdrive : c.Fits em → d.localDrive = none) (hhalt : c.state.halts = true ∨ d.state.halts = false) :
    c.Follows em d := by
  refine ⟨hsw, hown, fun _ => hpow, fun h => ⟨hact, ?_, ?_, fun e => ?_⟩⟩
  · rw [hfault, h.fault]
    exact ⟨fun e => absurd e (ChannelState.ne_fault_of_powered hpow), fun e => absurd e hst⟩
  · rw [hdrive h]; simp
  · obtain hc | hd := hhalt
    · rw [h.halted e] at hc; cases hc
    · exact hd

theorem Channel.follows_endAction (h : c.state.moving = true) : c.Follows em c.endAction :=
  .move rfl rfl (ChannelState.powered_of_moving h) rfl rfl (by simp [Channel.endAction, Channel.enter])
    (fun hf => hf.no_drive (ChannelState.ne_ready_of_moving h)) (.inl (ChannelState.halts_of_moving h))

theorem Channel.follows_stopLocal (c : Channel) : c.Follows em c.stopLocal :=
  ⟨rfl, rfl, id, fun ⟨a, b, _, f⟩ => ⟨a, b, by simp [Channel.stopLocal], f⟩⟩

theorem Channel.follows_stopDirection (c : Channel) (d : DriveDir) : c.Follows em (c.stopDirection d) := by
  unfold Channel.stopDirection
  split
  · exact c.follows_stopLocal
  · exact .refl c

theorem Channel.follows_noteSensor (c : Channel) : c.Follows em c.noteSensor := .of_eq rfl rfl rfl rfl rfl rfl rfl

theorem Channel.follows_noteGate (c : Channel) (b : Bool) : c.Follows em (c.noteGate b) := by
  unfold Channel.noteGate
  split
  · exact .of_eq rfl rfl rfl rfl rfl rfl rfl
  · exact .refl c

theorem Channel.follows_startLocal (h : c.readsLocal = true) (d : DriveDir) : c.Follows em (c.startLocal d) := by
  simp only [Channel.readsLocal, Bool.and_eq_true, decide_eq_true_eq] at h
  exact ⟨rfl, rfl, id, fun ⟨a, b, _, f⟩ => ⟨a, b, fun _ => h, f⟩⟩

theorem Channel.follows_closeDrive {a : Action} (hst : c.state.halts = true) (hact : c.action.isSome = true)
    (hdrive : c.Fits em → c.localDrive = none) : c.Follows em (c.closeDrive a) := by
  refine .move rfl rfl ?_ hact rfl (by simp [Channel.closeDrive, Channel.enter]) hdrive (.inl hst)
  cases hs : c.state <;> simp_all [ChannelState.halts, ChannelState.powered]

theorem Channel.follows_closeAgain (hst : c.state.moving = true) : c.Follows em c.closeAgain := by
  unfold Channel.closeAgain
  split
  · next a ha =>
    exact Channel.follows_closeDrive (ChannelState.halts_of_moving hst) (by simp [ha]) fun h =>
      h.no_drive (ChannelState.ne_ready_of_moving hst)
  · exact .refl c

theorem Channel.follows_reverse (hst : c.state = .closing) {a : Action} (hact : c.action = some a) (left : Nat) :
    c.Follows em (c.reverse a left) :=
  .move rfl rfl (by rw [hst]; rfl) (by simp [Channel.reverse, Channel.enter, hact, ChannelState.moving]) rfl
    (by simp [Channel.reverse, Channel.enter]) (fun h => h.no_drive (by simp [hst])) (.inl (by rw [hst]; rfl))

/-- CLOSE_GATE starts, or clears the flag, on a READY channel that is not in LOCAL. -/
theorem Channel.follows_closeGate (hst : c.state = .ready) (hdrive : c.Fits em → c.localDrive = none) :
    c.Follows em c.closeGate := by
  unfold Channel.closeGate
  split
  · exact .move rfl rfl (by rw [hst]; rfl) rfl rfl (by simp [Channel.enter]) hdrive (.inl (by rw [hst]; rfl))
  · exact .move rfl rfl (by rw [hst]; rfl) rfl rfl (by simp [Channel.closeDrive, Channel.enter]) hdrive
      (.inl (by rw [hst]; rfl))

/-- A mode other than LOCAL, the local drive stopped. -/
theorem Channel.follows_setMode_stopLocal (c : Channel) (m : ChannelMode) : c.Follows em (c.setMode m).stopLocal :=
  ⟨rfl, rfl, id, fun ⟨a, b, _, f⟩ => ⟨a, b, by simp [Channel.stopLocal], f⟩⟩

/-- A new mode where no local drive runs. -/
theorem Channel.follows_setMode (hm : c.mode ≠ .local_) (m : ChannelMode) : c.Follows em (c.setMode m) :=
  ⟨rfl, rfl, id, fun h => ⟨h.action, h.fault, fun hd => absurd (h.drive hd).1 hm, h.halted⟩⟩

/-- The release from EMERGENCY leaves a channel that fits below it. -/
theorem Channel.fits_release (h : c.Fits em) : c.release.Fits False := by
  unfold Channel.release
  split
  · next hst =>
    have hno : c.localDrive = none := h.no_drive (by simp [hst])
    have hfault : c.fault.isSome = true ↔ False := by rw [h.fault, hst]; simp
    have hready : ({ c.enter .ready with served := none } : Channel).Fits False :=
      ⟨by simpa [hst, ChannelState.moving, Channel.enter] using h.action,
        by simpa [Channel.enter] using hfault, by simp [Channel.enter, hno], False.elim⟩
    dsimp only
    split
    · exact (Channel.follows_closeGate (c := { c.enter .ready with served := none }) rfl fun _ => hno).fits hready
    · exact hready
  · exact h.anyway False.elim

theorem Channel.release_powered (c : Channel) : c.release.state.powered = true → c.state.powered = true := by
  unfold Channel.release
  split
  · next hst => rw [hst]; exact fun _ => rfl
  · exact id

theorem Channel.release_entry (c : Channel) : c.release.entry = c.entry ∧ c.release.ownOn = c.ownOn := by
  unfold Channel.release Channel.closeGate Channel.closeDrive Channel.enter
  dsimp only
  split
  · split
    · split <;> exact ⟨rfl, rfl⟩
    · exact ⟨rfl, rfl⟩
  · exact ⟨rfl, rfl⟩

/-- A channel once the halt has passed it. -/
def Channel.halt (c : Channel) : Channel :=
  if c.state.halts then { c.stopDrives.enter .halted with action := none } else c

theorem Channel.fits_halt (h : c.Fits em) (em' : Prop) : c.halt.Fits em' := by
  unfold Channel.halt
  split
  · next hst =>
    refine ⟨rfl, ?_, by simp [Channel.enter, Channel.stopDrives, Channel.stopLocal], fun _ => rfl⟩
    have hne : c.state ≠ .fault := by intro e; rw [e] at hst; cases hst
    have hfault : c.fault.isSome = true ↔ False := by rw [h.fault]; simp [hne]
    simpa [Channel.enter, Channel.stopDrives, Channel.stopLocal] using hfault
  · next hst => exact ⟨h.action, h.fault, h.drive, fun _ => by simpa using hst⟩

theorem Channel.fits_served (h : c.Fits em) (v : Option Served) : { c with served := v }.Fits em :=
  ⟨h.action, h.fault, h.drive, h.halted⟩

theorem Channel.halt_powered (c : Channel) : c.halt.state.powered = true → c.state.powered = true := by
  unfold Channel.halt
  split
  · next hst => intro _; cases hs : c.state <;> simp_all [ChannelState.halts, ChannelState.powered]
  · exact id

theorem Channel.halt_entry (c : Channel) : c.halt.entry = c.entry ∧ c.halt.ownOn = c.ownOn := by
  unfold Channel.halt; split <;> exact ⟨rfl, rfl⟩

end

/-! ## One door channel of the state -/

@[simp] theorem State.modChannel_channel (s : State) (k : Fin 8) (f : Channel → Channel) :
    (s.modChannel k f).channel k = f (s.channel k) := upd_self _ _ _

theorem State.modChannel_channel_ne (s : State) {k j : Fin 8} (f : Channel → Channel) (h : j ≠ k) :
    (s.modChannel k f).channel j = s.channel j := upd_ne _ _ _ _ h

@[simp] theorem State.modChannel_groupOn (s : State) (k : Fin 8) (f : Channel → Channel) :
    (s.modChannel k f).doors.groupOn = s.doors.groupOn := rfl

/-- Operations that leave the door channels leave each of them. -/
theorem State.channel_congr {s t : State} (h : t.doors.channels = s.doors.channels) (k : Fin 8) :
    t.channel k = s.channel k := by
  unfold State.channel; rw [h]

theorem State.channelWrite_channel (s : State) (k : Fin 8) (d : DoorState) :
    ∃ v, (s.channelWrite k d).channel k = { s.channel k with served := v } := by
  unfold State.channelWrite
  split
  · exact ⟨(s.channel k).served, rfl⟩
  · split
    · rw [State.modChannel_channel, State.channel_congr (congrArg Doors.channels (State.doorWrite_doors s _ d))]
      exact ⟨_, rfl⟩
    · exact ⟨(s.channel k).served, rfl⟩

theorem State.channelWrite_channel_ne (s : State) {k j : Fin 8} (d : DoorState) (h : j ≠ k) :
    (s.channelWrite k d).channel j = s.channel j := by
  unfold State.channelWrite
  split
  · rfl
  · split
    · rw [State.modChannel_channel_ne _ _ h, State.channel_congr (congrArg Doors.channels (State.doorWrite_doors s _ d))]
    · rfl

@[simp] theorem State.channelWrite_groupOn (s : State) (k : Fin 8) (d : DoorState) :
    (s.channelWrite k d).doors.groupOn = s.doors.groupOn := by
  unfold State.channelWrite
  split
  · rfl
  · split
    · rw [State.modChannel_groupOn, State.doorWrite_doors]
    · rfl

theorem Doors.supplied_congr {u v : Doors} {c d : Channel} (hg : v.groupOn = u.groupOn)
    (hsw : d.entry.switching = c.entry.switching) (hown : d.ownOn = c.ownOn) : v.supplied d = u.supplied c := by
  unfold Doors.supplied
  rw [hsw, hown, hg]

theorem State.haltChannel_channel (s : State) (k : Fin 8) :
    ∃ v, (s.haltChannel k).channel k = { (s.channel k).halt with served := v } := by
  unfold State.haltChannel Channel.halt
  dsimp only
  split
  · rw [State.modChannel_channel]
    split
    · obtain ⟨v, hv⟩ := (s.countDoors (Ctr.halt k)).channelWrite_channel k .unknown
      exact ⟨v, by rw [hv]; rfl⟩
    · exact ⟨(s.channel k).served, rfl⟩
  · exact ⟨(s.channel k).served, rfl⟩

theorem State.haltChannel_channel_ne (s : State) {k j : Fin 8} (h : j ≠ k) :
    (s.haltChannel k).channel j = s.channel j := by
  unfold State.haltChannel
  dsimp only
  split
  · rw [State.modChannel_channel_ne _ _ h]
    split
    · exact State.channelWrite_channel_ne _ _ h
    · rfl
  · rfl

@[simp] theorem State.haltChannel_groupOn (s : State) (k : Fin 8) :
    (s.haltChannel k).doors.groupOn = s.doors.groupOn := by
  unfold State.haltChannel
  dsimp only
  split
  · split <;> simp
  · rfl

theorem mem_allChannels (k : Fin 8) : k ∈ allChannels := by revert k; decide

theorem allChannels_nodup : allChannels.Nodup := by decide

/-- The halt passes each channel of a list once. -/
theorem State.haltChannels_channel (l : List (Fin 8)) : l.Nodup → ∀ (s : State),
    (l.foldl State.haltChannel s).doors.groupOn = s.doors.groupOn ∧
      ∀ k, (k ∈ l → ∃ v, (l.foldl State.haltChannel s).channel k = { (s.channel k).halt with served := v }) ∧
        (k ∉ l → (l.foldl State.haltChannel s).channel k = s.channel k) := by
  induction l with
  | nil => exact fun _ s => ⟨rfl, fun k => ⟨fun hk => absurd hk (by simp), fun _ => rfl⟩⟩
  | cons a l ih =>
    intro hnodup s
    obtain ⟨ha, hl⟩ := List.nodup_cons.mp hnodup
    obtain ⟨hgroup, hchan⟩ := ih hl (s.haltChannel a)
    refine ⟨hgroup.trans (s.haltChannel_groupOn a), fun k => ⟨fun hk => ?_, fun hk => ?_⟩⟩
    · by_cases hka : k = a
      · subst hka
        rw [List.foldl_cons, (hchan k).2 ha]
        exact s.haltChannel_channel k
      · obtain ⟨v, hv⟩ := (hchan k).1 ((List.mem_cons.mp hk).resolve_left hka)
        exact ⟨v, by rw [List.foldl_cons, hv, State.haltChannel_channel_ne _ hka]⟩
    · obtain ⟨hka, hkl⟩ := not_or.mp (fun e => hk (List.mem_cons.mpr e))
      rw [List.foldl_cons, (hchan k).2 hkl, State.haltChannel_channel_ne _ hka]

theorem State.haltAll_channel (s : State) (k : Fin 8) :
    ∃ v, s.haltAll.channel k = { (s.channel k).halt with served := v } := by
  unfold State.haltAll
  exact ((State.haltChannels_channel allChannels allChannels_nodup s).2 k).1 (mem_allChannels k)

@[simp] theorem State.haltAll_groupOn (s : State) : s.haltAll.doors.groupOn = s.doors.groupOn := by
  unfold State.haltAll
  exact (State.haltChannels_channel allChannels allChannels_nodup s).1

@[simp] theorem vecMap_get {α : Type} {n : Nat} (f : α → α) (v : Vector α n) (i : Fin n) : (vecMap f v)[i] = f v[i] := by
  simp [vecMap]

@[simp] theorem State.releaseAll_channel (s : State) (k : Fin 8) : s.releaseAll.channel k = (s.channel k).release :=
  vecMap_get _ _ _

/-! ## Sound doors through changes of A -/

/-- A channel replaced by one that may stand in its place. -/
theorem State.DoorsSound.modChannel {s : State} (h : s.DoorsSound) {k : Fin 8} {f : Channel → Channel}
    (hf : (s.channel k).Follows (s.chain.asserted = .emergency) (f (s.channel k))) : (s.modChannel k f).DoorsSound := by
  rw [State.doorsSound_iff] at h ⊢
  intro j
  by_cases e : j = k
  · subst e
    obtain ⟨hfits, hsupply⟩ := h j
    rw [State.modChannel_channel, State.modChannel_chain]
    exact ⟨hf.fits hfits, fun hp => (Doors.supplied_congr rfl hf.switching hf.own).trans (hsupply (hf.powered hp))⟩
  · rw [State.modChannel_channel_ne _ _ e]
    exact h j

/-- Soundness of the doors reads the channels, the group switches and A. -/
theorem State.DoorsSound.of_eq {s t : State} (h : s.DoorsSound) (hd : t.doors = s.doors)
    (ha : t.chain.asserted = s.chain.asserted) : t.DoorsSound := by
  unfold State.DoorsSound State.channel at *
  rw [hd, ha]; exact h

theorem State.DoorsSound.channelWrite {s : State} (h : s.DoorsSound) (k : Fin 8) (d : DoorState) :
    (s.channelWrite k d).DoorsSound := by
  unfold State.channelWrite
  split
  · exact h
  · split
    · exact State.DoorsSound.modChannel (h.of_eq (by simp) (by simp)) (.of_eq rfl rfl rfl rfl rfl rfl rfl)
    · exact h

/-- The doors told of a change of A, from a state whose channels fit the old value. -/
theorem State.tellDoors_doorsSound {s : State} {old new : Category} (hnew : s.chain.asserted = new)
    (h : ∀ k, (s.channel k).Fits (old = .emergency) ∧
      ((s.channel k).state.powered = true → s.doors.supplied (s.channel k) = true)) :
    (s.tellDoors old new).DoorsSound := by
  rw [State.doorsSound_iff]
  intro k
  obtain ⟨hfits, hsupply⟩ := h k
  rw [State.tellDoors_chain, hnew]
  unfold State.tellDoors
  split
  · obtain ⟨v, hv⟩ := s.haltAll_channel k
    obtain ⟨he, ho⟩ := (s.channel k).halt_entry
    rw [hv]
    exact ⟨Channel.fits_served (Channel.fits_halt hfits _) v, fun hp =>
      (Doors.supplied_congr s.haltAll_groupOn (congrArg ChannelEntry.switching he) ho).trans
        (hsupply ((s.channel k).halt_powered hp))⟩
  · split
    · next hcond =>
      obtain ⟨he, ho⟩ := (s.channel k).release_entry
      rw [State.releaseAll_channel]
      exact ⟨(Channel.fits_release hfits).anyway hcond.1, fun hp =>
        (Doors.supplied_congr rfl (congrArg ChannelEntry.switching he) ho).trans
          (hsupply ((s.channel k).release_powered hp))⟩
    · next h1 h2 =>
      refine ⟨hfits.anyway fun e => ?_, hsupply⟩
      by_contra ho
      exact h1 ⟨e, ho⟩

theorem State.setAsserted_doorsSound {s : State} (h : s.DoorsSound) (n : Category) : (s.setAsserted n).DoorsSound := by
  unfold State.setAsserted
  dsimp only
  split
  · exact h
  · have htold := State.tellDoors_doorsSound (s := s.modChain fun u => { u with asserted := n }) (old := s.chain.asserted)
      (new := n) rfl (State.doorsSound_iff.mp h)
    exact htold.of_eq (by simp) (by simp [State.judgeStopTimer_keeps])

end Sys2Proof.Machine

namespace Sys2Proof.Machine

/-! ## The ports through the operations on calls and on A -/

theorem State.offerCall_carries (s : State) (f : Option Frame) : s.Carries (s.offerCall f) := by
  unfold State.offerCall
  split
  · exact s.offer_carries _ _ _
  · exact .refl s

theorem State.sendCall_carries (s : State) (i : Fin 4) (sub : CallSub) : s.Carries (s.sendCall i sub) :=
  s.offerCall_carries _

theorem State.freeCore_carries (s : State) (i : Fin 4) (reason : ClearReason) (quiet : Bool) :
    s.Carries (s.freeCore i reason quiet) := by
  unfold State.freeCore
  exact State.Carries.trans (.of_eq (by simp) (by simp)) (State.offerCall_carries _ _)

theorem State.resumeRecord_carries (s : State) (i : Fin 4) (v : VoiceName) : s.Carries (s.resumeRecord i v) := by
  unfold State.resumeRecord
  dsimp only
  split
  · exact State.Carries.trans (.of_eq (by simp) (by simp)) (State.sendCall_carries _ _ _)
  · exact .of_eq (by simp) (by simp)

theorem State.resumeHeld_carries (k : Nat) : ∀ s : State, s.Carries (s.resumeHeld k) := by
  induction k with
  | zero => exact State.Carries.refl
  | succ k ih =>
    intro s
    unfold State.resumeHeld
    split
    · next i v _ _ =>
      exact (State.Carries.trans (.of_eq (by simp) (by simp)) (State.resumeRecord_carries _ i v)).trans (ih _)
    · exact .refl s

theorem State.resumption_carries (s : State) : s.Carries s.resumption := State.resumeHeld_carries _ s

theorem State.takeVictim_carries (s : State) (j : Fin 4) : s.Carries (s.takeVictim j) := by
  unfold State.takeVictim
  dsimp only
  split
  · exact State.Carries.trans (.of_eq (by simp) (by simp)) (State.sendCall_carries _ _ _)
  · exact s.freeCore_carries _ _ _

theorem State.takeVictims_carries (l : List (Fin 4)) : ∀ s : State, s.Carries (l.foldl State.takeVictim s) := by
  induction l with
  | nil => exact State.Carries.refl
  | cons a l ih => exact fun s => (s.takeVictim_carries a).trans (ih _)

theorem State.setupCall_carries (s : State) (i : Fin 4) (r : CallRecord) (v : VoiceName) :
    s.Carries (s.setupCall i r v) := by
  unfold State.setupCall
  exact State.Carries.trans (.of_eq (by simp) (by simp)) (State.sendCall_carries _ _ _)

theorem State.openSummit_carries (s : State) (i : Fin 4) (r : CallRecord) : s.Carries (s.openSummit i r).1 := by
  unfold State.openSummit
  split
  · exact .refl s
  · split
    · exact s.setupCall_carries _ _ _
    · split
      · split
        · exact ((s.takeVictims_carries _).trans (State.setupCall_carries _ _ _ _)).trans (State.resumption_carries _)
        · exact .refl s
      · exact .refl s

theorem State.stopCallToSummit_carries (s : State) (i : Fin 4) : s.Carries (s.stopCallToSummit i) := by
  unfold State.stopCallToSummit
  dsimp only
  split
  · next t ht =>
    have hopen := s.openSummit_carries i { s.tel.records[i] with remote := .summit (summitLineOf s.tel.table.operations) }
    rw [ht] at hopen
    exact hopen
  · next t reason ht =>
    rw [State.openSummit_refused ht]
    exact (State.Carries.trans (.of_eq (by simp) (by simp)) (State.freeCore_carries _ _ _ _)).trans
      (State.resumption_carries _)

theorem State.stopCallTrigger_carries (s : State) : s.Carries s.stopCallTrigger := by
  unfold State.stopCallTrigger
  split
  · dsimp only
    split
    · exact State.Carries.trans (.of_eq (by simp) (by simp)) (State.stopCallToSummit_carries _ _)
    · exact .of_eq (by simp) (by simp)
  · exact .of_eq (by simp) (by simp)

theorem State.setAsserted_carries (s : State) (n : Category) : s.Carries (s.setAsserted n) := by
  unfold State.setAsserted
  dsimp only
  split
  · exact .refl s
  · exact State.Carries.trans (.of_eq (by simp) (by simp)) (State.notice_carries _ _)

theorem State.judgeRise_carries (s : State) : s.Carries s.judgeRise := by
  unfold State.judgeRise
  split
  · exact s.setAsserted_carries _
  · exact .refl s

/-! ## The station list through door writes and changes of A: only door states change -/

/-- The cabins of the station list's records, in their order. -/
def State.railCabins (s : State) : List (Option Nat) := s.rail.cabins.map fun r => r.cabin

theorem State.railCabins_congr {s t : State} (h : t.rail.cabins = s.rail.cabins) : t.railCabins = s.railCabins := by
  unfold State.railCabins; rw [h]

@[simp] theorem State.doorWrite_railCabins (s : State) (n : BitVec 16) (d : DoorState) :
    (s.doorWrite n d).railCabins = s.railCabins := by
  unfold State.doorWrite
  split
  · simp only [State.railCabins, State.modRail_rail, List.map_map]
    refine List.map_congr_left fun r _ => ?_
    simp only [Function.comp_apply]
    split <;> rfl
  · exact State.railCabins_congr (by simp)

@[simp] theorem State.modChannel_railCabins (s : State) (k : Fin 8) (f : Channel → Channel) :
    (s.modChannel k f).railCabins = s.railCabins := rfl

@[simp] theorem State.channelWrite_railCabins (s : State) (k : Fin 8) (d : DoorState) :
    (s.channelWrite k d).railCabins = s.railCabins := by
  unfold State.channelWrite
  split
  · rfl
  · split
    · simp
    · rfl

@[simp] theorem State.haltChannel_railCabins (s : State) (k : Fin 8) : (s.haltChannel k).railCabins = s.railCabins := by
  unfold State.haltChannel
  dsimp only
  split
  · rw [State.modChannel_railCabins]
    split
    · rw [State.channelWrite_railCabins]; rfl
    · rfl
  · rfl

@[simp] theorem State.haltAll_railCabins (s : State) : s.haltAll.railCabins = s.railCabins := by
  have key : ∀ (l : List (Fin 8)) (s : State), (l.foldl State.haltChannel s).railCabins = s.railCabins := by
    intro l
    induction l with
    | nil => exact fun _ => rfl
    | cons a l ih => exact fun s => (ih _).trans (s.haltChannel_railCabins a)
  unfold State.haltAll
  exact key _ s

@[simp] theorem State.notice_railCabins (s : State) (r : NoticeReason) : (s.notice r).railCabins = s.railCabins :=
  State.railCabins_congr (by simp)

@[simp] theorem State.judgeStopTimer_railCabins (s : State) (old new : Category) :
    (s.judgeStopTimer old new).railCabins = s.railCabins :=
  State.railCabins_congr (by simp)

@[simp] theorem State.setAsserted_railCabins (s : State) (n : Category) : (s.setAsserted n).railCabins = s.railCabins := by
  unfold State.setAsserted
  dsimp only
  split
  · rfl
  · rw [State.notice_railCabins, State.judgeStopTimer_railCabins]
    unfold State.tellDoors
    split
    · rw [State.haltAll_railCabins]; rfl
    · split <;> rfl

@[simp] theorem State.judgeRise_railCabins (s : State) : s.judgeRise.railCabins = s.railCabins := by
  unfold State.judgeRise
  split
  · exact s.setAsserted_railCabins _
  · rfl

/-! ## Everything that a command keeps -/

/-- The soundness of each part of the state, kept from one state to another. -/
structure State.KeepsSound (s t : State) : Prop where
  ports : ∀ p, (s.port p).Sound → (t.port p).Sound
  chain : s.ChainSound → t.ChainSound
  rope : s.RopeSound → t.RopeSound
  lists : s.ListsSound → t.ListsSound
  calls : s.tel.Sound → t.tel.Sound
  doors : s.DoorsSound → t.DoorsSound

/-- The same, with an asserted category that has not fallen. -/
structure State.Keeps (s t : State) : Prop extends State.KeepsSound s t where
  rises : s.chain.asserted.rank ≤ t.chain.asserted.rank

theorem State.KeepsSound.trans {s t w : State} (h : s.KeepsSound t) (k : t.KeepsSound w) : s.KeepsSound w :=
  ⟨fun p => k.ports p ∘ h.ports p, k.chain ∘ h.chain, k.rope ∘ h.rope, k.lists ∘ h.lists, k.calls ∘ h.calls,
    k.doors ∘ h.doors⟩

theorem State.Keeps.refl (s : State) : s.Keeps s := ⟨⟨fun _ => id, id, id, id, id, id⟩, Nat.le_refl _⟩

theorem State.Keeps.trans {s t w : State} (h : s.Keeps t) (k : t.Keeps w) : s.Keeps w :=
  ⟨h.toKeepsSound.trans k.toKeepsSound, Nat.le_trans h.rises k.rises⟩

theorem State.ChainSound.of_eq {s t : State} (h : s.ChainSound) (hcauses : t.chain.causes = s.chain.causes)
    (hasserted : t.chain.asserted = s.chain.asserted) (htable : t.chain.table = s.chain.table)
    (htimer : t.chain.timer = s.chain.timer) (hstill : t.rope.standstill = s.rope.standstill) : t.ChainSound := by
  unfold State.ChainSound
  rw [hcauses, hasserted, htable, htimer, hstill]
  exact h

theorem State.RopeSound.of_eq {s t : State} (h : s.RopeSound) (hspeed : t.rope.speed = s.rope.speed)
    (hgate : t.rope.gate = s.rope.gate) (hzeros : t.rope.zeros = s.rope.zeros)
    (hstill : t.rope.standstill = s.rope.standstill) (hslip : t.rope.slip = s.rope.slip)
    (hmodes : t.tracker.modes = s.tracker.modes) : t.RopeSound := by
  unfold State.RopeSound
  rw [hspeed, hgate, hzeros, hstill, hslip, hmodes]
  exact h

theorem State.listedCabins_eq (s : State) :
    s.listedCabins = s.railCabins.filterMap id ++ (s.tracker.lists.up.filterMap fun r => r.cabin) ++
      (s.tracker.lists.down.filterMap fun r => r.cabin) := by
  unfold State.listedCabins State.railCabins
  rw [List.filterMap_map]
  rfl

theorem State.railCabins_length (s : State) : s.railCabins.length = s.rail.cabins.length := List.length_map _

theorem State.ListsSound.of_eq {s t : State} (h : s.ListsSound) (hlists : t.tracker.lists = s.tracker.lists)
    (hcabins : t.tracker.cabins = s.tracker.cabins) (hrail : t.railCabins = s.railCabins) : t.ListsSound := by
  unfold State.ListsSound at h ⊢
  rw [State.listedCabins_eq, ← State.railCabins_length] at h ⊢
  rw [hlists, hcabins, hrail]
  exact h

/-- An operation that leaves the stop chain, the rope and the tracker. -/
theorem State.Keeps.frame {s t : State} (hports : ∀ p, (s.port p).Sound → (t.port p).Sound)
    (hcalls : s.tel.Sound → t.tel.Sound) (hdoors : s.DoorsSound → t.DoorsSound)
    (hchain : t.chain = s.chain := by simp) (hrope : t.rope = s.rope := by simp)
    (htracker : t.tracker = s.tracker := by simp) (hrail : t.railCabins = s.railCabins := by simp) : s.Keeps t :=
  ⟨⟨hports, fun h => h.of_eq (by rw [hchain]) (by rw [hchain]) (by rw [hchain]) (by rw [hchain]) (by rw [hrope]),
    fun h => h.of_eq (by rw [hrope]) (by rw [hrope]) (by rw [hrope]) (by rw [hrope]) (by rw [hrope]) (by rw [htracker]),
    fun h => h.of_eq (by rw [htracker]) (by rw [htracker]) hrail, hcalls, hdoors⟩, by rw [hchain]⟩

/-- An operation of the ports: frames are offered and picked, and nothing else that soundness reads changes. -/
theorem State.Keeps.of_carries {s t : State} (hports : s.Carries t) (hchain : t.chain = s.chain := by simp)
    (hrope : t.rope = s.rope := by simp) (htracker : t.tracker = s.tracker := by simp)
    (hrail : t.rail = s.rail := by simp) (htel : t.tel = s.tel := by simp) (hdoors : t.doors = s.doors := by simp) :
    s.Keeps t :=
  .frame (fun p => (hports p).sound) (by rw [htel]; exact id) (fun h => h.of_eq hdoors (by rw [hchain])) hchain hrope
    htracker (State.railCabins_congr (by rw [hrail]))

/-- An operation on the calls: their frames are offered, and nothing else that soundness reads changes. -/
theorem State.Keeps.of_calls {s t : State} (hports : s.Carries t) (hcalls : s.tel.Sound → t.tel.Sound)
    (hchain : t.chain = s.chain := by simp) (hrope : t.rope = s.rope := by simp)
    (htracker : t.tracker = s.tracker := by simp) (hrail : t.rail = s.rail := by simp)
    (hdoors : t.doors = s.doors := by simp) : s.Keeps t :=
  .frame (fun p => (hports p).sound) hcalls (fun h => h.of_eq hdoors (by rw [hchain])) hchain hrope htracker
    (State.railCabins_congr (by rw [hrail]))

/-- An operation on the door channels, with the door states of the station list. -/
theorem State.Keeps.of_doors {s t : State} (hdoors : s.DoorsSound → t.DoorsSound)
    (hstation : t.station = s.station := by simp) (hline : t.line = s.line := by simp)
    (htel : t.tel = s.tel := by simp) (hchain : t.chain = s.chain := by simp) (hrope : t.rope = s.rope := by simp)
    (htracker : t.tracker = s.tracker := by simp) (hrail : t.railCabins = s.railCabins := by simp) : s.Keeps t :=
  .frame (fun p => (State.Carries.of_eq hstation hline p).sound) (by rw [htel]; exact id) hdoors hchain hrope htracker hrail

section
variable {s₀ s : State}

/-! ### Counters and blocks that soundness does not read -/

theorem State.Keeps.modSwitch (h : s₀.Keeps s) (f : SwitchUnit → SwitchUnit) : s₀.Keeps (s.modSwitch f) :=
  h.trans (.of_carries (.of_eq rfl rfl))
theorem State.Keeps.modPoller (h : s₀.Keeps s) (f : Poller → Poller) : s₀.Keeps (s.modPoller f) :=
  h.trans (.of_carries (.of_eq rfl rfl))
theorem State.Keeps.modLink (h : s₀.Keeps s) (f : LinkUnit → LinkUnit) : s₀.Keeps (s.modLink f) :=
  h.trans (.of_carries (.of_eq rfl rfl))
theorem State.Keeps.modAdmin (h : s₀.Keeps s) (f : Admin → Admin) : s₀.Keeps (s.modAdmin f) :=
  h.trans (.of_carries (.of_eq rfl rfl))
theorem State.Keeps.countSwitch (h : s₀.Keeps s) (i : Fin 28) : s₀.Keeps (s.countSwitch i) := h.modSwitch _
theorem State.Keeps.countPoller (h : s₀.Keeps s) (i : Fin 259) : s₀.Keeps (s.countPoller i) := h.modPoller _
theorem State.Keeps.countLink (h : s₀.Keeps s) (i : Fin 10) : s₀.Keeps (s.countLink i) := h.modLink _
theorem State.Keeps.countAdmin (h : s₀.Keeps s) (i : Fin 16) : s₀.Keeps (s.countAdmin i) := h.modAdmin _

/-- A change of the rope travel unit that leaves what soundness reads of it. -/
theorem State.Keeps.modRope (h : s₀.Keeps s) {f : Rope → Rope}
    (hf : (f s.rope).speed = s.rope.speed ∧ (f s.rope).gate = s.rope.gate ∧ (f s.rope).zeros = s.rope.zeros ∧
      (f s.rope).standstill = s.rope.standstill ∧ (f s.rope).slip = s.rope.slip) : s₀.Keeps (s.modRope f) := by
  obtain ⟨hspeed, hgate, hzeros, hstill, hslip⟩ := hf
  refine h.trans ⟨⟨fun p => by simp, fun k => k.of_eq rfl rfl rfl rfl hstill,
    fun k => k.of_eq hspeed hgate hzeros hstill hslip rfl, fun k => k.of_eq rfl rfl rfl, id,
    fun k => k.of_eq rfl rfl⟩, Nat.le_refl _⟩

theorem State.Keeps.countRope (h : s₀.Keeps s) (i : Fin 7) : s₀.Keeps (s.countRope i) :=
  h.modRope ⟨rfl, rfl, rfl, rfl, rfl⟩

/-- A change of the cabin tracker that leaves its track modes and keeps the lists sound. -/
theorem State.Keeps.modTracker (h : s₀.Keeps s) {f : Tracker → Tracker} (hmodes : (f s.tracker).modes = s.tracker.modes)
    (hlists : s.ListsSound → (s.modTracker f).ListsSound) : s₀.Keeps (s.modTracker f) :=
  h.trans ⟨⟨fun p => by simp, fun k => k.of_eq rfl rfl rfl rfl rfl, fun k => k.of_eq rfl rfl rfl rfl rfl hmodes, hlists, id,
    fun k => k.of_eq rfl rfl⟩, Nat.le_refl _⟩

theorem State.Keeps.countTracker (h : s₀.Keeps s) (i : Fin 22) : s₀.Keeps (s.countTracker i) :=
  h.modTracker rfl fun k => k.of_eq rfl rfl rfl

/-- A change of the station rail unit that keeps the lists sound. -/
theorem State.Keeps.modRail (h : s₀.Keeps s) {f : StationRail → StationRail}
    (hlists : s.ListsSound → (s.modRail f).ListsSound) : s₀.Keeps (s.modRail f) :=
  h.trans ⟨⟨fun p => by simp, fun k => k.of_eq rfl rfl rfl rfl rfl, fun k => k.of_eq rfl rfl rfl rfl rfl rfl, hlists, id,
    fun k => k.of_eq rfl rfl⟩, Nat.le_refl _⟩

theorem State.Keeps.countRail (h : s₀.Keeps s) (i : Fin 49) : s₀.Keeps (s.countRail i) :=
  h.modRail fun k => k.of_eq rfl rfl rfl

theorem State.Keeps.countDoors (h : s₀.Keeps s) (i : Fin 96) : s₀.Keeps (s.countDoors i) :=
  h.trans (.of_doors (fun k => k) (hrail := rfl))

theorem State.Keeps.countTel (h : s₀.Keeps s) (i : Fin 38) : s₀.Keeps (s.countTel i) :=
  h.trans (.of_calls (.of_eq rfl rfl) fun k => k)

/-- A change of the stop chain that leaves the set, A, the cause table and the stop timer. -/
theorem State.Keeps.modChain (h : s₀.Keeps s) {f : StopChain → StopChain}
    (hf : (f s.chain).causes = s.chain.causes ∧ (f s.chain).asserted = s.chain.asserted ∧
      (f s.chain).table = s.chain.table ∧ (f s.chain).timer = s.chain.timer) : s₀.Keeps (s.modChain f) := by
  obtain ⟨hcauses, hasserted, htable, htimer⟩ := hf
  refine h.trans ⟨⟨fun p => by simp, fun k => k.of_eq hcauses hasserted htable htimer rfl,
    fun k => k.of_eq rfl rfl rfl rfl rfl rfl, fun k => k.of_eq rfl rfl rfl, id,
    fun k => k.of_eq rfl hasserted⟩, Nat.le_of_eq (congrArg Category.rank hasserted).symm⟩

theorem State.Keeps.countChain (h : s₀.Keeps s) (i : Fin 50) : s₀.Keeps (s.countChain i) :=
  h.modChain ⟨rfl, rfl, rfl, rfl⟩

/-! ### Offers, notices, stop calls -/

theorem State.Keeps.countPort (h : s₀.Keeps s) (p : Port) (i : Fin 21) : s₀.Keeps (s.countPort p i) :=
  h.trans (.of_carries (s.countPort_carries p i))
theorem State.Keeps.duePick (h : s₀.Keeps s) (p : Port) : s₀.Keeps (s.duePick p) :=
  h.trans (.of_carries (s.duePick_carries p))
theorem State.Keeps.dueAsk (h : s₀.Keeps s) : s₀.Keeps s.dueAsk := h.trans (.of_carries s.dueAsk_carries)
theorem State.Keeps.settle (h : s₀.Keeps s) (p : Port) : s₀.Keeps (s.settle p) :=
  h.trans (.of_carries (s.settle_carries p))
theorem State.Keeps.offerSaying (h : s₀.Keeps s) (p : Port) (c : Fin 4) (f : Frame) : s₀.Keeps (s.offerSaying p c f).1 :=
  h.trans (.of_carries (s.offerSaying_carries p c f))
theorem State.Keeps.offer (h : s₀.Keeps s) (p : Port) (c : Fin 4) (f : Frame) : s₀.Keeps (s.offer p c f) :=
  h.offerSaying p c f
theorem State.Keeps.notice (h : s₀.Keeps s) (r : NoticeReason) : s₀.Keeps (s.notice r) :=
  h.trans (.of_carries (s.notice_carries r))
theorem State.Keeps.sendCall (h : s₀.Keeps s) (i : Fin 4) (sub : CallSub) : s₀.Keeps (s.sendCall i sub) :=
  h.trans (.of_carries (s.sendCall_carries i sub))

theorem State.Keeps.stopCallTrigger (h : s₀.Keeps s) : s₀.Keeps s.stopCallTrigger :=
  h.trans (.of_calls s.stopCallTrigger_carries fun k =>
    Telephony.sound_iff_soundBut.mpr (State.stopCallTrigger_soundBut (Telephony.sound_iff_soundBut.mp k)))

theorem State.Keeps.resumption (h : s₀.Keeps s) : s₀.Keeps s.resumption :=
  h.trans (.of_calls s.resumption_carries fun k =>
    Telephony.sound_iff_soundBut.mpr (State.resumption_soundBut (Telephony.sound_iff_soundBut.mp k)))

/-! ### Raises and withdrawals -/

theorem State.Keeps.handOnEntry (h : s₀.Keeps s) (r : CauseRecord) : s₀.Keeps (s.handOnEntry r) := by
  have hnotice : s₀.Keeps (if (s.chain.table[causeCode r.code]).notice then s.notice (.causeEntry r) else s) := by
    split
    · exact h.notice _
    · exact h
  unfold State.handOnEntry
  dsimp only
  split
  · exact hnotice.stopCallTrigger
  · exact hnotice

/-- The codes of a set do not change with the record of one of them. -/
theorem codes_nodup_map_if {l : List CauseRecord} {c : Cause} {f : CauseRecord → CauseRecord}
    (h : (l.map fun r => r.code).Nodup) (hf : ∀ r, (f r).code = r.code) :
    ((l.map fun r => if r.code = c then f r else r).map fun r => r.code).Nodup := by
  have hcodes : (l.map fun r => if r.code = c then f r else r).map (fun r => r.code) = l.map fun r => r.code := by
    rw [List.map_map]
    refine List.map_congr_left fun r _ => ?_
    simp only [Function.comp_apply]
    split
    · exact hf r
    · rfl
  exact hcodes ▸ h

/-- The stop timer is not started at standstill (R181). -/
theorem State.judgeRise_timer {s : State} (h : s.rope.standstill = true) : s.judgeRise.chain.timer = s.chain.timer := by
  unfold State.judgeRise State.setAsserted
  split
  · dsimp only
    split
    · rfl
    · simp [State.judgeStopTimer, stopTimerStarts, h]
  · rfl

/-- A set of causes changed and A judged upon it: sound where each record is sound but for A. -/
theorem State.Keeps.judgeRise {f : StopChain → StopChain} (h : s₀.Keeps s)
    (hasserted : (f s.chain).asserted = s.chain.asserted) (htimer : (f s.chain).timer = s.chain.timer)
    (hcodes : s.ChainSound → ((f s.chain).causes.map fun r => r.code).Nodup)
    (hcauses : s.ChainSound → ∀ r ∈ (f s.chain).causes, (causeMinimum r.code).rank ≤ r.category.rank ∧
      1 ≤ r.occurrences ∧ r.occurrences ≤ 255)
    (htable : s.ChainSound → ∀ c : Cause, (causeMinimum c).rank ≤ (((f s.chain).table[causeCode c]).category).rank) :
    s₀.Keeps (s.modChain f).judgeRise := by
  have hdoors : s.DoorsSound → (s.modChain f).DoorsSound := fun k => k.of_eq rfl hasserted
  refine h.trans ⟨⟨fun p k => ?_, fun k => ⟨?_, fun r hr => ?_, fun c => ?_, fun hstill => ?_⟩, fun k => ?_, fun k => ?_,
    fun k => ?_, fun k => ?_⟩, ?_⟩
  · exact ((State.judgeRise_carries _) p).sound (by simpa using k)
  · rw [State.judgeRise_causes]; exact hcodes k
  · have hcovers := State.judgeRise_covers (s.modChain f) r hr
    rw [State.judgeRise_causes] at hr
    obtain ⟨hmin, hlow, hhigh⟩ := hcauses k r hr
    exact ⟨hmin, hcovers, hlow, hhigh⟩
  · rw [State.judgeRise_table]; exact htable k c
  · obtain ⟨-, -, -, htimer'⟩ := k
    rw [State.judgeRise_rope] at hstill
    rw [State.judgeRise_timer (s := s.modChain f) hstill]
    exact htimer.trans (htimer' hstill)
  · exact k.of_eq (by simp) (by simp) (by simp) (by simp) (by simp) (by simp)
  · exact k.of_eq (by simp) (by simp) ((State.judgeRise_railCabins _).trans rfl)
  · rw [State.judgeRise_tel]; exact k
  · unfold State.judgeRise
    split
    · exact State.setAsserted_doorsSound (hdoors k) _
    · exact hdoors k
  · refine Nat.le_trans ?_ (State.judgeRise_ge _)
    rw [State.modChain_chain, hasserted]

theorem State.Keeps.raise (h : s₀.Keeps s) (c : Cause) (d : Detail) (momentary : Bool) :
    s₀.Keeps (s.raise c d momentary) := by
  have hcount := h.countChain (Ctr.raises (causeCode c))
  have htable : s.ChainSound → (causeMinimum c).rank ≤ ((s.chain.table[causeCode c]).category).rank := fun k => k.2.2.1 c
  cases hin : s.inSet c
  · rw [State.raise_new hin]
    refine State.Keeps.handOnEntry (hcount.judgeRise rfl rfl (fun k => ?_) (fun k r hr => ?_) fun k => k.2.2.1) _
    · rw [List.map_append]
      refine List.Nodup.append k.1 (by simp) ?_
      simp only [List.map_cons, List.map_nil, List.disjoint_singleton]
      intro hc
      obtain ⟨r, hr, e⟩ := List.mem_map.mp hc
      exact State.inSet_false.mp hin r hr e
    · obtain hr | hr := List.mem_append.mp hr
      · obtain ⟨hmin, -, hocc⟩ := k.2.1 r hr
        exact ⟨hmin, hocc⟩
      · rw [List.mem_singleton.mp hr]
        refine ⟨?_, Nat.le_refl 1, by simp [newRecord]⟩
        have := htable k
        simp only [newRecord, Category.rank_sup]
        omega
  · rw [State.raise_known hin]
    refine hcount.judgeRise rfl rfl (fun k => ?_) (fun k r hr => ?_) fun k => k.2.2.1
    · exact codes_nodup_map_if k.1 fun _ => rfl
    · obtain ⟨r', hr', rfl⟩ := List.mem_map.mp hr
      obtain ⟨hmin, -, hlow, hhigh⟩ := k.2.1 r' hr'
      split
      · refine ⟨?_, ?_, ?_⟩ <;> simp only [CauseRecord.again, Category.rank_sup, satAdd] <;> omega
      · exact ⟨hmin, hlow, hhigh⟩

theorem State.Keeps.raiseMomentary (h : s₀.Keeps s) (c : Cause) (d : Detail) : s₀.Keeps (s.raiseMomentary c d) :=
  h.raise c d true

theorem State.Keeps.raiseHeld (h : s₀.Keeps s) (c : Cause) (d : Detail) : s₀.Keeps (s.raiseHeld c d) := h.raise c d false

theorem State.Keeps.withdraw (h : s₀.Keeps s) (c : Cause) : s₀.Keeps (s.withdraw c) := by
  cases hin : s.inSet c
  · rw [State.withdraw_stray hin]
    exact h.countChain _
  · rw [State.withdraw_known hin]
    refine h.trans ⟨⟨fun p => by simp, fun k => ?_, fun k => k.of_eq rfl rfl rfl rfl rfl rfl, fun k => k.of_eq rfl rfl rfl, id,
      fun k => k.of_eq rfl rfl⟩, Nat.le_refl _⟩
    obtain ⟨hcodes, hcauses, htable, htimer⟩ := k
    refine ⟨?_, fun r hr => ?_, htable, htimer⟩
    · exact codes_nodup_map_if hcodes fun _ => rfl
    · obtain ⟨r', hr', rfl⟩ := List.mem_map.mp hr
      split
      · exact hcauses r' hr'
      · exact hcauses r' hr'

end
end Sys2Proof.Machine

namespace Sys2Proof.Machine

/-! ## Sound ports through changes of port state -/

/-- A flushed queue is empty; the rest of the port stays but for its counters. -/
theorem State.flushClass_port (s : State) (p : Port) (counter : Fin 4 → Fin 21) (c : Fin 4) :
    ∃ n, (s.flushClass p counter c).port p = { (s.port p).withQueue c [] with counters := n } := by
  have key : ∀ (l : List Frame) (t : State), ∃ n,
      (l.foldl (fun t f => (t.countPort p (counter c)).frameDropped f) t).port p = { t.port p with counters := n } := by
    intro l
    induction l with
    | nil => exact fun t => ⟨_, rfl⟩
    | cons f l ih =>
      intro t
      obtain ⟨n, hn⟩ := ih ((t.countPort p (counter c)).frameDropped f)
      refine ⟨n, hn.trans ?_⟩
      cases p <;> simp [State.countPort]
  obtain ⟨n, hn⟩ := key ((s.port p).queues[c]) (s.modPort p fun u => u.withQueue c [])
  exact ⟨n, by unfold State.flushClass; rw [hn, State.modPort_port]⟩

theorem State.flushClass_port_ne (s : State) {p q : Port} (h : q ≠ p) (counter : Fin 4 → Fin 21) (c : Fin 4) :
    (s.flushClass p counter c).port q = s.port q := by
  have key : ∀ (l : List Frame) (t : State),
      (l.foldl (fun t f => (t.countPort p (counter c)).frameDropped f) t).port q = t.port q := by
    intro l
    induction l with
    | nil => exact fun t => rfl
    | cons f l ih =>
      intro t
      refine (ih _).trans ?_
      have hdrop : ((t.countPort p (counter c)).frameDropped f).port q = (t.countPort p (counter c)).port q := by
        cases q <;> simp
      rw [hdrop, State.countPort, State.modPort_port_ne _ _ h]
  unfold State.flushClass
  rw [key, State.modPort_port_ne _ _ h]

/-- Flushed queues are empty, the others stay, and so do the port's state, error count and rejoin timer. -/
theorem State.flushClasses_port (p : Port) (counter : Fin 4 → Fin 21) (l : List (Fin 4)) : ∀ s : State,
    ((l.foldl (fun s c => s.flushClass p counter c) s).port p).mode = (s.port p).mode ∧
      ((l.foldl (fun s c => s.flushClass p counter c) s).port p).errors = (s.port p).errors ∧
      ((l.foldl (fun s c => s.flushClass p counter c) s).port p).rejoin = (s.port p).rejoin ∧
      (∀ c : Fin 4, c ∈ l → ((l.foldl (fun s c => s.flushClass p counter c) s).port p).queues[c] = []) ∧
      ∀ c : Fin 4, ((l.foldl (fun s c => s.flushClass p counter c) s).port p).queues[c] = (s.port p).queues[c] ∨
        ((l.foldl (fun s c => s.flushClass p counter c) s).port p).queues[c] = [] := by
  induction l with
  | nil => exact fun s => ⟨rfl, rfl, rfl, fun c hc => absurd hc (by simp), fun c => .inl rfl⟩
  | cons a l ih =>
    intro s
    obtain ⟨hmode, herrors, hrejoin, hflushed, hrest⟩ := ih (s.flushClass p counter a)
    obtain ⟨n, hn⟩ := s.flushClass_port p counter a
    have hqueue : ∀ c : Fin 4, ((s.flushClass p counter a).port p).queues[c] = if c = a then [] else (s.port p).queues[c] := by
      intro c
      by_cases e : c = a
      · subst e; simp [hn, PortUnit.withQueue]
      · have : a.val ≠ c.val := fun e' => e (Fin.ext e'.symm)
        simp [hn, PortUnit.withQueue, e, this]
    refine ⟨hmode.trans (by rw [hn]; rfl), herrors.trans (by rw [hn]; rfl), hrejoin.trans (by rw [hn]; rfl),
      fun c hc => ?_, fun c => ?_⟩
    · by_cases hl : c ∈ l
      · exact hflushed c hl
      · obtain h | h := hrest c
        · refine h.trans ?_
          rw [hqueue, if_pos ((List.mem_cons.mp hc).resolve_right hl)]
        · exact h
    · obtain h | h := hrest c
      · rw [hqueue] at h
        split at h
        · exact .inr h
        · exact .inl h
      · exact .inr h

theorem State.flushClasses_port_ne {p q : Port} (h : q ≠ p) (counter : Fin 4 → Fin 21) (l : List (Fin 4)) :
    ∀ s : State, (l.foldl (fun s c => s.flushClass p counter c) s).port q = s.port q := by
  induction l with
  | nil => exact fun s => rfl
  | cons a l ih => exact fun s => (ih _).trans (s.flushClass_port_ne h counter a)

/-- A port state entered once what is due is done: the queues are those a pick or an ask has left. -/
theorem State.enterMode_port (s : State) (p : Port) (m : PortMode) :
    (s.enterMode p m).port p = { (s.settle p).port p with mode := m } := State.modPort_port _ _ _

theorem State.enterMode_port_ne (s : State) {p q : Port} (h : q ≠ p) (m : PortMode) :
    (s.enterMode p m).port q = (s.settle p).port q := State.modPort_port_ne _ _ h

theorem State.enterMode_carries_other (s : State) {p q : Port} (h : q ≠ p) (m : PortMode) :
    (s.port q).Carries ((s.enterMode p m).port q) := by
  rw [State.enterMode_port_ne _ h]
  exact s.settle_carries p q

/-- Entry to DETACHED up to its raise (R15). -/
def State.detached (s : State) (p : Port) : State :=
  let t := ([0, 1, 2, 3] : List (Fin 4)).foldl (fun s c => s.flushClass p Ctr.detachDrop c) (s.enterMode p .detached)
  ((t.modPort p fun u => { u with rejoin := some (t.admin.part.rejoinDelay p), goodRun := 0 }).countPort p
    Ctr.detachEntries).reportMode p (s.port p).mode

theorem State.enterDetached_eq (s : State) (p : Port) :
    s.enterDetached p = (s.detached p).raiseHeld (portCause p) {} := rfl

theorem State.reportMode_carries (s : State) (p : Port) (old : PortMode) : s.Carries (s.reportMode p old) :=
  s.notice_carries _

theorem mem_four (c : Fin 4) : c ∈ ([0, 1, 2, 3] : List (Fin 4)) := by revert c; decide

theorem State.detached_sound {s : State} {p : Port} (he : (s.port p).errors ≤ 255) : ((s.detached p).port p).Sound := by
  unfold State.detached
  dsimp only
  refine (State.reportMode_carries _ _ _ p).sound ((State.countPort_carries _ p _ p).sound ?_)
  obtain ⟨hmode, herrors, -, hflushed, -⟩ :=
    State.flushClasses_port p Ctr.detachDrop [0, 1, 2, 3] (s.enterMode p .detached)
  rw [State.enterMode_port] at hmode herrors
  rw [State.modPort_port, PortUnit.sound_iff]
  refine ⟨⟨fun c => ?_, fun c _ => hflushed c (mem_four c)⟩, ?_, iff_of_true rfl hmode⟩
  · simp only [hflushed c (mem_four c)]; exact Nat.zero_le _
  · simp only [hmode, herrors, (s.settle_carries p p).errors]; exact he

theorem State.detached_carries_other (s : State) {p q : Port} (hq : q ≠ p) :
    (s.port q).Carries ((s.detached p).port q) := by
  unfold State.detached
  dsimp only
  refine PortUnit.Carries.trans ?_ (State.reportMode_carries _ _ _ q)
  refine PortUnit.Carries.trans ?_ (State.countPort_carries _ p _ q)
  rw [State.modPort_port_ne _ _ hq, State.flushClasses_port_ne hq]
  exact s.enterMode_carries_other hq _

/-- A port that has entered ACTIVE, WARNED or MUTED is sound where its queues were, its rejoin timer was stopped and its error
count is that of the new state. -/
theorem State.settled_sound {s t : State} {p : Port} {m : PortMode} (hqueues : (s.port p).QueuesSound)
    (hrejoin : (s.port p).rejoin = none) (hband : errorBand m (s.port p).errors) (hm : m ≠ .detached)
    (hport : ((t.port p).mode = m ∧ (t.port p).errors = ((s.settle p).port p).errors ∧
      (t.port p).rejoin = ((s.settle p).port p).rejoin))
    (hlen : ∀ c : Fin 4, (t.port p).queues[c] = ((s.settle p).port p).queues[c] ∨ (t.port p).queues[c] = [])
    (hclosed : ∀ c : Fin 4, takesOffer m c = false → (t.port p).queues[c] = []) : (t.port p).Sound := by
  have hc := s.settle_carries p p
  obtain ⟨hmode, herrors, hrej⟩ := hport
  refine PortUnit.sound_iff.mpr ⟨⟨fun c => ?_, ?_⟩, ?_, ?_⟩
  · obtain h | h := hlen c
    · rw [h]; exact (hc.queues hqueues).1 c
    · rw [h]; exact Nat.zero_le _
  · rw [hmode]; exact hclosed
  · rw [hmode, herrors, hc.errors]; exact hband
  · rw [hmode, hrej, hc.rejoin, hrejoin]; simp [hm]

/-- A change of port state up to the raise of an entry to DETACHED. -/
def State.turned (s : State) (p : Port) (m : PortMode) : State :=
  match m with
  | .detached => s.detached p
  | .active | .warned | .muted | .rejoining => s.changeMode p m

theorem State.changeMode_eq (s : State) (p : Port) (m : PortMode) :
    s.changeMode p m = if m = .detached then (s.turned p m).raiseHeld (portCause p) {} else s.turned p m := by
  cases m <;> rfl

theorem State.turned_sound {s : State} {p : Port} {m : PortMode} (hqueues : (s.port p).QueuesSound)
    (hrejoin : (s.port p).rejoin = none) (hband : errorBand m (s.port p).errors) (hm : m ≠ .rejoining) :
    ((s.turned p m).port p).Sound := by
  have hplain : ∀ m, m ≠ .detached → errorBand m (s.port p).errors → (∀ c, takesOffer m c = true) →
      (((s.enterMode p m).reportMode p (s.port p).mode).port p).Sound := by
    intro m hm hband htakes
    refine (State.reportMode_carries _ _ _ p).sound ?_
    refine State.settled_sound hqueues hrejoin hband hm ?_ (fun c => .inl ?_) (fun c hc => ?_)
    · rw [State.enterMode_port]; exact ⟨rfl, rfl, rfl⟩
    · rw [State.enterMode_port]
    · rw [htakes c] at hc; cases hc
  cases m with
  | active => exact hplain .active (by simp) hband fun _ => rfl
  | warned => exact hplain .warned (by simp) hband fun _ => rfl
  | rejoining => exact absurd rfl hm
  | detached => exact State.detached_sound hband
  | muted =>
    refine (State.reportMode_carries _ _ _ p).sound ?_
    obtain ⟨hmode, herrors, hrej, hflushed, hrest⟩ :=
      State.flushClasses_port p Ctr.mutedDrop [1, 2, 3] (s.enterMode p .muted)
    rw [State.enterMode_port] at hmode herrors hrej hrest
    refine State.settled_sound hqueues hrejoin hband (by simp) ⟨hmode, herrors, hrej⟩ hrest fun c hc => hflushed c ?_
    revert hc; revert c; decide

theorem State.turned_carries_other (s : State) {p q : Port} (hq : q ≠ p) (m : PortMode) :
    (s.port q).Carries ((s.turned p m).port q) := by
  cases m with
  | detached => exact s.detached_carries_other hq
  | active | warned | rejoining =>
    exact (s.enterMode_carries_other hq _).trans (State.reportMode_carries _ _ _ q)
  | muted =>
    refine PortUnit.Carries.trans ?_ (State.reportMode_carries _ _ _ q)
    rw [State.flushClasses_port_ne hq]
    exact s.enterMode_carries_other hq _

/-- The error count moved by a frame stays in the band of the state it calls for (R12, R13). -/
theorem errorBand_followErrors {m : PortMode} {e e' : Nat} (hm : errorsCounted m = true) (hband : errorBand m e)
    (hlow : e - 1 ≤ e') (hhigh : e' ≤ e + 8) : errorBand (followErrors m e') e' ∧ followErrors m e' ≠ .rejoining := by
  have hmove : ∀ m' : PortMode, followErrors m e' = m' → m' ≠ .rejoining → errorBand m' e' →
      errorBand (followErrors m e') e' ∧ followErrors m e' ≠ .rejoining := by
    rintro m' rfl hne hband; exact ⟨hband, hne⟩
  cases m with
  | active =>
    have hlt : e < 96 := hband
    by_cases h : 96 ≤ e'
    · exact hmove .warned (if_pos h) (by simp) ⟨h, by omega⟩
    · exact hmove .active (if_neg h) (by simp) (Nat.not_le.mp h)
  | warned =>
    obtain ⟨hge, hlt⟩ : 96 ≤ e ∧ e < 128 := hband
    by_cases h : 128 ≤ e'
    · exact hmove .muted (if_pos h) (by simp) ⟨h, by omega⟩
    · by_cases h' : e' < 96
      · exact hmove .active ((if_neg h).trans (if_pos h')) (by simp) h'
      · exact hmove .warned ((if_neg h).trans (if_neg h')) (by simp) ⟨by omega, by omega⟩
  | muted =>
    obtain ⟨hge, hlt⟩ : 128 ≤ e ∧ e < 192 := hband
    by_cases h : 192 ≤ e'
    · exact hmove .detached (if_pos h) (by simp) (by show e' ≤ 255; omega)
    · by_cases h' : e' < 128
      · exact hmove .warned ((if_neg h).trans (if_pos h')) (by simp) ⟨by omega, h'⟩
      · exact hmove .muted ((if_neg h).trans (if_neg h')) (by simp) ⟨by omega, by omega⟩
  | detached => cases hm
  | rejoining => cases hm

theorem PortUnit.Sound.errors_le {u : PortUnit} (h : u.Sound) : u.errors ≤ 255 := by
  obtain ⟨-, hband, -⟩ := PortUnit.sound_iff.mp h
  cases hm : u.mode <;> rw [hm] at hband <;> simp only [errorBand] at hband <;> omega

/-- A port once a frame has moved its error count and its state has followed. -/
theorem State.followed_sound {s : State} {p : Port} {f : Nat → Nat} (hlow : ∀ e, e ≤ 255 → e - 1 ≤ f e)
    (hhigh : ∀ e, f e ≤ e + 8) (hcounted : errorsCounted (s.port p).mode = true) (hp : (s.port p).Sound) {m : PortMode}
    (hm : followErrors (s.port p).mode (f (s.port p).errors) = m) :
    (m = (s.port p).mode → ((s.modPort p fun u => { u with errors := f u.errors }).port p).Sound) ∧
      (((s.modPort p fun u => { u with errors := f u.errors }).turned p m).port p).Sound := by
  obtain ⟨hqueues, hband, hrejoin⟩ := PortUnit.sound_iff.mp hp
  have hstopped : (s.port p).rejoin = none := by
    rw [← Option.not_isSome_iff_eq_none, hrejoin]
    intro e; rw [e] at hcounted; cases hcounted
  obtain ⟨hband', hne⟩ := errorBand_followErrors hcounted hband (hlow _ hp.errors_le) (hhigh _)
  rw [hm] at hband' hne
  refine ⟨fun e => ?_, State.turned_sound ?_ ?_ ?_ hne⟩
  · rw [State.modPort_port]
    exact PortUnit.sound_iff.mpr ⟨hqueues, e ▸ hband', hrejoin⟩
  · rw [State.modPort_port]; exact hqueues
  · rw [State.modPort_port]; exact hstopped
  · rw [State.modPort_port]; exact hband'

section
variable {s₀ s : State}

/-- An operation of the ports that changes nothing else that soundness reads. -/
theorem State.Keeps.of_ports {s t : State} (hports : ∀ p, (s.port p).Sound → (t.port p).Sound)
    (hchain : t.chain = s.chain := by simp) (hrope : t.rope = s.rope := by simp)
    (htracker : t.tracker = s.tracker := by simp) (hrail : t.rail = s.rail := by simp)
    (htel : t.tel = s.tel := by simp) (hdoors : t.doors = s.doors := by simp) : s.Keeps t :=
  .frame hports (by rw [htel]; exact id) (fun h => h.of_eq hdoors (by rw [hchain])) hchain hrope htracker
    (State.railCabins_congr (by rw [hrail]))

theorem State.detached_frame (s : State) (p : Port) : (s.detached p).chain = s.chain ∧ (s.detached p).rope = s.rope ∧
    (s.detached p).tracker = s.tracker ∧ (s.detached p).rail = s.rail ∧ (s.detached p).tel = s.tel ∧
    (s.detached p).doors = s.doors := by
  simp [State.detached]

theorem State.turned_frame (s : State) (p : Port) (m : PortMode) : (s.turned p m).chain = s.chain ∧
    (s.turned p m).rope = s.rope ∧ (s.turned p m).tracker = s.tracker ∧ (s.turned p m).rail = s.rail ∧
    (s.turned p m).tel = s.tel ∧ (s.turned p m).doors = s.doors := by
  cases m with
  | detached => exact s.detached_frame p
  | active | warned | muted | rejoining => simp [State.turned, State.changeMode]

theorem State.Keeps.enterDetached (h : s₀.Keeps s) (p : Port) : s₀.Keeps (s.enterDetached p) := by
  obtain ⟨hchain, hrope, htracker, hrail, htel, hdoors⟩ := s.detached_frame p
  rw [State.enterDetached_eq]
  refine State.Keeps.raiseHeld (h.trans (.of_ports (fun q hq => ?_) hchain hrope htracker hrail htel hdoors)) _ _
  by_cases e : q = p
  · subst e; exact State.detached_sound hq.errors_le
  · exact (s.detached_carries_other e).sound hq

theorem State.Keeps.changeErrors (h : s₀.Keeps s) (p : Port) {f : Nat → Nat} (hlow : ∀ e, e ≤ 255 → e - 1 ≤ f e)
    (hhigh : ∀ e, f e ≤ e + 8) : s₀.Keeps (s.changeErrors p f) := by
  unfold State.changeErrors
  split
  · next hcounted =>
    dsimp only
    generalize hm : followErrors _ _ = m
    rw [State.modPort_port] at hm
    have hports := fun hp => State.followed_sound (f := f) hlow hhigh hcounted hp hm
    have hother : ∀ q, q ≠ p → (s.modPort p fun u => { u with errors := f u.errors }).port q = s.port q := fun q hq =>
      State.modPort_port_ne _ _ hq
    split
    · next hsame =>
      rw [State.modPort_port] at hsame
      refine h.trans (.of_ports fun q hq => ?_)
      by_cases e : q = p
      · subst e; exact (hports hq).1 hsame
      · rw [hother q e]; exact hq
    · obtain ⟨hchain, hrope, htracker, hrail, htel, hdoors⟩ :=
        (s.modPort p fun u => { u with errors := f u.errors }).turned_frame p m
      have hturned : s₀.Keeps ((s.modPort p fun u => { u with errors := f u.errors }).turned p m) := by
        refine h.trans (.of_ports (fun q hq => ?_) (by rw [hchain]; simp) (by rw [hrope]; simp) (by rw [htracker]; simp)
          (by rw [hrail]; simp) (by rw [htel]; simp) (by rw [hdoors]; simp))
        by_cases e : q = p
        · subst e; exact (hports hq).2
        · refine (State.turned_carries_other _ e m).sound ?_
          rw [hother q e]; exact hq
      rw [State.changeMode_eq]
      split
      · exact hturned.raiseHeld _ _
      · exact hturned
  · exact h

theorem State.Keeps.errorUp (h : s₀.Keeps s) (p : Port) : s₀.Keeps (s.errorUp p) :=
  h.changeErrors p (fun e he => by simp only [satAdd]; omega) fun e => by simp only [satAdd]; omega

theorem State.Keeps.errorDown (h : s₀.Keeps s) (p : Port) : s₀.Keeps (s.errorDown p) :=
  h.changeErrors p (fun _ _ => Nat.le_refl _) fun e => by omega

theorem State.Keeps.badFrame (h : s₀.Keeps s) (p : Port) (cause : Fin 21) : s₀.Keeps (s.badFrame p cause) := by
  unfold State.badFrame
  dsimp only
  split
  · exact (h.countPort p cause).enterDetached p
  · exact (h.countPort p cause).errorUp p

theorem State.Keeps.reportMode (h : s₀.Keeps s) (p : Port) (old : PortMode) : s₀.Keeps (s.reportMode p old) := h.notice _

/-- The queues of a port that takes no frame are empty. -/
theorem PortUnit.QueuesSound.closed {u v : PortUnit} (h : u.QueuesSound) (hclosed : ∀ c, takesOffer u.mode c = false)
    (hq : v.queues = u.queues) : v.QueuesSound := by
  unfold PortUnit.QueuesSound
  rw [hq]
  exact ⟨h.1, fun c _ => h.2 c (hclosed c)⟩

theorem State.Keeps.rejoinGood (h : s₀.Keeps s) (p : Port) (hm : (s.port p).mode = .rejoining) :
    s₀.Keeps (s.rejoinGood p) := by
  have hgood : s₀.Keeps ((s.modPort p fun u => { u with goodRun := satAdd 16 u.goodRun 1 }).countPort p Ctr.rejoinDiscard) :=
    (h.trans (.of_carries (State.modPort_carries (.of_eq rfl rfl rfl rfl)))).countPort _ _
  unfold State.rejoinGood
  dsimp only
  split
  · refine State.Keeps.reportMode (hgood.trans (.of_ports fun q hq => ?_)) _ _
    generalize ht : (s.modPort p fun u => { u with goodRun := satAdd 16 u.goodRun 1 }).countPort p Ctr.rejoinDiscard = t at hq ⊢
    have hmode : (t.port p).mode = .rejoining := by rw [← ht, State.countPort, State.modPort_port, State.modPort_port, hm]
    by_cases e : q = p
    · subst e
      have hc := t.settle_carries q q
      obtain ⟨hqueues, -, hrejoin⟩ := PortUnit.sound_iff.mp hq
      rw [State.modPort_port, State.enterMode_port, PortUnit.sound_iff]
      refine ⟨(hc.queues hqueues).closed (by rw [hc.mode, hmode]; exact fun _ => rfl) rfl, Nat.zero_lt_succ _, ?_⟩
      simp only [hc.rejoin, hrejoin, hmode]
      simp
    · rw [State.modPort_port_ne _ _ e]
      exact (t.enterMode_carries_other e _).sound hq
  · exact hgood

theorem State.Keeps.rejoinExpiry (h : s₀.Keeps s) (p : Port) : s₀.Keeps (s.rejoinExpiry p) := by
  unfold State.rejoinExpiry
  dsimp only
  split
  · next hcond =>
    refine State.Keeps.reportMode (State.Keeps.withdraw (h.trans (.of_ports fun q hq => ?_)) _) _ _
    by_cases e : q = p
    · subst e
      have hc := s.settle_carries q q
      obtain ⟨hqueues, -, -⟩ := PortUnit.sound_iff.mp hq
      rw [State.modPort_port, State.enterMode_port, PortUnit.sound_iff]
      refine ⟨(hc.queues hqueues).closed (by rw [hc.mode, hcond.1]; exact fun _ => rfl) rfl, ?_, by simp⟩
      show ((s.settle q).port q).errors ≤ 255
      rw [hc.errors]; exact hq.errors_le
    · rw [State.modPort_port_ne _ _ e]
      exact (s.enterMode_carries_other e _).sound hq
  · exact h

theorem State.Keeps.leave (h : s₀.Keeps s) (p : Port) : s₀.Keeps (s.leave p) := by
  unfold State.leave
  split
  · exact h
  · next c f _ =>
    have hfree : s₀.Keeps ((s.modPort p fun u => { u with inFlight := none }).countPort p (Ctr.transmitted c)) :=
      (h.trans (.of_carries (State.modPort_carries (.of_eq rfl rfl rfl rfl)))).countPort _ _
    unfold State.frameLeft State.rollLeaves State.askLeaves
    split
    · split
      · exact hfree.modPoller _
      · exact hfree
    · split
      · split
        · exact hfree.modPoller _
        · exact hfree
      · exact hfree
    · exact hfree
    · exact hfree

end
end Sys2Proof.Machine

namespace Sys2Proof.Machine

/-! ## The rope and the trains -/

section
variable {s₀ s : State}

/-- An operation repeated over a list. -/
theorem State.Keeps.foldl {α : Type} {f : State → α → State} (hf : ∀ s a, s₀.Keeps s → s₀.Keeps (f s a)) (l : List α) :
    ∀ {s : State}, s₀.Keeps s → s₀.Keeps (l.foldl f s) := by
  induction l with
  | nil => exact id
  | cons a l ih => exact fun h => ih (hf _ a h)

/-- A change of the rope travel unit that keeps it sound, at a standstill that stays as it is. -/
theorem State.Keeps.modRopeSound (h : s₀.Keeps s) {f : Rope → Rope} (hrope : s.RopeSound → (s.modRope f).RopeSound)
    (hstill : (f s.rope).standstill = s.rope.standstill) : s₀.Keeps (s.modRope f) :=
  h.trans ⟨⟨fun p => by simp, fun k => k.of_eq rfl rfl rfl rfl hstill, hrope, fun k => k.of_eq rfl rfl rfl, id,
    fun k => k.of_eq rfl rfl⟩, Nat.le_refl _⟩

theorem State.Keeps.judge (h : s₀.Keeps s) (c : Cause) (was now : Bool) : s₀.Keeps (s.judge c was now) := by
  unfold State.judge
  split
  · exact h.raiseHeld _ _
  · split
    · exact h.withdraw _
    · exact h

theorem State.Keeps.judgeSlip (h : s₀.Keeps s) : s₀.Keeps s.judgeSlip := by
  unfold State.judgeSlip
  exact (h.modRope ⟨rfl, rfl, rfl, rfl, rfl⟩).judge _ _ _

theorem State.Keeps.clearSlip (h : s₀.Keeps s) : s₀.Keeps s.clearSlip := by
  refine State.Keeps.judgeSlip (h.modRopeSound (fun k => ?_) rfl)
  obtain ⟨hspeed, hgate, hzeros, hstill, hzero, -, -⟩ := k
  exact ⟨hspeed, hgate, hzeros, hstill, hzero, Nat.zero_le _, fun _ _ => rfl⟩

/-- A value clamped to ±b has a magnitude of at most b. -/
theorem natAbs_clampInt_le (b : Nat) (x : Int) : (clampInt (-b) b x).natAbs ≤ b := by
  unfold clampInt; omega

theorem State.Keeps.offerDeviation (h : s₀.Keeps s) (t : Track) (d : Int) : s₀.Keeps (s.offerDeviation t d) := by
  unfold State.offerDeviation
  split
  · exact h.countRope _
  · next htracked =>
    dsimp only
    have hcount := h.countRope Ctr.deviationsApplied
    have hclamp : s₀.Keeps (if clampInt (-65535) 65535 (s.rope.slip + d.tdiv 4) = s.rope.slip + d.tdiv 4 then
        s.countRope Ctr.deviationsApplied
      else (s.countRope Ctr.deviationsApplied).countRope Ctr.slipClamp) := by
      split
      · exact hcount
      · exact hcount.countRope _
    refine State.Keeps.judgeSlip (hclamp.modRopeSound (fun k => ?_) rfl)
    obtain ⟨hspeed, hgate, hzeros, hstill, hzero, -, -⟩ := k
    refine ⟨hspeed, hgate, hzeros, hstill, hzero, natAbs_clampInt_le 65535 _, fun hup hdown => ?_⟩
    have hmodes : s.tracker.modes.up = .untracked ∧ s.tracker.modes.down = .untracked := by
      constructor
      · revert hup; split <;> exact id
      · revert hdown; split <;> exact id
    cases t
    · rw [PerTrack.get, hmodes.1] at htracked; cases htracked
    · rw [PerTrack.get, hmodes.2] at htracked; cases htracked

theorem State.Keeps.trackRaise (h : s₀.Keeps s) (t : Track) (c : Cause) (d : Detail) : s₀.Keeps (s.trackRaise t c d) := by
  unfold State.trackRaise
  split
  · exact h.raiseMomentary _ _
  · exact h.countTracker _

/-! ### What soundness reads of the lists: the cabins recorded on the rail and on each track -/

/-- The cabins of a train list's records, in their order. -/
def State.trainCabins (s : State) (t : Track) : List (Option Nat) := (s.tracker.lists.get t).map fun r => r.cabin

theorem State.listedCabins_eq_filterMap (s : State) :
    s.listedCabins = (s.railCabins ++ s.trainCabins .up ++ s.trainCabins .down).filterMap id := by
  rw [State.listedCabins_eq, List.filterMap_append, List.filterMap_append, State.trainCabins, State.trainCabins,
    List.filterMap_map, List.filterMap_map]
  rfl

/-- A sound cabin table (R75). -/
def Tracker.TableSound (u : Tracker) : Prop :=
  u.cabins.length ≤ Config.cabinCapacity ∧ u.cabins.Pairwise (fun a b => a.id < b.id) ∧ ∀ e ∈ u.cabins, e.Sound

theorem State.listsSound_iff {s : State} : s.ListsSound ↔
    ((s.trainCabins .up).length ≤ Config.trainCapacity ∧ (s.trainCabins .down).length ≤ Config.trainCapacity ∧
      s.railCabins.length ≤ Config.stationCapacity ∧ s.listedCabins.Nodup) ∧ s.tracker.TableSound := by
  unfold State.ListsSound Tracker.TableSound State.trainCabins State.railCabins
  rw [List.length_map, List.length_map, List.length_map]
  exact ⟨fun ⟨a, b, c, d, e, f, g⟩ => ⟨⟨a, b, c, e⟩, d, f, g⟩, fun ⟨⟨a, b, c, e⟩, d, f, g⟩ => ⟨a, b, c, d, e, f, g⟩⟩

/-- Records leave the lists, and none joins. -/
theorem State.ListsSound.sublist {s t : State} (h : s.ListsSound) (hrail : t.railCabins.Sublist s.railCabins)
    (htrains : ∀ x, (t.trainCabins x).Sublist (s.trainCabins x)) (htable : t.tracker.cabins = s.tracker.cabins) :
    t.ListsSound := by
  rw [State.listsSound_iff] at h ⊢
  obtain ⟨⟨hup, hdown, hstation, hnodup⟩, hcabins⟩ := h
  refine ⟨⟨(htrains .up).length_le.trans hup, (htrains .down).length_le.trans hdown, hrail.length_le.trans hstation, ?_⟩, ?_⟩
  · rw [State.listedCabins_eq_filterMap] at hnodup ⊢
    exact hnodup.sublist (((hrail.append (htrains .up)).append (htrains .down)).filterMap id)
  · unfold Tracker.TableSound; rw [htable]; exact hcabins

/-- A change of the cabin table that leaves it sound. -/
theorem State.ListsSound.retable {s : State} (h : s.ListsSound) {f : Tracker → Tracker}
    (hlists : (f s.tracker).lists = s.tracker.lists) (htable : s.tracker.TableSound → (f s.tracker).TableSound) :
    (s.modTracker f).ListsSound := by
  rw [State.listsSound_iff] at h ⊢
  obtain ⟨hbounds, hcabins⟩ := h
  have htrains : ∀ x, (s.modTracker f).trainCabins x = s.trainCabins x := fun x => by
    simp only [State.trainCabins, State.modTracker_tracker, hlists]
  refine ⟨?_, htable hcabins⟩
  rw [State.listedCabins_eq_filterMap, htrains, htrains] at *
  exact hbounds

/-- A train list replaced by one that records the same cabins. -/
theorem State.ListsSound.setTrain {s : State} (h : s.ListsSound) {t : Track} {l : List TrainRecord}
    (hl : (l.map fun r => r.cabin).Sublist (s.trainCabins t)) :
    (s.modTracker fun u => { u with lists := u.lists.set t l }).ListsSound := by
  refine h.sublist (.refl _) (fun x => ?_) rfl
  cases t <;> cases x
  · exact hl
  · exact .refl _
  · exact .refl _
  · exact hl

theorem map_cabin_modify (l : List TrainRecord) (i : Nat) {f : TrainRecord → TrainRecord} (hf : ∀ r, (f r).cabin = r.cabin) :
    (l.modify i f).map (fun r => r.cabin) = l.map fun r => r.cabin := by
  apply List.ext_getElem
  · simp
  · intro j h1 h2
    simp only [List.getElem_map, List.getElem_modify]
    split
    · exact hf _
    · rfl

theorem State.Keeps.modTrain (h : s₀.Keeps s) (t : Track) (i : Nat) {f : TrainRecord → TrainRecord}
    (hf : ∀ r, (f r).cabin = r.cabin) : s₀.Keeps (s.modTrain t i f) :=
  h.modTracker rfl fun k => k.setTrain (by rw [map_cabin_modify _ _ hf]; exact .refl _)

theorem State.Keeps.missSeat (h : s₀.Keeps s) (t : Track) (cabin : Option Nat) (r : SeatRef) :
    s₀.Keeps (s.missSeat t cabin r) :=
  (h.trackRaise _ _ _).countTracker _

theorem State.Keeps.sweepSeats (t : Track) (i : Nat) (cabin : Option Nat) (x : Int) (l : List SeatRef) :
    ∀ {s : State}, s₀.Keeps s → s₀.Keeps (s.sweepSeats t i cabin x l) := by
  induction l with
  | nil => exact fun h => h
  | cons r l ih =>
    intro s h
    unfold State.sweepSeats
    dsimp only
    split
    · exact ih ((h.missSeat _ _ _).modTrain _ _ fun _ => rfl)
    · exact h

theorem State.Keeps.sweepRecord (h : s₀.Keeps s) (t : Track) (i : Nat) : s₀.Keeps (s.sweepRecord t i) := by
  unfold State.sweepRecord
  split
  · exact h
  · exact State.Keeps.sweepSeats _ _ _ _ _ h

theorem State.Keeps.sweepList (h : s₀.Keeps s) (t : Track) : s₀.Keeps (s.sweepList t) :=
  State.Keeps.foldl (fun _ i k => k.sweepRecord t i) _ h

theorem State.Keeps.sweepLists (h : s₀.Keeps s) : s₀.Keeps s.sweepLists := (h.sweepList .up).sweepList .down

/-! ### The odometer and the gate -/

theorem State.Keeps.pulse (h : s₀.Keeps s) (dir : Direction) : s₀.Keeps (s.pulse dir) := by
  have hpulse : s₀.Keeps ((s.modRope fun u => u.pulse dir).countRope (pulseCounter dir)) := by
    refine State.Keeps.countRope (h.modRopeSound (fun k => ?_) ?_) _
    · obtain ⟨hspeed, ⟨hlow, hhigh⟩, hrest⟩ := k
      cases dir
      · refine ⟨hspeed, ?_, hrest⟩
        show -32768 ≤ (if s.rope.gate = 32767 then s.rope.gate else s.rope.gate + 1) ∧
          (if s.rope.gate = 32767 then s.rope.gate else s.rope.gate + 1) ≤ 32767
        split <;> omega
      · refine ⟨hspeed, ?_, hrest⟩
        show -32768 ≤ (if s.rope.gate = -32768 then s.rope.gate else s.rope.gate - 1) ∧
          (if s.rope.gate = -32768 then s.rope.gate else s.rope.gate - 1) ≤ 32767
        split <;> omega
    · cases dir <;> rfl
  unfold State.pulse
  dsimp only
  split
  · exact hpulse.countRope _
  · exact hpulse

theorem State.Keeps.tachStop (h : s₀.Keeps s) : s₀.Keeps s.tachStop := by
  unfold State.tachStop
  exact (h.modRope ⟨rfl, rfl, rfl, rfl, rfl⟩).judge _ _ _

theorem State.Keeps.tachStart (h : s₀.Keeps s) : s₀.Keeps s.tachStart := h.modRope ⟨rfl, rfl, rfl, rfl, rfl⟩

theorem State.Keeps.judgeOverspeed (h : s₀.Keeps s) : s₀.Keeps s.judgeOverspeed := by
  unfold State.judgeOverspeed
  exact (h.modRope ⟨rfl, rfl, rfl, rfl, rfl⟩).judge _ _ _

theorem State.Keeps.judgeReverse (h : s₀.Keeps s) : s₀.Keeps s.judgeReverse := by
  unfold State.judgeReverse
  exact (h.modRope ⟨rfl, rfl, rfl, rfl, rfl⟩).judge _ _ _

theorem State.Keeps.judgeTach (h : s₀.Keeps s) (was : Bool) : s₀.Keeps (s.judgeTach was) := by
  unfold State.judgeTach
  split
  · split
    · exact h.tachStart
    · exact h
  · split
    · exact h.tachStop
    · exact h

/-- The rope once a gate has ended: its speed, its zero-gate count and its standstill (R60, R61). -/
def State.gateJudged (s : State) : State := s.setSpeed.modRope Rope.judgeStandstill

@[simp] theorem State.setSpeed_speed (s : State) :
    s.setSpeed.rope.speed = clampInt (-20000) 20000 (gateSpeed s.rope.gate s.rope.table.pitch) := by
  unfold State.setSpeed; dsimp only; split <;> rfl

theorem State.setSpeed_rest (s : State) : s.setSpeed.rope.gate = s.rope.gate ∧ s.setSpeed.rope.zeros = s.rope.zeros ∧
    s.setSpeed.rope.standstill = s.rope.standstill ∧ s.setSpeed.rope.slip = s.rope.slip := by
  unfold State.setSpeed; dsimp only; split <;> exact ⟨rfl, rfl, rfl, rfl⟩

theorem State.gateJudged_ropeSound {s : State} (h : s.RopeSound) : s.gateJudged.RopeSound := by
  obtain ⟨hgate, hzeros, hstand, hslip⟩ := s.setSpeed_rest
  obtain ⟨-, hrange, hmax, hstill, -, hbound, hmodes⟩ := h
  have hspeed := s.setSpeed_speed
  unfold State.gateJudged State.RopeSound
  simp only [State.modRope_rope, State.modRope_tracker, State.setSpeed_tracker, Rope.judgeStandstill]
  split
  · next hzero =>
    rw [hgate] at hzero
    have hspeed0 : s.setSpeed.rope.speed = 0 := by rw [hspeed, hzero]; simp [gateSpeed, clampInt]
    simp only [hgate, hzeros, hstand, hslip, hspeed0, satAdd]
    refine ⟨by simp, hrange, by omega, ?_, fun _ => trivial, hbound, hmodes⟩
    rw [Bool.or_eq_true, decide_eq_true_eq, hstill]
    omega
  · simp only [hgate, hslip, hspeed]
    exact ⟨natAbs_clampInt_le 20000 _, hrange, by omega, by simp, by simp, hbound, hmodes⟩

theorem State.gateJudged_frame (s : State) : s.gateJudged.chain = s.chain ∧ s.gateJudged.tracker = s.tracker ∧
    s.gateJudged.rail = s.rail ∧ s.gateJudged.tel = s.tel ∧ s.gateJudged.doors = s.doors := by
  simp [State.gateJudged]

theorem State.gateJudged_port (s : State) (p : Port) : s.gateJudged.port p = s.port p := by
  unfold State.gateJudged State.setSpeed
  dsimp only
  split <;> simp

/-- The gate's judgement of the rope, with the stop timer stopped on entry to STANDSTILL (R181). -/
theorem State.Keeps.gateJudged (h : s₀.Keeps s) :
    s₀.Keeps (if s.gateJudged.rope.standstill && !s.rope.standstill then s.gateJudged.stopTimerStop else s.gateJudged) := by
  obtain ⟨hchain, htracker, hrail, htel, hdoors⟩ := s.gateJudged_frame
  have hrail' : s.gateJudged.railCabins = s.railCabins := State.railCabins_congr (by rw [hrail])
  refine h.trans ?_
  split
  · refine ⟨⟨fun p hp => ?_, fun k => ?_, fun k => (State.gateJudged_ropeSound k).of_eq rfl rfl rfl rfl rfl rfl,
      fun k => k.of_eq (by simp [htracker]) (by simp [htracker]) hrail', fun k => ?_, fun k => k.of_eq hdoors ?_⟩, ?_⟩
    · simp only [State.stopTimerStop, State.modChain_port, State.gateJudged_port]; exact hp
    · obtain ⟨hcodes, hcauses, htable, -⟩ := k
      rw [← hchain] at hcodes hcauses htable
      exact ⟨hcodes, hcauses, htable, fun _ => rfl⟩
    · rw [State.stopTimerStop_tel, htel]; exact k
    · show s.gateJudged.chain.asserted = _; rw [hchain]
    · show _ ≤ s.gateJudged.chain.asserted.rank; rw [hchain]
  · next hstill =>
    refine ⟨⟨fun p hp => ?_, fun k => ?_, State.gateJudged_ropeSound,
      fun k => k.of_eq (by rw [htracker]) (by rw [htracker]) hrail', fun k => ?_, fun k => k.of_eq hdoors (by rw [hchain])⟩, ?_⟩
    · rw [State.gateJudged_port]; exact hp
    · obtain ⟨hcodes, hcauses, htable, htimer⟩ := k
      unfold State.ChainSound
      rw [hchain]
      refine ⟨hcodes, hcauses, htable, fun hs => htimer ?_⟩
      simpa [hs] using hstill
    · rw [htel]; exact k
    · rw [hchain]

theorem State.Keeps.gate (h : s₀.Keeps s) : s₀.Keeps s.gate := by
  have hjudged := ((h.gateJudged.judgeOverspeed).judgeReverse).judgeTach s.rope.standstill
  refine State.Keeps.sweepLists (hjudged.modRopeSound (fun k => ?_) rfl)
  obtain ⟨hspeed, -, hrest⟩ := k
  exact ⟨hspeed, ⟨by simp, by simp⟩, hrest⟩

theorem State.Keeps.driveRunChanged (h : s₀.Keeps s) : s₀.Keeps s.driveRunChanged := by
  unfold State.driveRunChanged
  split
  · split
    · exact h.tachStart
    · exact h
  · exact h.tachStop

theorem State.Keeps.tachExpiry (h : s₀.Keeps s) : s₀.Keeps s.tachExpiry := by
  unfold State.tachExpiry
  split
  · exact (h.modRope ⟨rfl, rfl, rfl, rfl, rfl⟩).raiseHeld _ _
  · exact h

end
end Sys2Proof.Machine

namespace Sys2Proof.Machine

/-! ## The cabin table -/

section
variable {s₀ s : State}

theorem Tracker.TableSound.modEntry {u : Tracker} (h : u.TableSound) (id : Nat) {f : CabinEntry → CabinEntry}
    (hid : ∀ e, (f e).id = e.id) (hf : ∀ e, e.Sound → (f e).Sound) : (u.modEntry id f).TableSound := by
  obtain ⟨hlen, hsorted, hsound⟩ := h
  refine ⟨by simpa [Tracker.modEntry] using hlen, List.pairwise_map.mpr (hsorted.imp fun {a b} hab => ?_), fun e he => ?_⟩
  · have hkeep : ∀ e : CabinEntry, (if e.id = id then f e else e).id = e.id := by intro e; split <;> simp [hid]
    rw [hkeep, hkeep]; exact hab
  · obtain ⟨e', he', rfl⟩ := List.mem_map.mp he
    split
    · exact hf _ (hsound e' he')
    · exact hsound e' he'

theorem insertCabin_length (e : CabinEntry) (l : List CabinEntry) : (insertCabin e l).length = l.length + 1 := by
  induction l with
  | nil => rfl
  | cons x l ih => unfold insertCabin; split <;> simp [ih]

theorem mem_insertCabin {e x : CabinEntry} {l : List CabinEntry} : x ∈ insertCabin e l ↔ x = e ∨ x ∈ l := by
  induction l with
  | nil => simp [insertCabin]
  | cons y l ih =>
    unfold insertCabin
    split
    · simp
    · rw [List.mem_cons, ih, List.mem_cons]; tauto

theorem insertCabin_sorted {e : CabinEntry} {l : List CabinEntry} (h : l.Pairwise fun a b => a.id < b.id)
    (hnew : ∀ x ∈ l, x.id ≠ e.id) : (insertCabin e l).Pairwise fun a b => a.id < b.id := by
  induction l with
  | nil => simp [insertCabin]
  | cons y l ih =>
    obtain ⟨hy, hl⟩ := List.pairwise_cons.mp h
    unfold insertCabin
    split
    · next hlt =>
      refine List.pairwise_cons.mpr ⟨fun x hx => ?_, h⟩
      obtain rfl | hx := List.mem_cons.mp hx
      · exact hlt
      · exact Nat.lt_trans hlt (hy x hx)
    · next hge =>
      refine List.pairwise_cons.mpr ⟨fun x hx => ?_, ih hl fun x hx => hnew x (List.mem_cons_of_mem _ hx)⟩
      obtain rfl | hx := mem_insertCabin.mp hx
      · have := hnew y List.mem_cons_self; omega
      · exact hy x hx

theorem Tracker.TableSound.insert {u : Tracker} (h : u.TableSound) {e : CabinEntry} (he : e.Sound)
    (hnew : u.entry e.id = none) (hroom : u.cabins.length < Config.cabinCapacity) :
    ({ u with cabins := insertCabin e u.cabins } : Tracker).TableSound := by
  obtain ⟨-, hsorted, hsound⟩ := h
  refine ⟨?_, insertCabin_sorted hsorted (Tracker.entry_eq_none_iff.mp hnew), fun x hx => ?_⟩
  · show (insertCabin e u.cabins).length ≤ _
    rw [insertCabin_length]; omega
  · obtain rfl | hx := mem_insertCabin.mp hx
    · exact he
    · exact hsound x hx

theorem Tracker.TableSound.sublist {u v : Tracker} (h : u.TableSound) (hs : v.cabins.Sublist u.cabins) : v.TableSound := by
  obtain ⟨hlen, hsorted, hsound⟩ := h
  exact ⟨hs.length_le.trans hlen, hsorted.sublist hs, fun e he => hsound e (hs.subset he)⟩

theorem State.Keeps.modEntry (h : s₀.Keeps s) (id : Nat) {f : CabinEntry → CabinEntry} (hid : ∀ e, (f e).id = e.id)
    (hf : ∀ e, e.Sound → (f e).Sound) : s₀.Keeps (s.modTracker fun u => u.modEntry id f) :=
  h.modTracker rfl fun k => k.retable rfl fun ht => ht.modEntry id hid hf

theorem State.Keeps.locate (h : s₀.Keeps s) (id : Nat) (l : Location) : s₀.Keeps (s.locate id l) :=
  h.modEntry id (fun _ => rfl) fun _ he => he

theorem State.Keeps.locateSome (h : s₀.Keeps s) (cabin : Option Nat) (l : Location) : s₀.Keeps (s.locateSome cabin l) := by
  unfold State.locateSome
  split
  · exact h.locate _ _
  · exact h

theorem State.Keeps.resolve (h : s₀.Keeps s) {id : Nat} (hid : 1 ≤ id ∧ id ≤ 4095) : s₀.Keeps (s.resolve id).1 := by
  unfold State.resolve
  split
  · refine h.modEntry id (fun _ => rfl) fun e ⟨hlow, hhigh, hkind⟩ => ⟨hlow, hhigh, ?_⟩
    simpa using hkind
  · next hnew =>
    split
    · next hroom =>
      simp only [Bool.and_eq_true, decide_eq_true_eq] at hroom
      refine State.Keeps.countTracker (h.modTracker rfl fun k => k.retable rfl fun ht => ht.insert ⟨hid.1, hid.2, ?_⟩ ?_ hroom.2) _
      · simp [learnedEntry]
      · exact Option.not_isSome_iff_eq_none.mp hnew
    · exact (h.raiseMomentary _ _).countTracker _

/-- An entry after one more minute: the same cabin, its idle time still that of its kind. -/
theorem CabinEntry.older_id (e : CabinEntry) : e.older.id = e.id := by unfold CabinEntry.older; split <;> rfl

theorem CabinEntry.Sound.older {e : CabinEntry} (h : e.Sound) : e.older.Sound := by
  obtain ⟨hlow, hhigh, hkind⟩ := h
  unfold CabinEntry.older
  split
  · exact ⟨hlow, hhigh, by simpa using hkind⟩
  · exact ⟨hlow, hhigh, hkind⟩

theorem State.Keeps.ageSweep (h : s₀.Keeps s) : s₀.Keeps s.ageSweep := by
  refine h.modTracker rfl fun k => k.retable rfl fun ht => ?_
  have haged : ({ s.tracker with cabins := s.tracker.cabins.map CabinEntry.older } : Tracker).TableSound := by
    obtain ⟨hlen, hsorted, hsound⟩ := ht
    refine ⟨by simpa using hlen, List.pairwise_map.mpr (hsorted.imp fun {a b} hab => ?_), fun e he => ?_⟩
    · rw [CabinEntry.older_id, CabinEntry.older_id]; exact hab
    · obtain ⟨e', he', rfl⟩ := List.mem_map.mp he
      exact (hsound e' he').older
  exact haged.sublist List.filter_sublist

theorem State.Keeps.countTrip (h : s₀.Keeps s) (cabin : Option Nat) : s₀.Keeps (s.countTrip cabin) := by
  unfold State.countTrip
  split
  · exact h.modEntry _ (fun _ => rfl) fun _ he => he
  · exact h

theorem State.Keeps.rebuildTrack (h : s₀.Keeps s) (t : Track) : s₀.Keeps (s.rebuildTrack t) := by
  unfold State.rebuildTrack
  dsimp only
  split
  · exact h
  · refine h.modTracker rfl fun k => k.sublist (.refl _) (fun x => ?_) rfl
    have hsame : ∀ l : List TrainRecord,
        ((l.map fun r => { r with next := newIndex s.poller (buildSequence s.poller t) (s.rope.position t r) }).map
          fun r => r.cabin).Sublist (l.map fun r => r.cabin) := fun l => by rw [List.map_map]; exact .refl _
    cases t <;> cases x
    · exact hsame _
    · exact .refl _
    · exact .refl _
    · exact hsame _

theorem State.Keeps.rebuildSequences (h : s₀.Keeps s) : s₀.Keeps s.rebuildSequences :=
  (h.rebuildTrack .up).rebuildTrack .down

/-! ## Placement: the cabin leaves every list, and joins one after -/

theorem State.listedCabins_congr {s t : State} (hrail : t.railCabins = s.railCabins)
    (hlists : t.tracker.lists = s.tracker.lists) : t.listedCabins = s.listedCabins := by
  rw [State.listedCabins_eq, State.listedCabins_eq, hrail, hlists]

@[simp] theorem State.raise_railCabins (s : State) (c : Cause) (d : Detail) (m : Bool) :
    (s.raise c d m).railCabins = s.railCabins := by
  cases hin : s.inSet c
  · rw [State.raise_new hin]
    refine (State.railCabins_congr (congrArg StationRail.cabins (State.handOnEntry_rail _ _))).trans ?_
    exact (State.judgeRise_railCabins _).trans rfl
  · rw [State.raise_known hin]
    exact (State.judgeRise_railCabins _).trans rfl

@[simp] theorem State.raiseMomentary_railCabins (s : State) (c : Cause) (d : Detail) :
    (s.raiseMomentary c d).railCabins = s.railCabins := s.raise_railCabins c d true

@[simp] theorem State.raiseMomentary_listed (s : State) (c : Cause) (d : Detail) :
    (s.raiseMomentary c d).listedCabins = s.listedCabins :=
  State.listedCabins_congr (by simp) (by simp)

@[simp] theorem State.trackRaise_listed (s : State) (t : Track) (c : Cause) (d : Detail) :
    (s.trackRaise t c d).listedCabins = s.listedCabins := by
  unfold State.trackRaise
  split
  · exact s.raiseMomentary_listed c d
  · rfl

@[simp] theorem State.orderFaultIf_listed (s : State) (b : Bool) (t : Track) (cabin : Option Nat) :
    (s.orderFaultIf b t cabin).listedCabins = s.listedCabins := by
  unfold State.orderFaultIf
  split
  · simp
  · rfl

@[simp] theorem State.locate_listed (s : State) (id : Nat) (l : Location) :
    (s.locate id l).listedCabins = s.listedCabins := rfl

@[simp] theorem State.recordLeft_listed (s : State) (n : BitVec 16) : (s.recordLeft n).listedCabins = s.listedCabins :=
  State.listedCabins_congr (State.railCabins_congr (by simp)) (by simp)

/-- The channels lose a served cabin, and nothing else of them changes. -/
theorem State.recordLeft_channel (s : State) (n : BitVec 16) (k : Fin 8) :
    ∃ v, (s.recordLeft n).channel k = { s.channel k with served := v } := by
  have hget : (s.recordLeft n).channel k =
      match (s.channel k).served with
      | some v => if v.number = n then { s.channel k with served := none } else s.channel k
      | none => s.channel k := vecMap_get _ _ _
  rw [hget]
  split
  · split
    · exact ⟨none, rfl⟩
    · exact ⟨_, rfl⟩
  · exact ⟨_, rfl⟩

theorem State.Keeps.recordLeft (h : s₀.Keeps s) (n : BitVec 16) : s₀.Keeps (s.recordLeft n) := by
  refine h.trans (.of_doors (fun k => ?_) (hrail := State.railCabins_congr (by simp)))
  rw [State.doorsSound_iff] at k ⊢
  intro j
  obtain ⟨v, hv⟩ := s.recordLeft_channel n j
  obtain ⟨hfits, hsupply⟩ := k j
  rw [hv]
  exact ⟨Channel.fits_served hfits v, fun hp => (Doors.supplied_congr rfl rfl rfl).trans (hsupply hp)⟩

theorem List.map_filter_sublist {α β : Type} (p : α → Bool) (f : α → β) (l : List α) :
    ((l.filter p).map f).Sublist (l.map f) := List.filter_sublist.map f

theorem State.Keeps.removeFromStation (h : s₀.Keeps s) (id : Nat) : s₀.Keeps (s.removeFromStation id).1 := by
  unfold State.removeFromStation
  split
  · refine State.Keeps.recordLeft (State.Keeps.countRail (h.modRail fun k => ?_) _) _
    exact k.sublist (List.map_filter_sublist _ _ _) (fun _ => .refl _) rfl
  · exact h

theorem State.Keeps.removeFromTrain (h : s₀.Keeps s) (t : Track) (id : Nat) : s₀.Keeps (s.removeFromTrain t id).1 := by
  unfold State.removeFromTrain
  split
  · exact h.modTracker rfl fun k => k.setTrain (List.map_filter_sublist _ _ _)
  · exact h

theorem State.Keeps.removeEverywhere (h : s₀.Keeps s) (id : Nat) : s₀.Keeps (s.removeEverywhere id).1 :=
  ((h.removeFromStation id).removeFromTrain .up id).removeFromTrain .down id

theorem State.removeFromStation_railCabins (s : State) (id : Nat) :
    some id ∉ (s.removeFromStation id).1.railCabins := by
  unfold State.removeFromStation
  split
  · rw [State.railCabins_congr (t := State.recordLeft _ _) (by rw [State.recordLeft_rail])]
    simp [State.railCabins]
  · next hnone =>
    simpa [State.railCabins] using hnone

theorem State.removeFromTrain_trainCabins (s : State) (t : Track) (id : Nat) :
    some id ∉ (s.removeFromTrain t id).1.trainCabins t ∧
      ∀ x, x ≠ t → (s.removeFromTrain t id).1.trainCabins x = s.trainCabins x := by
  unfold State.removeFromTrain
  split
  · refine ⟨?_, fun x hx => ?_⟩
    · cases t <;> simp [State.trainCabins, PerTrack.get, PerTrack.set]
    · cases t <;> cases x <;> first | rfl | exact absurd rfl hx
  · next hnone =>
    refine ⟨?_, fun _ _ => rfl⟩
    simpa [State.trainCabins] using hnone

/-- After its removal from every list a cabin is in none (R87). -/
theorem State.removeEverywhere_unlisted (s : State) (id : Nat) : id ∉ (s.removeEverywhere id).1.listedCabins := by
  have hstation := s.removeFromStation_railCabins id
  obtain ⟨hup, -⟩ := (s.removeFromStation id).1.removeFromTrain_trainCabins .up id
  obtain ⟨hdown, hkeep⟩ := ((s.removeFromStation id).1.removeFromTrain .up id).1.removeFromTrain_trainCabins .down id
  have hrail : (s.removeEverywhere id).1.railCabins = (s.removeFromStation id).1.railCabins :=
    State.railCabins_congr (by simp [State.removeEverywhere])
  have hup' : (s.removeEverywhere id).1.trainCabins .up =
      ((s.removeFromStation id).1.removeFromTrain .up id).1.trainCabins .up := hkeep .up (by simp)
  have hdown' : some id ∉ (s.removeEverywhere id).1.trainCabins .down := hdown
  rw [State.listedCabins_eq_filterMap, hrail, hup']
  simpa using ⟨hstation, hup, hdown'⟩

theorem State.Keeps.orderFaultIf (h : s₀.Keeps s) (b : Bool) (t : Track) (cabin : Option Nat) :
    s₀.Keeps (s.orderFaultIf b t cabin) := by
  unfold State.orderFaultIf
  split
  · exact h.trackRaise _ _ _
  · exact h

theorem State.Keeps.place (h : s₀.Keeps s) (id : Nat) (l : Location) : s₀.Keeps (s.place id l) :=
  (((((h.removeEverywhere id).orderFaultIf _ _ _).orderFaultIf _ _ _).orderFaultIf _ _ _).locate _ _)

theorem State.place_unlisted (s : State) (id : Nat) (l : Location) : id ∉ (s.place id l).listedCabins := by
  have := s.removeEverywhere_unlisted id
  simpa [State.place] using this

theorem State.Keeps.placeSome (h : s₀.Keeps s) (cabin : Option Nat) (l : Location) : s₀.Keeps (s.placeSome cabin l) := by
  unfold State.placeSome
  split
  · exact h.place _ _
  · exact h

/-- Whether the cabin of a record, if it has one, is in no list. -/
def State.Unlisted (s : State) (cabin : Option Nat) : Prop := ∀ id, cabin = some id → id ∉ s.listedCabins

theorem State.unlisted_none (s : State) : s.Unlisted none := fun _ h => by cases h

theorem State.Unlisted.congr {s t : State} {cabin : Option Nat} (h : s.Unlisted cabin)
    (hl : t.listedCabins = s.listedCabins) : t.Unlisted cabin := fun id e => hl ▸ h id e

theorem State.placeSome_unlisted (s : State) (cabin : Option Nat) (l : Location) :
    (s.placeSome cabin l).Unlisted cabin := by
  rintro id rfl
  exact s.place_unlisted id l

/-- A record whose cabin is in no list joins one of the three. -/
theorem State.ListsSound.join {s t : State} (h : s.ListsSound) {cabin : Option Nat} (hnew : s.Unlisted cabin)
    {a b : List (Option Nat)} (hs : s.railCabins ++ s.trainCabins .up ++ s.trainCabins .down = a ++ b)
    (ht : t.railCabins ++ t.trainCabins .up ++ t.trainCabins .down = a ++ cabin :: b)
    (hup : (t.trainCabins .up).length ≤ Config.trainCapacity)
    (hdown : (t.trainCabins .down).length ≤ Config.trainCapacity) (hrail : t.railCabins.length ≤ Config.stationCapacity)
    (htable : t.tracker.cabins = s.tracker.cabins) : t.ListsSound := by
  rw [State.listsSound_iff] at h ⊢
  obtain ⟨⟨-, -, -, hnodup⟩, hcabins⟩ := h
  refine ⟨⟨hup, hdown, hrail, ?_⟩, by unfold Tracker.TableSound; rw [htable]; exact hcabins⟩
  have hlisted : s.listedCabins = (a ++ b).filterMap id := by rw [State.listedCabins_eq_filterMap, hs]
  rw [State.listedCabins_eq_filterMap, ht, (List.perm_middle.filterMap id).nodup_iff]
  rw [hlisted] at hnodup
  cases cabin with
  | none => exact hnodup
  | some i => exact List.nodup_cons.mpr ⟨hlisted ▸ hnew i rfl, hnodup⟩

theorem State.Keeps.appendTrain (h : s₀.Keeps s) (t : Track) {r : TrainRecord} (counter : Fin 22)
    (hnew : s.Unlisted r.cabin) : s₀.Keeps (s.appendTrain t r counter) := by
  unfold State.appendTrain
  split
  · next hroom =>
    have hroom' : (s.trainCabins t ++ [r.cabin]).length ≤ Config.trainCapacity := by
      rw [List.length_append, State.trainCabins, List.length_map]; exact hroom
    refine State.Keeps.countTracker (h.modTracker rfl fun k => ?_) _
    obtain ⟨⟨hup, hdown, hstation, -⟩, -⟩ := State.listsSound_iff.mp k
    cases t
    · have hjoined : (s.modTracker fun u => { u with lists := u.lists.set .up (u.lists.get .up ++ [r]) }).trainCabins .up =
          s.trainCabins .up ++ [r.cabin] := List.map_append
      refine k.join hnew (a := s.railCabins ++ s.trainCabins .up) rfl ?_ (hjoined ▸ hroom') hdown hstation rfl
      rw [hjoined, ← List.append_assoc, List.append_assoc]; rfl
    · have hjoined : (s.modTracker fun u => { u with lists := u.lists.set .down (u.lists.get .down ++ [r]) }).trainCabins
          .down = s.trainCabins .down ++ [r.cabin] := List.map_append
      refine k.join hnew (List.append_nil _).symm ?_ hup (hjoined ▸ hroom') hstation rfl
      rw [hjoined, ← List.append_assoc]; rfl
  · exact ((h.raiseMomentary _ _).locateSome _ _).countTracker _

theorem State.countTrip_listed (s : State) (cabin : Option Nat) : (s.countTrip cabin).listedCabins = s.listedCabins := by
  unfold State.countTrip; split <;> rfl

theorem State.Keeps.valleyLaunch (h : s₀.Keeps s) (cabin : Option Nat) (inferred : Bool) (p : Profile) :
    s₀.Keeps (s.valleyLaunch cabin inferred p) :=
  ((h.countTrip cabin).placeSome cabin .up).appendTrain .up _ (State.placeSome_unlisted _ _ _)

/-! ## Arrivals, departures and passages -/

theorem State.Keeps.checkArrivalPosition (h : s₀.Keeps s) (t : Track) (r : TrainRecord) (age : Nat) :
    s₀.Keeps (s.checkArrivalPosition t r age) := by
  unfold State.checkArrivalPosition
  split
  · exact h
  · dsimp only
    split
    · exact h.offerDeviation _ _
    · exact h.trackRaise _ _ _

theorem State.Keeps.arrivalChecks (h : s₀.Keeps s) (t : Track) (i age : Nat) : s₀.Keeps (s.arrivalChecks t i age) := by
  unfold State.arrivalChecks
  split
  · exact h
  · refine State.Keeps.countTracker (State.Keeps.modTracker (State.Keeps.foldl (fun _ x k => k.missSeat _ _ x) _
      ((h.orderFaultIf _ _ _).checkArrivalPosition _ _ _)) rfl fun k => k.setTrain ?_) _
    exact (List.eraseIdx_sublist _ _).map _

theorem State.Keeps.unknownArrival (h : s₀.Keeps s) (t : Track) (cabin : Option Nat) :
    s₀.Keeps (s.unknownArrival t cabin) :=
  (h.countTracker _).trackRaise _ _ _

theorem State.Keeps.unknownSummitArrival (h : s₀.Keeps s) (id : Nat) : s₀.Keeps (s.unknownSummitArrival id) :=
  (((h.removeEverywhere id).unknownArrival _ _).orderFaultIf _ _ _).locate _ _

theorem State.Keeps.summitArrivalUnread (h : s₀.Keeps s) (age : Nat) : s₀.Keeps (s.summitArrivalUnread age) := by
  unfold State.summitArrivalUnread
  split
  · exact ((h.arrivalChecks _ _ _).raiseMomentary _ _).locateSome _ _
  · exact (h.raiseMomentary _ _).unknownArrival _ _

theorem State.Keeps.summitArrivalGiven (h : s₀.Keeps s) (id age : Nat) : s₀.Keeps (s.summitArrivalGiven id age) := by
  unfold State.summitArrivalGiven
  split
  · exact (h.arrivalChecks _ _ _).locate _ _
  · split
    · exact (h.arrivalChecks _ _ _).place _ _
    · exact h.unknownSummitArrival _

theorem State.Keeps.summitArrivalUnresolved (h : s₀.Keeps s) (age : Nat) : s₀.Keeps (s.summitArrivalUnresolved age) := by
  unfold State.summitArrivalUnresolved
  split
  · exact h.arrivalChecks _ _ _
  · exact h.unknownArrival _ _

theorem State.Keeps.summitArrival (h : s₀.Keeps s) {cabin : Nat} (age : Nat) (hcabin : cabin ≤ 4095) :
    s₀.Keeps (s.summitArrival cabin age) := by
  unfold State.summitArrival
  split
  · exact h.summitArrivalUnread _
  · next hne =>
    have hres := h.resolve (id := cabin) ⟨Nat.pos_of_ne_zero hne, hcabin⟩
    split
    · next heq => rw [heq] at hres; exact hres.summitArrivalGiven _ _
    · next heq => rw [heq] at hres; exact hres.summitArrivalUnresolved _

theorem State.Keeps.placeDeparture (h : s₀.Keeps s) (id : Nat) : s₀.Keeps (s.placeDeparture id) :=
  (((((h.orderFaultIf _ _ _).removeEverywhere id).orderFaultIf _ _ _).orderFaultIf _ _ _).orderFaultIf _ _ _).locate _ _

theorem State.placeDeparture_unlisted (s : State) (id : Nat) : id ∉ (s.placeDeparture id).listedCabins := by
  have := (s.orderFaultIf (s.tracker.departsWrongly id) .down (some id)).removeEverywhere_unlisted id
  simpa [State.placeDeparture] using this

theorem State.Keeps.appendDeparture (h : s₀.Keeps s) {cabin : Option Nat} (age : Nat) (hnew : s.Unlisted cabin) :
    s₀.Keeps (s.appendDeparture cabin age) :=
  h.appendTrain _ _ hnew

theorem State.Keeps.summitDeparture (h : s₀.Keeps s) {cabin : Nat} (age : Nat) (hcabin : cabin ≤ 4095) :
    s₀.Keeps (s.summitDeparture cabin age) := by
  unfold State.summitDeparture
  split
  · exact (h.raiseMomentary _ _).appendDeparture _ (State.unlisted_none _)
  · next hne =>
    have hres := h.resolve (id := cabin) ⟨Nat.pos_of_ne_zero hne, hcabin⟩
    split
    · next heq =>
      rw [heq] at hres
      refine (hres.placeDeparture cabin).appendDeparture _ ?_
      rintro _ ⟨⟩
      exact State.placeDeparture_unlisted _ _
    · next heq => rw [heq] at hres; exact hres.appendDeparture _ (State.unlisted_none _)

theorem State.Keeps.valleyArrivalGiven (h : s₀.Keeps s) (id : Nat) : s₀.Keeps (s.valleyArrivalGiven id) := by
  unfold State.valleyArrivalGiven
  split
  · exact h.arrivalChecks _ _ _
  · split
    · exact h.arrivalChecks _ _ _
    · exact h.unknownArrival _ _

theorem State.Keeps.valleyArrivalUnresolved (h : s₀.Keeps s) : s₀.Keeps s.valleyArrivalUnresolved := by
  unfold State.valleyArrivalUnresolved
  split
  · exact h.arrivalChecks _ _ _
  · exact h.unknownArrival _ _

theorem State.Keeps.valleyArrivalTake (h : s₀.Keeps s) {read : Option Nat}
    (hread : ∀ id, read = some id → 1 ≤ id ∧ id ≤ 4095) : s₀.Keeps (s.valleyArrivalTake read).1 := by
  unfold State.valleyArrivalTake
  split
  · next id =>
    have hres := h.resolve (hread id rfl)
    split
    · next heq => rw [heq] at hres; exact hres.valleyArrivalGiven _
    · next heq => rw [heq] at hres; exact hres.valleyArrivalUnresolved
  · split
    · exact h.arrivalChecks _ _ _
    · exact h

theorem State.Keeps.valleyArrival (h : s₀.Keeps s) {read : Option Nat}
    (hread : ∀ id, read = some id → 1 ≤ id ∧ id ≤ 4095) : s₀.Keeps (s.valleyArrival read).1 :=
  (h.valleyArrivalTake hread).placeSome _ _

/-- The cabin a valley arrival hands on has left every list. -/
theorem State.valleyArrival_unlisted (s : State) (read : Option Nat) :
    (s.valleyArrival read).1.Unlisted (s.valleyArrival read).2.cabin := by
  unfold State.valleyArrival
  exact State.placeSome_unlisted _ _ _

theorem State.Keeps.judgePassage (h : s₀.Keeps s) (t : Track) (r : TrainRecord) (seat : SeatRef) (age : Nat) :
    s₀.Keeps (s.judgePassage t r seat age) := by
  unfold State.judgePassage
  split
  · exact h
  · dsimp only
    split
    · exact h.offerDeviation _ _
    · exact (h.trackRaise _ _ _).countTracker _

theorem State.Keeps.matchPassage (h : s₀.Keeps s) (t : Track) (k : Nat) (seat : SeatRef) (age : Nat) :
    s₀.Keeps (s.matchPassage t k seat age) := by
  unfold State.matchPassage
  split
  · exact (h.trackRaise _ _ _).countTracker _
  · next i _ =>
    split
    · exact h
    · have hadvanced := h.modTrain (f := fun r => { r with next := k + 1 }) t i fun _ => rfl
      exact (hadvanced.countTracker _).judgePassage _ _ _ _

theorem State.Keeps.passage (h : s₀.Keeps s) (seat : SeatRef) (age : Nat) : s₀.Keeps (s.passage seat age) := by
  unfold State.passage
  split
  · exact h.countTracker _
  · exact h.matchPassage _ _ _ _

/-! ## Track modes (R72, R84) -/

/-- A track's mode changed, where that leaves the rope sound. -/
theorem State.Keeps.changeTrackMode (h : s₀.Keeps s) {t : Track} {m : TrackMode}
    (hrope : s.RopeSound → (s.modTracker fun u => { u with modes := u.modes.set t m }).RopeSound) :
    s₀.Keeps (s.changeTrackMode t m) := by
  have hmode : s.Keeps (s.modTracker fun u => { u with modes := u.modes.set t m }) :=
    ⟨⟨fun p => by simp, fun k => k.of_eq rfl rfl rfl rfl rfl, hrope, fun k => k.of_eq rfl rfl rfl, fun k => k,
      fun k => k.of_eq rfl rfl⟩, Nat.le_refl _⟩
  exact (h.trans hmode).notice _

theorem State.Keeps.trackOn (h : s₀.Keeps s) (t : Track) : s₀.Keeps (s.changeTrackMode t .tracked) := by
  refine h.changeTrackMode fun k => ?_
  obtain ⟨hspeed, hgate, hzeros, hstill, hzero, hbound, -⟩ := k
  refine ⟨hspeed, hgate, hzeros, hstill, hzero, hbound, fun hup hdown => ?_⟩
  cases t
  · cases hup
  · cases hdown

theorem State.changeTrackMode_modes (s : State) (t : Track) (m : TrackMode) :
    (s.changeTrackMode t m).tracker.modes = s.tracker.modes.set t m := by
  unfold State.changeTrackMode; rw [State.notice_tracker]; rfl

theorem State.changeTrackMode_carries (s : State) (t : Track) (m : TrackMode) : s.Carries (s.changeTrackMode t m) := by
  unfold State.changeTrackMode
  have hmode : s.Carries (s.modTracker fun u => { u with modes := u.modes.set t m }) := .of_eq rfl rfl
  exact hmode.trans (State.notice_carries _ _)

/-- A track turned off: the slip estimate is 0 where neither track stays TRACKED (R72). -/
theorem State.Keeps.takeTrackOff (h : s₀.Keeps s) (t : Track) : s₀.Keeps (s.takeTrackOff t) := by
  unfold State.takeTrackOff
  dsimp only
  split
  · have hports : s.Carries (s.changeTrackMode t .untracked) := s.changeTrackMode_carries _ _
    have hchain : (s.changeTrackMode t .untracked).chain = s.chain := by simp
    have hrope : (s.changeTrackMode t .untracked).rope = s.rope := by simp
    have hlists : (s.changeTrackMode t .untracked).tracker.lists = s.tracker.lists := by
      simp [State.changeTrackMode]
    have hcabins : (s.changeTrackMode t .untracked).tracker.cabins = s.tracker.cabins := by
      simp [State.changeTrackMode]
    have hrail : (s.changeTrackMode t .untracked).rail = s.rail := by simp
    have htel : (s.changeTrackMode t .untracked).tel = s.tel := by simp
    have hdoors : (s.changeTrackMode t .untracked).doors = s.doors := by simp
    generalize s.changeTrackMode t .untracked = w at *
    have hcleared : s.Keeps (w.modRope fun u => { u with slip := 0 }) := by
      refine ⟨⟨fun p => (hports p).sound, fun k => ?_, fun k => ?_, fun k => ?_, fun k => ?_, fun k => ?_⟩, ?_⟩
      · refine k.of_eq (congrArg _ hchain) (congrArg _ hchain) (congrArg _ hchain) (congrArg _ hchain) ?_
        show w.rope.standstill = s.rope.standstill
        rw [hrope]
      · obtain ⟨hspeed, hgate, hzeros, hstill, hzero, -, -⟩ := k
        rw [← hrope] at hspeed hgate hzeros hstill hzero
        exact ⟨hspeed, hgate, hzeros, hstill, hzero, Nat.zero_le _, fun _ _ => rfl⟩
      · exact k.of_eq hlists hcabins (State.railCabins_congr (congrArg _ hrail))
      · rw [State.modRope_tel, htel]; exact k
      · exact k.of_eq hdoors (congrArg _ hchain)
      · rw [State.modRope_chain, hchain]
    exact State.Keeps.judgeSlip (h.trans hcleared)
  · next hmodes =>
    refine h.changeTrackMode fun k => ?_
    obtain ⟨hspeed, hgate, hzeros, hstill, hzero, hbound, -⟩ := k
    rw [State.changeTrackMode_modes] at hmodes
    exact ⟨hspeed, hgate, hzeros, hstill, hzero, hbound, fun hup hdown => absurd ⟨hup, hdown⟩ hmodes⟩

end
end Sys2Proof.Machine

namespace Sys2Proof.Machine

/-! ## Power of the door channels -/

section
variable {em : Prop} {c : Channel}

/-- A channel on its way to power: no action, no local drive, no fault, in whatever state it arrives. -/
theorem Channel.Fits.arrive {d : Channel} (h : c.Fits em) (hc : c.state = .unpowered ∨ c.state = .powering)
    (hact : d.action = c.action) (hfault : d.fault = c.fault) (hdrive : d.localDrive = c.localDrive)
    (hmov : d.state.moving = false) (hst : d.state ≠ .fault) (hhalt : em → d.state.halts = false) : d.Fits em := by
  have hno : c.localDrive = none := h.no_drive (by rintro e; rw [e] at hc; simp at hc)
  have hidle : c.state.moving = false := by obtain e | e := hc <;> rw [e] <;> rfl
  have hsound : c.state ≠ .fault := by rintro e; rw [e] at hc; simp at hc
  exact ⟨by rw [hact, h.action, hidle, hmov], by rw [hfault, h.fault]; simp [hsound, hst], by simp [hdrive, hno], hhalt⟩

/-- The state a channel takes with its power good may stand at EMERGENCY. -/
theorem ChannelState.full_halts {e : Bool} (he : em → e = true) :
    em → (if e = true then ChannelState.halted else .ready).halts = false := fun k => by rw [he k]; rfl

/-- A channel switched on from UNPOWERED fits. -/
theorem Channel.fits_powerOn (h : c.Fits em) (hst : c.state = .unpowered) {e : Bool} (he : em → e = true) (time : Nat) :
    (c.powerOn e time).Fits em := by
  unfold Channel.powerOn
  dsimp only
  split
  · refine h.arrive (.inl hst) rfl rfl rfl ?_ ?_ (ChannelState.full_halts he) <;> cases e <;> simp [Channel.powerGood, Channel.enter, ChannelState.moving]
  · exact h.arrive (.inl hst) rfl rfl rfl rfl (by simp [Channel.enter]) fun _ => rfl

theorem Channel.powerOn_entry (c : Channel) (e : Bool) (time : Nat) :
    (c.powerOn e time).entry = c.entry ∧ (c.powerOn e time).ownOn = c.ownOn := by
  unfold Channel.powerOn
  dsimp only
  split <;> exact ⟨rfl, rfl⟩

theorem Channel.follows_powerGood (hst : c.state = .powering) {e : Bool} (he : em → e = true) :
    c.Follows em (c.powerGood e) := by
  refine ⟨rfl, rfl, fun _ => by rw [hst]; rfl, fun h => ?_⟩
  refine h.arrive (.inr hst) rfl rfl rfl ?_ ?_ (ChannelState.full_halts he) <;> cases e <;> simp [Channel.powerGood, Channel.enter, ChannelState.moving]

/-- A channel after R120's steps 1 to 4. -/
def Channel.down (c : Channel) : Channel :=
  { c.stopDrives.notePower with powerTimer := none, action := none, served := none }

/-- A powered channel that has lost its power fits. -/
theorem Channel.fits_cut (h : c.Fits em) (hp : c.state.powered = true) : (c.down.enter .unpowered).Fits em := by
  have hfault : c.fault.isSome = true ↔ False := by
    rw [h.fault]; exact iff_false_intro (ChannelState.ne_fault_of_powered hp)
  exact ⟨rfl, by simpa [Channel.enter, Channel.down, Channel.stopDrives, Channel.notePower, Channel.stopLocal] using hfault,
    by simp [Channel.enter, Channel.down, Channel.stopDrives, Channel.notePower, Channel.stopLocal], fun _ => rfl⟩

/-- A channel that senses an overcurrent fits in FAULT. -/
theorem Channel.fits_fault (em : Prop) (c : Channel) :
    ({ c.down.noteOvercurrent.enter .fault with fault := some .overcurrent } : Channel).Fits em :=
  ⟨rfl, by simp [Channel.enter], by
    simp [Channel.enter, Channel.down, Channel.stopDrives, Channel.notePower, Channel.stopLocal, Channel.noteOvercurrent],
    fun _ => rfl⟩

end

/-! ### One channel through a power-down -/

theorem State.powerDown_channel (s : State) (k : Fin 8) : (s.powerDown k).channel k = (s.channel k).down := by
  unfold State.powerDown
  dsimp only
  rw [State.modChannel_channel]
  obtain ⟨v, hv⟩ := (if (s.channel k).action.isSome then s.countDoors (Ctr.abandoned k) else s).channelWrite_channel k .unknown
  rw [hv]
  split <;> rfl

theorem State.powerDown_channel_ne (s : State) {k j : Fin 8} (h : j ≠ k) : (s.powerDown k).channel j = s.channel j := by
  unfold State.powerDown
  dsimp only
  rw [State.modChannel_channel_ne _ _ h, State.channelWrite_channel_ne _ _ h]
  split <;> rfl

@[simp] theorem State.powerDown_groupOn (s : State) (k : Fin 8) : (s.powerDown k).doors.groupOn = s.doors.groupOn := by
  unfold State.powerDown
  dsimp only
  rw [State.modChannel_groupOn, State.channelWrite_groupOn]
  split <;> rfl

@[simp] theorem State.powerDown_railCabins (s : State) (k : Fin 8) : (s.powerDown k).railCabins = s.railCabins := by
  unfold State.powerDown
  dsimp only
  rw [State.modChannel_railCabins, State.channelWrite_railCabins]
  split <;> rfl

@[simp] theorem State.powerDown_station (s : State) (k : Fin 8) : (s.powerDown k).station = s.station := by
  unfold State.powerDown
  dsimp only
  rw [State.modChannel_station, State.channelWrite_station]
  split <;> rfl

@[simp] theorem State.powerDown_line (s : State) (k : Fin 8) : (s.powerDown k).line = s.line := by
  unfold State.powerDown
  dsimp only
  rw [State.modChannel_line, State.channelWrite_line]
  split <;> rfl

@[simp] theorem State.cutPower_station (s : State) (k : Fin 8) : (s.cutPower k).station = s.station := by
  unfold State.cutPower; split <;> simp

@[simp] theorem State.cutPower_line (s : State) (k : Fin 8) : (s.cutPower k).line = s.line := by
  unfold State.cutPower; split <;> simp

/-- A channel once a power-off has passed it: one in FAULT or UNPOWERED stays (R120). -/
def Channel.cut (c : Channel) : Channel := if c.state.powered then c.down.enter .unpowered else c

theorem State.cutPower_channel (s : State) (k : Fin 8) : (s.cutPower k).channel k = (s.channel k).cut := by
  unfold State.cutPower Channel.cut
  split
  · rw [State.modChannel_channel, State.powerDown_channel]
  · rfl

theorem State.cutPower_channel_ne (s : State) {k j : Fin 8} (h : j ≠ k) : (s.cutPower k).channel j = s.channel j := by
  unfold State.cutPower
  split
  · rw [State.modChannel_channel_ne _ _ h, State.powerDown_channel_ne _ h]
  · rfl

@[simp] theorem State.cutPower_groupOn (s : State) (k : Fin 8) : (s.cutPower k).doors.groupOn = s.doors.groupOn := by
  unfold State.cutPower
  split
  · rw [State.modChannel_groupOn, State.powerDown_groupOn]
  · rfl

@[simp] theorem State.cutPower_railCabins (s : State) (k : Fin 8) : (s.cutPower k).railCabins = s.railCabins := by
  unfold State.cutPower
  split
  · rw [State.modChannel_railCabins, State.powerDown_railCabins]
  · rfl

theorem Channel.fits_cut' {em : Prop} {c : Channel} (h : c.Fits em) : c.cut.Fits em := by
  unfold Channel.cut
  split
  · next hp => exact Channel.fits_cut h hp
  · exact h

theorem Channel.cut_unpowered (c : Channel) : c.cut.state.powered = false := by
  unfold Channel.cut
  split
  · rfl
  · next hp => simpa using hp

theorem Channel.cut_entry (c : Channel) : c.cut.entry = c.entry ∧ c.cut.ownOn = c.ownOn := by
  unfold Channel.cut; split <;> exact ⟨rfl, rfl⟩

/-- An operation on one channel after another, each of a list once: what it does to a channel it does to each, and the others
stay. -/
theorem State.foldl_channel {op : State → Fin 8 → State} {R : Channel → Channel → Prop}
    (hR : ∀ s k, R (s.channel k) ((op s k).channel k)) (hne : ∀ s k j, j ≠ k → (op s k).channel j = s.channel j)
    (l : List (Fin 8)) : l.Nodup → ∀ (s : State) (k : Fin 8), (k ∈ l → R (s.channel k) ((l.foldl op s).channel k)) ∧
      (k ∉ l → (l.foldl op s).channel k = s.channel k) := by
  induction l with
  | nil => exact fun _ s k => ⟨fun hk => absurd hk (by simp), fun _ => rfl⟩
  | cons a l ih =>
    intro hnodup s k
    obtain ⟨ha, hl⟩ := List.nodup_cons.mp hnodup
    obtain ⟨hin, hout⟩ := ih hl (op s a) k
    rw [List.foldl_cons]
    refine ⟨fun hk => ?_, fun hk => ?_⟩
    · obtain rfl | hkl := List.mem_cons.mp hk
      · rw [hout ha]; exact hR s k
      · have hka : k ≠ a := fun e => ha (e ▸ hkl)
        have := hin hkl
        rwa [hne s a k hka] at this
    · obtain ⟨hka, hkl⟩ := not_or.mp (fun e => hk (List.mem_cons.mpr e))
      rw [hout hkl, hne s a k hka]

/-- What every operation of a list keeps, the whole keeps. -/
theorem State.foldl_same {α β : Type} {op : State → α → State} {g : State → β} (h : ∀ s a, g (op s a) = g s) (l : List α) :
    ∀ s : State, g (l.foldl op s) = g s := by
  induction l with
  | nil => exact fun _ => rfl
  | cons a l ih => exact fun s => (ih _).trans (h s a)

theorem State.mem_members {s : State} {g : Fin 2} {k : Fin 8} :
    k ∈ s.members g ↔ (s.channel k).entry.switching = .group g := by
  simp [State.members, Channel.inGroup, mem_allChannels]

theorem State.members_nodup (s : State) (g : Fin 2) : (s.members g).Nodup := allChannels_nodup.filter _

/-- A supply that is on stays on for a channel of another switch when a group goes off. -/
theorem Doors.supplied_groupOff {u v : Doors} {c d : Channel} {g : Fin 2} (hg : v.groupOn = u.groupOn.set g false)
    (hsw : d.entry.switching = c.entry.switching) (hown : d.ownOn = c.ownOn) (hne : c.entry.switching ≠ .group g)
    (h : u.supplied c = true) : v.supplied d = true := by
  unfold Doors.supplied at h ⊢
  rw [hsw, hown, hg]
  split at h
  · next x hx =>
    have hxg : g.val ≠ x.val := fun e => hne (by rw [hx, Fin.ext e])
    simpa [Vector.getElem_set_ne _ _ hxg] using h
  · exact h

section
variable {s₀ s : State}

/-- A channel replaced by one that may stand in its place. -/
theorem State.Keeps.modChannel (h : s₀.Keeps s) {k : Fin 8} {f : Channel → Channel}
    (hf : (s.channel k).Follows (s.chain.asserted = .emergency) (f (s.channel k))) : s₀.Keeps (s.modChannel k f) :=
  h.trans (.of_doors fun d => d.modChannel hf)

theorem State.Keeps.channelWrite (h : s₀.Keeps s) (k : Fin 8) (d : DoorState) : s₀.Keeps (s.channelWrite k d) :=
  h.trans (.of_doors fun k' => k'.channelWrite k d)

/-- An operation after which one channel stands as it does, and no other has changed. -/
theorem State.DoorsSound.replace {s t : State} (h : s.DoorsSound) {k : Fin 8}
    (hk : (s.channel k).Fits (s.chain.asserted = .emergency) → (t.channel k).Fits (s.chain.asserted = .emergency))
    (hp : (t.channel k).state.powered = false) (hne : ∀ j, j ≠ k → t.channel j = s.channel j)
    (hgroup : t.doors.groupOn = s.doors.groupOn) (hchain : t.chain = s.chain := by simp) : t.DoorsSound := by
  rw [State.doorsSound_iff] at h ⊢
  intro j
  obtain ⟨hfits, hsupply⟩ := h j
  rw [hchain]
  by_cases e : j = k
  · subst e
    exact ⟨hk hfits, fun hp' => absurd (hp.symm.trans hp') (by simp)⟩
  · rw [hne j e]
    exact ⟨hfits, fun hp => (Doors.supplied_congr hgroup rfl rfl).trans (hsupply hp)⟩

theorem State.Keeps.cutPower (h : s₀.Keeps s) (k : Fin 8) : s₀.Keeps (s.cutPower k) := by
  refine h.trans (.of_doors (fun d => d.replace (k := k) ?_ ?_ (fun j => s.cutPower_channel_ne) (by simp)) ?_ ?_)
  · rw [State.cutPower_channel]; exact Channel.fits_cut'
  · rw [State.cutPower_channel]; exact Channel.cut_unpowered _
  · exact s.cutPower_station k
  · exact s.cutPower_line k

/-! ### Groups and channels switched -/

theorem State.groupOff_channel (s : State) (g : Fin 2) (k : Fin 8) :
    (s.groupOff g).channel k = if (s.channel k).entry.switching = .group g then (s.channel k).cut else s.channel k := by
  have hfold := State.foldl_channel (op := State.cutPower) (R := fun c d => d = c.cut) State.cutPower_channel
    (fun s k j => s.cutPower_channel_ne) (s.members g) (s.members_nodup g)
    (s.modDoors fun u => { u with groupOn := u.groupOn.set g false }) k
  unfold State.groupOff
  split
  · next hin => exact hfold.1 (State.mem_members.mpr hin)
  · next hout => exact hfold.2 (mt State.mem_members.mp hout)

theorem State.foldl_cutPower_same {β : Type} {f : State → β} (h : ∀ s k, f (s.cutPower k) = f s) (s : State) (g : Fin 2)
    (hset : f (s.modDoors fun u => { u with groupOn := u.groupOn.set g false }) = f s) : f (s.groupOff g) = f s :=
  (State.foldl_same h _ _).trans hset

theorem State.Keeps.groupOff (h : s₀.Keeps s) (g : Fin 2) : s₀.Keeps (s.groupOff g) := by
  have hchain : (s.groupOff g).chain = s.chain := State.foldl_cutPower_same (by simp) s g rfl
  have hgroup : (s.groupOff g).doors.groupOn = s.doors.groupOn.set g false :=
    State.foldl_same (g := fun t : State => t.doors.groupOn) State.cutPower_groupOn _ _
  refine h.trans (.of_doors (fun d => ?_) (State.foldl_cutPower_same (by simp) s g rfl)
    (State.foldl_cutPower_same (by simp) s g rfl) (State.foldl_cutPower_same (by simp) s g rfl) hchain
    (State.foldl_cutPower_same (by simp) s g rfl) (State.foldl_cutPower_same (by simp) s g rfl)
    (State.foldl_cutPower_same (by simp) s g rfl))
  rw [State.doorsSound_iff] at d ⊢
  intro k
  obtain ⟨hfits, hsupply⟩ := d k
  rw [hchain, State.groupOff_channel]
  split
  · exact ⟨Channel.fits_cut' hfits, fun hp => absurd hp (by simp [Channel.cut_unpowered])⟩
  · next hout => exact ⟨hfits, fun hp => Doors.supplied_groupOff hgroup rfl rfl hout (hsupply hp)⟩

theorem State.inEmergency_of {s : State} (h : s.chain.asserted = .emergency) : s.inEmergency = true := by
  simp [State.inEmergency, h]

theorem State.Keeps.channelOn (h : s₀.Keeps s) {k : Fin 8} (hst : (s.channel k).state = .unpowered)
    (hsw : (s.channel k).entry.switching = .individual) : s₀.Keeps (s.channelOn k) := by
  refine h.trans (.of_doors (fun d => ?_) rfl rfl rfl rfl rfl rfl rfl)
  rw [State.doorsSound_iff] at d ⊢
  intro j
  obtain ⟨hfits, hsupply⟩ := d j
  unfold State.channelOn
  dsimp only
  rw [State.modChannel_chain]
  by_cases e : j = k
  · subst e
    rw [State.modChannel_channel]
    have hon : ({ s.channel j with ownOn := true } : Channel).Fits (s.chain.asserted = .emergency) :=
      ⟨hfits.action, hfits.fault, hfits.drive, hfits.halted⟩
    obtain ⟨he, ho⟩ := Channel.powerOn_entry { s.channel j with ownOn := true } s.inEmergency (s.channel j).entry.powerGood
    refine ⟨Channel.fits_powerOn hon hst State.inEmergency_of _, fun _ => ?_⟩
    unfold Doors.supplied
    rw [he, hsw]
    exact ho
  · rw [State.modChannel_channel_ne _ _ e]
    exact ⟨hfits, hsupply⟩

theorem State.Keeps.channelOff (h : s₀.Keeps s) (k : Fin 8) : s₀.Keeps (s.channelOff k) := by
  have hchan : (s.channelOff k).channel k = ({ s.channel k with ownOn := false } : Channel).cut := by
    unfold State.channelOff; rw [State.cutPower_channel, State.modChannel_channel]
  refine h.trans (.of_doors (fun d => d.replace (k := k) (fun hf => ?_) ?_ (fun j hj => ?_) ?_ ?_) ?_ ?_ ?_ ?_ ?_ ?_ ?_)
  · rw [hchan]; exact Channel.fits_cut' ⟨hf.action, hf.fault, hf.drive, hf.halted⟩
  · rw [hchan]; exact Channel.cut_unpowered _
  · unfold State.channelOff; rw [State.cutPower_channel_ne _ hj, State.modChannel_channel_ne _ _ hj]
  all_goals simp [State.channelOff]

theorem State.Keeps.groupOn (h : s₀.Keeps s) {g : Fin 2} (hoff : s.doors.groupOn[g] = false)
    (hnofault : ∀ k, (s.channel k).entry.switching = .group g → (s.channel k).state ≠ .fault) :
    s₀.Keeps (s.groupOn g) := by
  refine h.trans (.of_doors (fun d => ?_) rfl rfl rfl rfl rfl rfl rfl)
  rw [State.doorsSound_iff] at d ⊢
  intro k
  obtain ⟨hfits, hsupply⟩ := d k
  have hchan : (s.groupOn g).channel k = if (s.channel k).inGroup g then
      ({ s.channel k with groupOff := false } : Channel).powerOn s.inEmergency s.doors.groupTimes[g] else s.channel k :=
    vecMap_get _ _ _
  have hchain : (s.groupOn g).chain = s.chain := rfl
  have hgroup : (s.groupOn g).doors.groupOn = s.doors.groupOn.set g true := rfl
  rw [hchan, hchain]
  split
  · next hin =>
    have hsw : (s.channel k).entry.switching = .group g := by simpa [Channel.inGroup] using hin
    have hst : (s.channel k).state = .unpowered := by
      have hnp : (s.channel k).state.powered = false := by
        by_contra hp
        have hs := hsupply (by simpa using hp)
        rw [Doors.supplied, hsw] at hs
        simp only at hs
        exact absurd (hoff.symm.trans hs) (by simp)
      have hnf := hnofault k hsw
      revert hnp hnf
      cases (s.channel k).state <;> simp [ChannelState.powered]
    obtain ⟨he, ho⟩ := Channel.powerOn_entry { s.channel k with groupOff := false } s.inEmergency s.doors.groupTimes[g]
    have hflag : ({ s.channel k with groupOff := false } : Channel).Fits (s.chain.asserted = .emergency) :=
      ⟨hfits.action, hfits.fault, hfits.drive, hfits.halted⟩
    refine ⟨Channel.fits_powerOn hflag hst State.inEmergency_of _, fun _ => ?_⟩
    unfold Doors.supplied
    rw [he, hgroup]
    simp [hsw]
  · refine ⟨hfits, fun hp => ?_⟩
    have hs := hsupply hp
    unfold Doors.supplied at hs ⊢
    split
    · next x hx =>
      rw [hx] at hs
      rw [hgroup]
      by_cases e : g = x
      · subst e; simp
      · have hgx : g.val ≠ x.val := fun he => e (Fin.ext he)
        simpa [Vector.getElem_set_ne _ _ hgx] using hs
    · next hx => rw [hx] at hs; exact hs

theorem State.Keeps.powerGoodExpiry (h : s₀.Keeps s) (k : Fin 8) : s₀.Keeps (s.powerGoodExpiry k) := by
  refine h.modChannel ?_
  split
  · next hc => exact Channel.follows_powerGood hc.2 State.inEmergency_of
  · exact .refl _

/-! ### Overcurrent -/

theorem State.enterFault_channel (s : State) (k : Fin 8) :
    (s.enterFault k).channel k = { (s.channel k).down.noteOvercurrent.enter .fault with fault := some .overcurrent } := by
  unfold State.enterFault; rw [State.modChannel_channel, State.powerDown_channel]

theorem State.enterFault_channel_ne (s : State) {k j : Fin 8} (h : j ≠ k) : (s.enterFault k).channel j = s.channel j := by
  unfold State.enterFault; rw [State.modChannel_channel_ne _ _ h, State.powerDown_channel_ne _ h]

theorem State.Keeps.enterFault (h : s₀.Keeps s) (k : Fin 8) : s₀.Keeps (s.enterFault k) := by
  refine h.trans (.of_doors (fun d => d.replace (k := k) (fun _ => ?_) ?_ (fun j => s.enterFault_channel_ne) ?_ ?_)
    ?_ ?_ ?_ ?_ ?_ ?_ ?_)
  · rw [State.enterFault_channel]; exact Channel.fits_fault _ _
  · rw [State.enterFault_channel]; rfl
  all_goals simp [State.enterFault]

/-- A channel of a group once an overcurrent of another member has passed it (R121). -/
def Channel.drop (c : Channel) : Channel := if c.state = .fault then c else { c.cut with groupOff := true }

theorem State.dropMember_channel (s : State) (k : Fin 8) : (s.dropMember k).channel k = (s.channel k).drop := by
  unfold State.dropMember Channel.drop
  split
  · rfl
  · rw [State.modChannel_channel, State.cutPower_channel]

theorem State.dropMember_channel_ne (s : State) {k j : Fin 8} (h : j ≠ k) : (s.dropMember k).channel j = s.channel j := by
  unfold State.dropMember
  split
  · rfl
  · rw [State.modChannel_channel_ne _ _ h, State.cutPower_channel_ne _ h]

theorem Channel.fits_drop {em : Prop} {c : Channel} (h : c.Fits em) : c.drop.Fits em := by
  unfold Channel.drop
  split
  · exact h
  · obtain ⟨ha, hf, hd, hh⟩ := Channel.fits_cut' h
    exact ⟨ha, hf, hd, hh⟩

theorem Channel.drop_unpowered (c : Channel) : c.drop.state.powered = false := by
  unfold Channel.drop
  split
  · next hst => rw [hst]; rfl
  · exact c.cut_unpowered

/-- What no power-off and no flag of a member changes, the drop of a group leaves. -/
theorem State.dropMember_same {β : Type} {f : State → β} (hcut : ∀ s k, f (s.cutPower k) = f s)
    (hflag : ∀ s k, f (State.modChannel s k fun c => { c with groupOff := true }) = f s) (s : State) (k : Fin 8) :
    f (s.dropMember k) = f s := by
  unfold State.dropMember
  split
  · rfl
  · exact (hflag _ _).trans (hcut _ _)

/-- The supply of a channel in FAULT goes off, with its group's members (R121). -/
theorem State.Keeps.dropSupply (h : s₀.Keeps s) {k : Fin 8} (hst : (s.channel k).state = .fault) :
    s₀.Keeps (s.dropSupply k) := by
  unfold State.dropSupply
  split
  · next hsw =>
    refine h.trans (.of_doors fun d => d.replace (k := k) (fun hf => ?_) ?_ (fun j => State.modChannel_channel_ne _ _) rfl)
    · rw [State.modChannel_channel]; exact ⟨hf.action, hf.fault, hf.drive, hf.halted⟩
    · rw [State.modChannel_channel]; show (s.channel k).state.powered = false; rw [hst]; rfl
  · next g hsw =>
    have hsame : ∀ {β : Type} {f : State → β}, (∀ s k, f (State.cutPower s k) = f s) →
        (∀ s k, f (State.modChannel s k fun c => { c with groupOff := true }) = f s) →
        f (s.modDoors fun u => { u with groupOn := u.groupOn.set g false }) = f s →
        f (((s.members g).filter (· != k)).foldl State.dropMember
          (s.modDoors fun u => { u with groupOn := u.groupOn.set g false })) = f s :=
      fun hcut hflag hset => (State.foldl_same (State.dropMember_same hcut hflag) _ _).trans hset
    have hgroup : (((s.members g).filter (· != k)).foldl State.dropMember
        (s.modDoors fun u => { u with groupOn := u.groupOn.set g false })).doors.groupOn = s.doors.groupOn.set g false :=
      State.foldl_same (g := fun t : State => t.doors.groupOn)
        (State.dropMember_same (f := fun t : State => t.doors.groupOn) State.cutPower_groupOn fun _ _ => rfl) _ _
    have hchain := hsame (f := State.chain) (by simp) (by simp) rfl
    refine h.trans (.of_doors (fun d => ?_) (hsame (by simp) (by simp) rfl) (hsame (by simp) (by simp) rfl)
      (hsame (by simp) (by simp) rfl) hchain (hsame (by simp) (by simp) rfl) (hsame (by simp) (by simp) rfl)
      (hsame (by simp) (by simp) rfl))
    rw [State.doorsSound_iff] at d ⊢
    intro j
    obtain ⟨hfits, hsupply⟩ := d j
    have hfold := State.foldl_channel (op := State.dropMember) (R := fun c d => d = c.drop) State.dropMember_channel
      (fun s k j => s.dropMember_channel_ne) ((s.members g).filter (· != k)) ((s.members_nodup g).filter _)
      (s.modDoors fun u => { u with groupOn := u.groupOn.set g false }) j
    rw [hchain]
    by_cases hin : j ∈ (s.members g).filter (· != k)
    · rw [hfold.1 hin]
      exact ⟨Channel.fits_drop hfits, fun hp => absurd hp (by simp [Channel.drop_unpowered])⟩
    · rw [hfold.2 hin]
      refine ⟨hfits, fun hp => ?_⟩
      have hj : j ≠ k := by rintro rfl; exact absurd hp (by show ¬ (s.channel j).state.powered = true; rw [hst]; simp [ChannelState.powered])
      have hout : (s.channel j).entry.switching ≠ .group g := fun e =>
        hin (List.mem_filter.mpr ⟨State.mem_members.mpr e, by simpa using hj⟩)
      exact Doors.supplied_groupOff hgroup rfl rfl hout (hsupply hp)

theorem State.Keeps.overcurrentRise (h : s₀.Keeps s) (k : Fin 8) : s₀.Keeps (s.overcurrentRise k) := by
  unfold State.overcurrentRise
  split
  · refine State.Keeps.notice (State.Keeps.raiseHeld (State.Keeps.dropSupply ((h.countDoors _).enterFault k) ?_) _ _) _
    rw [State.enterFault_channel]; rfl
  · exact h.countDoors _

theorem State.Keeps.resetFault (h : s₀.Keeps s) {k : Fin 8} (hst : (s.channel k).state = .fault) :
    s₀.Keeps (s.resetFault k) := by
  have hreset : s₀.Keeps (s.modChannel k fun c => { c.enter .unpowered with fault := none }) := by
    refine h.modChannel ⟨rfl, rfl, (fun hp => nomatch hp), fun hf => ⟨?_, ?_, ?_, fun _ => rfl⟩⟩
    · show (s.channel k).action.isSome = false
      rw [hf.action, hst]; rfl
    · simp [Channel.enter]
    · have := hf.no_drive (show (s.channel k).state ≠ .ready by simp [hst])
      simp [Channel.enter, this]
  unfold State.resetFault
  dsimp only
  split
  · exact hreset.withdraw _
  · exact hreset

end
end Sys2Proof.Machine

namespace Sys2Proof.Machine

/-! ## Offers, actions, sensors and modes of the door channels -/

section
variable {s₀ s : State} {k : Fin 8}

/-- A channel replaced by one that may stand in its place where it fits. -/
theorem State.Keeps.modFitting (h : s₀.Keeps s)  {f : Channel → Channel}
    (hf : (s.channel k).Fits (s.chain.asserted = .emergency) →
      (s.channel k).Follows (s.chain.asserted = .emergency) (f (s.channel k))) : s₀.Keeps (s.modChannel k f) :=
  h.trans (.of_doors fun d => d.modChannel (hf (State.doorsSound_iff.mp d k).1))

/-- An action started on a READY channel that is not in LOCAL. -/
theorem Channel.follows_start {em : Prop} {c d : Channel} (hst : c.state = .ready) (hm : c.mode ≠ .local_)
    (hsw : d.entry.switching = c.entry.switching) (hown : d.ownOn = c.ownOn) (hact : d.action.isSome = true)
    (hmov : d.state.moving = true) (hfault : d.fault = c.fault) (hdrive : d.localDrive = c.localDrive) :
    c.Follows em d :=
  .move hsw hown (by rw [hst]; rfl) (hact.trans hmov.symm) hfault (by rintro e; rw [e] at hmov; cases hmov)
    (fun h => hdrive.trans (h.no_drive_of_mode hm)) (.inl (by rw [hst]; rfl))

theorem State.Keeps.startOpenDoor (h : s₀.Keeps s) (hst : (s.channel k).state = .ready) (hm : (s.channel k).mode ≠ .local_) :
    s₀.Keeps (s.startOpenDoor k) :=
  (h.modChannel (Channel.follows_start hst hm rfl rfl rfl rfl rfl rfl)).channelWrite _ _

theorem State.Keeps.startCloseDoor (h : s₀.Keeps s) (hst : (s.channel k).state = .ready) (hm : (s.channel k).mode ≠ .local_) :
    s₀.Keeps (s.startCloseDoor k) :=
  (h.modChannel (Channel.follows_start hst hm rfl rfl rfl rfl rfl rfl)).channelWrite _ _

theorem State.Keeps.startOpenGate (h : s₀.Keeps s) (hst : (s.channel k).state = .ready) (hm : (s.channel k).mode ≠ .local_) :
    s₀.Keeps (s.startOpenGate k) :=
  h.modChannel (Channel.follows_start hst hm rfl rfl rfl rfl rfl rfl)

theorem State.Keeps.judgeOffer (h : s₀.Keeps s) (hst : (s.channel k).state = .ready) (hm : (s.channel k).mode ≠ .local_)
    (n : BitVec 16) (p : Profile) : s₀.Keeps (s.judgeOffer k n p) := by
  unfold State.judgeOffer
  split
  · exact h
  · unfold State.judgeOpen
    split
    · exact h.channelWrite _ _
    · split
      · exact h.startOpenDoor hst hm
      · exact h
      · exact h
  · unfold State.judgeClose
    split
    · exact h.channelWrite _ _
    · split
      · exact h.startCloseDoor hst hm
      · exact h.startCloseDoor hst hm
      · exact h
  · unfold State.judgeGate
    split
    · exact h.startOpenGate hst hm
    · exact h

theorem State.Keeps.readSensor (h : s₀.Keeps s) (k : Fin 8) : s₀.Keeps (s.readSensor k) := by
  unfold State.readSensor
  dsimp only
  split
  · split
    · exact h.channelWrite _ _
    · exact h
  · split
    · exact h.channelWrite _ _
    · exact h
  · exact h
  · exact h

theorem State.Keeps.serve (h : s₀.Keeps s) (k : Fin 8) (r : StationRecord) : s₀.Keeps (s.serve k r) :=
  h.modChannel (.of_eq rfl rfl rfl rfl rfl rfl rfl)

theorem State.Keeps.offerCabin (h : s₀.Keeps s) (k : Fin 8) (r : StationRecord) : s₀.Keeps (s.offerCabin k r) := by
  have hserved := (h.countDoors (Ctr.servedOffer k)).serve k r
  have hchan : (((s.countDoors (Ctr.servedOffer k)).serve k r).channel k).state = (s.channel k).state ∧
      (((s.countDoors (Ctr.servedOffer k)).serve k r).channel k).mode = (s.channel k).mode := by
    unfold State.serve
    rw [State.modChannel_channel]
    exact ⟨rfl, rfl⟩
  unfold State.offerCabin
  dsimp only
  split
  · next hst =>
    split
    · next hm => exact hserved.judgeOffer (hchan.1.trans hst) (by rw [hchan.2, hm]; simp) _ _
    · next hm => exact hserved.judgeOffer (hchan.1.trans hst) (by rw [hchan.2, hm]; simp) _ _
    · exact hserved.readSensor k
  · split
    · exact h.countDoors _
    · exact (h.countDoors _).raiseMomentary _ _

/-! ### Drives and their timers -/

theorem State.Keeps.endAction (h : s₀.Keeps s) (hst : (s.channel k).state.moving = true) :
    s₀.Keeps (s.modChannel k Channel.endAction) :=
  h.modChannel (Channel.follows_endAction hst)

theorem State.Keeps.openExpired (h : s₀.Keeps s) (hst : (s.channel k).state = .opening) : s₀.Keeps (s.openExpired k) := by
  have hended := (h.endAction (k := k) (by rw [hst]; rfl)).countDoors (Ctr.openFail k)
  unfold State.openExpired
  dsimp only
  split
  · exact (hended.channelWrite _ _).raiseMomentary _ _
  · exact hended.raiseMomentary _ _

theorem State.Keeps.jam (h : s₀.Keeps s) (hst : (s.channel k).state = .closing) (kind : ActionKind) :
    s₀.Keeps (s.jam k kind) := by
  have hmov : (s.channel k).state.moving = true := by rw [hst]; rfl
  have hended : s₀.Keeps ((s.modChannel k fun c => { c.endAction with attemptsLeft := 0 }).countDoors (Ctr.jam k)) :=
    State.Keeps.countDoors (h.modChannel (f := fun c => { c.endAction with attemptsLeft := 0 })
      ((Channel.follows_endAction hmov).trans (.of_eq rfl rfl rfl rfl rfl rfl rfl))) _
  unfold State.jam
  dsimp only
  split
  · exact hended.raiseMomentary _ _
  · exact (hended.channelWrite _ _).raiseMomentary _ _
  · exact (hended.channelWrite _ _).raiseMomentary _ _
  · exact (hended.channelWrite _ _).raiseMomentary _ _

theorem State.Keeps.closeExpired (h : s₀.Keeps s) (hst : (s.channel k).state = .closing) : s₀.Keeps (s.closeExpired k) := by
  unfold State.closeExpired
  dsimp only
  split
  · exact h
  · next a ha =>
    split
    · exact h.jam hst _
    · exact (h.modChannel (Channel.follows_reverse hst ha _)).countDoors _

theorem State.Keeps.driveExpiry (h : s₀.Keeps s) (k : Fin 8) : s₀.Keeps (s.driveExpiry k) := by
  unfold State.driveExpiry
  dsimp only
  split
  · split
    · next hst => exact h.openExpired hst
    · next hst => exact h.closeExpired hst
    all_goals exact h
  · exact h

theorem State.Keeps.reverseExpiry (h : s₀.Keeps s) (k : Fin 8) : s₀.Keeps (s.reverseExpiry k) := by
  refine h.modChannel ?_
  split
  · next hc => exact Channel.follows_closeAgain (by rw [hc.2]; rfl)
  · exact .refl _

/-! ### Sensors -/

/-- A sensor noted on a gate's flag leaves the state, the mode and the action. -/
theorem Channel.noteGate_state (c : Channel) (b : Bool) :
    (c.noteGate b).state = c.state ∧ (c.noteGate b).action = c.action ∧ (c.noteGate b).mode = c.mode := by
  unfold Channel.noteGate; split <;> exact ⟨rfl, rfl, rfl⟩

theorem State.Keeps.openEndRise (h : s₀.Keeps s) (k : Fin 8) : s₀.Keeps (s.openEndRise k) := by
  have hnoted := h.modChannel (f := fun c => c.noteGate true) (Channel.follows_noteGate (s.channel k) true)
  have hstate : ((s.modChannel k fun c => c.noteGate true).channel k).state = (s.channel k).state := by
    rw [State.modChannel_channel]; exact (Channel.noteGate_state _ _).1
  unfold State.openEndRise
  dsimp only
  split
  · next hst =>
    have hended := (hnoted.endAction (k := k) (by rw [hstate, hst]; rfl)).countDoors (Ctr.openDone k)
    split
    · exact hended.channelWrite _ _
    · exact hended
  · next hst => exact hnoted.modChannel (Channel.follows_closeAgain (by rw [hstate, hst]; rfl))
  · exact (hnoted.modChannel (Channel.follows_stopDirection _ _)).channelWrite _ _
  all_goals exact hnoted

theorem State.Keeps.lockedRise (h : s₀.Keeps s) (k : Fin 8) : s₀.Keeps (s.lockedRise k) := by
  have hnoted := h.modChannel (f := fun c => c.noteGate false) (Channel.follows_noteGate (s.channel k) false)
  have hstate : ((s.modChannel k fun c => c.noteGate false).channel k).state = (s.channel k).state := by
    rw [State.modChannel_channel]; exact (Channel.noteGate_state _ _).1
  unfold State.lockedRise
  dsimp only
  split
  · next hst =>
    have hended := (hnoted.endAction (k := k) (by rw [hstate, hst]; rfl)).countDoors (Ctr.closeDone k)
    split
    · exact hended.modChannel (.of_eq rfl rfl rfl rfl rfl rfl rfl)
    · exact hended.channelWrite _ _
  · exact (hnoted.modChannel (Channel.follows_stopDirection _ _)).channelWrite _ _
  all_goals exact hnoted

theorem State.Keeps.openEndChanged (h : s₀.Keeps s) (k : Fin 8) : s₀.Keeps (s.openEndChanged k) := by
  have hnoted := h.modChannel (Channel.follows_noteSensor (s.channel k))
  unfold State.openEndChanged
  dsimp only
  split
  · exact hnoted.openEndRise k
  · exact hnoted

theorem State.Keeps.lockedChanged (h : s₀.Keeps s) (k : Fin 8) : s₀.Keeps (s.lockedChanged k) := by
  have hnoted := h.modChannel (Channel.follows_noteSensor (s.channel k))
  unfold State.lockedChanged
  dsimp only
  split
  · exact hnoted.lockedRise k
  · unfold State.lockedFall
    dsimp only
    split
    · exact hnoted.channelWrite _ _
    · exact hnoted

/-! ### Clear edges -/

theorem State.Keeps.abandon (h : s₀.Keeps s) (hst : (s.channel k).state.moving = true) : s₀.Keeps (s.abandon k) :=
  (h.endAction hst).countDoors _

theorem State.abandon_channel (s : State) (k : Fin 8) : (s.abandon k).channel k = (s.channel k).endAction := by
  unfold State.abandon; exact State.modChannel_channel _ _ _

theorem State.Keeps.clearActs (h : s₀.Keeps s) (hm : (s.channel k).mode ≠ .local_) : s₀.Keeps (s.clearActs k) := by
  unfold State.clearActs
  dsimp only
  split
  · next hst =>
    have habandoned := h.abandon (k := k) (by rw [hst]; rfl)
    split
    · refine habandoned.modChannel (Channel.follows_closeGate ?_ fun hf => hf.no_drive_of_mode ?_)
      · rw [State.abandon_channel]; rfl
      · rw [State.abandon_channel]; exact hm
    · exact (habandoned.channelWrite _ _).raiseMomentary _ _
  · next hst =>
    split
    · exact h
    · exact (h.abandon (by rw [hst]; rfl)).channelWrite _ _
  · next hst =>
    split
    · exact h
    · exact (h.abandon (by rw [hst]; rfl)).channelWrite _ _
  · next hst =>
    split
    · exact h.modChannel (Channel.follows_closeGate hst fun hf => hf.no_drive_of_mode hm)
    · exact h
  all_goals exact h

theorem Channel.follows_releaseServed {em : Prop} (c : Channel) : c.Follows em c.releaseServed := by
  unfold Channel.releaseServed
  split
  · exact .of_eq rfl rfl rfl rfl rfl rfl rfl
  · exact .refl _

theorem State.Keeps.clearEdge (h : s₀.Keeps s) (k : Fin 8) : s₀.Keeps (s.clearEdge k) := by
  have hacts : s₀.Keeps (if (s.channel k).mode = .local_ then s else s.clearActs k) := by
    split
    · exact h
    · next hm => exact h.clearActs hm
  exact hacts.modChannel (Channel.follows_releaseServed _)

/-! ### Modes and local drive -/

theorem State.Keeps.moveToLocal (h : s₀.Keeps s) (hm : (s.channel k).mode ≠ .local_) : s₀.Keeps (s.moveToLocal k) := by
  have hmoded := h.modChannel (f := fun c => c.setMode .local_) (Channel.follows_setMode hm .local_)
  unfold State.moveToLocal
  dsimp only
  split
  · next hact =>
    refine State.Keeps.channelWrite (State.Keeps.countDoors (hmoded.modFitting fun hf => ?_) _) _ _
    exact Channel.follows_endAction (hf.action ▸ hact)
  · exact hmoded

theorem State.Keeps.keyTurned (h : s₀.Keeps s) (k : Fin 8) : s₀.Keeps (s.keyTurned k) := by
  unfold State.keyTurned
  dsimp only
  split
  · next hm =>
    split
    · exact h.moveToLocal (by rw [hm]; simp)
    · exact h
  · split
    · exact h
    · exact h.modChannel (Channel.follows_setMode_stopLocal _ _)
  · exact h

theorem State.Keeps.lockout (h : s₀.Keeps s) (k : Fin 8) (on : Bool) : s₀.Keeps (s.lockout k on) := by
  unfold State.lockout
  dsimp only
  split
  · exact h.modChannel (Channel.follows_setMode_stopLocal _ _)
  · split
    · next hm =>
      split
      · exact h.moveToLocal (by rw [hm]; simp)
      · exact h.modChannel (Channel.follows_setMode (by rw [hm]; simp) _)
    · exact h
    · exact h

theorem State.Keeps.press (h : s₀.Keeps s) (k : Fin 8) (d : DriveDir) (other atEnd : Bool) :
    s₀.Keeps (s.press k d other atEnd) := by
  unfold State.press
  split
  · next hreads =>
    split
    · exact h.modChannel (Channel.follows_stopLocal _)
    · split
      · exact h
      · exact (h.modChannel (Channel.follows_startLocal hreads d)).countDoors _
  · exact h

theorem State.Keeps.letGo (h : s₀.Keeps s) (k : Fin 8) (d : DriveDir) : s₀.Keeps (s.letGo k d) := by
  refine h.modChannel ?_
  split
  · exact Channel.follows_stopDirection _ _
  · exact .refl _

theorem State.Keeps.localOpenChanged (h : s₀.Keeps s) (k : Fin 8) : s₀.Keeps (s.localOpenChanged k) := by
  unfold State.localOpenChanged
  dsimp only
  split
  · exact h.press _ _ _ _
  · exact h.letGo _ _

theorem State.Keeps.localCloseChanged (h : s₀.Keeps s) (k : Fin 8) : s₀.Keeps (s.localCloseChanged k) := by
  unfold State.localCloseChanged
  dsimp only
  split
  · exact h.press _ _ _ _
  · exact h.letGo _ _

theorem State.Keeps.localExpiry (h : s₀.Keeps s) (k : Fin 8) : s₀.Keeps (s.localExpiry k) := by
  refine h.modChannel ?_
  split
  · exact Channel.follows_stopLocal _
  · exact .refl _

theorem State.Keeps.modPins (h : s₀.Keeps s) (k : Fin 8) (f : ChannelPins → ChannelPins) : s₀.Keeps (s.modPins k f) :=
  h.modChannel (.of_eq rfl rfl rfl rfl rfl rfl rfl)

/-- An entry written to a channel without power, or with its switching kept (R115). -/
theorem State.Keeps.writeEntry (h : s₀.Keeps s) {e : ChannelEntry}
    (hsw : e.switching = (s.channel k).entry.switching ∨ (s.channel k).state.powered = false) :
    s₀.Keeps (s.modChannel k fun c => c.written e) := by
  obtain hsw | hst := hsw
  · exact h.modChannel (.of_eq hsw rfl rfl rfl rfl rfl rfl)
  · refine h.trans (.of_doors fun d => d.replace (k := k) (fun hf => ?_) ?_ (fun j => State.modChannel_channel_ne _ _) rfl)
    · rw [State.modChannel_channel]; exact ⟨hf.action, hf.fault, hf.drive, hf.halted⟩
    · rw [State.modChannel_channel]; exact hst

end

/-! ## The station rail -/

section
variable {s₀ s : State}

theorem State.Keeps.modDetector (h : s₀.Keeps s) (d : Fin 9) (f : DetectorUnit → DetectorUnit) :
    s₀.Keeps (s.modDetector d f) :=
  h.modRail fun k => k.of_eq rfl rfl rfl

theorem State.Keeps.setProgress (h : s₀.Keeps s) (i p : Nat) : s₀.Keeps (s.setProgress i p) := by
  refine h.modRail fun k => k.of_eq rfl rfl ?_
  apply List.ext_getElem
  · simp [State.railCabins]
  · intro j h1 h2
    simp only [State.railCabins, State.modRail_rail, List.getElem_map, List.getElem_modify]
    split <;> rfl

theorem State.Keeps.bayArrival (h : s₀.Keeps s) (k : Fin 8) : s₀.Keeps (s.bayArrival k) := by
  unfold State.bayArrival
  split
  · exact (h.raiseMomentary _ _).countRail _
  · split
    · exact h
    · refine State.Keeps.offerCabin (State.Keeps.setProgress ?_ _ _) _ _
      unfold State.judgeSkip
      split
      · exact (h.raiseMomentary _ _).countRail _
      · exact h

theorem State.Keeps.lockCheck (h : s₀.Keeps s) : s₀.Keeps s.lockCheck := by
  unfold State.lockCheck
  split
  · exact (h.raiseMomentary _ _).countRail _
  · split
    · exact h
    · dsimp only
      split
      · exact (h.setProgress _ _).countRail _
      · exact ((h.setProgress _ _).raiseMomentary _ _).countRail _

theorem State.Keeps.handEdge (h : s₀.Keeps s) (d : Detector) (arrival : Bool) : s₀.Keeps (s.handEdge d arrival) := by
  unfold State.handEdge
  split
  · split
    · exact h.bayArrival _
    · exact h.clearEdge _
  · split
    · exact h.lockCheck
    · exact h

theorem State.Keeps.makeEdge (h : s₀.Keeps s) (d : Detector) : s₀.Keeps (s.makeEdge d) := by
  unfold State.makeEdge
  exact ((h.modDetector _ _).countRail _).handEdge _ _

theorem State.Keeps.levelChanged (h : s₀.Keeps s) (d : Detector) : s₀.Keeps (s.levelChanged d) := by
  unfold State.levelChanged
  dsimp only
  split
  · exact h
  · split
    · exact h.modDetector _ _
    · split
      · exact h.makeEdge d
      · exact h.modDetector _ _

theorem State.Keeps.debounceExpiry (h : s₀.Keeps s) (d : Detector) : s₀.Keeps (s.debounceExpiry d) := by
  unfold State.debounceExpiry
  split
  · exact h.makeEdge d
  · exact h

theorem State.Keeps.countRead (h : s₀.Keeps s) (reader : Fin 2) (read : Option Nat) : s₀.Keeps (s.countRead reader read) := by
  unfold State.countRead
  dsimp only
  split
  · exact (h.countRail _).countRail _
  · exact h.countRail _

theorem readable_range (read : Option Nat) : ∀ id, readable read = some id → 1 ≤ id ∧ id ≤ 4095 := by
  intro id hid
  obtain ⟨-, hr⟩ := Option.filter_eq_some_iff.mp hid
  simpa using hr

theorem State.Keeps.appendStation (h : s₀.Keeps s) {a : Handed} (hnew : s.Unlisted a.cabin)
    (hroom : s.rail.cabins.length < Config.stationCapacity) : s₀.Keeps (s.appendStation a) := by
  refine State.Keeps.countRail (h.modRail fun k => ?_) _
  obtain ⟨⟨hup, hdown, hstation, -⟩, -⟩ := State.listsSound_iff.mp k
  refine k.join hnew (a := s.railCabins) (List.append_assoc _ _ _) ?_ hup hdown ?_ rfl
  · simp [State.railCabins, State.trainCabins]
  · simpa [State.railCabins] using hroom

theorem State.Keeps.arrRead (h : s₀.Keeps s) {read : Option Nat} (hread : ∀ id, read = some id → 1 ≤ id ∧ id ≤ 4095) :
    s₀.Keeps (s.arrRead read) := by
  have htaken := (h.countRead 0 read).valleyArrival hread
  have hnew := (s.countRead 0 read).valleyArrival_unlisted read
  unfold State.arrRead
  split
  next t a heq =>
  rw [heq] at htaken hnew
  have hcaused : s₀.Keeps (if read.isNone then t.raiseMomentary .tagUnread { cabin := a.cabin } else t) ∧
      (if read.isNone then t.raiseMomentary .tagUnread { cabin := a.cabin } else t).Unlisted a.cabin := by
    split
    · exact ⟨htaken.raiseMomentary _ _, hnew.congr (State.raiseMomentary_listed _ _ _)⟩
    · exact ⟨htaken, hnew⟩
  dsimp only
  generalize (if read.isNone then t.raiseMomentary .tagUnread { cabin := a.cabin } else t) = v at *
  split
  · next hroom => exact hcaused.1.appendStation hcaused.2 hroom
  · exact ((hcaused.1.raiseMomentary _ _).countRail _).locateSome _ _

theorem State.Keeps.removeChosen (h : s₀.Keeps s) (place : Option Nat) (r : StationRecord) :
    s₀.Keeps (s.removeChosen place r) := by
  unfold State.removeChosen
  split
  · refine State.Keeps.recordLeft (h.modRail fun k => ?_) _
    exact k.sublist ((List.eraseIdx_sublist _ _).map _) (fun _ => .refl _) rfl
  · exact h

theorem State.Keeps.completeLaunch (h : s₀.Keeps s) (place : Option Nat) (read : LaunchRead) :
    s₀.Keeps (s.completeLaunch place read) := by
  have hrecord : s₀.Keeps (s.launchRecord place read).1 := by
    unfold State.launchRecord
    split
    · exact h
    · exact h.countRail _
  unfold State.completeLaunch
  split
  next t r heq =>
  rw [heq] at hrecord
  dsimp only at hrecord ⊢
  have hdoor : s₀.Keeps (if r.door = .closedLocked then t else t.raiseNotLocked r.cabin) := by
    split
    · exact hrecord
    · exact hrecord.raiseMomentary _ _
  generalize (if r.door = .closedLocked then t else t.raiseNotLocked r.cabin) = v at *
  have hchecked : s₀.Keeps (if v.fitted 8 && decide (r.progress < 9) then v.countRail Ctr.unchecked else v) := by
    split
    · exact hdoor.countRail _
    · exact hdoor
  exact ((hchecked.removeChosen place r).countRail _).valleyLaunch _ _ _

theorem State.Keeps.launch (h : s₀.Keeps s) (read : LaunchRead) : s₀.Keeps (s.launch read) := by
  have hunread : s₀.Keeps (s.launchUnread read) := by
    unfold State.launchUnread
    split
    · exact h.raiseMomentary _ _
    · exact h
    · exact h
  unfold State.launch
  dsimp only
  split
  · exact ((hunread.countRail _).trackRaise _ _ _).completeLaunch _ _
  · exact hunread.completeLaunch _ _

theorem State.Keeps.lchRead (h : s₀.Keeps s) {read : Option Nat} (hread : ∀ id, read = some id → 1 ≤ id ∧ id ≤ 4095) :
    s₀.Keeps (s.lchRead read) := by
  have hcount := h.countRead 1 read
  unfold State.lchRead
  dsimp only
  split
  · next id =>
    have hres := hcount.resolve (hread id rfl)
    split
    · next heq => rw [heq] at hres; exact hres.launch _
    · next heq => rw [heq] at hres; exact hres.launch _
  · exact hcount.launch _

end
end Sys2Proof.Machine

namespace Sys2Proof.Machine

/-! ## The post poller: shares, rolls, marks, asks, reports and table writes -/

section
variable {s₀ s : State}

theorem State.Keeps.modPost (h : s₀.Keeps s) (p : Post) (f : PostEntry → PostEntry) : s₀.Keeps (s.modPost p f) :=
  h.modPoller _

theorem State.Keeps.modSeat (h : s₀.Keeps s) (r : SeatRef) (f : SeatEntry → SeatEntry) : s₀.Keeps (s.modSeat r f) :=
  h.modPoller _

/-- A share withdrawn, and the condition with it when it was the last. -/
theorem State.Keeps.withdrawUnless (h : s₀.Keeps s) (b : Bool) (c : Cause) :
    s₀.Keeps (if b then s else s.withdraw c) := by
  split
  · exact h
  · exact h.withdraw c

theorem State.Keeps.dropAbsent (h : s₀.Keeps s) (p : Post) : s₀.Keeps (s.dropAbsent p) := by
  unfold State.dropAbsent
  split
  · exact (h.modPost _ _).withdrawUnless _ _
  · exact h

theorem State.Keeps.dropSilent (h : s₀.Keeps s) (p : Post) : s₀.Keeps (s.dropSilent p) := by
  unfold State.dropSilent
  split
  · exact (h.modPost _ _).withdrawUnless _ _
  · exact h

theorem State.Keeps.dropLimit (h : s₀.Keeps s) (r : SeatRef) : s₀.Keeps (s.dropLimit r) := by
  unfold State.dropLimit
  split
  · exact (h.modSeat _ _).withdrawUnless _ _
  · exact h

theorem State.Keeps.dropSwitch (h : s₀.Keeps s) (r : SeatRef) : s₀.Keeps (s.dropSwitch r) := by
  unfold State.dropSwitch
  split
  · exact (h.modSeat _ _).withdrawUnless _ _
  · exact h

theorem State.Keeps.buildRoll (h : s₀.Keeps s) : s₀.Keeps s.buildRoll := ((h.modPoller _).countPoller _).offer _ _ _

theorem State.Keeps.rollPeriod (h : s₀.Keeps s) : s₀.Keeps s.rollPeriod := by
  have htimer := h.modPoller fun u => { u with rollTimer := s.admin.part.rollPeriod }
  unfold State.rollPeriod
  dsimp only
  split
  · exact htimer.buildRoll
  · exact ((htimer.modPoller _).countPoller _).buildRoll
  · exact htimer.countPoller _

theorem State.Keeps.raiseLost (h : s₀.Keeps s) : s₀.Keeps s.raiseLost := by
  unfold State.raiseLost
  dsimp only
  split
  · exact (h.modPoller _).raiseHeld _ _
  · exact h.modPoller _

theorem State.Keeps.rollDeadline (h : s₀.Keeps s) : s₀.Keeps s.rollDeadline := by
  unfold State.rollDeadline
  split
  · exact (((h.modPoller _).countPoller _).errorUp _).raiseLost
  · exact h

theorem State.Keeps.judgePresent (h : s₀.Keeps s) (p : Post) (present : Bool) : s₀.Keeps (s.judgePresent p present) := by
  unfold State.judgePresent
  dsimp only
  split
  · exact (h.modPost _ _).dropAbsent _
  · split
    · exact ((h.modPost _ _).modPost _ _).raiseHeld _ _
    · exact h.modPost _ _

theorem State.Keeps.rollAnswer (h : s₀.Keeps s) (payload : List Byte) (p : Post) : s₀.Keeps (s.rollAnswer payload p) := by
  unfold State.rollAnswer
  dsimp only
  split
  · split
    · exact (h.judgePresent _ _).modPoller _
    · exact h.judgePresent _ _
  · split
    · exact h.countPoller _
    · exact h

theorem State.Keeps.rollAnswers (h : s₀.Keeps s) (payload : List Byte) : s₀.Keeps (s.rollAnswers payload) := by
  have hposts := State.Keeps.foldl (fun _ p k => k.rollAnswer payload p) allPosts h
  unfold State.rollAnswers
  dsimp only
  split
  · exact hposts
  · exact hposts.countPoller _

theorem State.Keeps.rollReturned (h : s₀.Keeps s) : s₀.Keeps s.rollReturned := by
  unfold State.rollReturned
  dsimp only
  split
  · exact (h.modPoller _).withdraw _
  · exact h.modPoller _

theorem State.Keeps.takeRoll (h : s₀.Keeps s) (payload : List Byte) : s₀.Keeps (s.takeRoll payload) := by
  unfold State.takeRoll
  split
  · exact h.countPoller _
  · split
    · exact h.rollReturned.rollAnswers _
    · exact h.countPoller _

theorem State.Keeps.samplePeriod (h : s₀.Keeps s) : s₀.Keeps s.samplePeriod := by
  unfold State.samplePeriod
  exact (((h.modPoller _).countPoller _).offer _ _ _).modPoller _

theorem State.Keeps.missAsk (h : s₀.Keeps s) (p : Post) : s₀.Keeps (s.missAsk p) := by
  unfold State.missAsk
  dsimp only
  split
  · exact (((h.modPost _ _).countPoller _).modPost _ _).raiseHeld _ _
  · exact (h.modPost _ _).countPoller _

theorem State.Keeps.endAsk (h : s₀.Keeps s) : s₀.Keeps s.endAsk := h.modPoller _

theorem State.Keeps.askDeadline (h : s₀.Keeps s) : s₀.Keeps s.askDeadline := by
  unfold State.askDeadline
  split
  · exact h
  · split
    · refine State.Keeps.endAsk ?_
      split
      · exact h.missAsk _
      · exact h.countPoller _
    · exact h

theorem State.Keeps.beyondStop (h : s₀.Keeps s) (r : SeatRef) : s₀.Keeps (s.beyondStop r) := by
  unfold State.beyondStop
  dsimp only
  split
  · exact ((h.modSeat _ _).modSeat _ _).raiseHeld _ _
  · exact h.modSeat _ _

theorem State.Keeps.beyondWarn (h : s₀.Keeps s) (r : SeatRef) : s₀.Keeps (s.beyondWarn r) :=
  (h.countPoller _).raiseMomentary _ _

theorem State.Keeps.judgeOffset (h : s₀.Keeps s) (r : SeatRef) (o : Int) : s₀.Keeps (s.judgeOffset r o) := by
  unfold State.judgeOffset
  dsimp only
  split
  · exact h
  · next t _ =>
    split
    · exact ((h.countPoller _).beyondWarn _).beyondStop _
    · have hwarn : s₀.Keeps (if beyondLimit t (s.seat r).warn then s.beyondWarn r else s) := by
        split
        · exact h.beyondWarn _
        · exact h
      split
      · exact hwarn.beyondStop _
      · exact (hwarn.modSeat _ _).dropLimit _

theorem State.Keeps.judgeSwitches (h : s₀.Keeps s) (r : SeatRef) (anyOpen : Bool) : s₀.Keeps (s.judgeSwitches r anyOpen) := by
  unfold State.judgeSwitches
  dsimp only
  split
  · exact h
  · split
    · split
      · exact h.countPoller _
      · exact ((h.countPoller _).modSeat _ _).raiseHeld _ _
    · exact h.dropSwitch _

theorem State.Keeps.seatEntry (h : s₀.Keeps s) (p : Post) (e : SeatReport) : s₀.Keeps (s.seatEntry p e) := by
  unfold State.seatEntry
  dsimp only
  split
  · exact (h.judgeOffset _ _).judgeSwitches _ _
  · exact h.countPoller _

theorem State.Keeps.handReport (h : s₀.Keeps s) (p : Post) (r : ReportReading) : s₀.Keeps (s.handReport p r) := by
  have hseats := State.Keeps.foldl (fun _ e k => k.seatEntry p e) r.seats h
  have hpassages : s₀.Keeps (r.passages.foldl (State.handPassage p) (r.seats.foldl (State.seatEntry p) s)) :=
    State.Keeps.foldl (fun _ e k => (k.countPoller _).passage _ _) _ hseats
  unfold State.handReport
  dsimp only
  split
  · exact hpassages.countPoller _
  · exact hpassages

theorem State.Keeps.judgeReport (h : s₀.Keeps s) (a : OutstandingAsk) (r : ReportReading) : s₀.Keeps (s.judgeReport a r) := by
  have hcount := h.countPoller (Ctr.reports a.post)
  unfold State.judgeReport
  dsimp only
  split
  · exact hcount.countPoller _
  · split
    · exact ((hcount.modPost _ _).dropSilent _).handReport _ _
    · unfold State.staleReport
      dsimp only
      split
      · exact (hcount.countPoller _).missAsk _
      · exact hcount.countPoller _

theorem State.Keeps.takeReport (h : s₀.Keeps s) (payload : List Byte) : s₀.Keeps (s.takeReport payload) := by
  unfold State.takeReport
  split
  · exact (h.judgeReport _ _).endAsk
  · exact h
  · exact h.countPoller _

theorem State.Keeps.sendPostClear (h : s₀.Keeps s) (p : Post) : s₀.Keeps (s.sendPostClear p).1 :=
  (h.countPoller _).offerSaying _ _ _

theorem State.Keeps.clearSeat (h : s₀.Keeps s) (r : SeatRef) : s₀.Keeps (s.clearSeat r) :=
  ((h.modSeat _ _).dropLimit _).dropSwitch _

theorem State.Keeps.unfitPost (h : s₀.Keeps s) (p : Post) : s₀.Keeps (s.unfitPost p) :=
  State.Keeps.foldl (fun _ r k => k.clearSeat r) _ (((h.modPoller _).dropAbsent _).dropSilent _)

theorem State.Keeps.takePostWrite (h : s₀.Keeps s) (p : Post) (fitted : Bool) : s₀.Keeps (s.takePostWrite p fitted) := by
  unfold State.takePostWrite
  split
  · exact h
  · refine State.Keeps.rebuildSequences ?_
    split
    · exact h.dueAsk.modPost _ _
    · exact h.dueAsk.unfitPost _

theorem State.Keeps.takeSeatWrite (h : s₀.Keeps s) (r : SeatRef) (f : SeatFields) (t : Track) (m : Compare) :
    s₀.Keeps (s.takeSeatWrite r f t m) :=
  ((h.clearSeat _).modSeat _ _).rebuildSequences

end
end Sys2Proof.Machine

namespace Sys2Proof.Machine

/-! ## The telephony unit -/

/-- Everything but the calls kept, with an asserted category that has not fallen. -/
structure State.KeepsRest (s t : State) : Prop where
  ports : ∀ p, (s.port p).Sound → (t.port p).Sound
  chain : s.ChainSound → t.ChainSound
  rope : s.RopeSound → t.RopeSound
  lists : s.ListsSound → t.ListsSound
  doors : s.DoorsSound → t.DoorsSound
  rises : s.chain.asserted.rank ≤ t.chain.asserted.rank

theorem State.Keeps.rest {s t : State} (h : s.Keeps t) : s.KeepsRest t :=
  ⟨h.ports, h.chain, h.rope, h.lists, h.doors, h.rises⟩

theorem State.KeepsRest.withCalls {s t : State} (h : s.KeepsRest t) (hcalls : s.tel.Sound → t.tel.Sound) : s.Keeps t :=
  ⟨⟨h.ports, h.chain, h.rope, h.lists, hcalls, h.doors⟩, h.rises⟩

theorem State.KeepsRest.refl (s : State) : s.KeepsRest s := (State.Keeps.refl s).rest

theorem State.KeepsRest.trans {s t w : State} (h : s.KeepsRest t) (k : t.KeepsRest w) : s.KeepsRest w :=
  ⟨fun p => k.ports p ∘ h.ports p, k.chain ∘ h.chain, k.rope ∘ h.rope, k.lists ∘ h.lists, k.doors ∘ h.doors,
    Nat.le_trans h.rises k.rises⟩

/-- An operation on the calls leaves all the rest. -/
theorem State.KeepsRest.of_calls {s t : State} (hports : s.Carries t) (hchain : t.chain = s.chain := by simp)
    (hrope : t.rope = s.rope := by simp) (htracker : t.tracker = s.tracker := by simp)
    (hrail : t.rail = s.rail := by simp) (hdoors : t.doors = s.doors := by simp) : s.KeepsRest t :=
  ⟨fun p => (hports p).sound, fun h => h.of_eq (by rw [hchain]) (by rw [hchain]) (by rw [hchain]) (by rw [hchain]) (by rw [hrope]),
    fun h => h.of_eq (by rw [hrope]) (by rw [hrope]) (by rw [hrope]) (by rw [hrope]) (by rw [hrope]) (by rw [htracker]),
    fun h => h.of_eq (by rw [htracker]) (by rw [htracker]) (State.railCabins_congr (by rw [hrail])),
    fun h => h.of_eq hdoors (by rw [hchain]), by rw [hchain]⟩

section
variable {s₀ s : State} {out : Fin 4 → Prop}

theorem Telephony.Sound.soundBut {u : Telephony} (h : u.Sound) : u.SoundBut fun _ => False :=
  Telephony.sound_iff_soundBut.mp h

/-- No record is left out once every one that was has been dealt with. -/
theorem Telephony.SoundBut.sound {u : Telephony} (h : u.SoundBut out) (hout : ∀ j, ¬ out j) : u.Sound :=
  Telephony.sound_iff_soundBut.mpr (h.congr fun j => iff_false_intro (hout j))

theorem State.Keeps.withCalls {t : State} (h : s₀.Keeps s) (hrest : s.KeepsRest t) (hcalls : s.tel.Sound → t.tel.Sound) :
    s₀.Keeps t :=
  h.trans (hrest.withCalls hcalls)

/-! ### Records, lines and channels -/

/-- A record that is not HELD, and is not after, keeps its channel or holds none. -/
theorem State.modRecord_soundBut (h : s.tel.SoundBut out) {i : Fin 4} {f : CallRecord → CallRecord}
    (hi : (s.tel.records[i]).state ≠ .held) (hf : (f s.tel.records[i]).state ≠ .held)
    (hch : (f s.tel.records[i]).channel = none ∨ (f s.tel.records[i]).channel = (s.tel.records[i]).channel) :
    (s.modRecord i f).tel.SoundBut out := by
  refine h.modify (i := i) (r := f s.tel.records[i]) hi (upd_congr rfl) rfl hf (fun v hv j hj hjv => ?_) h.jitter
  obtain hch | hch := hch
  · rw [hch] at hv; cases hv
  · exact hj (h.channel j i v hjv (hch ▸ hv))

theorem State.modRecord_rest (s : State) (i : Fin 4) (f : CallRecord → CallRecord) : s.KeepsRest (s.modRecord i f) :=
  .of_calls (.of_eq rfl rfl)

theorem State.Keeps.modRecord (h : s₀.Keeps s) {i : Fin 4} {f : CallRecord → CallRecord}
    (hi : (s.tel.records[i]).state ≠ .held) (hf : (f s.tel.records[i]).state ≠ .held)
    (hch : (f s.tel.records[i]).channel = none ∨ (f s.tel.records[i]).channel = (s.tel.records[i]).channel) :
    s₀.Keeps (s.modRecord i f) :=
  h.withCalls (s.modRecord_rest i f) fun k => (State.modRecord_soundBut k.soundBut hi hf hch).sound fun _ => id

theorem State.modRecord_record (s : State) (i : Fin 4) (f : CallRecord → CallRecord) :
    (s.modRecord i f).tel.records[i] = f s.tel.records[i] := upd_self _ _ _

theorem State.connect_soundBut' (h : s.tel.SoundBut out) {i : Fin 4} (hi : (s.tel.records[i]).state ≠ .held) :
    (s.connect i).tel.SoundBut out :=
  (State.connect_soundBut h (h.not_held.mp hi).1).drop (h.not_held.mp hi).2

theorem State.connect_rest (s : State) (i : Fin 4) : s.KeepsRest (s.connect i) := .of_calls (.of_eq (by simp) (by simp))

theorem State.Keeps.connect (h : s₀.Keeps s) {i : Fin 4} (hi : (s.tel.records[i]).state ≠ .held) :
    s₀.Keeps (s.connect i) :=
  h.withCalls (s.connect_rest i) fun k => (State.connect_soundBut' k.soundBut hi).sound fun _ => id

theorem State.Keeps.ringIn (h : s₀.Keeps s) {i : Fin 4} (hi : (s.tel.records[i]).state ≠ .held) : s₀.Keeps (s.ringIn i) :=
  h.modRecord hi (by simp) (.inr rfl)

theorem State.Keeps.releaseChannel (h : s₀.Keeps s) (i : Fin 4) : s₀.Keeps (s.releaseChannel i) :=
  h.withCalls (.of_calls (.of_eq (by simp) (by simp))) fun k =>
    (State.releaseChannel_soundBut k.soundBut i).sound fun _ => id

theorem State.releaseChannel_record (s : State) (i : Fin 4) :
    (s.releaseChannel i).tel.records[i] = { s.tel.records[i] with channel := none } := by
  rw [State.releaseChannel_records]; exact upd_self _ _ _

/-- A voice channel no other record holds is claimed. -/
theorem State.Keeps.claim (h : s₀.Keeps s) (i : Fin 4) {v : VoiceName}
    (hfree : ∀ j, j ≠ i → (s.tel.records[j]).channel ≠ some v) : s₀.Keeps (s.claim i v) :=
  h.withCalls (.of_calls (.of_eq rfl rfl)) fun k => (State.claim_soundBut k.soundBut i hfree).sound fun _ => id

/-! ### The freeing of a record -/

theorem State.raise_soundBut (h : s.tel.SoundBut out) (c : Cause) (d : Detail) (m : Bool) :
    (s.raise c d m).tel.SoundBut out := by
  cases hin : s.inSet c
  · rw [State.raise_new hin]
    unfold State.handOnEntry
    dsimp only
    split
    · refine State.stopCallTrigger_soundBut ?_
      split <;> simpa using h
    · split <;> simpa using h
  · rw [State.raise_known hin, State.judgeRise_tel]
    exact h

theorem State.freeCall_rest (s : State) (i : Fin 4) (reason : ClearReason) (quiet excused : Bool) :
    s.KeepsRest (s.freeCall i reason quiet excused) := by
  have hfreed : s.KeepsRest (s.freeCore i reason quiet).resumption :=
    .of_calls ((s.freeCore_carries i reason quiet).trans (State.resumption_carries _))
  unfold State.freeCall
  dsimp only
  split
  · exact hfreed.trans ((State.Keeps.refl _).raiseMomentary _ _).rest
  · exact hfreed

theorem State.freeCall_soundBut (h : s.tel.SoundBut out) (i : Fin 4) (reason : ClearReason) (quiet excused : Bool) :
    (s.freeCall i reason quiet excused).tel.SoundBut fun j => out j ∧ j ≠ i := by
  have hfreed := State.resumption_soundBut (State.freeCore_soundBut h i reason quiet)
  unfold State.freeCall
  dsimp only
  split
  · exact State.raise_soundBut hfreed _ _ _
  · exact hfreed

theorem State.Keeps.freeCall (h : s₀.Keeps s) (i : Fin 4) (reason : ClearReason) (quiet excused : Bool) :
    s₀.Keeps (s.freeCall i reason quiet excused) :=
  h.withCalls (s.freeCall_rest _ _ _ _) fun k => (State.freeCall_soundBut k.soundBut _ _ _ _).sound fun _ => And.left

/-! ### Calls opened at the valley -/

theorem State.Keeps.openLocal (h : s₀.Keeps s) {i : Fin 4} {r : CallRecord} (hi : (s.tel.records[i]).state ≠ .held)
    (hr : r.channel = none) (remote : Fin 2) : s₀.Keeps (s.openLocal i r remote) := by
  have hopen := h.modRecord (i := i)
    (f := fun _ => { r with state := .ringingOut, remote := .localLine remote, timer := some Config.ringTime }) hi (by simp)
    (.inl hr)
  unfold State.openLocal
  dsimp only
  split
  · refine hopen.connect ?_
    rw [State.modRecord_record]; simp
  · exact hopen

theorem State.Keeps.fallback (h : s₀.Keeps s) {i : Fin 4} (hi : (s.tel.records[i]).state ≠ .held) (reason : ClearReason) :
    s₀.Keeps (s.fallback i reason) := by
  unfold State.fallback
  dsimp only
  split
  · refine State.Keeps.openLocal ((h.releaseChannel i).countTel _) ?_ ?_ 0
    · show ((s.releaseChannel i).tel.records[i]).state ≠ _
      rw [State.releaseChannel_record]; exact hi
    · exact congrArg CallRecord.channel (s.releaseChannel_record i)
  · exact h.freeCall _ _ _ _

theorem Telephony.freeRecord_idle {u : Telephony} {i : Fin 4} (h : u.freeRecord = some i) :
    (u.records[i]).state ≠ .held ∧ (u.records[i]).state ≠ .connected := by
  rw [Telephony.freeRecord_free h]; simp

theorem State.Keeps.openSummit (h : s₀.Keeps s) {i : Fin 4} (hi : s.tel.freeRecord = some i) (r : CallRecord) :
    s₀.Keeps (s.openSummit i r).1 := by
  obtain ⟨hheld, hcon⟩ := Telephony.freeRecord_idle hi
  exact h.withCalls (.of_calls (s.openSummit_carries i r)) fun k =>
    (State.openSummit_soundBut k.soundBut r hheld hcon).sound fun _ => id

/-- A new call takes a FREE record. -/
theorem State.Keeps.newRecord (h : s₀.Keeps s) {i : Fin 4} (hi : s.tel.freeRecord = some i) (l : Fin 2) (remote : Remote)
    (p : Priority) : s₀.Keeps (s.modRecord i fun _ => newCall i l remote p) :=
  h.modRecord (Telephony.freeRecord_idle hi).1 (by simp [newCall]) (.inl rfl)

theorem State.Keeps.openHotline (h : s₀.Keeps s) : s₀.Keeps s.openHotline := by
  unfold State.openHotline
  split
  · exact h.countTel _
  · next i hi =>
    have hopen := h.openSummit hi (newCall i 1 (.summit (summitLineOf s.tel.table.hotline)) .routine)
    dsimp only
    split
    · next heq => rw [heq] at hopen; exact hopen
    · next heq =>
      rw [State.openSummit_refused heq]
      exact ((h.newRecord hi _ _ _).freeCall _ _ _ _).countTel _

theorem State.Keeps.newFallback (h : s₀.Keeps s) {i : Fin 4} (hi : s.tel.freeRecord = some i) (l : Fin 2) (remote : Remote)
    (p : Priority) (reason : ClearReason) : s₀.Keeps ((s.modRecord i fun _ => newCall i l remote p).fallback i reason) := by
  refine (h.newRecord hi l remote p).fallback ?_ reason
  rw [State.modRecord_record]; simp [newCall]

theorem State.Keeps.openHelp (h : s₀.Keeps s) : s₀.Keeps s.openHelp := by
  unfold State.openHelp
  split
  · exact h
  · next i hi =>
    have hopen := h.openSummit hi (newCall i 1 (.summit (summitLineOf s.tel.table.help)) .emergency)
    dsimp only
    split
    · exact h.newFallback hi _ _ _ _
    · split
      · next heq => rw [heq] at hopen; exact hopen
      · next heq => rw [State.openSummit_refused heq]; exact h.newFallback hi _ _ _ _

theorem State.Keeps.helpPressed (h : s₀.Keeps s) : s₀.Keeps s.helpPressed := by
  unfold State.helpPressed
  split
  · next i hi =>
    split
    · exact h.countTel _
    · have hheld := CallState.ne_held_of_live (Telephony.activeRecord_live hi)
      have hraised := h.modRecord (f := fun r => { r with priority := .emergency }) hheld hheld (.inr rfl)
      unfold State.raiseByButton
      dsimp only
      split
      · exact hraised.sendCall _ _
      · exact hraised
  · exact h.openHelp

/-! ### Hooks and CALL-PLACE -/

theorem Telephony.ringingRecord_rings {u : Telephony} {l : Fin 2} {i : Fin 4} (h : u.ringingRecord l = some i) :
    (u.records[i]).state ≠ .held ∧ (u.records[i]).state ≠ .connected := by
  have hrings : (u.records[i]).rings l = true :=
    List.find?_some (p := fun i : Fin 4 => (u.records[i]).rings l) h
  unfold CallRecord.rings at hrings
  constructor <;> intro e <;> rw [e] at hrings <;> cases hrings

theorem State.Keeps.stopCallToSummit (h : s₀.Keeps s) {i : Fin 4} (hheld : (s.tel.records[i]).state ≠ .held)
    (hcon : (s.tel.records[i]).state ≠ .connected) : s₀.Keeps (s.stopCallToSummit i) :=
  h.withCalls (.of_calls (s.stopCallToSummit_carries i)) fun k =>
    (State.stopCallToSummit_soundBut k.soundBut hheld hcon).sound fun _ => id

theorem State.Keeps.wentOffHook (h : s₀.Keeps s) (l : Fin 2) : s₀.Keeps (s.wentOffHook l) := by
  unfold State.wentOffHook
  split
  · next i hi =>
    obtain ⟨hheld, hcon⟩ := Telephony.ringingRecord_rings hi
    unfold State.answer
    dsimp only
    split
    · exact (h.connect hheld).sendCall _ _
    · exact h.connect hheld
    · exact h.stopCallToSummit hheld hcon
  · split
    · exact h.openHotline
    · exact h

theorem State.Keeps.wentOnHook (h : s₀.Keeps s) (l : Fin 2) : s₀.Keeps (s.wentOnHook l) := by
  unfold State.wentOnHook
  split
  · exact h.freeCall _ _ _ _
  · exact h

theorem State.Keeps.placeLocal (h : s₀.Keeps s) (p : Priority) : s₀.Keeps (s.placeLocal p).1 := by
  unfold State.placeLocal
  split
  · exact h
  · split
    · exact h
    · next i hi => exact h.openLocal (Telephony.freeRecord_idle hi).1 rfl 1

theorem State.Keeps.placeSummit (h : s₀.Keeps s) (line : Fin 4) (p : Priority) : s₀.Keeps (s.placeSummit line p).1 := by
  unfold State.placeSummit
  split
  · exact h
  · split
    · exact h
    · next i hi =>
      have hopen := h.openSummit hi (newCall i 0 (.summit line) p)
      split
      · next heq => rw [heq] at hopen; exact hopen
      · next heq => rw [State.openSummit_refused heq]; exact h

theorem State.Keeps.placeCall (h : s₀.Keeps s) (remote : Option (Fin 4)) (p : Priority) :
    s₀.Keeps (s.placeCall remote p).1 := by
  unfold State.placeCall
  split
  · exact h
  · split
    · exact h
    · split
      · exact h.placeLocal p
      · exact h.placeSummit _ p

theorem State.Keeps.callExpiry (h : s₀.Keeps s) (i : Fin 4) : s₀.Keeps (s.callExpiry i) := by
  unfold State.callExpiry
  dsimp only
  split
  · split
    · exact h.freeCall _ _ _ _
    · exact h.freeCall _ _ _ _
    · exact h.freeCall _ _ _ _
    · exact h.freeCall _ _ _ _
    · exact h
    · exact h
  · exact h

/-! ### CALL frames from the summit -/

theorem State.openIncoming_rest (s : State) (c : CallReading) (v : VoiceName) : s.KeepsRest (s.openIncoming c v) := by
  unfold State.openIncoming
  split
  · exact ((State.Keeps.refl s).offer _ _ _).rest
  · next i _ =>
    have hnew : s.KeepsRest ((s.modRecord i fun _ => incomingRecord c).claim i v) := .of_calls (.of_eq rfl rfl)
    dsimp only
    split
    · exact hnew.trans ((State.connect_rest _ i).trans (((State.Keeps.refl _).sendCall _ _).sendCall _ _).rest)
    · exact hnew.trans ((State.modRecord_rest _ i _).trans ((State.Keeps.refl _).sendCall _ _).rest)

theorem State.openIncoming_soundBut (h : s.tel.SoundBut out) (c : CallReading) {v : VoiceName}
    (hfree : ∀ j : Fin 4, (s.tel.records[j]).channel ≠ some v) : (s.openIncoming c v).tel.SoundBut out := by
  unfold State.openIncoming
  split
  · simpa [State.answerClear] using h
  · next i hi =>
    have hnew := State.modRecord_soundBut h (f := fun _ => incomingRecord c) (Telephony.freeRecord_idle hi).1
      (by simp [incomingRecord]) (.inl rfl)
    have hclaim := State.claim_soundBut hnew i (v := v) fun j hj => by
      rw [State.modRecord_records, upd_apply, if_neg hj]; exact hfree j
    have hheld : ((((s.modRecord i fun _ => incomingRecord c).claim i v).tel.records)[i]).state ≠ .held := by
      rw [State.claim_records, upd_self, State.modRecord_record]; simp [incomingRecord]
    dsimp only
    split
    · rw [State.sendCall_tel, State.sendCall_tel]; exact State.connect_soundBut' hclaim hheld
    · rw [State.sendCall_tel]
      exact State.modRecord_soundBut hclaim hheld (by simp) (.inr rfl)

theorem State.takeVictims_rest (l : List (Fin 4)) (s : State) : s.KeepsRest (l.foldl State.takeVictim s) :=
  .of_calls (State.takeVictims_carries l s)

theorem State.Keeps.requestByPreemption (h : s₀.Keeps s) (c : CallReading) : s₀.Keeps (s.requestByPreemption c) := by
  unfold State.requestByPreemption
  split
  · next victims v hv =>
    refine State.Keeps.resumption (h.withCalls ((State.takeVictims_rest victims s).trans (State.openIncoming_rest _ c v))
      fun k => ?_)
    obtain ⟨hs, hfree⟩ := State.preempted_soundBut k.soundBut (Telephony.preemption_preempts k.soundBut hv)
    exact (State.openIncoming_soundBut hs c hfree).sound fun _ => id
  · exact h.offer _ _ _

theorem State.Keeps.takeRequest (h : s₀.Keeps s) (c : CallReading) : s₀.Keeps (s.takeRequest c) := by
  unfold State.takeRequest
  split
  · exact h.offer _ _ _
  · split
    · exact h.countTel _
    · split
      · exact h.offer _ _ _
      · split
        · next v _ hv =>
          refine h.withCalls (State.openIncoming_rest s c v) fun k => ?_
          exact (State.openIncoming_soundBut k.soundBut c (Telephony.freeChannel_free hv)).sound fun _ => id
        · split
          · exact h.requestByPreemption c
          · exact h.offer _ _ _

/-- A HELD record raised to EMERGENCY before it seeks its line and a channel: out of the stack (R161). -/
def State.raisedHeld (s : State) (i : Fin 4) : State :=
  (s.modTel fun u => { u with stack := u.stack.filter (· != i) }).modRecord i fun r =>
    { r with priority := .emergency, timer := none }

theorem State.raisedHeld_soundBut (h : s.tel.Sound) {i : Fin 4} (hi : (s.tel.records[i]).state = .held) :
    (s.raisedHeld i).tel.SoundBut fun j => j = i := by
  have hmem : i ∈ s.tel.stack := (h.soundBut.held i).mp hi |>.resolve_right id
  have hout := h.soundBut.unstack (u' := { s.tel with stack := s.tel.stack.filter (· != i) }) hmem rfl rfl h.soundBut.jitter
  refine Telephony.SoundBut.congr (out := fun j => False ∨ j = i) ?_ fun j => by simp
  have hrecords : (s.raisedHeld i).tel.records =
      upd s.tel.records i fun _ => { s.tel.records[i] with priority := .emergency, timer := none } := by
    unfold State.raisedHeld
    rw [State.modRecord_records]
    exact upd_congr rfl
  exact hout.keepState (i := i) hrecords rfl rfl
    (fun hin => absurd hin (by simp)) (fun v hv j hj hjv => hj (hout.channel j i v hjv hv)) hout.jitter

theorem State.raisedHeld_rest (s : State) (i : Fin 4) : s.KeepsRest (s.raisedHeld i) :=
  .of_calls (.of_eq rfl rfl) rfl rfl rfl rfl rfl

theorem State.Keeps.raiseHeldRecord (h : s₀.Keeps s) {i : Fin 4} (hi : (s.tel.records[i]).state = .held) :
    s₀.Keeps (s.raiseHeldRecord i) := by
  have hstate : ((s.raisedHeld i).tel.records[i]).state = .held := by
    unfold State.raisedHeld; rw [State.modRecord_record]; exact hi
  have hstack : i ∉ (s.raisedHeld i).tel.stack := by simp [State.raisedHeld]
  have heq : s.raiseHeldRecord i =
      match (s.raisedHeld i).tel.preemption (some i) ((s.raisedHeld i).record i).line with
      | some (victims, v) => ((victims.foldl State.takeVictim (s.raisedHeld i)).resumeRecord i v).resumption
      | none => (s.raisedHeld i).freeCall i .busy false false := rfl
  rw [heq]
  split
  · next victims v hv =>
    refine State.Keeps.resumption (h.withCalls ((s.raisedHeld_rest i).trans ((State.takeVictims_rest victims _).trans
      (.of_calls (State.resumeRecord_carries _ i v)))) fun k => ?_)
    have hraised := State.raisedHeld_soundBut k hi
    have hp := Telephony.preemption_preempts hraised hv
    obtain ⟨hs, hfree⟩ := State.preempted_soundBut hraised hp
    have hin : i ∉ victims := fun hin => CallState.ne_held_of_live (hp.live i hin) hstate
    exact (State.resumeRecord_soundBut hs (State.takeVictims_stack victims hin hstack) fun j _ => hfree j).sound
      fun j ⟨e, hne⟩ => hne e
  · refine h.withCalls ((s.raisedHeld_rest i).trans (State.freeCall_rest _ _ _ _ _)) fun k => ?_
    exact (State.freeCall_soundBut (State.raisedHeld_soundBut k hi) _ _ _ _).sound fun j ⟨e, hne⟩ => hne e

theorem State.Keeps.callPriority (h : s₀.Keeps s) (i : Fin 4) (p : Priority) : s₀.Keeps (s.callPriority i p) := by
  unfold State.callPriority
  dsimp only
  split
  · exact h.countTel _
  · split
    · next hc => exact h.raiseHeldRecord hc.1
    · next hc =>
      refine h.withCalls (s.modRecord_rest i _) fun k => ?_
      refine Telephony.SoundBut.sound (out := fun _ => False) ?_ fun _ => id
      have hrecords : (s.modRecord i fun r => { r with priority := p }).tel.records =
          upd s.tel.records i fun _ => { s.tel.records[i] with priority := p } := by
        rw [State.modRecord_records]; exact upd_congr rfl
      exact k.soundBut.keepState (i := i) hrecords rfl rfl
        (fun hin he => hc ⟨(k.soundBut.held i).mpr (.inl hin), he⟩)
        (fun v hv j hj hjv => hj (k.soundBut.channel j i v hjv hv)) k.soundBut.jitter

theorem State.Keeps.matchedCall (h : s₀.Keeps s) (i : Fin 4) (sub : CallSub) (c : CallReading) :
    s₀.Keeps (s.matchedCall i sub c) := by
  unfold State.matchedCall
  split
  · exact h
  · unfold State.callRinging
    split
    · next hst =>
      have hheld : (s.tel.records[i]).state ≠ .held := by rw [show (s.tel.records[i]).state = .setup from hst]; simp
      exact h.modRecord hheld (by simp) (.inr rfl)
    · exact h.countTel _
  · unfold State.callAnswer
    split
    · next hst => exact h.connect (by rw [show (s.tel.records[i]).state = .setup from hst]; simp)
    · next hst => exact h.connect (by rw [show (s.tel.records[i]).state = .ringingOut from hst]; simp)
    all_goals exact h.countTel _
  · exact h.freeCall _ _ _ _
  · exact h.callPriority _ _
  · exact h.countTel _
  · exact h.countTel _

theorem State.Keeps.takeCall (h : s₀.Keeps s) (sub : Nat) (contents : Contents) : s₀.Keeps (s.takeCall sub contents) := by
  unfold State.takeCall
  split
  · exact h.takeRequest _
  · split
    · exact h.matchedCall _ _ _
    · exact h.countTel _
  · exact h.countTel _

/-! ### The loss of the line -/

theorem State.freeCalls_rest (l : List (Fin 4)) (reason : ClearReason) (quiet excused : Bool) : ∀ s : State,
    s.KeepsRest (l.foldl (fun s i => s.freeCall i reason quiet excused) s) := by
  induction l with
  | nil => exact State.KeepsRest.refl
  | cons a l ih => exact fun s => (s.freeCall_rest a _ _ _).trans (ih _)

theorem State.freeCalls_soundBut (l : List (Fin 4)) (reason : ClearReason) (quiet excused : Bool) :
    ∀ {s : State} {out : Fin 4 → Prop}, s.tel.SoundBut out →
      (l.foldl (fun s i => s.freeCall i reason quiet excused) s).tel.SoundBut fun j => out j ∧ j ∉ l := by
  induction l with
  | nil => exact fun h => h.congr fun j => by simp
  | cons a l ih =>
    intro s out h
    refine (ih (State.freeCall_soundBut h a reason quiet excused)).congr fun j => ?_
    rw [List.mem_cons, not_or]
    tauto

theorem Telephony.SoundBut.emptied {u : Telephony} (h : u.Sound) :
    ({ u with stack := [] } : Telephony).SoundBut fun j => j ∈ u.stack := by
  obtain ⟨-, -, hheld, -, hchan, hjit⟩ := h
  exact ⟨List.nodup_nil, Nat.zero_le _, fun i => by simpa using hheld i, by simp, by simp, hchan, hjit⟩

theorem State.Keeps.loseHeld (h : s₀.Keeps s) : s₀.Keeps s.loseHeld := by
  have hempty : s.KeepsRest (s.modTel fun u => { u with stack := [] }) := .of_calls (.of_eq rfl rfl)
  refine h.withCalls (hempty.trans (State.freeCalls_rest _ _ _ _ _)) fun k => ?_
  exact (State.freeCalls_soundBut s.tel.stack _ _ _ (s := s.modTel fun u => { u with stack := [] })
    (Telephony.SoundBut.emptied k)).sound fun j hj => hj.2 hj.1

theorem State.Keeps.lineLost (h : s₀.Keeps s) : s₀.Keeps s.lineLost := by
  refine State.Keeps.foldl (fun s i k => ?_) allRecords (State.Keeps.foldl (fun s i k => ?_) allRecords h.loseHeld)
  · unfold State.turnHelp
    dsimp only
    split
    · next hc => exact k.fallback (CallState.ne_held_of_live hc.1) _
    · exact k
  · unfold State.loseRecord
    dsimp only
    split
    · exact k.freeCall _ _ _ _
    · exact k

/-! ### Voice -/

/-- A change of the telephony unit that leaves the records, the stack and keeps the jitter queues within their capacity. -/
theorem State.Keeps.modTelVoice (h : s₀.Keeps s) {f : Telephony → Telephony} (hr : (f s.tel).records = s.tel.records)
    (hs : (f s.tel).stack = s.tel.stack) (hv : s.tel.Bounded → (f s.tel).Bounded) : s₀.Keeps (s.modTel f) :=
  h.withCalls (.of_calls (.of_eq rfl rfl)) fun k =>
    (k.soundBut.of_eq (u' := f s.tel) hr hs (hv k.soundBut.jitter)).sound fun _ => id

theorem State.Keeps.modVoice (h : s₀.Keeps s) (v : VoiceName) {f : VoiceUnit → VoiceUnit}
    (hf : (s.tel.voices[voiceIndex v]).jitter.length ≤ Config.jitterCapacity →
      (f s.tel.voices[voiceIndex v]).jitter.length ≤ Config.jitterCapacity) : s₀.Keeps (s.modVoice v f) :=
  h.modTelVoice rfl rfl fun k => k.upd (k := voiceIndex v) rfl (hf (k _))

theorem State.Keeps.sendVoice (h : s₀.Keeps s) (v : VoiceName) (samples : List Byte) : s₀.Keeps (s.sendVoice v samples) := by
  have hnext := h.modVoice v (f := fun u => { u with txSeq := (s.tel.voices[voiceIndex v]).txSeq + 1 }) id
  unfold State.sendVoice
  dsimp only
  split
  · exact (hnext.countTel _).offer _ _ _
  · exact hnext.countTel _

theorem State.Keeps.play (h : s₀.Keeps s) (l : Fin 2) (samples : List Byte) : s₀.Keeps (s.play l samples) :=
  h.modTelVoice rfl rfl id

theorem State.Keeps.codecBlock (h : s₀.Keeps s) (l : Fin 2) (samples : List Byte) : s₀.Keeps (s.codecBlock l samples) := by
  unfold State.codecBlock
  split
  · exact h
  · dsimp only
    split
    · split
      · exact h.sendVoice _ _
      · exact h.play _ _
      · exact h
    · exact h

theorem insertVoice_length (expected : Byte) (f : Byte × List Byte) (q : List (Byte × List Byte)) :
    (insertVoice expected f q).length = q.length + 1 := by
  induction q with
  | nil => rfl
  | cons g q ih => unfold insertVoice; split <;> simp [ih]

/-- A jitter queue that takes a frame stays within its capacity (R167). -/
theorem judgeVoice_length {expected : Byte} {q q' : List (Byte × List Byte)} {f : Byte × List Byte} {overflow : Bool}
    (h : judgeVoice expected q f = .queued overflow q') (hq : q.length ≤ Config.jitterCapacity) :
    q'.length ≤ Config.jitterCapacity := by
  unfold judgeVoice at h
  split at h
  · cases h
  · split at h
    · cases h
    · split at h
      · next hroom => cases h; rw [insertVoice_length]; exact hroom
      · split at h
        · next g hg =>
          split at h
          · cases h
            rw [insertVoice_length, List.length_dropLast]
            have : 0 < q.length := List.length_pos_of_mem (List.mem_of_getLast? hg)
            omega
          · cases h
        · cases h

theorem VoiceUnit.startPlaying_jitter (v : VoiceUnit) : v.startPlaying.jitter = v.jitter := by
  unfold VoiceUnit.startPlaying; split <;> rfl

theorem State.Keeps.insertFrame (h : s₀.Keeps s) (v : VoiceName) (f : Byte × List Byte) : s₀.Keeps (s.insertFrame v f) := by
  unfold State.insertFrame
  dsimp only
  split
  · exact h.countTel _
  · exact h.countTel _
  · exact h.countTel _
  · next overflow q hq =>
    split
    · refine (h.countTel _).modVoice v fun hlen => ?_
      rw [VoiceUnit.startPlaying_jitter]
      exact judgeVoice_length hq hlen
    · refine h.modVoice v fun hlen => ?_
      rw [VoiceUnit.startPlaying_jitter]
      exact judgeVoice_length hq hlen

theorem State.Keeps.takeVoice (h : s₀.Keeps s) (contents : Contents) : s₀.Keeps (s.takeVoice contents) := by
  unfold State.takeVoice
  split
  · split
    · exact h.countTel _
    · split
      · exact h.countTel _
      · exact h.insertFrame _ _
  · exact h.countTel _

theorem VoiceUnit.playOne_jitter (u : VoiceUnit) (k : Fin 2) : (u.playOne k).2.1.jitter.length ≤ u.jitter.length := by
  unfold VoiceUnit.playOne
  dsimp only
  split
  · next g rest hq =>
    split
    · rw [hq]; exact Nat.le_succ _
    · split
      · split <;> exact Nat.le_refl _
      · exact Nat.le_refl _
  · split
    · split <;> exact Nat.le_refl _
    · exact Nat.le_refl _

theorem State.Keeps.playOn (h : s₀.Keeps s) (v : VoiceName) (samples : List Byte) : s₀.Keeps (s.playOn v samples) := by
  unfold State.playOn
  split
  · exact h.play _ _
  · exact h

theorem State.playOn_voices (s : State) (v : VoiceName) (samples : List Byte) :
    (s.playOn v samples).tel.voices = s.tel.voices := by
  unfold State.playOn; split <;> rfl

theorem State.Keeps.playout (h : s₀.Keeps s) (v : VoiceName) : s₀.Keeps (s.playout v) := by
  unfold State.playout
  dsimp only
  split
  · have hlen := (s.tel.voices[voiceIndex v]).playOne_jitter (voiceIndex v)
    generalize (s.tel.voices[voiceIndex v]).playOne (voiceIndex v) = played at *
    obtain ⟨block, u', counter⟩ := played
    have hplayed := (h.countTel counter).playOn v block
    have hbound : ∀ n, (((s.countTel counter).playOn v block).tel.voices[voiceIndex v]).jitter.length ≤ n →
        u'.jitter.length ≤ n := by
      intro n hn
      rw [State.playOn_voices] at hn
      exact Nat.le_trans hlen hn
    split
    · exact ((hplayed.modVoice v (hbound _)).countTel _).playOn _ _
    · exact hplayed.modVoice v (hbound _)
  · exact h

theorem State.Keeps.setHook (h : s₀.Keeps s) (l : Fin 2) (off : Bool) : s₀.Keeps (s.setHook l off) :=
  h.modTelVoice rfl rfl id

end
end Sys2Proof.Machine

namespace Sys2Proof.Machine

/-! ## The summit link, the stop chain and the requests' own rules -/

section
variable {s₀ s : State}

theorem State.Keeps.followLink (h : s₀.Keeps s) : s₀.Keeps s.followLink := by
  unfold State.followLink
  split
  · exact h.modLink _
  · exact ((h.modLink _).countLink _).withdraw _
  · exact h

theorem State.Keeps.readRequest (h : s₀.Keeps s) (c : Category) : s₀.Keeps (s.readRequest c) := by
  have hread := h.modLink fun u => { u with request := c }
  unfold State.readRequest
  dsimp only
  split
  · exact hread.raiseHeld _ _
  · split
    · exact hread.withdraw _
    · exact hread

theorem State.Keeps.acceptBeat (h : s₀.Keeps s) (n : Byte) (c : Category) : s₀.Keeps (s.acceptBeat n c) := by
  have hcount := (h.modLink fun u =>
    { u with guard := some Config.earlyGuard, late := some Config.lateTime, lastBeat := some n }).countLink Ctr.acceptedBeat
  unfold State.acceptBeat
  dsimp only
  refine State.Keeps.readRequest (State.Keeps.followLink ?_) c
  split
  · exact hcount.countLink _
  · exact hcount

theorem State.Keeps.takeBeat (h : s₀.Keeps s) (n : Nat) (contents : Contents) : s₀.Keeps (s.takeBeat n contents) := by
  unfold State.takeBeat
  split
  · split
    · exact h.countLink _
    · split
      · exact h.countLink _
      · exact h.acceptBeat _ _
  · exact h.countLink _

theorem State.Keeps.enterSilent (h : s₀.Keeps s) : s₀.Keeps s.enterSilent := by
  have hsilent := (h.modLink fun u => { u with state := .silent, late := none, guard := none, lastBeat := none }).countLink
    Ctr.silentEntry
  unfold State.enterSilent
  dsimp only
  refine State.Keeps.lineLost ?_
  split
  · exact hsilent.raiseHeld _ _
  · exact hsilent

theorem State.Keeps.lateExpiry (h : s₀.Keeps s) : s₀.Keeps s.lateExpiry := by
  unfold State.lateExpiry
  split
  · exact h.enterSilent
  · exact h

theorem State.Keeps.valleyBeat (h : s₀.Keeps s) : s₀.Keeps s.valleyBeat := by
  unfold State.valleyBeat
  exact ((h.modLink _).countLink _).offer _ _ _

theorem State.Keeps.takeTerminal (h : s₀.Keeps s) (contents : Contents) : s₀.Keeps (s.takeTerminal contents) := by
  unfold State.takeTerminal
  split
  · split
    · exact h.countLink _
    · next hrange =>
      obtain ⟨hcabin, -⟩ := not_or.mp hrange
      split
      · exact (h.countLink _).summitArrival _ (Nat.le_of_not_lt hcabin)
      · exact (h.countLink _).summitDeparture _ (Nat.le_of_not_lt hcabin)
  · exact h.countLink _

/-! ### The stop chain -/

theorem State.Keeps.modFilter (h : s₀.Keeps s) (i : StopInput) (f : StopFilter → StopFilter) : s₀.Keeps (s.modFilter i f) :=
  h.modChain ⟨rfl, rfl, rfl, rfl⟩

theorem State.Keeps.filterExpiry (h : s₀.Keeps s) (i : StopInput) : s₀.Keeps (s.filterExpiry i) := by
  unfold State.filterExpiry
  dsimp only
  split
  · split
    · exact ((h.modFilter _ _).countChain _).raiseHeld _ _
    · split
      · exact (h.modFilter _ _).withdraw _
      · exact h.modFilter _ _
  · exact h

/-- Causes that stay or leave, A and the table as they are, the timer stopped or as it is. -/
theorem State.Keeps.fewerCauses (h : s₀.Keeps s) {f : StopChain → StopChain}
    (hcauses : (f s.chain).causes.Sublist s.chain.causes) (hasserted : (f s.chain).asserted = s.chain.asserted)
    (htable : (f s.chain).table = s.chain.table) (htimer : (f s.chain).timer = none ∨ (f s.chain).timer = s.chain.timer) :
    s₀.Keeps (s.modChain f) := by
  refine h.trans ⟨⟨fun p => by simp, fun k => ?_, fun k => k.of_eq rfl rfl rfl rfl rfl rfl, fun k => k.of_eq rfl rfl rfl, id,
    fun k => k.of_eq rfl hasserted⟩, Nat.le_of_eq (congrArg Category.rank hasserted).symm⟩
  obtain ⟨hcodes, hrecords, htab, htime⟩ := k
  refine ⟨hcodes.sublist (hcauses.map _), fun r hr => ?_, fun c => ?_, fun hstill => ?_⟩
  · rw [State.modChain_chain, hasserted]; exact hrecords r (hcauses.subset hr)
  · rw [State.modChain_chain, htable]; exact htab c
  · obtain htimer | htimer := htimer
    · exact htimer
    · exact htimer.trans (htime hstill)

theorem State.Keeps.stopTimerExpiry (h : s₀.Keeps s) : s₀.Keeps s.stopTimerExpiry := by
  unfold State.stopTimerExpiry
  split
  · exact ((h.fewerCauses (f := fun u => { u with timer := none }) (.refl _) rfl rfl (.inl rfl)).countChain _).raiseMomentary
      _ _
  · exact h

theorem State.Keeps.clearNotices (h : s₀.Keeps s) : s₀.Keeps s.clearNotices :=
  h.fewerCauses List.filter_sublist rfl rfl (.inr rfl)

theorem State.Keeps.takeCauseWrite (h : s₀.Keeps s) (c : Cause) {e : CauseEntry}
    (he : (causeMinimum c).rank ≤ e.category.rank) : s₀.Keeps (s.takeCauseWrite c e) := by
  refine h.judgeRise rfl rfl (fun k => ?_) (fun k r hr => ?_) fun k c' => ?_
  · exact codes_nodup_map_if k.1 fun _ => rfl
  · obtain ⟨r', hr', rfl⟩ := List.mem_map.mp hr
    obtain ⟨hmin, -, hocc⟩ := k.2.1 r' hr'
    split
    · exact ⟨by rw [Category.rank_sup]; exact Nat.le_trans hmin (Nat.le_max_left _ _), hocc⟩
    · exact ⟨hmin, hocc⟩
  · rw [upd_apply]
    split
    · next hc => rw [causeCode_injective hc]; exact he
    · exact k.2.2.1 c'

/-- What stays after a permit was in the set before it, but for RESET_LATCH's condition. -/
theorem mem_afterPermit {l : List CauseRecord} {r : CauseRecord} (h : r ∈ afterPermit l) :
    ∃ r' ∈ l, r.code = r'.code ∧ r.category = r'.category ∧ r.occurrences = r'.occurrences := by
  obtain ⟨r', hr', rfl⟩ := List.mem_map.mp (List.mem_filter.mp h).1
  refine ⟨r', hr', ?_⟩
  split <;> exact ⟨rfl, rfl, rfl⟩

/-- The state whose A a permit judges: the causes gone, the permit counted (R178 steps 1 and 2). -/
def State.permitted (s : State) : State :=
  (s.modChain fun u => { u with causes := afterPermit u.causes }).countChain Ctr.permit

theorem State.permit_eq (s : State) : s.permit = s.permitted.setAsserted (demandedOf (afterPermit s.chain.causes)) := rfl

/-- At standstill no change of A starts the stop timer (R181). -/
theorem State.setAsserted_timer {s : State} (hstill : s.rope.standstill = true) (c : Category) :
    (s.setAsserted c).chain.timer = s.chain.timer := by
  unfold State.setAsserted
  dsimp only
  split
  · rfl
  · simp [State.judgeStopTimer, stopTimerStarts, hstill]

/-- A permit at standstill keeps everything sound; A may fall (R178). -/
theorem State.permit_keepsSound {s : State} (hstill : s.rope.standstill = true) : s.KeepsSound s.permit := by
  have hset : s.Carries s.permitted := .of_eq rfl rfl
  have htimer := State.setAsserted_timer (s := s.permitted) hstill (demandedOf (afterPermit s.chain.causes))
  have hdoors : s.DoorsSound → s.permitted.DoorsSound := fun k => k.of_eq rfl rfl
  have hrail : s.permitted.railCabins = s.railCabins := rfl
  have hchain : s.permitted.chain.causes = afterPermit s.chain.causes ∧ s.permitted.chain.table = s.chain.table ∧
      s.permitted.chain.timer = s.chain.timer := ⟨rfl, rfl, rfl⟩
  have hframe : s.permitted.rope = s.rope ∧ s.permitted.tracker = s.tracker ∧ s.permitted.tel = s.tel := ⟨rfl, rfl, rfl⟩
  rw [State.permit_eq]
  generalize s.permitted = u at *
  obtain ⟨hcauses, htable, htime'⟩ := hchain
  obtain ⟨hrope, htracker, htel⟩ := hframe
  refine ⟨fun p => ((hset.trans (State.setAsserted_carries _ _)) p).sound, fun k => ?_, fun k => ?_, fun k => ?_, fun k => ?_,
    fun k => State.setAsserted_doorsSound (hdoors k) _⟩
  · obtain ⟨hcodes, hrecords, htab, htime⟩ := k
    unfold State.ChainSound
    rw [State.setAsserted_causes, State.setAsserted_asserted, State.setAsserted_table, htimer, State.setAsserted_rope, hcauses,
      htable, htime', hrope]
    refine ⟨?_, fun r hr => ?_, htab, htime⟩
    · have hmapped := codes_nodup_map_if (c := .resetLatch) (f := fun r => { r with present := false }) hcodes fun _ => rfl
      exact hmapped.sublist (List.filter_sublist.map _)
    · obtain ⟨r', hr', hcode, hcat, hocc⟩ := mem_afterPermit hr
      obtain ⟨hmin, -, hlow, hhigh⟩ := hrecords r' hr'
      exact ⟨by rw [hcode, hcat]; exact hmin, demandedOf_ge hr, hocc ▸ hlow, hocc ▸ hhigh⟩
  · exact k.of_eq (by simp [hrope]) (by simp [hrope]) (by simp [hrope]) (by simp [hrope]) (by simp [hrope]) (by simp [htracker])
  · exact k.of_eq (by simp [htracker]) (by simp [htracker]) ((State.setAsserted_railCabins _ _).trans hrail)
  · rw [State.setAsserted_tel, htel]; exact k

/-! ### The requests' own rules -/

theorem State.Keeps.clearCounters (h : s₀.Keeps s) (b : Block) (start : Nat) : s₀.Keeps (s.clearCounters b start) := by
  unfold State.clearCounters
  split
  · exact h.trans (.of_carries (State.modPort_carries (.of_eq rfl rfl rfl rfl)))
  · exact h.trans (.of_carries (State.modPort_carries (.of_eq rfl rfl rfl rfl)))
  · exact h.modSwitch _
  · exact h.modPoller _
  · exact h.modRope ⟨rfl, rfl, rfl, rfl, rfl⟩
  · exact h.modTracker rfl fun k => k.of_eq rfl rfl rfl
  · exact h.modRail fun k => k.of_eq rfl rfl rfl
  · exact h.trans (.of_doors (fun k => k) (hrail := rfl))
  · exact h.modLink _
  · exact h.modTelVoice rfl rfl fun k => k
  · exact h.modChain ⟨rfl, rfl, rfl, rfl⟩
  · exact h.modAdmin _

theorem State.Keeps.done (h : s₀.Keeps s) : s₀.Keeps s.done.1 := h

theorem State.Keeps.doCausesRead (h : s₀.Keeps s) (position : Nat) : s₀.Keeps (s.doCausesRead position).1 := by
  unfold State.doCausesRead
  dsimp only
  split
  · exact h
  · split <;> exact h

theorem State.Keeps.doStop (h : s₀.Keeps s) (category : Option Category) : s₀.Keeps (s.doStop category).1 := by
  unfold State.doStop
  split
  · exact h
  · exact h
  · exact h.raiseMomentary _ _

theorem State.Keeps.doCountersRead (h : s₀.Keeps s) (block : Option Block) (start : Nat) (clear : Bool) :
    s₀.Keeps (s.doCountersRead block start clear).1 := by
  unfold State.doCountersRead
  split
  · exact h
  · dsimp only
    split
    · exact h
    · dsimp only
      split
      · exact h.clearCounters _ _
      · exact h

theorem State.Keeps.doTableRead (h : s₀.Keeps s) (t : TableRef) : s₀.Keeps (s.doTableRead t).1 := by
  unfold State.doTableRead
  split <;> exact h

theorem State.Keeps.doPartWrite (h : s₀.Keeps s) (f : PartFields) : s₀.Keeps (s.doPartWrite f).1 := by
  unfold State.doPartWrite
  split
  · exact (((h.settle _).settle _).modAdmin _).done
  · exact h

theorem State.Keeps.doClassWrite (h : s₀.Keeps s) (port : Option Port) (kind : Nat) (action : Option ClassAction)
    (cls : Nat) : s₀.Keeps (s.doClassWrite port kind action cls).1 := by
  unfold State.doClassWrite
  split
  · exact (h.modSwitch _).done
  · exact h

theorem State.Keeps.doPostWrite (h : s₀.Keeps s) (number : Nat) (fitted : Bool) : s₀.Keeps (s.doPostWrite number fitted).1 := by
  unfold State.doPostWrite
  split
  · exact h
  · split
    · exact h
    · split
      · exact h
      · exact (h.takePostWrite _ _).done

theorem State.Keeps.doSeatWrite (h : s₀.Keeps s) (post seat : Nat) (f : SeatFields) :
    s₀.Keeps (s.doSeatWrite post seat f).1 := by
  unfold State.doSeatWrite
  split
  · dsimp only
    split
    · exact h
    · split
      · exact h
      · exact (h.takeSeatWrite _ _ _ _).done
  · exact h

theorem State.Keeps.doRopeWrite (h : s₀.Keeps s) (f : RopeFields) : s₀.Keeps (s.doRopeWrite f).1 := by
  unfold State.doRopeWrite
  split
  · exact h
  · split
    · exact h
    · exact (State.Keeps.judgeSlip (h.modRope ⟨rfl, rfl, rfl, rfl, rfl⟩)).done

theorem State.Keeps.doStationWrite (h : s₀.Keeps s) (entry : Option Detector) (f : StationFields) :
    s₀.Keeps (s.doStationWrite entry f).1 := by
  unfold State.doStationWrite
  split
  · dsimp only
    split
    · exact h
    · split
      · exact h
      · exact (h.modDetector _ _).done
  · exact h

/-- A switching in use stays; one that is not in use is kept, or the channel has no power (R115). -/
theorem State.switching_of_not_inUse {s : State} {k : Fin 8} {w : Switching} (h : s.switchingInUse k w = false) :
    w = (s.channel k).entry.switching ∨ (s.channel k).state.powered = false := by
  by_cases e : (s.channel k).entry.switching = w
  · exact .inl e.symm
  · refine .inr ?_
    unfold State.switchingInUse at h
    simp only [e, ne_eq, not_false_eq_true, decide_true, Bool.true_and, Bool.or_eq_false_iff] at h
    exact h.1

theorem State.Keeps.writeChannel (h : s₀.Keeps s) (k : Fin 8) (e : ChannelEntry) : s₀.Keeps (s.writeChannel k e).1 := by
  unfold State.writeChannel
  split
  · exact h
  · split
    · exact h
    · next hfree => exact (h.writeEntry (State.switching_of_not_inUse (by simpa using hfree))).done

theorem State.Keeps.doChannelWrite (h : s₀.Keeps s) (w : ChannelWrite) : s₀.Keeps (s.doChannelWrite w).1 := by
  unfold State.doChannelWrite
  split
  · split
    · split
      · exact h.writeChannel _ _
      · exact h
    · exact h
  · split
    · split
      · exact State.Keeps.done (h.trans (.of_doors (fun k => k) (hrail := rfl)))
      · exact h
    · exact h

theorem State.Keeps.doCauseWrite (h : s₀.Keeps s) (code : Nat) (f : CauseFields) : s₀.Keeps (s.doCauseWrite code f).1 := by
  unfold State.doCauseWrite
  split
  · next c cat _ _ =>
    have hclamp : s₀.Keeps (if decide (cat.rank < (causeMinimum c).rank) = true then s.countChain Ctr.clamp else s) := by
      split
      · exact h.countChain _
      · exact h
    dsimp only
    generalize (if decide (cat.rank < (causeMinimum c).rank) = true then s.countChain Ctr.clamp else s) = u at *
    split
    · exact hclamp
    · exact hclamp.takeCauseWrite c (by rw [Category.rank_sup]; exact Nat.le_max_right _ _)
  · exact h

theorem State.Keeps.doTelephonyWrite (h : s₀.Keeps s) (f : TelephonyFields) : s₀.Keeps (s.doTelephonyWrite f).1 := by
  unfold State.doTelephonyWrite
  split
  · exact State.Keeps.done (h.modTelVoice rfl rfl fun k => k)
  · exact h

theorem State.Keeps.doSettingsWrite (h : s₀.Keeps s) (f : CabinSettingsFields) : s₀.Keeps (s.doSettingsWrite f).1 := by
  unfold State.doSettingsWrite
  split
  · split
    · exact State.Keeps.done (h.modTracker rfl fun k => k.of_eq rfl rfl rfl)
    · exact h
  · exact h

theorem State.Keeps.doCabinLoad (h : s₀.Keeps s) (id : Nat) (cls : Option CabinClass) (door : Option DoorMode) :
    s₀.Keeps (s.doCabinLoad id cls door).1 := by
  unfold State.doCabinLoad
  split
  · split
    · next hrange =>
      obtain ⟨hlow, hhigh⟩ := cabinInRange_iff.mp hrange
      unfold State.loadCabin
      split
      · exact State.Keeps.done (h.modEntry id (fun _ => rfl) fun e ⟨hlow', hhigh', _⟩ => ⟨hlow', hhigh', by simp⟩)
      · next hnone =>
        split
        · next hroom =>
          exact State.Keeps.done (h.modTracker rfl fun k => k.retable rfl fun ht =>
            ht.insert ⟨hlow, hhigh, by simp⟩ (Option.not_isSome_iff_eq_none.mp hnone) hroom)
        · exact h
    · exact h
  · exact h

theorem State.Keeps.doCabinPurge (h : s₀.Keeps s) (id : Nat) : s₀.Keeps (s.doCabinPurge id).1 := by
  unfold State.doCabinPurge
  split
  · exact h
  · split
    · exact h
    · split
      · exact h
      · exact State.Keeps.done (h.modTracker rfl fun k => k.retable rfl fun ht => ht.sublist List.filter_sublist)

theorem State.Keeps.doFlushLearned (h : s₀.Keeps s) : s₀.Keeps s.doFlushLearned.1 := by
  have hflush : s₀.Keeps (s.modTracker fun u => { u with cabins := u.cabins.filter fun e => !e.ages }) :=
    h.modTracker rfl fun k => k.retable rfl fun ht => ht.sublist List.filter_sublist
  exact hflush

theorem State.Keeps.doCabinFind (h : s₀.Keeps s) (id : Nat) : s₀.Keeps (s.doCabinFind id).1 := by
  unfold State.doCabinFind
  split
  · exact h
  · split <;> exact h

theorem State.Keeps.doCabinNext (h : s₀.Keeps s) (id : Nat) : s₀.Keeps (s.doCabinNext id).1 := by
  unfold State.doCabinNext
  split
  · exact h
  · split <;> exact h

theorem State.Keeps.readTrain (h : s₀.Keeps s) (t : Track) (position : Nat) : s₀.Keeps (s.readTrain t position).1 := by
  unfold State.readTrain
  dsimp only
  split
  · exact h
  · split <;> exact h

theorem State.Keeps.doListRead (h : s₀.Keeps s) (list : Option ListName) (position : Nat) :
    s₀.Keeps (s.doListRead list position).1 := by
  unfold State.doListRead
  split
  · exact h
  · exact h.readTrain _ _
  · exact h.readTrain _ _
  · unfold State.readStation
    dsimp only
    split
    · exact h
    · split <;> exact h

theorem State.Keeps.doTrackOn (h : s₀.Keeps s) (track : Option Track) : s₀.Keeps (s.doTrackOn track).1 := by
  unfold State.doTrackOn
  split
  · exact h
  · split
    · exact h
    · exact (h.trackOn _).done

theorem State.Keeps.doTrackOff (h : s₀.Keeps s) (track : Option Track) : s₀.Keeps (s.doTrackOff track).1 := by
  unfold State.doTrackOff
  split
  · exact h
  · split
    · exact h
    · split
      · exact h
      · exact (h.takeTrackOff _).done

theorem State.Keeps.doChannelPower (h : s₀.Keeps s) (channel : Nat) (on : Bool) :
    s₀.Keeps (s.doChannelPower channel on).1 := by
  unfold State.doChannelPower
  split
  · exact h
  · split
    · exact h
    · next hsw =>
      unfold State.powerChannel
      dsimp only
      split
      · split
        · exact h
        · split
          · next hst => exact (h.channelOn hst hsw).done
          · exact h
      · exact (h.channelOff _).done

theorem State.Keeps.doGroupPower (h : s₀.Keeps s) (group : Nat) (on : Bool) : s₀.Keeps (s.doGroupPower group on).1 := by
  unfold State.doGroupPower
  split
  · exact h
  · split
    · split
      · exact h
      · next hnofault =>
        split
        · exact h
        · next hoff =>
          refine State.Keeps.done (h.groupOn (by simpa using hoff) fun k hk hst => hnofault ?_)
          exact List.any_eq_true.mpr ⟨k, State.mem_members.mpr hk, by simpa using hst⟩
    · exact (h.groupOff _).done

theorem State.Keeps.doChannelReset (h : s₀.Keeps s) (channel : Nat) : s₀.Keeps (s.doChannelReset channel).1 := by
  unfold State.doChannelReset
  split
  · exact h
  · split
    · next hst => exact h.resetFault hst
    · exact h

theorem State.Keeps.doChannelLockout (h : s₀.Keeps s) (channel : Nat) (on : Bool) :
    s₀.Keeps (s.doChannelLockout channel on).1 := by
  unfold State.doChannelLockout
  split
  · exact h
  · exact (h.lockout _ _).done

theorem State.Keeps.doChannelRead (h : s₀.Keeps s) (channel : Nat) : s₀.Keeps (s.doChannelRead channel).1 := by
  unfold State.doChannelRead
  split
  · exact h
  · exact h.modChannel (.of_eq rfl rfl rfl rfl rfl rfl rfl)

theorem State.Keeps.doPostClear (h : s₀.Keeps s) (post : Nat) : s₀.Keeps (s.doPostClear post).1 := by
  unfold State.doPostClear
  split
  · exact h
  · next p _ => exact h.sendPostClear p

theorem State.Keeps.doClearNotices (h : s₀.Keeps s) : s₀.Keeps s.doClearNotices.1 := h.clearNotices

theorem State.Keeps.doCallPlace (h : s₀.Keeps s) (remote : PlaceRemote) (priority : Option Priority) :
    s₀.Keeps (s.doCallPlace remote priority).1 := by
  unfold State.doCallPlace
  split
  · next r p _ =>
    have hplaced := h.placeCall r p
    split
    · next heq => rw [heq] at hplaced; exact hplaced
    · next heq => rw [heq] at hplaced; exact hplaced
  · exact h

theorem State.Keeps.doCallClear (h : s₀.Keeps s) (record : Nat) : s₀.Keeps (s.doCallClear record).1 := by
  unfold State.doCallClear
  split
  · exact h
  · split
    · exact h
    · exact (h.freeCall _ _ _ _).done

/-- RESTART-PERMIT keeps everything sound, and A where the rope moves (R178). -/
theorem State.doRestartPermit_keepsSound (s : State) : s.KeepsSound s.doRestartPermit.1 ∧
    (s.rope.standstill = false → s.Keeps s.doRestartPermit.1) := by
  unfold State.doRestartPermit
  split
  · next hstill => exact ⟨State.permit_keepsSound hstill, fun hmoves => absurd (hmoves.symm.trans hstill) (by simp)⟩
  · exact ⟨((State.Keeps.refl s).countChain _).toKeepsSound, fun _ => (State.Keeps.refl s).countChain _⟩

end
end Sys2Proof.Machine

namespace Sys2Proof.Machine

/-! ## Resets -/

theorem portInitial_sound : portInitial.Sound := by
  refine ⟨fun c => ?_, Nat.zero_le _, fun c _ => ?_, by simp [portInitial]⟩
  · simp [portInitial]
  · simp [portInitial]

theorem telephonyReset_sound (t : TelephonyFields) (hooks : Vector Bool 2) : (telephonyReset t hooks).Sound := by
  refine ⟨List.nodup_nil, Nat.zero_le _, fun i => ?_, fun i hi => absurd hi (by simp [telephonyReset]), fun i j v hi => ?_, fun k => ?_⟩
  · simp [telephonyReset, callFree]
  · simp [telephonyReset, callFree] at hi
  · simp [telephonyReset, voiceInitial]

/-- A stop chain after a reset is sound upon a table above its minima. -/
theorem State.chainReset_sound {s : State} {table : Vector CauseEntry 39} {levels : Vector Bool 5}
    (hchain : s.chain = chainReset table levels)
    (htable : ∀ c : Cause, (causeMinimum c).rank ≤ ((table[causeCode c]).category).rank) : s.ChainSound := by
  unfold State.ChainSound
  rw [hchain]
  refine ⟨by simp [chainReset], fun r hr => ?_, htable, fun _ => rfl⟩
  rw [List.mem_singleton.mp hr]
  exact ⟨htable _, Category.rank_le_emergency _, Nat.le_refl _, by simp [resetLatchRecord]⟩

theorem causeTableDefault_minimum (c : Cause) : (causeMinimum c).rank ≤ ((causeTableDefault[causeCode c]).category).rank := by
  cases c <;> decide

/-- Channels after a reset are sound: none has power, an action, a fault or a drive. -/
theorem State.doorsReset_sound {s : State} (h : ∀ k, ∃ e p, s.channel k = channelReset e p) : s.DoorsSound := by
  rw [State.doorsSound_iff]
  intro k
  obtain ⟨e, p, hk⟩ := h k
  rw [hk]
  exact ⟨⟨rfl, by simp [channelReset], by simp [channelReset], fun _ => rfl⟩, fun hp => by cases hp⟩

theorem doorsInitial_channel (pins : Vector ChannelPins 8) (k : Fin 8) :
    (doorsInitial pins).channels[k] = channelReset channelDefault pins[k] := by
  simp [doorsInitial]

theorem State.ListsSound.emptied {s : State} (hrail : s.rail.cabins = []) (hlists : s.tracker.lists = ⟨[], []⟩)
    (htable : s.tracker.TableSound) : s.ListsSound := by
  rw [State.listsSound_iff]
  refine ⟨?_, htable⟩
  simp [State.listedCabins_eq_filterMap, State.railCabins, State.trainCabins, hrail, hlists, PerTrack.get]

section
variable {s₀ s : State}

/-- The hard reset values are sound whatever was before (R192). -/
theorem State.Keeps.hardValues (s : State) (held : Bool) : s.Keeps { s.hardValues with pinHeld := held } := by
  refine ⟨⟨fun p _ => ?_, fun _ => ?_, fun _ => ?_, fun _ => ?_, fun _ => ?_, fun _ => ?_⟩, Category.rank_le_emergency _⟩
  · cases p <;> exact portInitial_sound
  · exact State.chainReset_sound rfl causeTableDefault_minimum
  · exact ⟨by simp [State.hardValues, ropeInitial], by simp [State.hardValues, ropeInitial], by simp [State.hardValues, ropeInitial],
      by simp [State.hardValues, ropeInitial], by simp [State.hardValues, ropeInitial], by simp [State.hardValues, ropeInitial],
      fun _ _ => rfl⟩
  · exact State.ListsSound.emptied rfl rfl ⟨Nat.zero_le _, .nil, by simp [State.hardValues, trackerInitial]⟩
  · exact telephonyReset_sound _ _
  · exact State.doorsReset_sound fun k => ⟨channelDefault, _, doorsInitial_channel _ k⟩

/-- The soft restart values are sound where the state before was (R193). -/
theorem State.Keeps.softValues (h : s₀.Keeps s) : s₀.Keeps s.softValues := by
  refine h.trans ⟨⟨fun p _ => ?_, fun k => ?_, fun k => ?_, fun k => ?_, fun _ => ?_, fun _ => ?_⟩,
    Category.rank_le_emergency _⟩
  · cases p <;> exact portInitial_sound
  · exact State.chainReset_sound rfl k.2.2.1
  · obtain ⟨hspeed, hgate, hzeros, hstill, hzero, -, -⟩ := k
    exact ⟨hspeed, hgate, hzeros, hstill, hzero, Nat.zero_le _, fun _ _ => rfl⟩
  · refine State.ListsSound.emptied rfl rfl ?_
    obtain ⟨-, hlen, hsorted, hsound⟩ := State.listsSound_iff.mp k
    refine ⟨?_, ?_, fun e he => ?_⟩
    · exact (List.length_map _).trans_le ((List.length_filter_le _ _).trans hlen)
    · exact List.pairwise_map.mpr (hsorted.sublist List.filter_sublist)
    · obtain ⟨e', he', rfl⟩ := List.mem_map.mp he
      exact hsound e' (List.mem_filter.mp he').1
  · exact telephonyReset_sound _ _
  · exact State.doorsReset_sound fun k => ⟨(s.channel k).entry, (s.channel k).pins, vecMap_get _ _ _⟩

theorem State.Keeps.handOnReset (h : s₀.Keeps s) (old : Category) : s₀.Keeps (s.handOnReset old) :=
  ((h.notice _).handOnEntry _).raiseHeld _ _

/-! ## The admin responder -/

theorem State.Keeps.settleRequest {r : Reply} (h : s₀.Keeps r.1) (rq : Requester) (code : RequestCode) (tag : Byte) :
    s₀.Keeps (State.settleRequest rq code tag r) := by
  refine State.Keeps.countAdmin ?_ _
  unfold State.answerTo
  split
  · exact h.offer _ _ _
  · exact h.countAdmin _

theorem State.Keeps.request (h : s₀.Keeps s) (rq : Requester) (code : RequestCode) (tag : Byte) {own : State → Reply}
    (hown : s₀.Keeps (own s).1) : s₀.Keeps (s.request rq code tag own) := by
  refine State.Keeps.settleRequest ?_ rq code tag
  split
  · exact hown
  · exact h.countAdmin _

theorem State.Keeps.doIdentify (h : s₀.Keeps s) : s₀.Keeps s.doIdentify.1 := by
  unfold State.doIdentify; exact h

theorem State.Keeps.doStatusRead (h : s₀.Keeps s) : s₀.Keeps s.doStatusRead.1 := by
  unfold State.doStatusRead; exact h

theorem State.Keeps.onMisfit (h : s₀.Keeps s) (rq : Requester) (tag : Byte) (code : RequestCode) :
    s₀.Keeps (s.onMisfit rq tag code) :=
  h.request _ _ _ h

theorem State.Keeps.onRestartPart (h : s₀.Keeps s) (rq : Requester) (tag : Byte) : s₀.Keeps (s.onRestartPart rq tag) := by
  unfold State.onRestartPart
  split
  · exact (h.request _ _ _ h.done).softValues.handOnReset _
  · exact h.request _ _ _ h

/-- Everything kept sound, and A not fallen but where `p` holds. -/
structure State.KeepsOr (p : Prop) (s t : State) : Prop extends State.KeepsSound s t where
  rises : ¬ p → s.chain.asserted.rank ≤ t.chain.asserted.rank

theorem State.Keeps.keepsOr {t : State} (h : s.Keeps t) (p : Prop) : s.KeepsOr p t := ⟨h.toKeepsSound, fun _ => h.rises⟩

/-- A command's own step after what goes before it. -/
theorem State.Keeps.thenOr {p q : Prop} {t : State} (h : s₀.Keeps s) (k : s.KeepsOr p t) (hpq : p → q) : s₀.KeepsOr q t :=
  ⟨h.toKeepsSound.trans k.toKeepsSound, fun hq => Nat.le_trans h.rises (k.rises (mt hpq hq))⟩

theorem State.KeepsOr.thenKeeps {p : Prop} {t w : State} (h : s.KeepsOr p t) (k : t.Keeps w) : s.KeepsOr p w :=
  ⟨h.toKeepsSound.trans k.toKeepsSound, fun hp => Nat.le_trans (h.rises hp) k.rises⟩

/-- RESTART-PERMIT lowers A only for the console, at standstill (R178, R185). -/
theorem State.onRestartPermit_keepsOr (s : State) (rq : Requester) (tag : Byte) :
    s.KeepsOr (s.rope.standstill = true ∧ s.isConsole rq = true) (s.onRestartPermit rq tag) := by
  obtain ⟨hsound, hmoves⟩ := s.doRestartPermit_keepsSound
  cases hmay : s.mayRequest rq .restartPermit
  · unfold State.onRestartPermit
    rw [State.request_refused hmay]
    exact State.Keeps.keepsOr (State.Keeps.settleRequest ((State.Keeps.refl s).countAdmin _) _ _ _) _
  · have hconsole : s.isConsole rq = true := by simpa [State.mayRequest, summitMay] using hmay
    unfold State.onRestartPermit
    rw [State.request_taken hmay]
    have hown : s.KeepsOr (s.rope.standstill = true ∧ s.isConsole rq = true) s.doRestartPermit.1 :=
      ⟨hsound, fun hnot => (hmoves (by simpa [hconsole] using hnot)).rises⟩
    exact hown.thenKeeps (State.Keeps.settleRequest (State.Keeps.refl _) _ _ _)

/-- A request other than RESTART-PERMIT. -/
theorem State.Keeps.runRequest (h : s₀.Keeps s) (rq : Requester) (tag : Byte) {r : Request} (hr : r ≠ .restartPermit) :
    s₀.Keeps (s.runRequest rq tag r) := by
  unfold State.runRequest
  split
  · exact h.request _ _ _ h.doIdentify
  · exact h.request _ _ _ h.doStatusRead
  · exact h.request _ _ _ (h.doCausesRead _)
  · exact h.request _ _ _ (h.doStop _)
  · exact h.request _ _ _ (h.doCountersRead _ _ _)
  · exact h.request _ _ _ (h.doTableRead _)
  · exact h.request _ _ _ (h.doPartWrite _)
  · exact h.request _ _ _ (h.doClassWrite _ _ _ _)
  · exact h.request _ _ _ (h.doPostWrite _ _)
  · exact h.request _ _ _ (h.doSeatWrite _ _ _)
  · exact h.request _ _ _ (h.doRopeWrite _)
  · exact h.request _ _ _ (h.doStationWrite _ _)
  · exact h.request _ _ _ (h.doChannelWrite _)
  · exact h.request _ _ _ (h.doCauseWrite _ _)
  · exact h.request _ _ _ (h.doTelephonyWrite _)
  · exact h.request _ _ _ (h.doSettingsWrite _)
  · exact h.request _ _ _ (h.doCabinLoad _ _ _)
  · exact h.request _ _ _ (h.doCabinPurge _)
  · exact h.request _ _ _ h.doFlushLearned
  · exact h.request _ _ _ (h.doCabinFind _)
  · exact h.request _ _ _ (h.doCabinNext _)
  · exact h.request _ _ _ (h.doListRead _ _)
  · exact h.request _ _ _ (h.doTrackOn _)
  · exact h.request _ _ _ (h.doTrackOff _)
  · exact h.request _ _ _ (h.doChannelPower _ _)
  · exact h.request _ _ _ (h.doGroupPower _ _)
  · exact h.request _ _ _ (h.doChannelReset _)
  · exact h.request _ _ _ (h.doChannelLockout _ _)
  · exact h.request _ _ _ (h.doChannelRead _)
  · exact h.request _ _ _ (h.doPostClear _)
  · exact absurd rfl hr
  · exact h.request _ _ _ h.doClearNotices
  · exact h.request _ _ _ (h.doCallPlace _ _)
  · exact h.request _ _ _ (h.doCallClear _)
  · exact h.request _ _ _ h
  · exact h.onRestartPart _ _

/-- A request with fitting parameters lowers A only as a RESTART-PERMIT of the console at standstill. -/
theorem State.runRequest_keepsOr (s : State) (rq : Requester) (tag : Byte) (r : Request) :
    s.KeepsOr (s.rope.standstill = true ∧ r = .restartPermit ∧ s.isConsole rq = true) (s.runRequest rq tag r) := by
  by_cases hr : r = .restartPermit
  · subst hr
    exact (State.Keeps.refl s).thenOr (s.onRestartPermit_keepsOr rq tag) fun ⟨hstill, hconsole⟩ => ⟨hstill, rfl, hconsole⟩
  · exact ((State.Keeps.refl s).runRequest rq tag hr).keepsOr _

/-- An ADMIN_REQUEST lowers A only where it carries a RESTART-PERMIT of the console, at standstill. -/
theorem State.takeAdmin_keepsOr (s : State) (rq : Requester) (payload : List Byte) (contents : Contents) :
    s.KeepsOr (s.rope.standstill = true ∧ (2 ≤ payload.length ∧ ∃ tag, contents = .admin tag (.fits .restartPermit)) ∧
      s.isConsole rq = true) (s.takeAdmin rq payload contents) := by
  have h := State.Keeps.refl s
  unfold State.takeAdmin
  split
  · exact (h.countAdmin _).keepsOr _
  · next hlen =>
    split
    · next tag r =>
      exact h.thenOr (s.runRequest_keepsOr rq tag r) fun ⟨hstill, hr, hconsole⟩ =>
        ⟨hstill, ⟨Nat.le_of_not_lt hlen, tag, by rw [hr]⟩, hconsole⟩
    all_goals exact (h.onMisfit _ _ _).keepsOr _

/-! ## The frame switch -/

theorem State.Keeps.copyToConsole (h : s₀.Keeps s) (p : Port) (c : Fin 4) (f : Frame) : s₀.Keeps (s.copyToConsole p c f) :=
  (h.countSwitch _).offer _ _ _

theorem State.Keeps.copyConsumed (h : s₀.Keeps s) (p : Port) (k : Kind) (f : Frame) : s₀.Keeps (s.copyConsumed p k f) := by
  unfold State.copyConsumed
  dsimp only
  split
  · exact h.copyToConsole _ _ _
  · exact h

theorem State.copyConsumed_frame (s : State) (p : Port) (k : Kind) (f : Frame) :
    (s.copyConsumed p k f).rope = s.rope ∧ (s.copyConsumed p k f).admin.part = s.admin.part := by
  unfold State.copyConsumed State.copyToConsole
  dsimp only
  split
  · exact ⟨by simp, by simp⟩
  · exact ⟨rfl, rfl⟩

theorem State.Keeps.applyClass (h : s₀.Keeps s) (arrival out : Port) (k : Kind) (f : Frame) :
    s₀.Keeps (s.applyClass arrival out k f) := by
  have hforward := fun c => (h.countSwitch (Ctr.forwarded (portIndex arrival))).offer out c f
  unfold State.applyClass
  dsimp only
  split
  · exact h.countSwitch _
  · exact hforward _
  · split
    · exact (hforward _).copyToConsole _ _ _
    · exact hforward _
  · exact (h.countSwitch _).offer _ _ _

theorem State.Keeps.routeFrame (h : s₀.Keeps s) (arrival : Port) (k : Kind) (f : Frame) :
    s₀.Keeps (s.routeFrame arrival k f) := by
  unfold State.routeFrame
  split
  · exact h.countSwitch _
  · exact h.countSwitch _
  · exact h.applyClass _ _ _ _

/-- What a frame must be to carry a RESTART-PERMIT of the console. -/
def State.carriesPermit (s : State) (p : Port) (k : Kind) (f : Frame) (contents : Contents) : Prop :=
  (k = .adminRequest ∧ f.dst = 0) ∧ (2 ≤ f.payloadBytes.length ∧ ∃ tag, contents = .admin tag (.fits .restartPermit)) ∧
    s.isConsole ⟨p, f.src⟩ = true

theorem State.consume_keepsOr (s : State) (p : Port) (k : Kind) (f : Frame) (contents : Contents)
    (hdst : k = .adminRequest → f.dst = 0) :
    s.KeepsOr (s.rope.standstill = true ∧ s.carriesPermit p k f contents) (s.consume p k f contents) := by
  have h := State.Keeps.refl s
  unfold State.consume
  split
  · exact (h.takeRoll _).keepsOr _
  · exact (h.takeReport _).keepsOr _
  · exact (h.takeBeat _ _).keepsOr _
  · exact (h.takeTerminal _).keepsOr _
  · exact (h.takeCall _ _).keepsOr _
  · exact (h.takeVoice _).keepsOr _
  · exact h.thenOr (s.takeAdmin_keepsOr _ _ _) fun ⟨hstill, hcarries, hconsole⟩ =>
      ⟨hstill, ⟨rfl, hdst rfl⟩, hcarries, hconsole⟩
  all_goals exact h.keepsOr _

/-- States that agree on the rope and the part table agree on what a permit needs. -/
theorem State.carriesPermit_congr {s t : State} (hpart : t.admin.part = s.admin.part) {p : Port} {k : Kind} {f : Frame}
    {contents : Contents} (h : t.carriesPermit p k f contents) : s.carriesPermit p k f contents := by
  unfold State.carriesPermit State.isConsole at *
  rw [hpart] at h
  exact h

theorem State.switchFrame_keepsOr (s : State) (p : Port) (k : Kind) (f : Frame) (contents : Contents) :
    s.KeepsOr (s.rope.standstill = true ∧ s.carriesPermit p k f contents) (s.switchFrame p k f contents) := by
  have h := State.Keeps.refl s
  unfold State.switchFrame
  split
  · exact (h.countSwitch _).keepsOr _
  · split
    · next hconsumed =>
      have hdst : k = .adminRequest → f.dst = 0 := by
        rintro rfl
        by_contra hne
        rw [State.judgeConsumption, if_neg hne] at hconsumed
        cases hconsumed
      refine ((h.countSwitch _).copyConsumed p k f).thenOr (State.consume_keepsOr _ p k f contents hdst) ?_
      rintro ⟨hstill, hcarries⟩
      obtain ⟨hrope, hpart⟩ := (s.countSwitch (Ctr.consumed (portIndex p))).copyConsumed_frame p k f
      rw [hrope] at hstill
      exact ⟨hstill, State.carriesPermit_congr hpart hcarries⟩
    · exact (h.countSwitch _).keepsOr _
    · exact (h.countSwitch _).keepsOr _
    · exact (h.routeFrame _ _ _).keepsOr _

theorem State.handOnFrame_keepsOr (s : State) (p : Port) (f : Frame) (contents : Contents) :
    s.KeepsOr (s.rope.standstill = true ∧ ∃ k, kindOfCode f.kindNibble = some k ∧ s.carriesPermit p k f contents)
      (s.handOnFrame p f contents) := by
  have h := State.Keeps.refl s
  unfold State.handOnFrame
  split
  · exact (h.countPort _ _).keepsOr _
  · next k hk =>
    split
    · refine h.dueAsk.thenOr (State.switchFrame_keepsOr _ p k f contents) ?_
      rintro ⟨hstill, hcarries⟩
      exact ⟨by simpa using hstill, k, hk, State.carriesPermit_congr (by simp) hcarries⟩
    · exact h.thenOr (State.switchFrame_keepsOr _ p k f contents) fun ⟨hstill, hcarries⟩ => ⟨hstill, k, hk, hcarries⟩

/-- A received frame lowers A only where it carries a RESTART-PERMIT of the console, at standstill. -/
theorem State.receive_keepsOr (s : State) (p : Port) (bytes : List Byte) (contents : Contents) :
    s.KeepsOr (s.rope.standstill = true ∧ s.consolePermit (.frameReceived p bytes contents) = true)
      (s.receive p bytes contents) := by
  have h := State.Keeps.refl s
  unfold State.receive
  split
  · exact (h.countPort _ _).keepsOr _
  · split
    · exact (h.badFrame _ _).keepsOr _
    · next hgood =>
      have hcount := h.countPort p Ctr.good
      unfold State.goodFrame
      dsimp only
      split
      · next hm => exact (hcount.rejoinGood p hm).keepsOr _
      · refine (hcount.errorDown p).thenOr (State.handOnFrame_keepsOr _ p _ contents) ?_
        rintro ⟨hstill, k, hk, hcarries⟩
        refine ⟨by simpa using hstill, ?_⟩
        obtain ⟨⟨rfl, hdst⟩, ⟨hlen, tag, rfl⟩, hconsole⟩ :=
          State.carriesPermit_congr (s := s) (by simp) hcarries
        simp [State.consolePermit, hgood, hk, hdst, hlen, hconsole]

end
end Sys2Proof.Machine

namespace Sys2Proof.Machine

/-! ## Every command, and the step -/

section
variable {s : State}

/-- What a command may do: keep everything sound, and lower A only as a RESTART-PERMIT of the console at standstill. -/
def State.StepsTo (s : State) (i : Instr) (o : Out) : Prop :=
  ∀ t, o = .next t → s.KeepsOr (s.rope.standstill = true ∧ s.consolePermit i = true) t

theorem State.StepsTo.next {i : Instr} {t : State} (h : s.Keeps t) : s.StepsTo i (.next t) := by
  rintro _ ⟨⟩
  exact h.keepsOr _

/-- A command that is no input's change keeps what its effect keeps. -/
theorem State.StepsTo.liveOr {i : Instr} {f : State → State}
    (h : s.KeepsOr (s.rope.standstill = true ∧ s.consolePermit i = true) (f s)) : s.StepsTo i (s.live f) := by
  intro t ht
  obtain e | e := s.live_cases f <;> rw [e] at ht <;> cases ht
  · exact (State.Keeps.refl s).keepsOr _
  · exact h

theorem State.StepsTo.live {i : Instr} {f : State → State} (h : s.Keeps (f s)) : s.StepsTo i (s.live f) :=
  .liveOr (h.keepsOr _)

/-- An input's change keeps what the storing of its level and its effect keep. -/
theorem State.StepsTo.liveInput {i : Instr} {store f : State → State} (hstore : s.Keeps (store s))
    (hf : s.Keeps (f (store s))) : s.StepsTo i (s.liveInput store f) := by
  intro t ht
  obtain e | e := s.liveInput_cases store f <;> rw [e] at ht <;> cases ht
  · exact hstore.keepsOr _
  · exact hf.keepsOr _

/-- An effect taken but for a level the input already has. -/
theorem State.Keeps.unless {t u : State} (p : Prop) [Decidable p] (ht : s.Keeps t) (hu : s.Keeps u) :
    s.Keeps (if p then t else u) := by
  split
  · exact ht
  · exact hu

/-- A request's command does what its taking at the admin responder does (log 7). -/
theorem State.StepsTo.request {i : Instr} {rq : Requester} {tag : Byte} {r : Request} (hr : r ≠ .restartPermit) :
    s.StepsTo i (s.live fun s => s.runRequest rq tag r) :=
  .live ((State.Keeps.refl s).runRequest rq tag hr)

theorem State.Keeps.hardReset (s : State) : s.Keeps s.hardReset := (State.Keeps.hardValues s false).handOnReset _

theorem State.exec_stepsTo (s : State) (i : Instr) : s.StepsTo i (exec i s) := by
  have h := State.Keeps.refl s
  unfold exec
  cases i with
  | hardReset => exact .next (State.Keeps.hardReset s)
  | resetPinAsserted => exact .next (State.Keeps.hardValues s true)
  | frameReceived p bytes contents => exact .liveOr (s.receive_keepsOr p bytes contents)
  | rejoinTimerExpiry p => exact .live (h.rejoinExpiry p)
  | arbiterPick p => exact .live (h.duePick p)
  | frameLeaves p => exact .live (h.leave p)
  | rollPeriodExpiry => exact .live h.rollPeriod
  | rollDeadlineExpiry => exact .live h.rollDeadline
  | samplePeriodExpiry => exact .live h.samplePeriod
  | askSend => exact .live h.dueAsk
  | askDeadlineExpiry => exact .live h.askDeadline
  | tachometerPulse dir => exact .live (h.pulse dir)
  | gateExpiry => exact .live h.gate
  | driveRunChange level =>
    have hstore := h.modRope (f := fun u => { u with driveRun := level }) ⟨rfl, rfl, rfl, rfl, rfl⟩
    exact .liveInput hstore (.unless _ hstore hstore.driveRunChanged)
  | tachSilentTimerExpiry => exact .live h.tachExpiry
  | ageSweepExpiry => exact .live h.ageSweep
  | detectorLevelChange d high =>
    have hstore := h.modDetector (detectorIndex d) fun u => { u with level := high }
    exact .liveInput hstore (.unless _ hstore (hstore.levelChanged d))
  | detectorDebounceExpiry d => exact .live (h.debounceExpiry d)
  | arrRead read => exact .live (h.arrRead (readable_range read))
  | lchRead read => exact .live (h.lchRead (readable_range read))
  | openEndChange k level =>
    have hstore := h.modPins k fun p => { p with openEnd := level }
    exact .liveInput hstore (.unless _ hstore (hstore.openEndChanged k))
  | lockedChange k level =>
    have hstore := h.modPins k fun p => { p with locked := level }
    exact .liveInput hstore (.unless _ hstore (hstore.lockedChanged k))
  | driveTimerExpiry k => exact .live (h.driveExpiry k)
  | reverseTimerExpiry k => exact .live (h.reverseExpiry k)
  | powerGoodExpiry k => exact .live (h.powerGoodExpiry k)
  | overcurrent k level =>
    have hstore := h.modPins k fun p => { p with overcurrent := level }
    exact .liveInput hstore (.unless _ (hstore.overcurrentRise k) hstore)
  | localKeyChange k level =>
    have hstore := h.modPins k fun p => { p with key := level }
    exact .liveInput hstore (.unless _ hstore (hstore.keyTurned k))
  | localOpenChange k level =>
    have hstore := h.modPins k fun p => { p with localOpen := level }
    exact .liveInput hstore (.unless _ hstore (hstore.localOpenChanged k))
  | localCloseChange k level =>
    have hstore := h.modPins k fun p => { p with localClose := level }
    exact .liveInput hstore (.unless _ hstore (hstore.localCloseChanged k))
  | localDriveTimerExpiry k => exact .live (h.localExpiry k)
  | earlyGuardExpiry => exact .live (h.modLink _)
  | lateTimerExpiry => exact .live h.lateExpiry
  | valleyBeatTimerExpiry => exact .live h.valleyBeat
  | offHook l =>
    have hstore := h.setHook l true
    exact .liveInput hstore (.unless _ hstore (hstore.wentOffHook l))
  | onHook l =>
    have hstore := h.setHook l false
    exact .liveInput hstore (.unless _ (hstore.wentOnHook l) hstore)
  | helpButton => exact .live h.helpPressed
  | callTimerExpiry i => exact .live (h.callExpiry i)
  | codecBlock l samples => exact .live (.unless _ (h.codecBlock l samples) h)
  | playoutTimerExpiry v => exact .live (h.playout v)
  | stopFilterLevelChange i level =>
    have hstore := h.modFilter i fun f => { f with level := inputActive i level }
    exact .liveInput hstore (.unless _ hstore (hstore.modFilter i _))
  | stopFilterDebounceExpiry i => exact .live (h.filterExpiry i)
  | stopTimerExpiry => exact .live h.stopTimerExpiry
  | restartPermit rq tag => exact .liveOr (s.onRestartPermit_keepsOr rq tag)
  | identify rq tag => exact .request (r := .identify) (by simp)
  | statusRead rq tag => exact .request (r := .statusRead) (by simp)
  | causesRead rq tag p => exact .request (r := .causesRead p) (by simp)
  | stop rq tag c => exact .request (r := .stop c) (by simp)
  | countersRead rq tag b start c => exact .request (r := .countersRead b start c) (by simp)
  | tableRead rq tag x => exact .request (r := .tableRead x) (by simp)
  | partTableWrite rq tag f => exact .request (r := .partWrite f) (by simp)
  | classTableWrite rq tag p k a c => exact .request (r := .classWrite p k a c) (by simp)
  | postTableWrite rq tag n b => exact .request (r := .postWrite n b) (by simp)
  | seatTableWrite rq tag p k f => exact .request (r := .seatWrite p k f) (by simp)
  | ropeTableWrite rq tag f => exact .request (r := .ropeWrite f) (by simp)
  | stationTableWrite rq tag e f => exact .request (r := .stationWrite e f) (by simp)
  | channelTableWrite rq tag w => exact .request (r := .channelWrite w) (by simp)
  | causeTableWrite rq tag c f => exact .request (r := .causeWrite c f) (by simp)
  | telephonyTableWrite rq tag f => exact .request (r := .telephonyWrite f) (by simp)
  | cabinSettingsWrite rq tag f => exact .request (r := .cabinSettingsWrite f) (by simp)
  | cabinLoad rq tag n c d => exact .request (r := .cabinLoad n c d) (by simp)
  | cabinPurge rq tag n => exact .request (r := .cabinPurge n) (by simp)
  | cabinFlushLearned rq tag => exact .request (r := .cabinFlushLearned) (by simp)
  | cabinFind rq tag n => exact .request (r := .cabinFind n) (by simp)
  | cabinNext rq tag n => exact .request (r := .cabinNext n) (by simp)
  | listRead rq tag l p => exact .request (r := .listRead l p) (by simp)
  | trackOn rq tag x => exact .request (r := .trackOn x) (by simp)
  | trackOff rq tag x => exact .request (r := .trackOff x) (by simp)
  | channelPower rq tag c b => exact .request (r := .channelPower c b) (by simp)
  | groupPower rq tag c b => exact .request (r := .groupPower c b) (by simp)
  | channelReset rq tag c => exact .request (r := .channelReset c) (by simp)
  | channelLockout rq tag c b => exact .request (r := .channelLockout c b) (by simp)
  | channelRead rq tag c => exact .request (r := .channelRead c) (by simp)
  | postClear rq tag p => exact .request (r := .postClear p) (by simp)
  | causesClearNotices rq tag => exact .request (r := .causesClearNotices) (by simp)
  | callPlace rq tag r p => exact .request (r := .callPlace r p) (by simp)
  | callClear rq tag r => exact .request (r := .callClear r) (by simp)
  | restartPart rq tag => exact .request (r := .restartPart) (by simp)

/-- What a step may do: keep everything sound, and lower A only as a RESTART-PERMIT of the console at standstill. -/
theorem step_keepsOr {s t : State} (h : step s = .next t) :
    s.KeepsOr (s.rope.standstill = true ∧ ∃ c rest, s.pending = c :: rest ∧ s.consolePermit c = true) t := by
  unfold step at h
  split at h
  · cases h
    exact (State.Keeps.refl _).keepsOr _
  · next c rest hpending =>
    have hpopped : s.Keeps { s with pending := rest } := .of_carries (.of_eq rfl rfl) rfl rfl rfl rfl rfl rfl
    exact hpopped.thenOr (State.exec_stepsTo _ c t h) fun ⟨hstill, hpermit⟩ => ⟨hstill, c, rest, hpending, hpermit⟩

end
end Sys2Proof.Machine

/-! ## The headline rule and the invariants -/

namespace Sys2Proof.Machine

/-- Settles O53: a step keeps the asserted category from falling but where it is the console's permit at standstill. -/
theorem assertedFallsOnlyByAPermit : Obligations.AssertedFallsOnlyByAPermit := by
  unfold Obligations.AssertedFallsOnlyByAPermit
  intro s t hstep hfalls
  by_contra hnot
  exact absurd ((step_keepsOr hstep).rises hnot) (Nat.not_le.mpr hfalls)

/-- Settles O55. -/
theorem everyStepKeepsThePortsSound : Obligations.EveryStepKeepsThePortsSound := by
  unfold Obligations.EveryStepKeepsThePortsSound
  intro s t hstation hline hstep
  exact ⟨(step_keepsOr hstep).ports .station hstation, (step_keepsOr hstep).ports .line hline⟩

/-- Settles O56. -/
theorem everyStepKeepsTheStopChainSound : Obligations.EveryStepKeepsTheStopChainSound := by
  unfold Obligations.EveryStepKeepsTheStopChainSound
  exact fun s t hsound hstep => (step_keepsOr hstep).chain hsound

/-- Settles O57. -/
theorem everyStepKeepsTheRopeSound : Obligations.EveryStepKeepsTheRopeSound := by
  unfold Obligations.EveryStepKeepsTheRopeSound
  exact fun s t hsound hstep => (step_keepsOr hstep).rope hsound

/-- Settles O58. -/
theorem everyStepKeepsTheListsSound : Obligations.EveryStepKeepsTheListsSound := by
  unfold Obligations.EveryStepKeepsTheListsSound
  exact fun s t hsound hstep => (step_keepsOr hstep).lists hsound

/-- Settles O59. -/
theorem everyStepKeepsTheTelephonySound : Obligations.EveryStepKeepsTheTelephonySound := by
  unfold Obligations.EveryStepKeepsTheTelephonySound
  exact fun s t hsound hstep => (step_keepsOr hstep).calls hsound

/-- Settles O60. -/
theorem everyStepKeepsTheDoorsSound : Obligations.EveryStepKeepsTheDoorsSound := by
  unfold Obligations.EveryStepKeepsTheDoorsSound
  exact fun s t hsound hstep => (step_keepsOr hstep).doors hsound

end Sys2Proof.Machine

namespace Sys2Proof.Machine

/-! ## The state right after power-on -/

theorem State.reset_chainSound : State.reset.ChainSound := by
  refine ⟨by decide, fun r hr => ?_, causeTableDefault_minimum, fun _ => rfl⟩
  obtain rfl | hr := List.mem_cons.mp hr
  · decide
  · rw [List.mem_singleton.mp hr]; decide

theorem State.reset_telSound : State.reset.tel.Sound := by
  have hreset := (telephonyReset_sound telephonyDefault (Vector.replicate 2 false)).soundBut
  refine Telephony.SoundBut.sound (out := fun _ => False) ?_ fun _ => id
  exact hreset.modify (i := 0) (r := resetStopCall) (by simp [telephonyReset, callFree]) rfl rfl (by simp [resetStopCall])
    (by simp [resetStopCall]) hreset.jitter

/-- Settles O54. -/
theorem resetIsSound : Obligations.ResetIsSound := by
  unfold Obligations.ResetIsSound
  refine ⟨(PortUnit.Carries.of_eq rfl rfl rfl rfl).sound portInitial_sound, portInitial_sound, State.reset_chainSound, ?_,
    State.ListsSound.emptied rfl rfl ⟨Nat.zero_le _, .nil, by simp [State.reset, trackerInitial]⟩, State.reset_telSound,
    State.doorsReset_sound fun k => ⟨channelDefault, _, doorsInitial_channel _ k⟩⟩
  simp [State.RopeSound, State.reset, ropeInitial]

end Sys2Proof.Machine


/-! The queue of commands, the rope travel unit's own commands, the age sweep and the sample period: each statement is one
operation of the model, read case by case. -/

namespace Sys2Proof.Machine

/-- Settles O1: both halves are the branches of `step`. -/
theorem stepTakesTheFrontCommand : Obligations.StepTakesTheFrontCommand := by
  refine ⟨fun s c rest => rfl, fun s hidle => ?_⟩
  rw [step, hidle]

/-! ## Pulses (R59) -/

theorem State.pulse_unsaturated {s : State} {dir : Direction} (h : s.rope.saturated dir = false) :
    s.pulse dir = (s.modRope fun u => u.pulse dir).countRope (pulseCounter dir) := by
  simp [State.pulse, h]

theorem State.pulse_saturated {s : State} {dir : Direction} (h : s.rope.saturated dir = true) :
    s.pulse dir = ((s.modRope fun u => u.pulse dir).countRope (pulseCounter dir)).countRope Ctr.gateSaturation := by
  simp [State.pulse, h]

/-- Settles O16: a pulse in each direction, with the gate count short of its limit and at it. -/
theorem tachometerPulse : Obligations.TachometerPulse := by
  intro s hpin
  have hexec : ∀ dir, exec (.tachometerPulse dir) s = .next (s.pulse dir) := fun dir =>
    State.live_run hpin fun s => s.pulse dir
  refine ⟨fun hlow => ?_, fun hlimit => ?_, fun hlow => ?_, fun hlimit => ?_⟩
  · rw [hexec, State.pulse_unsaturated (by simp [Rope.saturated, hlow])]
    simp [State.modRope, State.countRope, Rope.pulse, hlow, pulseCounter]
  · rw [hexec, State.pulse_saturated (by simp [Rope.saturated, hlimit])]
    simp [State.modRope, State.countRope, Rope.pulse, hlimit, pulseCounter]
  · rw [hexec, State.pulse_unsaturated (by simp [Rope.saturated, hlow])]
    simp [State.modRope, State.countRope, Rope.pulse, hlow, pulseCounter]
  · rw [hexec, State.pulse_saturated (by simp [Rope.saturated, hlimit])]
    simp [State.modRope, State.countRope, Rope.pulse, hlimit, pulseCounter]

/-! ## Drive-run (R64) -/

theorem exec_driveRunChange_run {s : State} (hpin : s.pinHeld = false) (level : Bool) :
    exec (.driveRunChange level) s =
      .next (if s.rope.driveRun = level then s.modRope fun u => { u with driveRun := level }
        else (s.modRope fun u => { u with driveRun := level }).driveRunChanged) :=
  State.liveInput_run hpin (fun s => s.modRope fun u => { u with driveRun := level })
    fun t => if s.rope.driveRun = level then t else t.driveRunChanged

/-- A condition judged gone is withdrawn exactly when it was present. -/
theorem State.judge_gone (s : State) (c : Cause) (was : Bool) :
    s.judge c was false = if was then s.withdraw c else s := by
  cases was <;> simp [State.judge]

/-- Settles O18: the level the input has, its rise and its fall, and the timer stopped and running. -/
theorem driveRunAndTachSilent : Obligations.DriveRunAndTachSilent := by
  intro s hpin
  have hexpiry : exec .tachSilentTimerExpiry s = .next s.tachExpiry := State.live_run hpin _
  refine ⟨?same, fun hoff => ?rise, fun hon => ?fall, fun hstopped => ?stopped, fun n hrunning => ?expiry⟩
  case same => rw [exec_driveRunChange_run hpin, if_pos rfl]; rfl
  case rise =>
    rw [exec_driveRunChange_run hpin, if_neg (by simp [hoff])]
    cases hstill : s.rope.standstill <;> simp [State.driveRunChanged, State.modRope, State.tachStart, hstill]
  case fall =>
    rw [exec_driveRunChange_run hpin, if_neg (by simp [hon])]
    simp [State.driveRunChanged, State.modRope, State.tachStop, State.judge_gone]
  case stopped => rw [hexpiry, State.tachExpiry, hstopped]; rfl
  case expiry => rw [hexpiry, State.tachExpiry, hrunning]; rfl

/-! ## The age sweep and the sample period -/

/-- Settles O19: the sweep's own names for ageing and for the end of an entry's age are unfolded. -/
theorem ageSweep : Obligations.AgeSweep := by
  intro s hpin
  have hexec : exec .ageSweepExpiry s = .next s.ageSweep := State.live_run hpin _
  rw [hexec]
  rfl

/-- Settles O13: the MARK is built before the sweep queue is refilled. -/
theorem samplePeriodExpiry : Obligations.SamplePeriodExpiry := by
  intro s hpin n
  have hexec : exec .samplePeriodExpiry s = .next s.samplePeriod := State.live_run hpin _
  rw [hexec]
  rfl

end Sys2Proof.Machine


/-! Requests whose own rule is short: STOP, CABIN-LOAD, TRACK-ON and TRACK-OFF, POST-CLEAR (R48, R78, R84, R180), and the
five filtered inputs with the stop timer (R171, R181). -/

namespace Sys2Proof.Machine

/-! ## STOP (R180) -/

theorem exec_stop_console_or_summit {s : State} {rq : Requester} (hpin : s.pinHeld = false)
    (hrq : s.isConsole rq = true ∨ (rq.port = .line ∧ rq.src = 63)) (tag : Byte) (c : Option Category) :
    exec (.stop rq tag c) s = .next (State.settleRequest rq .stop tag (s.doStop c)) := by
  change s.live (fun s => s.onStop rq tag c) = _
  rw [State.live_run hpin, State.onStop, State.request_taken (State.mayRequest_console_or_summit hrq rfl)]

theorem State.doStop_of_ne_none {s : State} {c : Category} (h : c ≠ .none) :
    s.doStop (some c) = (s.consoleStop c, .done, .asserted (s.consoleStop c).chain.asserted) := by
  cases c
  case none => exact absurd rfl h
  all_goals rfl

/-- After a raise A is at least the category the raise requested. -/
theorem State.raise_requested_le (s : State) (c : Cause) (d : Detail) (m : Bool) :
    (d.requested.getD .none).rank ≤ (s.raise c d m).chain.asserted.rank := by
  obtain ⟨r, hr, -, -, hle⟩ := s.raise_mem c d m
  exact hle.trans (s.raise_covers c d m r hr)

/-- Settles O41: the category decides between a raise and a refusal. -/
theorem stopRequest : Obligations.StopRequest := by
  intro s rq tag c hpin hrq
  have hexec := exec_stop_console_or_summit hpin hrq tag
  refine ⟨fun hc => ⟨?_, s.raise_requested_le .consoleStop { requested := some c } true⟩, ?_, ?_⟩
  · rw [hexec, State.doStop_of_ne_none hc]; rfl
  · rw [hexec]; rfl
  · rw [hexec]; rfl

/-! ## CABIN-LOAD (R78) -/

theorem Tracker.entry_isSome_iff {u : Tracker} {id : Nat} : (u.entry id).isSome = true ↔ ∃ e ∈ u.cabins, e.id = id := by
  simp [Tracker.entry]

/-- An entry goes between the lower and the higher IDs. -/
theorem insertCabin_between {e : CabinEntry} {low high : List CabinEntry} (hlow : ∀ x ∈ low, x.id < e.id)
    (hhigh : ∀ x ∈ high, e.id < x.id) : insertCabin e (low ++ high) = low ++ e :: high := by
  induction low with
  | nil =>
    cases high with
    | nil => rfl
    | cons y ys => simp [insertCabin, hhigh y (by simp)]
  | cons x xs ih =>
    have hx : ¬ e.id < x.id := Nat.not_lt.mpr (hlow x (by simp)).le
    have ih' := ih fun y hy => hlow y (List.mem_cons_of_mem x hy)
    simp [insertCabin, hx, ih']

theorem State.doCabinLoad_of_misfit {s : State} {id : Nat} {c : Option CabinClass} {d : Option DoorMode}
    (h : c = none ∨ d = none) : s.doCabinLoad id c d = s.refuse .badValue := by
  obtain rfl | rfl := h
  · rfl
  · cases c <;> rfl

theorem State.doCabinLoad_of_outOfRange {s : State} {id : Nat} (h : id = 0 ∨ 4095 < id) (c : CabinClass) (d : DoorMode) :
    s.doCabinLoad id (some c) (some d) = s.refuse .badValue := by
  simp [State.doCabinLoad, cabinInRange_false_iff.mpr h]

theorem State.doCabinLoad_of_inRange {s : State} {id : Nat} (hlow : 1 ≤ id) (hhigh : id ≤ 4095) (c : CabinClass)
    (d : DoorMode) : s.doCabinLoad id (some c) (some d) = s.loadCabin id ⟨c, d⟩ := by
  simp [State.doCabinLoad, cabinInRange_iff.mpr ⟨hlow, hhigh⟩]

theorem State.loadCabin_known {s : State} {id : Nat} (h : ∃ e ∈ s.tracker.cabins, e.id = id) (p : Profile) :
    s.loadCabin id p =
      (s.modTracker fun u => u.modEntry id fun e => { e with kind := .static, profile := p, idle := none }).done := by
  rw [State.loadCabin, if_pos (Tracker.entry_isSome_iff.mpr h)]

theorem State.loadCabin_full {s : State} {id : Nat} (h : ∀ e ∈ s.tracker.cabins, e.id ≠ id)
    (hfull : 192 ≤ s.tracker.cabins.length) (p : Profile) : s.loadCabin id p = s.refuse .tableFull := by
  rw [State.loadCabin, if_neg (by simp [Tracker.entry_eq_none_iff.mpr h]),
    if_neg (show ¬ _ < Config.cabinCapacity from Nat.not_lt.mpr hfull)]

theorem State.loadCabin_new {s : State} {id : Nat} (h : ∀ e ∈ s.tracker.cabins, e.id ≠ id)
    (hroom : s.tracker.cabins.length < 192) (p : Profile) :
    s.loadCabin id p =
      (s.modTracker fun u => { u with cabins := insertCabin ⟨id, .static, p, .nowhere, 0, none⟩ u.cabins }).done := by
  rw [State.loadCabin, if_neg (by simp [Tracker.entry_eq_none_iff.mpr h]),
    if_pos (show _ < Config.cabinCapacity from hroom)]

/-- Settles O48: the profile, the ID's range, its entry and the table's room decide in this order. -/
theorem cabinLoad : Obligations.CabinLoad := by
  intro s rq tag id c d hpin hcon load answers
  have hexec : ∀ x y, exec (.cabinLoad rq tag id x y) s =
      .next (State.settleRequest rq .cabinLoad tag (s.doCabinLoad id x y)) := fun x y =>
    State.live_request_console hpin hcon .cabinLoad tag fun s => s.doCabinLoad id x y
  refine ⟨fun hid => ?_, fun x y hxy => ?_, fun hlow hhigh => ⟨fun hknown => ?_, fun hnew hfull => ?_, ?_⟩⟩
  · rw [hexec, State.doCabinLoad_of_outOfRange hid]; rfl
  · rw [hexec, State.doCabinLoad_of_misfit hxy]; rfl
  · rw [hexec, State.doCabinLoad_of_inRange hlow hhigh, State.loadCabin_known hknown]; rfl
  · rw [hexec, State.doCabinLoad_of_inRange hlow hhigh, State.loadCabin_full hnew hfull]; rfl
  · intro low high hcabins hbelow habove hroom
    have hnew : ∀ e ∈ s.tracker.cabins, e.id ≠ id := by
      intro e he
      rw [hcabins, List.mem_append] at he
      exact he.elim (fun he => (hbelow e he).ne) fun he => (habove e he).ne'
    rw [hexec, State.doCabinLoad_of_inRange hlow hhigh, State.loadCabin_new hnew hroom]
    simp only [State.modTracker, hcabins, insertCabin_between (e := ⟨id, .static, ⟨c, d⟩, .nowhere, 0, none⟩) hbelow habove]
    rfl

/-! ## TRACK-ON and TRACK-OFF (R84) -/

@[simp] theorem PerTrack.get_set_self {α : Type} (v : PerTrack α) (t : Track) (a : α) : (v.set t a).get t = a := by
  cases t <;> rfl

/-- A track taken off while the other stays TRACKED: the change is noticed and nothing more. -/
theorem State.takeTrackOff_otherTracked {s : State} (h : s.tracker.modes = ⟨.tracked, .tracked⟩) (t : Track) :
    s.takeTrackOff t = s.changeTrackMode t .untracked := by
  cases t <;> simp [State.takeTrackOff, State.changeTrackMode, h, PerTrack.set]

/-- The last TRACKED track taken off: the slip estimate is set to 0. -/
theorem State.takeTrackOff_last {s : State} {t : Track}
    (h : s.tracker.modes = (PerTrack.mk .untracked .untracked).set t .tracked) :
    s.takeTrackOff t = (s.changeTrackMode t .untracked).clearSlip := by
  cases t <;> simp [State.takeTrackOff, State.changeTrackMode, h, PerTrack.set]

theorem State.doTrackOn_of_untracked {s : State} {t : Track} (h : s.tracker.modes.get t = .untracked) :
    s.doTrackOn (some t) = (s.changeTrackMode t .tracked).done := by
  simp [State.doTrackOn, h]

theorem State.doTrackOn_of_tracked {s : State} {t : Track} (h : s.tracker.modes.get t = .tracked) :
    s.doTrackOn (some t) = s.done := by
  simp [State.doTrackOn, h]

theorem State.doTrackOff_moving {s : State} (h : s.rope.standstill = false) (t : Track) :
    s.doTrackOff (some t) = s.refuse .inMotion := by
  simp [State.doTrackOff, State.still, h]

theorem State.doTrackOff_of_untracked {s : State} {t : Track} (h : s.rope.standstill = true)
    (hmode : s.tracker.modes.get t = .untracked) : s.doTrackOff (some t) = s.done := by
  simp [State.doTrackOff, State.still, h, hmode]

theorem State.doTrackOff_of_tracked {s : State} {t : Track} (h : s.rope.standstill = true)
    (hmode : s.tracker.modes.get t = .tracked) : s.doTrackOff (some t) = (s.takeTrackOff t).done := by
  simp [State.doTrackOff, State.still, h, hmode]

/-- Settles O51: TRACK-OFF judges the motion, the mode and what the other track's mode leaves, in this order. -/
theorem trackOnAndOff : Obligations.TrackOnAndOff := by
  intro s rq tag t hpin hcon answers changed
  have hon : ∀ x, exec (.trackOn rq tag x) s = .next (State.settleRequest rq .trackOn tag (s.doTrackOn x)) := fun x =>
    State.live_request_console hpin hcon .trackOn tag fun s => s.doTrackOn x
  have hoff : ∀ x, exec (.trackOff rq tag x) s = .next (State.settleRequest rq .trackOff tag (s.doTrackOff x)) := fun x =>
    State.live_request_console hpin hcon .trackOff tag fun s => s.doTrackOff x
  refine ⟨fun h => ?_, fun h => ?_, fun h => ?_, fun hstill => ⟨fun h => ?_, fun h => ?_, fun h => ?_⟩, ?_, ?_⟩
  · rw [hon, State.doTrackOn_of_untracked h]; rfl
  · rw [hon, State.doTrackOn_of_tracked h]; rfl
  · rw [hoff, State.doTrackOff_moving h]; rfl
  · rw [hoff, State.doTrackOff_of_untracked hstill h]; rfl
  · rw [hoff, State.doTrackOff_of_tracked hstill (by rw [h]; cases t <;> rfl), State.takeTrackOff_otherTracked h]; rfl
  · rw [hoff, State.doTrackOff_of_tracked hstill (by rw [h, PerTrack.get_set_self]), State.takeTrackOff_last h]; rfl
  · rw [hon]; rfl
  · rw [hoff]; rfl

/-! ## POST-CLEAR (R48) -/

theorem post?_none {n : Nat} (h : n = 0 ∨ 48 < n) : post? n = none := by
  obtain rfl | h := h
  · rfl
  · rw [post?, if_pos (by omega), index?_none (by omega)]

/-- The destination byte of a frame to a post is the post's number. -/
theorem postAddr_byte (p : Post) : (0 : BitVec 1) ++ postAddr p = BitVec.ofNat 8 (p.val + 1) := by
  revert p; decide

theorem State.doPostClear_val (s : State) (p : Post) :
    s.doPostClear (p.val + 1) = ((s.sendPostClear p).1, .done, .appended (s.sendPostClear p).2) := by
  simp [State.doPostClear]

/-- Settles O52: the number decides whether there is a post to offer the POST_CLEAR for. -/
theorem postClear : Obligations.PostClear := by
  intro s rq tag hpin hcon
  have hexec : ∀ n, exec (.postClear rq tag n) s = .next (State.settleRequest rq .postClear tag (s.doPostClear n)) :=
    fun n => State.live_request_console hpin hcon .postClear tag fun s => s.doPostClear n
  refine ⟨fun p => ?_, fun n hn => ?_⟩
  · rw [hexec, State.doPostClear_val]
    simp only [State.sendPostClear, ownFrame, postAddr_byte]
    rfl
  · rw [hexec, State.doPostClear, post?_none hn]; rfl

/-! ## Filtered inputs and the stop timer (R171, R181) -/

theorem exec_stopFilterLevelChange_run {s : State} (hpin : s.pinHeld = false) (i : StopInput) (level : Bool) :
    exec (.stopFilterLevelChange i level) s =
      .next (if (s.stopFilter i).level = inputActive i level then s.modFilter i fun f => { f with level := inputActive i level }
        else (s.modFilter i fun f => { f with level := inputActive i level }).modFilter i StopFilter.follow) :=
  State.liveInput_run hpin (fun s => s.modFilter i fun f => { f with level := inputActive i level })
    fun t => if (s.stopFilter i).level = inputActive i level then t else t.modFilter i StopFilter.follow

theorem State.modFilter_same {s : State} {i : StopInput} {f : StopFilter → StopFilter}
    (h : f (s.stopFilter i) = s.stopFilter i) : s.modFilter i f = s := by
  have hfilters : upd s.chain.filters (stopInputIndex i) f = s.chain.filters := upd_same h
  simp only [State.modFilter, State.modChain, hfilters]

theorem State.modFilter_modFilter (s : State) (i : StopInput) (f g : StopFilter → StopFilter) :
    (s.modFilter i f).modFilter i g = s.modFilter i fun x => g (f x) := by
  simp [State.modFilter, State.modChain]

theorem State.filterExpiry_stopped {s : State} {i : StopInput} (h : (s.stopFilter i).timer = none) :
    s.filterExpiry i = s := by
  simp [State.filterExpiry, h]

/-- Settles O38: the level against the input's own and the filtered one, and the timers stopped and running. -/
theorem stopInputsAndStopTimer : Obligations.StopInputsAndStopTimer := by
  intro s i level hpin f active
  have hactive : inputActive i level = active := by cases i <;> rfl
  have hexpiry : exec (.stopFilterDebounceExpiry i) s = .next (s.filterExpiry i) :=
    State.live_run hpin fun s => s.filterExpiry i
  have htimer : exec .stopTimerExpiry s = .next s.stopTimerExpiry := State.live_run hpin State.stopTimerExpiry
  refine ⟨fun hsame => ?_, fun hother => ?_, fun hstopped => ?_, fun n hn => ⟨fun hl ha => ?_, fun hl ha => ?_,
    fun hla => ?_⟩, fun hstopped => ?_, fun n hn => ?_⟩
  · rw [exec_stopFilterLevelChange_run hpin, hactive, if_pos hsame, State.modFilter_same]
    rw [← hsame]
  · rw [exec_stopFilterLevelChange_run hpin, hactive, if_neg hother, State.modFilter_modFilter]; rfl
  · rw [hexpiry, State.filterExpiry_stopped hstopped]
  · have hl' : (s.stopFilter i).level = true := hl
    have ha' : (s.stopFilter i).active = false := ha
    have hn' : (s.stopFilter i).timer = some n := hn
    rw [hexpiry]; simp [State.filterExpiry, hl', ha', hn']
  · have hl' : (s.stopFilter i).level = false := hl
    have ha' : (s.stopFilter i).active = true := ha
    have hn' : (s.stopFilter i).timer = some n := hn
    rw [hexpiry]; simp [State.filterExpiry, hl', ha', hn']
  · have hla' : (s.stopFilter i).level = (s.stopFilter i).active := hla
    have hn' : (s.stopFilter i).timer = some n := hn
    rw [hexpiry]; simp [State.filterExpiry, hla', hn']
  · rw [htimer, State.stopTimerExpiry, hstopped]; rfl
  · rw [htimer, State.stopTimerExpiry, hn]; rfl

end Sys2Proof.Machine


/-! Requests at large: the rights and answers of chapter 11 (R185, R186), and the requests that read (R81, R82, R187, R189,
R190). -/

namespace Sys2Proof.Machine

/-! ## Rights (R185) -/

/-- Every request but RESTART-PART is judged for its rights and then handed to a rule of its own. -/
theorem exec_of_requestOf {c : Instr} {rq : Requester} {tag : Byte} {code : RequestCode}
    (h : requestOf c = some (rq, tag, code)) (hcode : code ≠ .restartPart) :
    ∃ own : State → Reply, ∀ s, exec c s = s.live fun s => s.request rq code tag own := by
  cases c <;> cases h
  case restartPart => exact absurd rfl hcode
  all_goals exact ⟨_, fun s => rfl⟩

theorem requestOf_restartPart {c : Instr} {rq : Requester} {tag : Byte}
    (h : requestOf c = some (rq, tag, .restartPart)) : c = .restartPart rq tag := by
  cases c <;> cases h
  rfl

/-- A request without the right to it has no effect of its own, whatever its code. -/
theorem exec_of_requestOf_refused {s : State} {c : Instr} {rq : Requester} {tag : Byte} {code : RequestCode}
    (hpin : s.pinHeld = false) (h : requestOf c = some (rq, tag, code)) (hmay : s.mayRequest rq code = false) :
    exec c s = .next (State.settleRequest rq code tag (s.countAdmin Ctr.notPermitted, .notPermitted, .empty)) := by
  by_cases hcode : code = .restartPart
  · subst hcode
    obtain rfl := requestOf_restartPart h
    change s.live (fun s => s.onRestartPart rq tag) = _
    rw [State.live_run hpin, State.onRestartPart, if_neg (by simp [hmay]), State.request_refused hmay]
  · obtain ⟨own, hexec⟩ := exec_of_requestOf h hcode
    rw [hexec, State.live_run hpin, State.request_refused hmay]

theorem summitMay_iff {code : RequestCode} :
    summitMay code = true ↔ code = .identify ∨ code = .statusRead ∨ code = .causesRead ∨ code = .stop := by
  cases code <;> simp [summitMay]

theorem State.mayRequest_iff {s : State} {rq : Requester} {code : RequestCode} :
    s.mayRequest rq code = true ↔ (rq.port = .station ∧ rq.src = s.admin.part.console) ∨
      (rq.port = .line ∧ rq.src = 63 ∧
        (code = .identify ∨ code = .statusRead ∨ code = .causesRead ∨ code = .stop)) := by
  rw [← summitMay_iff]
  simp only [State.mayRequest, State.isConsole, isSummitRequest, Bool.or_eq_true, Bool.and_eq_true, decide_eq_true_eq,
    and_assoc]
  rfl

/-! ## Answers (R186) -/

theorem answerPort_line {src : Addr} (hlow : 1 ≤ src.toNat) (hhigh : src.toNat ≤ 63) : answerPort src = some .line := by
  simp [answerPort, hlow, hhigh]

theorem answerPort_station {src : Addr} (hlow : 64 ≤ src.toNat) (hhigh : src.toNat ≤ 79) :
    answerPort src = some .station := by
  rw [answerPort, if_neg (by omega), if_pos ⟨hlow, hhigh⟩]

theorem answerPort_none {src : Addr} (h : src.toNat = 0 ∨ 79 < src.toNat) : answerPort src = none := by
  rw [answerPort, if_neg (by omega), if_neg (by omega)]

/-! ## What an ADMIN_REQUEST frame carries (log 7, log 48) -/

theorem State.takeAdmin_short {s : State} {payload : List Byte} (h : payload.length < 2) (rq : Requester)
    (contents : Contents) : s.takeAdmin rq payload contents = s.countAdmin Ctr.malformedRequest :=
  if_pos h

theorem State.takeAdmin_fits {s : State} {payload : List Byte} (h : 2 ≤ payload.length) (rq : Requester) (tag : Byte)
    (r : Request) : s.takeAdmin rq payload (.admin tag (.fits r)) = s.runRequest rq tag r :=
  if_neg (Nat.not_lt.mpr h)

theorem State.takeAdmin_misfit {s : State} {payload : List Byte} (h : 2 ≤ payload.length) (rq : Requester) (tag : Byte)
    (code : RequestCode) : s.takeAdmin rq payload (.admin tag (.misfit code)) = s.onMisfit rq tag code :=
  if_neg (Nat.not_lt.mpr h)

theorem State.takeAdmin_unread {s : State} {payload : List Byte} (h : 2 ≤ payload.length) (rq : Requester)
    {contents : Contents} (hc : ∀ tag reading, contents ≠ .admin tag reading) :
    s.takeAdmin rq payload contents =
      s.onMisfit rq (Config.requestTag payload) (.other (Config.requestCode payload)) := by
  cases contents
  case admin tag reading => exact absurd rfl (hc tag reading)
  all_goals exact if_neg (Nat.not_lt.mpr h)

/-- The command of the request a frame carries does what the request does. -/
theorem exec_commandOf {s : State} (hpin : s.pinHeld = false) {rq : Requester} {tag : Byte} {r : Request} {c : Instr}
    (h : commandOf rq tag r = some c) : exec c s = .next (s.runRequest rq tag r) := by
  have hlive : exec c s = s.live fun s => s.runRequest rq tag r := by cases r <;> cases h <;> rfl
  rw [hlive, State.live_run hpin]

/-- A request whose parameters do not fit its code is BAD_REQUEST to whoever has the right to the code. -/
theorem State.onMisfit_taken {s : State} {rq : Requester} {code : RequestCode} (h : s.mayRequest rq code = true)
    (tag : Byte) : s.onMisfit rq tag code = State.settleRequest rq code tag (s, .badRequest, .empty) := by
  rw [State.onMisfit, State.request_taken h]; rfl

theorem State.onMisfit_refused {s : State} {rq : Requester} {code : RequestCode} (h : s.mayRequest rq code = false)
    (tag : Byte) :
    s.onMisfit rq tag code =
      State.settleRequest rq code tag (s.countAdmin Ctr.notPermitted, .notPermitted, .empty) := by
  rw [State.onMisfit, State.request_refused h]

/-- Settles O42: the rights, the answer's way by the source address, and the payload's length with what the operand reads. -/
theorem rightsAndAnswers : Obligations.RightsAndAnswers := by
  refine ⟨?rights, ?answers, ?frames⟩
  case rights =>
    intro s c rq tag code hpin hc hconsole hsummit
    refine exec_of_requestOf_refused hpin hc (Bool.eq_false_iff.mpr fun h => ?_)
    exact (State.mayRequest_iff.mp h).elim hconsole hsummit
  case answers =>
    intro s rq code tag result data n frame
    refine ⟨fun hlow hhigh => ?_, fun hlow hhigh => ?_, fun hnone => ?_⟩
    · rw [State.settleRequest, State.answerTo, answerPort_line hlow hhigh]; rfl
    · rw [State.settleRequest, State.answerTo, answerPort_station hlow hhigh]; rfl
    · rw [State.settleRequest, State.answerTo, answerPort_none hnone]
  case frames =>
    intro s rq payload contents
    refine ⟨fun hshort => State.takeAdmin_short hshort rq contents, fun hlong hpin => ?_⟩
    intro misfit
    have hmisfit : ∀ tag code, misfit tag code (s.onMisfit rq tag code) := by
      intro tag code
      refine ⟨fun hmay => State.onMisfit_taken (State.mayRequest_iff.mpr hmay) tag, fun hconsole hsummit => ?_⟩
      refine State.onMisfit_refused (Bool.eq_false_iff.mpr fun h => ?_) tag
      exact (State.mayRequest_iff.mp h).elim hconsole hsummit
    refine ⟨fun tag request c hc => ?_, fun tag hconsole => ?_, fun tag code => ?_, fun hc => ?_⟩
    · rw [exec_commandOf hpin hc, State.takeAdmin_fits hlong]
    · rw [State.takeAdmin_fits hlong]
      exact State.request_taken (State.mayRequest_iff.mpr (.inl hconsole)) tag fun s => s.refuse .badValue
    · rw [State.takeAdmin_misfit hlong]; exact hmisfit tag code
    · rw [State.takeAdmin_unread hlong rq hc]; exact hmisfit _ _

/-! ## Counters (R190) -/

/-- A clear sets the counters of its window to 0 and leaves the others. -/
theorem foldl_clear_getElem? {n : Nat} (v : Vector Counter n) (start i : Nat) (hi : i < n) (k : Nat) :
    ((List.range k).foldl (fun v j => if h : start + j < n then v.set (start + j) 0 h else v) v)[i]? =
      if start ≤ i ∧ i < start + k then some 0 else v[i]? := by
  induction k with
  | zero => simp
  | succ k ih =>
    rw [List.range_succ, List.foldl_append]
    simp only [List.foldl_cons, List.foldl_nil]
    split
    · rename_i hk
      rw [Vector.getElem?_set, ih]
      by_cases he : start + k = i
      · simp [he]; omega
      · rw [if_neg he]
        congr 1
        simp only [eq_iff_iff]
        omega
    · rename_i hk
      rw [ih]
      congr 1
      simp only [eq_iff_iff]
      omega

theorem clearFrom_toList_getElem? {n : Nat} (v : Vector Counter n) (start i : Nat) (hi : i < v.toList.length) :
    (clearFrom v start).toList[i]? = if start ≤ i ∧ i < start + 12 then some 0 else v.toList[i]? := by
  have hin : i < n := by simpa using hi
  have hclear : (clearFrom v start)[i]? = _ := foldl_clear_getElem? v start i hin 12
  simpa using hclear

/-- A clear sets the counters of its window in the block to 0. -/
theorem State.counters_clearCounters (s : State) (b : Block) (start i : Nat) (hi : i < (s.counters b).length) :
    ((s.clearCounters b start).counters b)[i]? =
      if start ≤ i ∧ i < start + 12 then some 0 else (s.counters b)[i]? := by
  cases b <;> exact clearFrom_toList_getElem? _ start i hi

theorem State.items_clearCounters (s : State) (b : Block) (start : Nat) :
    (s.clearCounters b start).items b = s.items b := by
  cases b <;> rfl

theorem State.clearCounters_changesOnly (s : State) (b : Block) (start : Nat) :
    s.changesOnly (s.clearCounters b start) [b] := by
  refine ⟨fun b' hb => ?_, by cases b <;> rfl, by cases b <;> rfl⟩
  have hne : b' ≠ b := by simpa using hb
  cases b <;> cases b' <;> simp_all [State.sameBlock, State.clearCounters, State.modPort]

theorem State.changesOnly_refl (s : State) (l : List Block) : s.changesOnly s l :=
  ⟨fun b _ => by cases b <;> rfl, rfl, rfl⟩

theorem State.doCountersRead_pastEnd {s : State} {b : Block} {start : Nat} (h : (s.counters b).length ≤ start)
    (clear : Bool) : s.doCountersRead (some b) start clear = s.refuse .endOfTable :=
  if_pos h

theorem State.doCountersRead_inTable {s : State} {b : Block} {start : Nat} (h : start < (s.counters b).length)
    (clear : Bool) :
    s.doCountersRead (some b) start clear =
      (if clear then s.clearCounters b start else s, .done,
        .counters (s.counters b).length (((s.counters b).drop start).take 12) (s.items b)) :=
  if_neg (Nat.not_le.mpr h)

/-- Settles O43: IDENTIFY and STATUS-READ for both requesters, then COUNTERS-READ by its start index and its clear flag. -/
theorem identityStatusAndCounters : Obligations.IdentityStatusAndCounters := by
  refine ⟨fun s rq tag hpin hrq => ⟨?_, ?_⟩, fun s rq tag b start clear hpin hcon => ?_⟩
  · change s.live (fun s => s.onIdentify rq tag) = _
    rw [State.live_run hpin, State.onIdentify, State.request_taken (State.mayRequest_console_or_summit hrq rfl)]
    rfl
  · change s.live (fun s => s.onStatusRead rq tag) = _
    rw [State.live_run hpin, State.onStatusRead, State.request_taken (State.mayRequest_console_or_summit hrq rfl)]
    rfl
  · intro l
    have hexec : ∀ b, exec (.countersRead rq tag b start clear) s =
        .next (State.settleRequest rq .countersRead tag (s.doCountersRead b start clear)) := fun b =>
      State.live_request_console hpin hcon .countersRead tag fun s => s.doCountersRead b start clear
    refine ⟨fun hend => ?_, ?_, fun hin => ⟨if clear then s.clearCounters b start else s, ?_, ?_, ?_, ?_, ?_⟩⟩
    · rw [hexec, State.doCountersRead_pastEnd hend]; rfl
    · rw [hexec]; rfl
    · rw [hexec, State.doCountersRead_inTable hin]
    · rintro rfl; rfl
    · cases clear
      · exact s.changesOnly_refl [b]
      · exact s.clearCounters_changesOnly b start
    · cases clear
      · rfl
      · exact s.items_clearCounters b start
    · rintro rfl i hi
      exact s.counters_clearCounters b start i hi

end Sys2Proof.Machine


/-! TABLE-READ, LIST-READ, CABIN-FIND and CABIN-NEXT (R81, R82, R187), and the table writes taken at any rope speed (R26, R75,
R115, R150, R172, R188). -/

namespace Sys2Proof.Machine

/-! ## Codes outside their values -/

theorem kindOfCode_none {n : Nat} (h : 13 ≤ n) : kindOfCode n = none := by
  obtain ⟨m, rfl⟩ := Nat.exists_eq_add_of_le' h
  rfl

theorem causeOfCode_none {n : Nat} (h : 39 ≤ n) : causeOfCode n = none := by
  obtain ⟨m, rfl⟩ := Nat.exists_eq_add_of_le' h
  rfl

/-! ## TABLE-READ (R187) -/

theorem State.doTableRead_some {s : State} {t : TableRef} {d : TableData} (h : s.readTable t = some d) :
    s.doTableRead t = (s, .done, .table d) := by
  rw [State.doTableRead, h]

theorem State.doTableRead_none {s : State} {t : TableRef} (h : s.readTable t = none) :
    s.doTableRead t = s.refuse .badValue := by
  rw [State.doTableRead, h]

theorem State.readTable_cls (s : State) (p : Port) (k : Kind) :
    s.readTable (.cls (some p) (kindCode k).val) = some (.cls s.switch.classes[classIndex p k]) := by
  simp [State.readTable, SwitchUnit.entry]

theorem State.readTable_cls_none {s : State} {p : Option Port} {n : Nat} (h : p = none ∨ 13 ≤ n) :
    s.readTable (.cls p n) = none := by
  obtain rfl | h := h
  · rfl
  · cases p <;> simp [State.readTable, kindOfCode_none h]

theorem State.readTable_post (s : State) (p : Post) :
    s.readTable (.post (p.val + 1)) =
      some (.post (s.post p).fitted (s.post p).absent (s.post p).missed (s.post p).attention) := by
  simp [State.readTable]

theorem State.readTable_post_none {s : State} {n : Nat} (h : n = 0 ∨ 48 < n) : s.readTable (.post n) = none := by
  simp [State.readTable, post?_none h]

theorem State.readTable_seat (s : State) (r : SeatRef) :
    s.readTable (.seat (r.post.val + 1) r.seat.val) = some (.seat (s.seat r)) := by
  simp [State.readTable]

theorem State.readTable_seat_none {s : State} {n m : Nat} (h : n = 0 ∨ 48 < n ∨ 4 ≤ m) :
    s.readTable (.seat n m) = none := by
  rw [← or_assoc] at h
  obtain h | h := h
  · simp [State.readTable, post?_none h]
  · simp only [State.readTable, index?_none h]
    cases post? n <;> rfl

theorem State.readTable_channel (s : State) (k : Fin 8) :
    s.readTable (.channel k.val) = some (.channel (s.channel k).entry (s.channel k).state (s.channel k).mode) := by
  simp [State.readTable]

theorem State.readTable_channel_none {s : State} {n : Nat} (h : 8 ≤ n) : s.readTable (.channel n) = none := by
  simp [State.readTable, index?_none h]

theorem State.readTable_group (s : State) (g : Fin 2) :
    s.readTable (.group g.val) = some (.group s.doors.groupTimes[g] s.doors.groupOn[g]) := by
  simp [State.readTable]

theorem State.readTable_group_none {s : State} {n : Nat} (h : 2 ≤ n) : s.readTable (.group n) = none := by
  simp [State.readTable, index?_none h]

theorem State.readTable_cause (s : State) (c : Cause) :
    s.readTable (.cause (causeCode c).val) = some (.cause s.chain.table[causeCode c] (causeMinimum c)) := by
  simp [State.readTable]

theorem State.readTable_cause_none {s : State} {n : Nat} (h : 39 ≤ n) : s.readTable (.cause n) = none := by
  simp [State.readTable, causeOfCode_none h]

/-! ## LIST-READ (R82) -/

theorem State.readStation_beyond {s : State} {pos : Nat} (h : 12 ≤ pos) : s.readStation pos = s.refuse .badValue :=
  if_pos h

theorem State.readStation_pastEnd {s : State} {pos : Nat} (hpos : pos < 12) (hend : s.rail.cabins.length ≤ pos) :
    s.readStation pos = (s, .endOfTable, .length s.rail.cabins.length) :=
  (if_neg (Nat.not_le.mpr hpos)).trans (if_pos hend)

theorem State.readStation_inList {s : State} {pos : Nat} (hpos : pos < 12) (hin : pos < s.rail.cabins.length) :
    s.readStation pos = (s, .done, .stations s.rail.cabins.length ((s.rail.cabins.drop pos).take 4)) :=
  (if_neg (Nat.not_le.mpr hpos)).trans (if_neg (Nat.not_le.mpr hin))

theorem State.readTrain_beyond {s : State} {pos : Nat} (h : 96 ≤ pos) (t : Track) :
    s.readTrain t pos = s.refuse .badValue :=
  if_pos h

theorem State.readTrain_pastEnd {s : State} {t : Track} {pos : Nat} (hpos : pos < 96)
    (hend : (s.tracker.lists.get t).length ≤ pos) :
    s.readTrain t pos = (s, .endOfTable, .length (s.tracker.lists.get t).length) :=
  (if_neg (Nat.not_le.mpr hpos)).trans (if_pos hend)

theorem State.readTrain_inList {s : State} {t : Track} {pos : Nat} (hpos : pos < 96)
    (hin : pos < (s.tracker.lists.get t).length) :
    s.readTrain t pos = (s, .done, .trains (s.tracker.lists.get t).length (s.trainViews t pos)) :=
  (if_neg (Nat.not_le.mpr hpos)).trans (if_neg (Nat.not_le.mpr hin))

/-! ## CABIN-FIND and CABIN-NEXT (R81) -/

theorem State.doCabinFind_of_outOfRange {s : State} {id : Nat} (h : id = 0 ∨ 4095 < id) :
    s.doCabinFind id = s.refuse .badValue :=
  if_pos (cabinInRange_false_iff.mpr h)

theorem State.doCabinFind_of_noEntry {s : State} {id : Nat} (hid : cabinInRange id = true)
    (he : s.tracker.entry id = none) : s.doCabinFind id = s.refuse .notFound := by
  simp [State.doCabinFind, hid, he]

theorem State.doCabinFind_of_entry {s : State} {id : Nat} {e : CabinEntry} (hid : cabinInRange id = true)
    (he : s.tracker.entry id = some e) : s.doCabinFind id = (s, .done, .cabin e) := by
  simp [State.doCabinFind, hid, he]

theorem State.doCabinNext_beyond {s : State} {id : Nat} (h : 4095 < id) : s.doCabinNext id = s.refuse .badValue :=
  if_pos h

theorem State.doCabinNext_none {s : State} {id : Nat} (hid : id ≤ 4095) (h : ∀ e ∈ s.tracker.cabins, e.id ≤ id) :
    s.doCabinNext id = s.refuse .endOfTable := by
  have hfind : (s.tracker.cabins.find? fun e => decide (id < e.id)) = none := by
    simpa [List.find?_eq_none] using h
  rw [State.doCabinNext, if_neg (Nat.not_lt.mpr hid), hfind]

theorem State.doCabinNext_some {s : State} {id : Nat} (hid : id ≤ 4095) {low high : List CabinEntry} {e : CabinEntry}
    (hcabins : s.tracker.cabins = low ++ e :: high) (hlow : ∀ x ∈ low, x.id ≤ id) (he : id < e.id) :
    s.doCabinNext id = (s, .done, .cabin e) := by
  have hnone : (low.find? fun e => decide (id < e.id)) = none := by simpa [List.find?_eq_none] using hlow
  have hfind : (s.tracker.cabins.find? fun e => decide (id < e.id)) = some e := by
    rw [hcabins, List.find?_append, hnone]
    simp [he]
  rw [State.doCabinNext, if_neg (Nat.not_lt.mpr hid), hfind]

/-- Settles O45: each read by its operand, through the table or list it names. -/
theorem tableAndListReads : Obligations.TableAndListReads := by
  intro s rq tag hpin hcon reads table refused
  have htable : ∀ t, exec (.tableRead rq tag t) s = .next (State.settleRequest rq .tableRead tag (s.doTableRead t)) :=
    fun t => State.live_request_console hpin hcon .tableRead tag fun s => s.doTableRead t
  have hlist : ∀ l pos, exec (.listRead rq tag l pos) s =
      .next (State.settleRequest rq .listRead tag (s.doListRead l pos)) := fun l pos =>
    State.live_request_console hpin hcon .listRead tag fun s => s.doListRead l pos
  have hfind : ∀ id, exec (.cabinFind rq tag id) s = .next (State.settleRequest rq .cabinFind tag (s.doCabinFind id)) :=
    fun id => State.live_request_console hpin hcon .cabinFind tag fun s => s.doCabinFind id
  have hnext : ∀ id, exec (.cabinNext rq tag id) s = .next (State.settleRequest rq .cabinNext tag (s.doCabinNext id)) :=
    fun id => State.live_request_console hpin hcon .cabinNext tag fun s => s.doCabinNext id
  have hread : ∀ {t d}, s.readTable t = some d → table t d := by
    intro t d h
    show exec _ s = _
    rw [htable, State.doTableRead_some h]
  have hrefused : ∀ {t}, s.readTable t = none → refused t := by
    intro t h
    show exec _ s = _
    rw [htable, State.doTableRead_none h]; rfl
  refine ⟨hread rfl, hread rfl, hread rfl, hread rfl, hrefused rfl, fun p k => hread (s.readTable_cls p k),
    fun p n h => hrefused (State.readTable_cls_none h), fun p => hread (s.readTable_post p),
    fun n h => hrefused (State.readTable_post_none h), fun r => hread (s.readTable_seat r),
    fun n m h => hrefused (State.readTable_seat_none h), fun d => hread rfl, hrefused rfl,
    fun k => hread (s.readTable_channel k), fun n h => hrefused (State.readTable_channel_none h),
    fun g => hread (s.readTable_group g), fun n h => hrefused (State.readTable_group_none h),
    fun c => hread (s.readTable_cause c), fun n h => hrefused (State.readTable_cause_none h), fun pos => ?noList,
    fun pos h => ?stationBeyond, fun pos hpos hend => ?stationEnd, fun pos hpos hin => ?stationIn, fun t pos => ?trains,
    fun id h => ?findRange, fun id hlow hhigh h => ?findNone, fun e he hlow hhigh => ?findSome, fun id h => ?nextRange,
    fun id hid h => ?nextNone, fun id low high e hid hcabins hlow he => ?nextSome⟩
  case noList => rw [hlist]; rfl
  case stationBeyond => rw [hlist, State.doListRead, State.readStation_beyond h]; rfl
  case stationEnd => rw [hlist, State.doListRead, State.readStation_pastEnd hpos hend]
  case stationIn => rw [hlist, State.doListRead, State.readStation_inList hpos hin]
  case trains =>
    intro name launch l read
    have hname : read = .next (State.settleRequest rq .listRead tag (s.readTrain t pos)) := by
      show exec _ s = _
      rw [hlist]
      cases t <;> rfl
    refine ⟨fun h => ?_, fun hpos hend => ?_, fun hpos hin => ?_⟩
    · rw [hname, State.readTrain_beyond h]; rfl
    · rw [hname, State.readTrain_pastEnd hpos hend]
    · rw [hname, State.readTrain_inList hpos hin]
      cases t <;> rfl
  case findRange => rw [hfind, State.doCabinFind_of_outOfRange h]; rfl
  case findNone =>
    rw [hfind, State.doCabinFind_of_noEntry (cabinInRange_iff.mpr ⟨hlow, hhigh⟩) (Tracker.entry_eq_none_iff.mpr h)]; rfl
  case findSome => rw [hfind, State.doCabinFind_of_entry (cabinInRange_iff.mpr ⟨hlow, hhigh⟩) he]
  case nextRange => rw [hnext, State.doCabinNext_beyond h]; rfl
  case nextNone => rw [hnext, State.doCabinNext_none hid h]; rfl
  case nextSome => rw [hnext, State.doCabinNext_some hid hcabins hlow he]

/-! ## Writes taken at any speed -/

theorem rejoinInRange_iff {n : Nat} : rejoinInRange n = true ↔ 100 ≤ n ∧ n ≤ 25500 ∧ n % 100 = 0 := by
  simp [rejoinInRange, and_assoc]

/-- A part write whose fields lie in their ranges gives the table of its fields. -/
theorem readPart_some {a : Addr} {m : Mask} {sch : Scheduler} {roll sample js jl : Nat} {notices : Bool}
    (ha : 64 ≤ a.toNat) (ha' : a.toNat ≤ 79) (hr : 100 ≤ roll) (hr' : roll ≤ 1000) (hs : 200 ≤ sample)
    (hs' : sample ≤ 2000) (hjs : 1 ≤ js) (hjs' : js ≤ 255) (hjl : 1 ≤ jl) (hjl' : jl ≤ 255) :
    readPart ⟨a.toNat, some m, some sch, roll, sample, js * 100, jl * 100, notices⟩ =
      some ⟨a, m, sch, roll, sample, js * 100, jl * 100, notices⟩ := by
  have hstation : rejoinInRange (js * 100) = true := rejoinInRange_iff.mpr (by omega)
  have hline : rejoinInRange (jl * 100) = true := rejoinInRange_iff.mpr (by omega)
  simp [readPart, *]

theorem readPart_none {f : PartFields}
    (h : f.mask = none ∨ f.scheduler = none ∨ f.console < 64 ∨ 79 < f.console ∨ f.rollPeriod < 100 ∨
      1000 < f.rollPeriod ∨ f.samplePeriod < 200 ∨ 2000 < f.samplePeriod ∨ f.rejoinStation < 100 ∨
      25500 < f.rejoinStation ∨ f.rejoinStation % 100 ≠ 0 ∨ f.rejoinLine < 100 ∨ 25500 < f.rejoinLine ∨
      f.rejoinLine % 100 ≠ 0) : readPart f = none := by
  unfold readPart
  split
  · rename_i hmask hsch
    rw [if_neg]
    rw [rejoinInRange_iff, rejoinInRange_iff]
    simp only [hmask, hsch, reduceCtorEq, false_or] at h
    omega
  · rfl

theorem State.doClassWrite_some (s : State) (p : Port) (k : Kind) (a : ClassAction) (c : Fin 4) :
    s.doClassWrite (some p) (kindCode k).val (some a) c.val =
      (s.modSwitch fun u => { u with classes := upd u.classes (classIndex p k) fun _ => ⟨a, c⟩ }).done := by
  simp [State.doClassWrite]

theorem State.doSettingsWrite_some {s : State} {age : Nat} (h : age ≤ 1440) (learning : Bool) (c : CabinClass)
    (d : DoorMode) :
    s.doSettingsWrite ⟨learning, age, some c, some d⟩ =
      (s.modTracker fun u => { u with settings := ⟨learning, age, ⟨c, d⟩⟩ }).done :=
  if_pos h

theorem State.doClassWrite_none {s : State} {p : Option Port} {k : Nat} {a : Option ClassAction} {c : Nat}
    (h : p = none ∨ 12 < k ∨ a = none ∨ 3 < c) : s.doClassWrite p k a c = s.refuse .badValue := by
  unfold State.doClassWrite
  split
  · rename_i hk hc
    obtain h | h | h | h := h
    · cases h
    · simp [kindOfCode_none (n := k) h] at hk
    · cases h
    · simp [index?_none (k := 4) h] at hc
  · rfl

theorem State.doSettingsWrite_none {s : State} {f : CabinSettingsFields}
    (h : 1440 < f.ageTime ∨ f.cls = none ∨ f.door = none) : s.doSettingsWrite f = s.refuse .badValue := by
  unfold State.doSettingsWrite
  split
  · rename_i hcls hdoor
    simp only [hcls, hdoor, reduceCtorEq, or_false] at h
    rw [if_neg (Nat.not_le.mpr h)]
  · rfl

theorem State.doChannelWrite_group {g : Fin 2} {time : Nat} (s : State) (h : time ≤ 255) :
    s.doChannelWrite (.group g.val time) =
      (s.modDoors fun u => { u with groupTimes := u.groupTimes.set g time }).done := by
  simp [State.doChannelWrite, h]

theorem State.doChannelWrite_group_none {g time : Nat} (s : State) (h : 1 < g ∨ 255 < time) :
    s.doChannelWrite (.group g time) = s.refuse .badValue := by
  unfold State.doChannelWrite
  obtain h | h := h
  · simp [index?_none (k := 2) h]
  · simp only [if_neg (Nat.not_le.mpr h)]
    cases index? g 2 <;> rfl

theorem State.doCauseWrite_none {s : State} {code : Nat} {f : CauseFields} (h : 38 < code ∨ f.category = none) :
    s.doCauseWrite code f = s.refuse .badValue := by
  unfold State.doCauseWrite
  obtain h | h := h
  · simp [causeOfCode_none (n := code) h]
  · cases causeOfCode code <;> simp [h]

/-- A cause table write of a category at least the fixed minimum and the present one is taken as it stands. -/
theorem State.doCauseWrite_raised {s : State} {c : Cause} {cat : Category} {call notice : Bool}
    (hmin : (causeMinimum c).rank ≤ cat.rank) (hpresent : ((s.chain.table[causeCode c]).category).rank ≤ cat.rank) :
    s.doCauseWrite (causeCode c).val ⟨some cat, call, notice⟩ =
      (s.takeCauseWrite c ⟨cat, call, notice⟩, .done, .causeTaken false cat) := by
  have htaken : cat.sup (causeMinimum c) = cat := by rw [Category.sup, if_neg (Nat.not_lt.mpr hmin)]
  have hclamp : decide (cat.rank < (causeMinimum c).rank) = false := by simpa using hmin
  have hlowered : ¬ cat.rank < (s.chain.table[causeCode c].category).rank := Nat.not_lt.mpr hpresent
  simp only [State.doCauseWrite, causeOfCode_code, htaken, hclamp, Bool.false_eq_true, if_false, hlowered, false_and]

/-- Settles O46: each write inside its ranges, then each of them outside. -/
theorem writesTakenAtAnySpeed : Obligations.WritesTakenAtAnySpeed := by
  intro s rq tag hpin hcon writes refused
  have hpart : ∀ f, exec (.partTableWrite rq tag f) s = .next (State.settleRequest rq .tableWrite tag (s.doPartWrite f)) :=
    fun f => State.live_request_console hpin hcon .tableWrite tag fun s => s.doPartWrite f
  have hclass : ∀ p k a c, exec (.classTableWrite rq tag p k a c) s =
      .next (State.settleRequest rq .tableWrite tag (s.doClassWrite p k a c)) := fun p k a c =>
    State.live_request_console hpin hcon .tableWrite tag fun s => s.doClassWrite p k a c
  have htel : ∀ f, exec (.telephonyTableWrite rq tag f) s =
      .next (State.settleRequest rq .tableWrite tag (s.doTelephonyWrite f)) := fun f =>
    State.live_request_console hpin hcon .tableWrite tag fun s => s.doTelephonyWrite f
  have hcabin : ∀ f, exec (.cabinSettingsWrite rq tag f) s =
      .next (State.settleRequest rq .tableWrite tag (s.doSettingsWrite f)) := fun f =>
    State.live_request_console hpin hcon .tableWrite tag fun s => s.doSettingsWrite f
  have hchannel : ∀ w, exec (.channelTableWrite rq tag w) s =
      .next (State.settleRequest rq .tableWrite tag (s.doChannelWrite w)) := fun w =>
    State.live_request_console hpin hcon .tableWrite tag fun s => s.doChannelWrite w
  have hcause : ∀ code f, exec (.causeTableWrite rq tag code f) s =
      .next (State.settleRequest rq .tableWrite tag (s.doCauseWrite code f)) := fun code f =>
    State.live_request_console hpin hcon .tableWrite tag fun s => s.doCauseWrite code f
  refine ⟨?_, ?_, ?_, ?_, ?_, ?_, ?_, ?_, ?_, ?_, ?_, ?_⟩
  · intro a m sch roll sample js jl notices ha ha' hr hr' hs hs' hjs hjs' hjl hjl'
    rw [hpart, State.doPartWrite, readPart_some ha ha' hr hr' hs hs' hjs hjs' hjl hjl']
    rfl
  · intro p k a c
    rw [hclass, State.doClassWrite_some]
    rfl
  · intro f hh hp ho
    rw [htel, State.doTelephonyWrite, if_pos ⟨hh, hp, ho⟩]
    rfl
  · intro learning age c d hage
    rw [hcabin, State.doSettingsWrite_some hage]
    rfl
  · intro g time htime
    rw [hchannel, State.doChannelWrite_group s htime]
    rfl
  · intro c cat call notice hmin hpresent
    rw [hcause, State.doCauseWrite_raised hmin hpresent]
    rfl
  · intro f hf
    show exec _ s = _
    rw [hpart, State.doPartWrite, readPart_none hf]
    rfl
  · intro p k a c h
    show exec _ s = _
    rw [hclass, State.doClassWrite_none h]
    rfl
  · intro f h
    show exec _ s = _
    rw [htel, State.doTelephonyWrite, if_neg (by omega)]
    rfl
  · intro f h
    show exec _ s = _
    rw [hcabin, State.doSettingsWrite_none h]
    rfl
  · intro g time h
    show exec _ s = _
    rw [hchannel, State.doChannelWrite_group_none s h]
    rfl
  · intro code f h
    show exec _ s = _
    rw [hcause, State.doCauseWrite_none h]
    rfl

end Sys2Proof.Machine


/-! The door channels' inputs and timers: the end sensors (R116, R124 to R127, R131), the drive and reverse timers (R124 to
R126), the local key, lockout and local drives (R130, R131). -/

namespace Sys2Proof.Machine

/-! ## One channel changed -/

theorem State.modChannel_modChannel (s : State) (k : Fin 8) (f g : Channel → Channel) :
    (s.modChannel k f).modChannel k g = s.modChannel k fun c => g (f c) := by
  simp [State.modChannel, State.modDoors]

/-- A change of a channel depends on what it makes of the channel as it stands. -/
theorem State.modChannel_congr {s : State} {k : Fin 8} {f g : Channel → Channel}
    (h : f (s.channel k) = g (s.channel k)) : s.modChannel k f = s.modChannel k g := by
  have hchannels : upd s.doors.channels k f = upd s.doors.channels k g := upd_congr h
  simp only [State.modChannel, State.modDoors, hchannels]

theorem State.modChannel_same {s : State} {k : Fin 8} {f : Channel → Channel} (h : f (s.channel k) = s.channel k) :
    s.modChannel k f = s := by
  have hchannels : upd s.doors.channels k f = s.doors.channels := upd_same h
  simp only [State.modChannel, State.modDoors, hchannels]

@[simp] theorem State.countDoors_channel (s : State) (i : Fin 96) (k : Fin 8) : (s.countDoors i).channel k = s.channel k :=
  rfl

theorem State.countDoors_modChannel (s : State) (i : Fin 96) (k : Fin 8) (f : Channel → Channel) :
    (s.countDoors i).modChannel k f = (s.modChannel k f).countDoors i := rfl

theorem State.modPins_eq (s : State) (k : Fin 8) (f : ChannelPins → ChannelPins) :
    s.modPins k f = s.modChannel k fun c => { c with pins := f c.pins } := rfl

/-! ## The commands of the end sensors -/

theorem exec_openEndChange_same {s : State} {k : Fin 8} (hpin : s.pinHeld = false) :
    exec (.openEndChange k (s.channel k).pins.openEnd) s = .next s := by
  have hexec := State.liveInput_run hpin (fun t => t.modPins k fun p => { p with openEnd := (s.channel k).pins.openEnd })
    fun t => if (s.channel k).pins.openEnd = (s.channel k).pins.openEnd then t else t.openEndChanged k
  refine Eq.trans hexec (congrArg _ ?_)
  rw [if_pos rfl, State.modPins_eq, State.modChannel_same rfl]

theorem exec_openEndChange_other {s : State} {k : Fin 8} {level : Bool} (hpin : s.pinHeld = false)
    (h : (s.channel k).pins.openEnd ≠ level) :
    exec (.openEndChange k level) s =
      .next ((s.modChannel k fun c => { c with pins := { c.pins with openEnd := level } }).openEndChanged k) := by
  have hexec := State.liveInput_run hpin (fun t => t.modPins k fun p => { p with openEnd := level })
    fun t => if (s.channel k).pins.openEnd = level then t else t.openEndChanged k
  refine Eq.trans hexec (congrArg _ ?_)
  rw [if_neg h, State.modPins_eq]

theorem exec_lockedChange_same {s : State} {k : Fin 8} (hpin : s.pinHeld = false) :
    exec (.lockedChange k (s.channel k).pins.locked) s = .next s := by
  have hexec := State.liveInput_run hpin (fun t => t.modPins k fun p => { p with locked := (s.channel k).pins.locked })
    fun t => if (s.channel k).pins.locked = (s.channel k).pins.locked then t else t.lockedChanged k
  refine Eq.trans hexec (congrArg _ ?_)
  rw [if_pos rfl, State.modPins_eq, State.modChannel_same rfl]

theorem exec_lockedChange_other {s : State} {k : Fin 8} {level : Bool} (hpin : s.pinHeld = false)
    (h : (s.channel k).pins.locked ≠ level) :
    exec (.lockedChange k level) s =
      .next ((s.modChannel k fun c => { c with pins := { c.pins with locked := level } }).lockedChanged k) := by
  have hexec := State.liveInput_run hpin (fun t => t.modPins k fun p => { p with locked := level })
    fun t => if (s.channel k).pins.locked = level then t else t.lockedChanged k
  refine Eq.trans hexec (congrArg _ ?_)
  rw [if_neg h, State.modPins_eq]

/-- A channel whose OPEN_END has taken a level, SENSOR noted. -/
def Channel.openEndSet (c : Channel) (level : Bool) : Channel :=
  { c.noteSensor with pins := { c.pins with openEnd := level } }

/-- A channel whose LOCKED has taken a level, SENSOR noted. -/
def Channel.lockedSet (c : Channel) (level : Bool) : Channel :=
  { c.noteSensor with pins := { c.pins with locked := level } }

theorem exec_openEndChange_rise {s : State} {k : Fin 8} (hpin : s.pinHeld = false) (h : (s.channel k).pins.openEnd = false) :
    exec (.openEndChange k true) s = .next ((s.modChannel k fun c => c.openEndSet true).openEndRise k) := by
  rw [exec_openEndChange_other hpin (by simp [h]), State.openEndChanged, State.modChannel_modChannel]
  exact congrArg _ (if_pos (by simp [Channel.noteSensor]))

theorem exec_openEndChange_fall {s : State} {k : Fin 8} (hpin : s.pinHeld = false) (h : (s.channel k).pins.openEnd = true) :
    exec (.openEndChange k false) s = .next (s.modChannel k fun c => c.openEndSet false) := by
  rw [exec_openEndChange_other hpin (by simp [h]), State.openEndChanged, State.modChannel_modChannel]
  exact congrArg _ (if_neg (by simp [Channel.noteSensor]))

theorem exec_lockedChange_rise {s : State} {k : Fin 8} (hpin : s.pinHeld = false) (h : (s.channel k).pins.locked = false) :
    exec (.lockedChange k true) s = .next ((s.modChannel k fun c => c.lockedSet true).lockedRise k) := by
  rw [exec_lockedChange_other hpin (by simp [h]), State.lockedChanged, State.modChannel_modChannel]
  exact congrArg _ (if_pos (by simp [Channel.noteSensor]))

theorem exec_lockedChange_fall {s : State} {k : Fin 8} (hpin : s.pinHeld = false) (h : (s.channel k).pins.locked = true) :
    exec (.lockedChange k false) s = .next ((s.modChannel k fun c => c.lockedSet false).lockedFall k) := by
  rw [exec_lockedChange_other hpin (by simp [h]), State.lockedChanged, State.modChannel_modChannel]
  exact congrArg _ (if_neg (by simp [Channel.noteSensor]))

/-! ## What a rise or fall does in each state -/

theorem State.openEndRise_opening {s : State} {k : Fin 8} (h : (s.channel k).state = .opening) :
    s.openEndRise k =
      let v := (s.modChannel k fun c => (c.noteGate true).endAction).countDoors (Ctr.openDone k)
      if (s.channel k).actionKind = some .openDoor then v.channelWrite k .opened else v := by
  simp only [State.openEndRise, h, State.modChannel_modChannel]

theorem State.openEndRise_reversing {s : State} {k : Fin 8} (h : (s.channel k).state = .reversing) :
    s.openEndRise k = s.modChannel k fun c => (c.noteGate true).closeAgain := by
  simp only [State.openEndRise, h, State.modChannel_modChannel]

theorem State.openEndRise_ready {s : State} {k : Fin 8} (h : (s.channel k).state = .ready) :
    s.openEndRise k = (s.modChannel k fun c => (c.noteGate true).stopDirection .opening).channelWrite k .opened := by
  simp only [State.openEndRise, h, State.modChannel_modChannel]

theorem State.openEndRise_idle {s : State} {k : Fin 8}
    (h : (s.channel k).state ≠ .opening ∧ (s.channel k).state ≠ .reversing ∧ (s.channel k).state ≠ .ready) :
    s.openEndRise k = s.modChannel k fun c => c.noteGate true := by
  unfold State.openEndRise
  cases hst : (s.channel k).state <;> simp_all

theorem State.lockedRise_closing {s : State} {k : Fin 8} (h : (s.channel k).state = .closing) :
    s.lockedRise k =
      let v := (s.modChannel k fun c => (c.noteGate false).endAction).countDoors (Ctr.closeDone k)
      if (s.channel k).actionKind = some .closeGate then v.modChannel k fun c => { c with gateOpen := false }
      else v.channelWrite k .closedLocked := by
  simp only [State.lockedRise, h, State.modChannel_modChannel]

theorem State.lockedRise_ready {s : State} {k : Fin 8} (h : (s.channel k).state = .ready) :
    s.lockedRise k =
      (s.modChannel k fun c => (c.noteGate false).stopDirection .closing).channelWrite k .closedLocked := by
  simp only [State.lockedRise, h, State.modChannel_modChannel]

theorem State.lockedRise_idle {s : State} {k : Fin 8}
    (h : (s.channel k).state ≠ .closing ∧ (s.channel k).state ≠ .ready) :
    s.lockedRise k = s.modChannel k fun c => c.noteGate false := by
  unfold State.lockedRise
  cases hst : (s.channel k).state <;> simp_all

theorem State.lockedFall_ready {s : State} {k : Fin 8} (h : (s.channel k).state = .ready) :
    s.lockedFall k = if (s.channel k).lastWrote = some .closedLocked then s.channelWrite k .unknown else s := by
  simp [State.lockedFall, h]

theorem State.lockedFall_other {s : State} {k : Fin 8} (h : (s.channel k).state ≠ .ready) : s.lockedFall k = s := by
  simp [State.lockedFall, h]

/-! ## Door state writes (R103, R116) -/

theorem State.channelWrite_none {s : State} {k : Fin 8} (h : (s.channel k).served = none) (d : DoorState) :
    s.channelWrite k d = s := by
  rw [State.channelWrite, h]

theorem State.channelWrite_silent {s : State} {k : Fin 8} {v : Served} (h : (s.channel k).served = some v)
    (hrole : v.role = .none ∨ v.role = .gate) (d : DoorState) : s.channelWrite k d = s := by
  rw [State.channelWrite, h]
  obtain hrole | hrole := hrole <;> simp [hrole, writesDoor]

theorem State.channelWrite_served {s : State} {k : Fin 8} {v : Served} (h : (s.channel k).served = some v)
    (hrole : v.role = .openDoor ∨ v.role = .closeDoor) (d : DoorState) :
    s.channelWrite k d =
      (s.doorWrite v.number d).modChannel k fun c => { c with served := some { v with lastWrote := some d } } := by
  rw [State.channelWrite, h]
  obtain hrole | hrole := hrole <;> simp [hrole, writesDoor]

theorem State.doorWrite_listed {s : State} {n : BitVec 16} (h : ∃ r ∈ s.rail.cabins, r.number = n) (d : DoorState) :
    s.doorWrite n d = s.modRail fun u =>
      { u with cabins := u.cabins.map fun r => if r.number = n then { r with door := d } else r } := by
  rw [State.doorWrite, if_pos (by simpa using h)]

theorem State.doorWrite_stale {s : State} {n : BitVec 16} (h : ∀ r ∈ s.rail.cabins, r.number ≠ n) (d : DoorState) :
    s.doorWrite n d = s.countRail Ctr.staleDoor := by
  rw [State.doorWrite, if_neg (by simpa using h)]

/-- The gate-open flag of a channel that notes its sensor. -/
theorem Channel.noteGate_eq (c : Channel) (b : Bool) :
    c.noteGate b = { c with gateOpen := if c.roleNow = .gate then b else c.gateOpen } := by
  unfold Channel.noteGate; split <;> rfl

theorem Channel.stopDirection_eq (c : Channel) (d : DriveDir) :
    c.stopDirection d =
      { c with
        localDrive := if c.localDrive = some d then none else c.localDrive
        localTimer := if c.localDrive = some d then none else c.localTimer } := by
  unfold Channel.stopDirection; split <;> simp_all [Channel.stopLocal]

theorem Channel.roleNow_of_action {c : Channel} {a : Action} (h : c.action = some a) : c.roleNow = a.role := by
  rw [Channel.roleNow, h]

theorem Channel.actionKind_of_action {c : Channel} {a : Action} (h : c.action = some a) : c.actionKind = some a.kind := by
  rw [Channel.actionKind, h]; rfl

@[simp] theorem Channel.openEndSet_state (c : Channel) (level : Bool) : (c.openEndSet level).state = c.state := rfl
@[simp] theorem Channel.openEndSet_action (c : Channel) (level : Bool) : (c.openEndSet level).action = c.action := rfl
@[simp] theorem Channel.openEndSet_roleNow (c : Channel) (level : Bool) : (c.openEndSet level).roleNow = c.roleNow := rfl
@[simp] theorem Channel.lockedSet_state (c : Channel) (level : Bool) : (c.lockedSet level).state = c.state := rfl
@[simp] theorem Channel.lockedSet_action (c : Channel) (level : Bool) : (c.lockedSet level).action = c.action := rfl
@[simp] theorem Channel.lockedSet_roleNow (c : Channel) (level : Bool) : (c.lockedSet level).roleNow = c.roleNow := rfl

/-- An action that ends in a state other than READY adds STATE to the change set. -/
theorem Channel.endAction_of_ne {c : Channel} (h : c.state ≠ .ready) :
    c.endAction =
      { c with
        state := .ready, action := none, driveTimer := none, reverseTimer := none
        changes := { c.changes with state := true } } := by
  simp [Channel.endAction, Channel.enter, h]

/-- An action whose sensor has risen: it ends, and a gate's flag takes the sensor's side. -/
theorem Channel.endAction_noteGate {c : Channel} {a : Action} (hst : c.state ≠ .ready) (hact : c.action = some a)
    (b : Bool) :
    (c.noteGate b).endAction =
      { c with
        state := .ready, action := none, driveTimer := none, reverseTimer := none
        gateOpen := if a.role = .gate then b else c.gateOpen, changes := { c.changes with state := true } } := by
  rw [Channel.noteGate_eq, Channel.roleNow_of_action hact]
  exact Channel.endAction_of_ne hst

/-- Settles O24: a rise and a fall of each end sensor in each state, then the door state write they make. -/
theorem endSensors : Obligations.EndSensors := by
  refine ⟨?sensors, ?write⟩
  case write =>
    intro s k d c
    refine ⟨fun v hv hrole => ?_, fun v hv hrole => State.channelWrite_silent hv hrole d,
      fun h => State.channelWrite_none h d⟩
    intro noted
    refine ⟨fun hlisted => ?_, fun hstale => ?_⟩
    · rw [State.channelWrite_served hv hrole, State.doorWrite_listed hlisted]; rfl
    · rw [State.channelWrite_served hv hrole, State.doorWrite_stale hstale]
  case sensors =>
    intro s k hpin c ended sensed opened closed
    refine ⟨exec_openEndChange_same hpin, exec_lockedChange_same hpin, fun h => ?_, fun a hpins hst hact => ?_,
      fun a hpins hst hact => ?_, fun hpins hst => ?_, fun hpins hst => ?_, fun hpins hst => ?_, fun hpins hst => ?_,
      fun hpins => ?_⟩
    · rw [exec_openEndChange_fall hpin h]; rfl
    · have hset : (((s.channel k).openEndSet true).noteGate true).endAction = _ :=
        Channel.endAction_noteGate (by simp [c] at hst; simp [hst]) (by simpa using hact) true
      have hkind : ((s.modChannel k fun c => c.openEndSet true).channel k).actionKind = some a.kind :=
        Channel.actionKind_of_action (by simpa using hact)
      rw [exec_openEndChange_rise hpin hpins, State.openEndRise_opening (by simpa using hst), hkind,
        State.modChannel_modChannel]
      refine ⟨fun hk hr => ?_, fun hk hr => ?_⟩
      · rw [hk, if_pos rfl]
        refine congrArg (fun t : State => Host.Outcome.next ((t.countDoors _).channelWrite k .opened))
          (State.modChannel_congr ?_)
        rw [hset, hr]; rfl
      · rw [hk, if_neg (by decide), State.countDoors_modChannel, State.modChannel_modChannel]
        refine congrArg (fun t : State => Host.Outcome.next (t.countDoors _)) (State.modChannel_congr ?_)
        rw [hset, hr]; rfl
    · have hset : (((s.channel k).lockedSet true).noteGate false).endAction = _ :=
        Channel.endAction_noteGate (by simp [c] at hst; simp [hst]) (by simpa using hact) false
      have hkind : ((s.modChannel k fun c => c.lockedSet true).channel k).actionKind = some a.kind :=
        Channel.actionKind_of_action (by simpa using hact)
      rw [exec_lockedChange_rise hpin hpins, State.lockedRise_closing (by simpa using hst), hkind,
        State.modChannel_modChannel]
      refine ⟨fun hk hr => ?_, fun hk hr => ?_⟩
      · rw [hk, if_neg (by decide)]
        refine congrArg (fun t : State => Host.Outcome.next ((t.countDoors _).channelWrite k .closedLocked))
          (State.modChannel_congr ?_)
        rw [hset, hr]; rfl
      · rw [hk, if_pos rfl, State.countDoors_modChannel, State.countDoors_modChannel, State.modChannel_modChannel,
          State.modChannel_modChannel]
        refine congrArg (fun t : State => Host.Outcome.next (t.countDoors _)) (State.modChannel_congr ?_)
        rw [hset, hr]; rfl
    · rw [exec_openEndChange_rise hpin hpins, State.openEndRise_ready (by simpa using hst), State.modChannel_modChannel]
      simp only [Channel.noteGate_eq, Channel.stopDirection_eq]
      rfl
    · rw [exec_lockedChange_rise hpin hpins, State.lockedRise_ready (by simpa using hst), State.modChannel_modChannel]
      simp only [Channel.noteGate_eq, Channel.stopDirection_eq]
      rfl
    · rw [exec_openEndChange_rise hpin hpins, State.openEndRise_idle, State.modChannel_modChannel]
      · simp only [Channel.noteGate_eq]; rfl
      · rw [State.modChannel_channel, Channel.openEndSet_state]
        obtain h | h | h | h | h := hst <;> exact h ▸ by decide
    · rw [exec_lockedChange_rise hpin hpins, State.lockedRise_idle, State.modChannel_modChannel]
      · simp only [Channel.noteGate_eq]; rfl
      · rw [State.modChannel_channel, Channel.lockedSet_state]
        obtain h | h | h | h | h | h := hst <;> exact h ▸ by decide
    · rw [exec_lockedChange_fall hpin hpins]
      refine ⟨fun hst => ?_, fun hst => ?_⟩
      · rw [State.lockedFall_ready (by simpa using hst), State.modChannel_channel]; rfl
      · rw [State.lockedFall_other (by simpa using hst)]; rfl

/-! ## Drive and reverse timers (R124 to R126) -/

/-- A channel after its own door state write: the served cabin remembers it under role OPEN or CLOSE (R116). -/
def Channel.wrote (c : Channel) (d : DoorState) : Channel :=
  { c with served := c.served.map fun v => if writesDoor v.role then { v with lastWrote := some d } else v }

theorem Channel.wrote_of_none {c : Channel} (h : c.served = none) (d : DoorState) : c.wrote d = c := by
  cases c; simp_all [Channel.wrote]

theorem Channel.wrote_of_silent {c : Channel} {v : Served} (h : c.served = some v) (hw : ¬ writesDoor v.role = true)
    (d : DoorState) : c.wrote d = c := by
  cases c; simp_all [Channel.wrote]

theorem State.channelWrite_channel_wrote (s : State) (k : Fin 8) (d : DoorState) :
    (s.channelWrite k d).channel k = (s.channel k).wrote d := by
  unfold State.channelWrite
  split
  · next h => exact (Channel.wrote_of_none h d).symm
  · next v h =>
    split
    · next hw =>
      rw [State.modChannel_channel, State.channel_congr (congrArg Doors.channels (State.doorWrite_doors s _ d))]
      simp [Channel.wrote, h, hw]
    · next hw => exact (Channel.wrote_of_silent h hw d).symm

@[simp] theorem Channel.wrote_cabin (c : Channel) (d : DoorState) : (c.wrote d).cabin = c.cabin := by
  unfold Channel.wrote Channel.cabin
  cases c.served with
  | none => rfl
  | some v => simp only [Option.map_some, Option.bind_some]; split <;> rfl

/-- A door state write leaves the detail of the channel's causes. -/
@[simp] theorem State.channelWrite_channelDetail (s : State) (k : Fin 8) (d : DoorState) :
    (s.channelWrite k d).channelDetail k = s.channelDetail k := by
  simp [State.channelDetail, State.channelWrite_channel_wrote]

theorem State.driveExpiry_stopped {s : State} {k : Fin 8} (h : (s.channel k).driveTimer = none) :
    s.driveExpiry k = s := by
  simp [State.driveExpiry, h]

theorem State.driveExpiry_opening {s : State} {k : Fin 8} {n : Nat} (ht : (s.channel k).driveTimer = some n)
    (hst : (s.channel k).state = .opening) : s.driveExpiry k = s.openExpired k := by
  simp [State.driveExpiry, ht, hst]

theorem State.driveExpiry_closing {s : State} {k : Fin 8} {n : Nat} (ht : (s.channel k).driveTimer = some n)
    (hst : (s.channel k).state = .closing) : s.driveExpiry k = s.closeExpired k := by
  simp [State.driveExpiry, ht, hst]

/-- The channel a drive has ended on: what `Channel.endAction_of_ne` makes of it. -/
theorem State.modChannel_endAction {s : State} {k : Fin 8} (h : (s.channel k).state ≠ .ready) :
    s.modChannel k Channel.endAction = s.modChannel k fun c =>
      { c with
        state := .ready, action := none, driveTimer := none, reverseTimer := none
        changes := { c.changes with state := true } } :=
  State.modChannel_congr (Channel.endAction_of_ne h)

theorem State.openExpired_door {s : State} {k : Fin 8} (h : (s.channel k).actionKind = some .openDoor) :
    s.openExpired k =
      (((s.modChannel k Channel.endAction).countDoors (Ctr.openFail k)).channelWrite k .openFailed).raiseMomentary
        .doorOpenFail (s.channelDetail k) := by
  have hdetail : (s.modChannel k Channel.endAction).channelDetail k = s.channelDetail k := by
    simp [State.channelDetail, Channel.endAction, Channel.enter, Channel.cabin]
  simp only [State.openExpired, h, decide_true, if_true, State.raiseOpenFail, State.channelWrite_channelDetail]
  exact congrArg _ hdetail

theorem State.openExpired_gate {s : State} {k : Fin 8} (h : (s.channel k).actionKind = some .openGate) :
    s.openExpired k =
      ((s.modChannel k Channel.endAction).countDoors (Ctr.openFail k)).raiseMomentary .doorOpenFail (s.channelDetail k) := by
  have hdetail : (s.modChannel k Channel.endAction).channelDetail k = s.channelDetail k := by
    simp [State.channelDetail, Channel.endAction, Channel.enter, Channel.cabin]
  have hdoor : ¬ (some ActionKind.openGate = some .openDoor) := by decide
  simp only [State.openExpired, h, hdoor, decide_false, Bool.false_eq_true, if_false, State.raiseOpenFail]
  exact congrArg _ hdetail

theorem State.closeExpired_reverses {s : State} {k : Fin 8} {a : Action} (ha : (s.channel k).action = some a)
    (h : 2 ≤ (s.channel k).attemptsLeft) :
    s.closeExpired k =
      (s.modChannel k fun c => c.reverse a ((s.channel k).attemptsLeft - 1)).countDoors (Ctr.reversal k) := by
  have hleft : (s.channel k).attemptsLeft - 1 ≠ 0 := by omega
  simp only [State.closeExpired, ha, if_neg hleft]

theorem State.closeExpired_jams {s : State} {k : Fin 8} {a : Action} (ha : (s.channel k).action = some a)
    (h : (s.channel k).attemptsLeft = 1) : s.closeExpired k = s.jam k a.kind := by
  simp only [State.closeExpired, ha, h, if_true, Nat.sub_self]

theorem State.jam_door (s : State) (k : Fin 8) :
    s.jam k .closeDoor =
      (((s.modChannel k fun c => { c.endAction with attemptsLeft := 0 }).countDoors (Ctr.jam k)).channelWrite k
        .jammed).raiseMomentary .doorJam (s.channelDetail k) := by
  have hdetail : (s.modChannel k fun c => { c.endAction with attemptsLeft := 0 }).channelDetail k = s.channelDetail k := by
    simp [State.channelDetail, Channel.endAction, Channel.enter, Channel.cabin]
  simp only [State.jam]
  exact congrArg _ hdetail

/-- The next close drive of an action in REVERSING. -/
theorem Channel.closeAgain_of_reversing {c : Channel} {a : Action} (hst : c.state = .reversing) (ha : c.action = some a) :
    c.closeAgain =
      { c with
        state := .closing, driveTimer := some (a.driveTime * 100), reverseTimer := none
        changes := { c.changes with state := true } } := by
  simp [Channel.closeAgain, Channel.closeDrive, Channel.enter, ha, hst]

/-- Settles O25: the timers stopped, the drive timer in OPENING and CLOSING, and the two ways out of REVERSING. -/
theorem driveAndReverseTimers : Obligations.DriveAndReverseTimers := by
  intro s k hpin c detail
  have hdrive : exec (.driveTimerExpiry k) s = .next (s.driveExpiry k) := State.live_run hpin fun s => s.driveExpiry k
  have hreverse : exec (.reverseTimerExpiry k) s = .next (s.reverseExpiry k) :=
    State.live_run hpin fun s => s.reverseExpiry k
  have hdetail : s.channelDetail k = detail := rfl
  refine ⟨fun h => ?_, fun h => ?_, fun n a ht ha => ⟨fun hst hk => ?_, fun hst hk => ?_, fun hst hleft => ?_,
    fun hst hleft hk => ?_, fun hst hleft hk => ?_⟩, fun a hst ha => ?_⟩
  · rw [hdrive, State.driveExpiry_stopped h]
  · rw [hreverse, State.reverseExpiry, State.modChannel_same]
    exact if_neg (by simp [show (s.channel k).reverseTimer = none from h])
  · rw [hdrive, State.driveExpiry_opening ht hst, State.openExpired_door (by rw [Channel.actionKind_of_action ha, hk]),
      State.modChannel_endAction (by rw [show (s.channel k).state = _ from hst]; decide), hdetail]
  · rw [hdrive, State.driveExpiry_opening ht hst, State.openExpired_gate (by rw [Channel.actionKind_of_action ha, hk]),
      State.modChannel_endAction (by rw [show (s.channel k).state = _ from hst]; decide), hdetail]
  · rw [hdrive, State.driveExpiry_closing ht hst, State.closeExpired_reverses ha hleft]
    refine congrArg (fun t : State => Host.Outcome.next (t.countDoors _)) (State.modChannel_congr ?_)
    simp [Channel.reverse, Channel.enter, show (s.channel k).state = _ from hst]
  · rw [hdrive, State.driveExpiry_closing ht hst, State.closeExpired_jams ha hleft, hk, State.jam_door, hdetail]
    refine congrArg (fun t : State => Host.Outcome.next (((t.countDoors _).channelWrite k .jammed).raiseMomentary .doorJam
      detail)) (State.modChannel_congr ?_)
    rw [Channel.endAction_of_ne (by rw [show (s.channel k).state = _ from hst]; decide)]
  · rw [hdrive, State.driveExpiry_closing ht hst, State.closeExpired_jams ha hleft, hk, State.jam]
    refine congrArg (fun t : State => Host.Outcome.next ((t.countDoors _).raiseMomentary .doorJam { channel := some k.val }))
      (State.modChannel_congr ?_)
    rw [Channel.endAction_of_ne (by rw [show (s.channel k).state = _ from hst]; decide)]
  · intro again
    have hagain : (s.channel k).closeAgain = again (s.channel k) := Channel.closeAgain_of_reversing hst ha
    refine ⟨fun n ht => ?_, fun hpins hr => ?_, fun hpins hr => ?_⟩
    · rw [hreverse, State.reverseExpiry]
      refine congrArg _ (State.modChannel_congr ?_)
      rw [if_pos ⟨by simp [show (s.channel k).reverseTimer = _ from ht], hst⟩, hagain]
    · rw [exec_openEndChange_rise hpin hpins, State.openEndRise_reversing (by simpa using hst), State.modChannel_modChannel]
      refine congrArg _ (State.modChannel_congr ?_)
      rw [Channel.noteGate_eq, Channel.openEndSet_roleNow, Channel.roleNow_of_action ha, if_neg hr]
      exact Channel.closeAgain_of_reversing hst ha
    · rw [exec_openEndChange_rise hpin hpins, State.openEndRise_reversing (by simpa using hst), State.modChannel_modChannel]
      refine congrArg _ (State.modChannel_congr ?_)
      rw [Channel.noteGate_eq, Channel.openEndSet_roleNow, Channel.roleNow_of_action ha, if_pos hr]
      exact Channel.closeAgain_of_reversing hst ha

end Sys2Proof.Machine


/-! The local key, lockout and the local drives of a door channel (R130, R131). -/

namespace Sys2Proof.Machine

/-! ## The commands of the local inputs -/

theorem exec_localKeyChange_same {s : State} {k : Fin 8} (hpin : s.pinHeld = false) :
    exec (.localKeyChange k (s.channel k).pins.key) s = .next s := by
  have hexec := State.liveInput_run hpin (fun t => t.modPins k fun p => { p with key := (s.channel k).pins.key })
    fun t => if (s.channel k).pins.key = (s.channel k).pins.key then t else t.keyTurned k
  refine Eq.trans hexec (congrArg _ ?_)
  rw [if_pos rfl, State.modPins_eq, State.modChannel_same rfl]

theorem exec_localKeyChange_other {s : State} {k : Fin 8} {level : Bool} (hpin : s.pinHeld = false)
    (h : (s.channel k).pins.key ≠ level) :
    exec (.localKeyChange k level) s =
      .next ((s.modChannel k fun c => { c with pins := { c.pins with key := level } }).keyTurned k) := by
  have hexec := State.liveInput_run hpin (fun t => t.modPins k fun p => { p with key := level })
    fun t => if (s.channel k).pins.key = level then t else t.keyTurned k
  refine Eq.trans hexec (congrArg _ ?_)
  rw [if_neg h, State.modPins_eq]

theorem exec_localOpenChange_same {s : State} {k : Fin 8} (hpin : s.pinHeld = false) :
    exec (.localOpenChange k (s.channel k).pins.localOpen) s = .next s := by
  have hexec := State.liveInput_run hpin
    (fun t => t.modPins k fun p => { p with localOpen := (s.channel k).pins.localOpen })
    fun t => if (s.channel k).pins.localOpen = (s.channel k).pins.localOpen then t else t.localOpenChanged k
  refine Eq.trans hexec (congrArg _ ?_)
  rw [if_pos rfl, State.modPins_eq, State.modChannel_same rfl]

theorem exec_localOpenChange_other {s : State} {k : Fin 8} {level : Bool} (hpin : s.pinHeld = false)
    (h : (s.channel k).pins.localOpen ≠ level) :
    exec (.localOpenChange k level) s =
      .next ((s.modChannel k fun c => { c with pins := { c.pins with localOpen := level } }).localOpenChanged k) := by
  have hexec := State.liveInput_run hpin (fun t => t.modPins k fun p => { p with localOpen := level })
    fun t => if (s.channel k).pins.localOpen = level then t else t.localOpenChanged k
  refine Eq.trans hexec (congrArg _ ?_)
  rw [if_neg h, State.modPins_eq]

theorem exec_localCloseChange_same {s : State} {k : Fin 8} (hpin : s.pinHeld = false) :
    exec (.localCloseChange k (s.channel k).pins.localClose) s = .next s := by
  have hexec := State.liveInput_run hpin
    (fun t => t.modPins k fun p => { p with localClose := (s.channel k).pins.localClose })
    fun t => if (s.channel k).pins.localClose = (s.channel k).pins.localClose then t else t.localCloseChanged k
  refine Eq.trans hexec (congrArg _ ?_)
  rw [if_pos rfl, State.modPins_eq, State.modChannel_same rfl]

theorem exec_localCloseChange_other {s : State} {k : Fin 8} {level : Bool} (hpin : s.pinHeld = false)
    (h : (s.channel k).pins.localClose ≠ level) :
    exec (.localCloseChange k level) s =
      .next ((s.modChannel k fun c => { c with pins := { c.pins with localClose := level } }).localCloseChanged k) := by
  have hexec := State.liveInput_run hpin (fun t => t.modPins k fun p => { p with localClose := level })
    fun t => if (s.channel k).pins.localClose = level then t else t.localCloseChanged k
  refine Eq.trans hexec (congrArg _ ?_)
  rw [if_neg h, State.modPins_eq]

/-! ## Modes (R130) -/

/-- A channel in a mode; MODE is noted when the mode is another. -/
theorem Channel.setMode_eq (c : Channel) (m : ChannelMode) :
    c.setMode m = { c with mode := m, changes := { c.changes with mode := c.changes.mode || decide (c.mode ≠ m) } } := by
  unfold Channel.setMode
  by_cases h : c.mode = m <;> simp [h]

theorem State.moveToLocal_idle {s : State} {k : Fin 8} (h : (s.channel k).action = none) :
    s.moveToLocal k = s.modChannel k fun c => c.setMode .local_ := by
  rw [State.moveToLocal]
  exact if_neg (by rw [State.modChannel_channel]; simp [Channel.setMode, h])

/-- A move to LOCAL that abandons an action: the channel is READY and its cabin's door is written UNKNOWN. -/
theorem State.moveToLocal_abandons {s : State} {k : Fin 8} (h : (s.channel k).action.isSome = true)
    (hst : (s.channel k).state ≠ .ready) :
    s.moveToLocal k =
      ((s.modChannel k fun c =>
        { c.setMode .local_ with
          state := .ready, action := none, driveTimer := none, reverseTimer := none
          changes := { (c.setMode .local_).changes with state := true } }).countDoors (Ctr.abandoned k)).channelWrite k
        .unknown := by
  rw [State.moveToLocal]
  refine (if_pos (by rw [State.modChannel_channel]; simpa [Channel.setMode] using h)).trans ?_
  rw [State.abandon, State.modChannel_modChannel]
  refine congrArg (fun t : State => (t.countDoors _).channelWrite k .unknown) (State.modChannel_congr ?_)
  exact Channel.endAction_of_ne hst

theorem State.keyTurned_on {s : State} {k : Fin 8} (hm : (s.channel k).mode = .remote)
    (hkey : (s.channel k).pins.key = true) : s.keyTurned k = s.moveToLocal k := by
  simp only [State.keyTurned, hm, hkey, if_true]

theorem State.keyTurned_off {s : State} {k : Fin 8} (hm : (s.channel k).mode = .local_)
    (hkey : (s.channel k).pins.key = false) :
    s.keyTurned k = s.modChannel k fun c => (c.setMode .remote).stopLocal := by
  simp only [State.keyTurned, hm, hkey, Bool.false_eq_true, if_false]

/-- The key only stores its level in REMOTE_LOCKED, off in REMOTE and on in LOCAL. -/
theorem State.keyTurned_stored {s : State} {k : Fin 8}
    (h : (s.channel k).mode = .remoteLocked ∨ ((s.channel k).mode = .remote ∧ (s.channel k).pins.key = false) ∨
      ((s.channel k).mode = .local_ ∧ (s.channel k).pins.key = true)) : s.keyTurned k = s := by
  obtain hm | ⟨hm, hkey⟩ | ⟨hm, hkey⟩ := h
  · simp only [State.keyTurned, hm]
  · simp only [State.keyTurned, hm, hkey, Bool.false_eq_true, if_false]
  · simp only [State.keyTurned, hm, hkey, if_true]

theorem State.lockout_on (s : State) (k : Fin 8) :
    s.lockout k true = s.modChannel k fun c => (c.setMode .remoteLocked).stopLocal := rfl

theorem State.lockout_off_toRemote {s : State} {k : Fin 8} (hm : (s.channel k).mode = .remoteLocked)
    (hkey : (s.channel k).pins.key = false) : s.lockout k false = s.modChannel k fun c => c.setMode .remote := by
  simp only [State.lockout, hm, hkey, Bool.false_eq_true, if_false]

theorem State.lockout_off_toLocal {s : State} {k : Fin 8} (hm : (s.channel k).mode = .remoteLocked)
    (hkey : (s.channel k).pins.key = true) : s.lockout k false = s.moveToLocal k := by
  simp only [State.lockout, hm, hkey, Bool.false_eq_true, if_false, if_true]

theorem State.lockout_off_other {s : State} {k : Fin 8} (hm : (s.channel k).mode ≠ .remoteLocked) :
    s.lockout k false = s := by
  unfold State.lockout
  cases h : (s.channel k).mode
  case remoteLocked => exact absurd h hm
  all_goals simp [h]

/-! ## Local drives (R131) -/

theorem Channel.readsLocal_iff {c : Channel} : c.readsLocal = true ↔ c.mode = .local_ ∧ c.state = .ready := by
  simp [Channel.readsLocal]

theorem State.press_unread {s : State} {k : Fin 8} (h : (s.channel k).readsLocal = false) (d : DriveDir)
    (other atEnd : Bool) : s.press k d other atEnd = s := by
  simp [State.press, h]

theorem State.press_other {s : State} {k : Fin 8} (h : (s.channel k).readsLocal = true) (d : DriveDir) (atEnd : Bool) :
    s.press k d true atEnd = s.modChannel k Channel.stopLocal := by
  simp [State.press, h]

theorem State.press_atEnd {s : State} {k : Fin 8} (h : (s.channel k).readsLocal = true) (d : DriveDir) :
    s.press k d false true = s := by
  simp [State.press, h]

theorem State.press_drives {s : State} {k : Fin 8} (h : (s.channel k).readsLocal = true) (d : DriveDir) :
    s.press k d false false = (s.modChannel k fun c => c.startLocal d).countDoors (Ctr.localDrive k) := by
  simp [State.press, h]

theorem State.letGo_unread {s : State} {k : Fin 8} (h : (s.channel k).readsLocal = false) (d : DriveDir) :
    s.letGo k d = s :=
  State.modChannel_same (if_neg (by simp [h]))

theorem State.letGo_read {s : State} {k : Fin 8} (h : (s.channel k).readsLocal = true) (d : DriveDir) :
    s.letGo k d = s.modChannel k fun c => c.stopDirection d :=
  State.modChannel_congr (if_pos h)

theorem exec_localOpenChange_press {s : State} {k : Fin 8} (hpin : s.pinHeld = false)
    (h : (s.channel k).pins.localOpen = false) :
    exec (.localOpenChange k true) s =
      .next ((s.modChannel k fun c => { c with pins := { c.pins with localOpen := true } }).press k .opening
        (s.channel k).pins.localClose (s.channel k).pins.openEnd) := by
  rw [exec_localOpenChange_other hpin (by simp [h]), State.localOpenChanged]
  simp

theorem exec_localOpenChange_letGo {s : State} {k : Fin 8} (hpin : s.pinHeld = false)
    (h : (s.channel k).pins.localOpen = true) :
    exec (.localOpenChange k false) s =
      .next ((s.modChannel k fun c => { c with pins := { c.pins with localOpen := false } }).letGo k .opening) := by
  rw [exec_localOpenChange_other hpin (by simp [h]), State.localOpenChanged]
  simp

theorem exec_localCloseChange_press {s : State} {k : Fin 8} (hpin : s.pinHeld = false)
    (h : (s.channel k).pins.localClose = false) :
    exec (.localCloseChange k true) s =
      .next ((s.modChannel k fun c => { c with pins := { c.pins with localClose := true } }).press k .closing
        (s.channel k).pins.localOpen (s.channel k).pins.locked) := by
  rw [exec_localCloseChange_other hpin (by simp [h]), State.localCloseChanged]
  simp

theorem exec_localCloseChange_letGo {s : State} {k : Fin 8} (hpin : s.pinHeld = false)
    (h : (s.channel k).pins.localClose = true) :
    exec (.localCloseChange k false) s =
      .next ((s.modChannel k fun c => { c with pins := { c.pins with localClose := false } }).letGo k .closing) := by
  rw [exec_localCloseChange_other hpin (by simp [h]), State.localCloseChanged]
  simp

/-- Settles O28: the key and the lockout by the channel's mode, then each local input by what the channel reads. -/
theorem localModeAndDrive : Obligations.LocalModeAndDrive := by
  refine ⟨?modes, ?drives⟩
  case modes =>
    intro s rq tag k hpin c keyed moded
    have hset : ∀ m c, Channel.setMode c m = moded m c := fun m c => Channel.setMode_eq c m
    have hlock : s.isConsole rq = true → ∀ n on, exec (.channelLockout rq tag n on) s =
        .next (State.settleRequest rq .channelLockout tag (s.doChannelLockout n on)) := fun hcon n on =>
      State.live_request_console hpin hcon .channelLockout tag fun s => s.doChannelLockout n on
    have hval : ∀ on, s.doChannelLockout k.val on = (s.lockout k on).done := fun on => by
      rw [State.doChannelLockout, index?_val]
    refine ⟨exec_localKeyChange_same hpin, fun hkey hm ha => ?_, fun hkey hm ha hst => ?_, fun hkey hm => ?_,
      fun b hkey hm => ?_, fun hkey hm => ?_, fun hkey hm => ?_, fun n on hcon hn => ?_,
      fun hcon => ⟨?_, fun hm hkey => ?_, fun hm hkey ha => ?_, fun hm hkey ha hst => ?_, fun hm => ?_⟩⟩
    · rw [exec_localKeyChange_other hpin (by simp [show (s.channel k).pins.key = _ from hkey]),
        State.keyTurned_on (by simpa using hm) (by simp), State.moveToLocal_idle (by simpa using ha),
        State.modChannel_modChannel]
      simp only [hset]; rfl
    · rw [exec_localKeyChange_other hpin (by simp [show (s.channel k).pins.key = _ from hkey]),
        State.keyTurned_on (by simpa using hm) (by simp), State.moveToLocal_abandons (by simpa using ha) (by simpa using hst),
        State.modChannel_modChannel]
      simp only [hset]; rfl
    · rw [exec_localKeyChange_other hpin (by simp [show (s.channel k).pins.key = _ from hkey]),
        State.keyTurned_off (by simpa using hm) (by simp), State.modChannel_modChannel]
      simp only [hset]; rfl
    · rw [exec_localKeyChange_other hpin hkey, State.keyTurned_stored (.inl (by simpa using hm))]
    · rw [exec_localKeyChange_other hpin (by simp [show (s.channel k).pins.key = _ from hkey]),
        State.keyTurned_stored (.inr (.inl ⟨by simpa using hm, by simp⟩))]
    · rw [exec_localKeyChange_other hpin (by simp [show (s.channel k).pins.key = _ from hkey]),
        State.keyTurned_stored (.inr (.inr ⟨by simpa using hm, by simp⟩))]
    · rw [hlock hcon, State.doChannelLockout, index?_none hn]; rfl
    · rw [hlock hcon, hval, State.lockout_on]
      simp only [hset]; rfl
    · rw [hlock hcon, hval, State.lockout_off_toRemote hm hkey]
      simp only [hset]; rfl
    · rw [hlock hcon, hval, State.lockout_off_toLocal hm hkey, State.moveToLocal_idle ha]
      simp only [hset]; rfl
    · rw [hlock hcon, hval, State.lockout_off_toLocal hm hkey, State.moveToLocal_abandons ha hst]
      simp only [hset]; rfl
    · rw [hlock hcon, hval, State.lockout_off_other hm]; rfl
  case drives =>
    intro s k hpin c reads openPin closePin stopped driven
    have hexpiry : exec (.localDriveTimerExpiry k) s = .next (s.localExpiry k) := State.live_run hpin fun s => s.localExpiry k
    have hunread : ¬ reads → (s.channel k).readsLocal = false := fun h =>
      Bool.eq_false_iff.mpr fun hr => h (Channel.readsLocal_iff.mp hr)
    have hread : reads → (s.channel k).readsLocal = true := Channel.readsLocal_iff.mpr
    refine ⟨exec_localOpenChange_same hpin, exec_localCloseChange_same hpin, fun hr hp => ?_, fun hr hp => ?_,
      fun hr hp => ?_, fun hr hp => ?_,
      fun hr => ⟨fun hp => ⟨fun ho he => ?_, fun ho he => ?_, fun ho => ?_⟩,
        fun hp => ⟨fun ho he => ?_, fun ho he => ?_, fun ho => ?_⟩, fun hp => ?_, fun hp => ?_⟩,
      fun n ht => ?_, fun ht => ?_⟩
    · rw [exec_localOpenChange_press hpin hp, State.press_unread (by rw [State.modChannel_channel]; exact hunread hr)]
    · rw [exec_localCloseChange_press hpin hp, State.press_unread (by rw [State.modChannel_channel]; exact hunread hr)]
    · rw [exec_localOpenChange_letGo hpin hp, State.letGo_unread (by rw [State.modChannel_channel]; exact hunread hr)]
    · rw [exec_localCloseChange_letGo hpin hp, State.letGo_unread (by rw [State.modChannel_channel]; exact hunread hr)]
    · rw [exec_localOpenChange_press hpin hp, ho, he,
        State.press_drives (by rw [State.modChannel_channel]; exact hread hr), State.modChannel_modChannel]
      rfl
    · rw [exec_localOpenChange_press hpin hp, ho, he,
        State.press_atEnd (by rw [State.modChannel_channel]; exact hread hr)]
    · rw [exec_localOpenChange_press hpin hp, ho,
        State.press_other (by rw [State.modChannel_channel]; exact hread hr), State.modChannel_modChannel]
      rfl
    · rw [exec_localCloseChange_press hpin hp, ho, he,
        State.press_drives (by rw [State.modChannel_channel]; exact hread hr), State.modChannel_modChannel]
      rfl
    · rw [exec_localCloseChange_press hpin hp, ho, he,
        State.press_atEnd (by rw [State.modChannel_channel]; exact hread hr)]
    · rw [exec_localCloseChange_press hpin hp, ho,
        State.press_other (by rw [State.modChannel_channel]; exact hread hr), State.modChannel_modChannel]
      rfl
    · rw [exec_localOpenChange_letGo hpin hp, State.letGo_read (by rw [State.modChannel_channel]; exact hread hr),
        State.modChannel_modChannel]
      rfl
    · rw [exec_localCloseChange_letGo hpin hp, State.letGo_read (by rw [State.modChannel_channel]; exact hread hr),
        State.modChannel_modChannel]
      rfl
    · rw [hexpiry, State.localExpiry]
      exact congrArg _ (State.modChannel_congr (if_pos (by simp [show (s.channel k).localTimer = _ from ht])))
    · rw [hexpiry, State.localExpiry, State.modChannel_same]
      exact if_neg (by simp [show (s.channel k).localTimer = _ from ht])

end Sys2Proof.Machine


/-! Power to the door channels (R117 to R120), overcurrent (R121, R122) and CHANNEL-READ (R134). -/

namespace Sys2Proof.Machine

/-! ## A power-off, as one change of the channel -/

/-- R120's steps 1 to 3: an action in flight is counted as abandoned and the served cabin's door is written UNKNOWN. -/
def State.abandonForPower (s : State) (k : Fin 8) : State :=
  (if (s.channel k).action.isSome then s.countDoors (Ctr.abandoned k) else s).channelWrite k .unknown

theorem State.powerDown_eq (s : State) (k : Fin 8) :
    s.powerDown k = (s.abandonForPower k).modChannel k Channel.down := rfl

@[simp] theorem State.abandonForPower_channel (s : State) (k : Fin 8) :
    (s.abandonForPower k).channel k = (s.channel k).wrote .unknown := by
  rw [State.abandonForPower, State.channelWrite_channel_wrote]
  split <;> rfl

@[simp] theorem Channel.wrote_state (c : Channel) (d : DoorState) : (c.wrote d).state = c.state := rfl

/-- A channel without power: every timer stopped, no action, no served cabin, POWER and STATE noted. -/
def Channel.unpowered (c : Channel) : Channel :=
  { c with
    state := .unpowered, action := none, served := none, driveTimer := none, reverseTimer := none
    powerTimer := none, localDrive := none, localTimer := none
    changes := { c.changes with power := true, state := true } }

theorem Channel.down_enter_unpowered {c : Channel} (h : c.state.powered = true) :
    c.down.enter .unpowered = c.unpowered := by
  have hne : c.state ≠ .unpowered := by intro e; rw [e] at h; cases h
  simp [Channel.down, Channel.enter, Channel.unpowered, Channel.stopDrives, Channel.stopLocal, Channel.notePower, hne]

theorem State.cutPower_powered {s : State} {k : Fin 8} (h : (s.channel k).state.powered = true) :
    s.cutPower k = (s.abandonForPower k).modChannel k Channel.unpowered := by
  rw [State.cutPower, if_pos h, State.powerDown_eq, State.modChannel_modChannel]
  exact State.modChannel_congr (Channel.down_enter_unpowered (by simpa using h))

theorem State.cutPower_unpowered {s : State} {k : Fin 8} (h : (s.channel k).state.powered = false) :
    s.cutPower k = s :=
  if_neg (by simp [h])

/-! ## A power-on -/

/-- A channel switched on: POWERING with its timer, or at once the state it gets to at a power-good time of 0. -/
def Channel.started (full : ChannelState) (time : Nat) (c : Channel) : Channel :=
  { c with
    state := if time = 0 then full else .powering
    powerTimer := if time = 0 then none else some (time * 2)
    changes :=
      { c.changes with
        power := true
        state := c.changes.state || decide (time = 0) || decide (c.state ≠ ChannelState.powering) } }

theorem Channel.powerOn_eq (c : Channel) (emergency : Bool) (time : Nat) :
    c.powerOn emergency time = c.started (if emergency then .halted else .ready) time := by
  have hfull : (if emergency then ChannelState.halted else .ready) ≠ .powering := by cases emergency <;> decide
  by_cases ht : time = 0 <;> by_cases hst : c.state = .powering <;>
    simp [Channel.powerOn, Channel.started, Channel.powerGood, Channel.enter, Channel.notePower, ht, hst, hfull.symm]

theorem State.inEmergency_ite (s : State) :
    (if s.inEmergency then ChannelState.halted else .ready) =
      if s.chain.asserted = .emergency then .halted else .ready := by
  simp [State.inEmergency]

theorem State.channelOn_eq (s : State) (k : Fin 8) :
    s.channelOn k = s.modChannel k fun c =>
      { c.started (if s.chain.asserted = .emergency then .halted else .ready) c.entry.powerGood with ownOn := true } := by
  simp only [State.channelOn, Channel.powerOn_eq, State.inEmergency_ite]
  rfl

/-! ## CHANNEL-POWER (R118) and the power-good timer (R119) -/

theorem State.doChannelPower_val {s : State} {k : Fin 8} (h : (s.channel k).entry.switching = .individual) (on : Bool) :
    s.doChannelPower k.val on = s.powerChannel k on := by
  simp only [State.doChannelPower, index?_val, h]

theorem State.doChannelPower_group {s : State} {k : Fin 8} (h : (s.channel k).entry.switching ≠ .individual) (on : Bool) :
    s.doChannelPower k.val on = s.refuse .badRequest := by
  simp only [State.doChannelPower, index?_val]
  cases hsw : (s.channel k).entry.switching
  case individual => exact absurd hsw h
  all_goals rfl

theorem State.doChannelPower_beyond {s : State} {n : Nat} (h : 8 ≤ n) (on : Bool) :
    s.doChannelPower n on = s.refuse .badValue := by
  rw [State.doChannelPower, index?_none h]

theorem State.powerChannel_on_unpowered {s : State} {k : Fin 8} (h : (s.channel k).state = .unpowered) :
    s.powerChannel k true = (s.channelOn k).done := by
  simp [State.powerChannel, h]

theorem State.powerChannel_on_fault {s : State} {k : Fin 8} (h : (s.channel k).state = .fault) :
    s.powerChannel k true = s.refuse .badRequest := by
  simp [State.powerChannel, h]

theorem State.powerChannel_on_powered {s : State} {k : Fin 8} (h : (s.channel k).state.powered = true) :
    s.powerChannel k true = s.done := by
  have hfault : (s.channel k).state ≠ .fault := ChannelState.ne_fault_of_powered h
  have hoff : (s.channel k).state ≠ .unpowered := by intro e; rw [e] at h; cases h
  simp [State.powerChannel, hfault, hoff]

theorem State.powerChannel_off (s : State) (k : Fin 8) : s.powerChannel k false = (s.channelOff k).done := rfl

/-! ## Folds over the channels -/

/-- Folds of two operations agree when the operations agree on a channel that is still as it was, and each leaves the other
channels. -/
theorem State.foldl_congr_channel {op op' : State → Fin 8 → State} {s : State}
    (hop : ∀ u j, u.channel j = s.channel j → op u j = op' u j)
    (hother : ∀ u j i, i ≠ j → (op u j).channel i = u.channel i) :
    ∀ l : List (Fin 8), l.Nodup → ∀ u : State, (∀ j ∈ l, u.channel j = s.channel j) → l.foldl op u = l.foldl op' u := by
  intro l
  induction l with
  | nil => intro _ u _; rfl
  | cons j l ih =>
    intro hnodup u hu
    obtain ⟨hj, hl⟩ := List.nodup_cons.mp hnodup
    rw [List.foldl_cons, List.foldl_cons, ← hop u j (hu j (by simp))]
    refine ih hl _ fun i hi => ?_
    rw [hother u j i fun e => hj (e ▸ hi), hu i (List.mem_cons_of_mem j hi)]

theorem State.abandonForPower_channel_ne (s : State) {k j : Fin 8} (h : j ≠ k) :
    (s.abandonForPower k).channel j = s.channel j := by
  rw [State.abandonForPower, State.channelWrite_channel_ne _ _ h]
  split <;> rfl

/-! ## GROUP-POWER (R117, R120) -/

/-- A group off: its powered members enter UNPOWERED in rising order. -/
theorem State.groupOff_eq (s : State) (g : Fin 2) :
    s.groupOff g =
      (allChannels.filter fun j =>
        decide ((s.channel j).entry.switching = .group g) && (s.channel j).state.powered).foldl
        (fun u j =>
          ((if (s.channel j).action.isSome then u.countDoors (Ctr.abandoned j) else u).channelWrite j .unknown).modChannel j
            Channel.unpowered)
        { s with doors := { s.doors with groupOn := s.doors.groupOn.set g false } } := by
  rw [State.groupOff, State.members, List.foldl_filter, List.foldl_filter]
  refine State.foldl_congr_channel (s := s) (fun u j hu => ?_) (fun u j i hi => ?_) _ allChannels_nodup _ fun j _ => rfl
  · by_cases hsw : (s.channel j).entry.switching = .group g
    · cases hp : (s.channel j).state.powered
      · simp [Channel.inGroup, hsw, State.cutPower_unpowered (s := u) (k := j) (by rw [hu, hp])]
      · simp [Channel.inGroup, hsw, State.cutPower_powered (s := u) (k := j) (by rw [hu, hp]), State.abandonForPower, hu]
    · simp [Channel.inGroup, hsw]
  · split
    · exact State.cutPower_channel_ne u hi
    · rfl

theorem State.doGroupPower_val (s : State) (g : Fin 2) (on : Bool) :
    s.doGroupPower g.val on =
      if on then
        if (s.members g).any fun k => decide ((s.channel k).state = .fault) then s.refuse .badRequest
        else if s.doors.groupOn[g] then s.done
        else (s.groupOn g).done
      else (s.groupOff g).done := by
  rw [State.doGroupPower, index?_val]

theorem State.anyFault_iff {s : State} {g : Fin 2} :
    ((s.members g).any fun k => decide ((s.channel k).state = .fault)) = true ↔
      ∃ j : Fin 8, (s.channel j).entry.switching = .group g ∧ (s.channel j).state = .fault := by
  simp [State.mem_members]

theorem State.doGroupPower_fault {s : State} {g : Fin 2}
    (h : ∃ j : Fin 8, (s.channel j).entry.switching = .group g ∧ (s.channel j).state = .fault) :
    s.doGroupPower g.val true = s.refuse .badRequest := by
  rw [State.doGroupPower_val, if_pos rfl, if_pos (State.anyFault_iff.mpr h)]

theorem State.doGroupPower_already {s : State} {g : Fin 2}
    (h : ∀ j : Fin 8, (s.channel j).entry.switching = .group g → (s.channel j).state ≠ .fault)
    (hon : s.doors.groupOn[g] = true) : s.doGroupPower g.val true = s.done := by
  rw [State.doGroupPower_val, if_pos rfl, if_neg, if_pos hon]
  rw [State.anyFault_iff]
  rintro ⟨j, hsw, hst⟩
  exact h j hsw hst

theorem State.doGroupPower_on {s : State} {g : Fin 2}
    (h : ∀ j : Fin 8, (s.channel j).entry.switching = .group g → (s.channel j).state ≠ .fault)
    (hoff : s.doors.groupOn[g] = false) : s.doGroupPower g.val true = (s.groupOn g).done := by
  rw [State.doGroupPower_val, if_pos rfl, if_neg, if_neg (by simp [hoff])]
  rw [State.anyFault_iff]
  rintro ⟨j, hsw, hst⟩
  exact h j hsw hst

theorem State.groupOn_channel_eq (s : State) (g : Fin 2) (j : Fin 8) :
    (s.groupOn g).channel j =
      if (s.channel j).entry.switching = .group g then
        { (s.channel j).started (if s.chain.asserted = .emergency then .halted else .ready) s.doors.groupTimes[g] with
          groupOff := false }
      else s.channel j := by
  have h : (s.groupOn g).channel j = if (s.channel j).inGroup g then
      { s.channel j with groupOff := false }.powerOn s.inEmergency s.doors.groupTimes[g] else s.channel j :=
    vecMap_get _ _ _
  rw [h, Channel.powerOn_eq, State.inEmergency_ite]
  simp only [Channel.inGroup, decide_eq_true_eq]
  rfl

/-- Settles O26: CHANNEL-POWER by the switching and the state, the power-good timer, and GROUP-POWER on and off. -/
theorem channelAndGroupPower : Obligations.ChannelAndGroupPower := by
  intro s rq tag k g hpin hcon c full started off channelPower groupPower
  have hch : ∀ n on, exec (.channelPower rq tag n on) s =
      .next (State.settleRequest rq .channelPower tag (s.doChannelPower n on)) := fun n on =>
    State.live_request_console hpin hcon .channelPower tag fun s => s.doChannelPower n on
  have hgr : ∀ n on, exec (.groupPower rq tag n on) s =
      .next (State.settleRequest rq .groupPower tag (s.doGroupPower n on)) := fun n on =>
    State.live_request_console hpin hcon .groupPower tag fun s => s.doGroupPower n on
  have hgood : exec (.powerGoodExpiry k) s = .next (s.powerGoodExpiry k) := State.live_run hpin fun s => s.powerGoodExpiry k
  refine ⟨fun hsw => ⟨fun hst => ?_, fun hst => ?_, fun hst => ?_, fun hst => ?_, fun hst => ?_⟩, fun hsw on => ?_,
    fun n ht hst => ?_, fun ht => ?_, fun hfault => ?_, fun hnone => ⟨fun hon => ?_, fun hoff => ?_⟩, fun n on hn => ?_,
    fun n on hn => ?_, ?_⟩
  · show exec _ s = _
    rw [hch, State.doChannelPower_val hsw, State.powerChannel_on_unpowered hst, State.channelOn_eq]; rfl
  · show exec _ s = _
    rw [hch, State.doChannelPower_val hsw, State.powerChannel_on_fault hst]; rfl
  · show exec _ s = _
    rw [hch, State.doChannelPower_val hsw, State.powerChannel_on_powered hst]; rfl
  · show exec _ s = _
    rw [hch, State.doChannelPower_val hsw, State.powerChannel_off, State.channelOff, State.cutPower_powered (by simpa using hst),
      State.abandonForPower, State.modChannel_channel]
    rfl
  · show exec _ s = _
    rw [hch, State.doChannelPower_val hsw, State.powerChannel_off, State.channelOff,
      State.cutPower_unpowered (by simpa using hst)]
    rfl
  · show exec _ s = _
    rw [hch, State.doChannelPower_group hsw]; rfl
  · rw [hgood]
    refine congrArg _ (State.modChannel_congr ?_)
    rw [if_pos ⟨by simp [show (s.channel k).powerTimer = _ from ht], hst⟩, State.inEmergency]
    by_cases he : s.chain.asserted = .emergency <;>
      simp [Channel.powerGood, Channel.enter, show (s.channel k).state = _ from hst, full, he]
  · rw [hgood]
    exact congrArg _ (State.modChannel_same (if_neg (by simp [show (s.channel k).powerTimer = _ from ht])))
  · show exec _ s = _
    rw [hgr, State.doGroupPower_fault hfault]; rfl
  · show exec _ s = _
    rw [hgr, State.doGroupPower_already hnone hon]; rfl
  · refine ⟨s.groupOn g, ?_, ⟨fun b hb => ?_, rfl, rfl⟩, rfl, rfl, rfl, fun j => s.groupOn_channel_eq g j⟩
    · show exec _ s = _
      rw [hgr, State.doGroupPower_on hnone hoff]; rfl
    · cases b
      case doorChannels => exact absurd (by simp) hb
      all_goals rfl
  · rw [hch, State.doChannelPower_beyond hn]; rfl
  · rw [hgr, State.doGroupPower, index?_none hn]; rfl
  · show exec _ s = _
    rw [hgr, State.doGroupPower_val, if_neg (by decide), State.groupOff_eq]; rfl

end Sys2Proof.Machine


/-! Overcurrent, CHANNEL-RESET and CHANNEL-READ (R121, R122, R134). -/

namespace Sys2Proof.Machine

/-! ## The command of the overcurrent input -/

theorem exec_overcurrent_run {s : State} (hpin : s.pinHeld = false) (k : Fin 8) (level : Bool) :
    exec (.overcurrent k level) s =
      .next (if level && !(s.channel k).pins.overcurrent then
          (s.modChannel k fun c => { c with pins := { c.pins with overcurrent := level } }).overcurrentRise k
        else s.modChannel k fun c => { c with pins := { c.pins with overcurrent := level } }) :=
  State.liveInput_run hpin (fun s => s.modPins k fun p => { p with overcurrent := level })
    fun t => if level && !(s.channel k).pins.overcurrent then t.overcurrentRise k else t

/-! ## One channel in FAULT -/

/-- A channel in FAULT with the kind OVERCURRENT: without power, POWER, OVERCURRENT and STATE noted. -/
def Channel.faulted (c : Channel) : Channel :=
  { c.unpowered with
    state := .fault, fault := some .overcurrent, changes := { c.unpowered.changes with overcurrent := true } }

theorem Channel.down_enter_fault {c : Channel} (h : c.state.powered = true) :
    ({ c.down.noteOvercurrent.enter .fault with fault := some .overcurrent } : Channel) = c.faulted := by
  have hne : c.state ≠ .fault := ChannelState.ne_fault_of_powered h
  simp [Channel.down, Channel.enter, Channel.faulted, Channel.unpowered, Channel.stopDrives, Channel.stopLocal,
    Channel.notePower, Channel.noteOvercurrent, hne]

theorem State.enterFault_eq {s : State} {k : Fin 8} (h : (s.channel k).state.powered = true) :
    s.enterFault k = (s.abandonForPower k).modChannel k Channel.faulted := by
  rw [State.enterFault, State.powerDown_eq, State.modChannel_modChannel]
  exact State.modChannel_congr (Channel.down_enter_fault (by simpa using h))

/-- Another member of the sensing channel's group loses its power and takes the group-off flag. -/
theorem State.dropMember_powered {s : State} {k : Fin 8} (h : (s.channel k).state.powered = true) :
    s.dropMember k = (s.abandonForPower k).modChannel k fun c => { c.unpowered with groupOff := true } := by
  rw [State.dropMember, if_neg (ChannelState.ne_fault_of_powered h), State.cutPower_powered h, State.modChannel_modChannel]

theorem State.dropMember_unpowered {s : State} {k : Fin 8} (h : (s.channel k).state.powered = false)
    (hfault : (s.channel k).state ≠ .fault) :
    s.dropMember k = s.modChannel k fun c => { c with groupOff := true } := by
  rw [State.dropMember, if_neg hfault, State.cutPower_unpowered h]

/-- The other members of a group that is switched off by an overcurrent, in rising order. -/
theorem State.dropMembers_eq (s t : State) (k : Fin 8) (g : Fin 2) (hentry : ∀ j, (t.channel j).entry = (s.channel j).entry)
    (hsame : ∀ j, j ≠ k → t.channel j = s.channel j) :
    ((t.members g).filter (· != k)).foldl State.dropMember
        (t.modDoors fun u => { u with groupOn := u.groupOn.set g false }) =
      (allChannels.filter fun j =>
        decide (j ≠ k) && decide ((s.channel j).entry.switching = .group g) && decide ((s.channel j).state ≠ .fault)).foldl
        (fun u j =>
          if (s.channel j).state.powered then
            ((if (s.channel j).action.isSome then u.countDoors (Ctr.abandoned j) else u).channelWrite j
              .unknown).modChannel j fun c => { c.unpowered with groupOff := true }
          else u.modChannel j fun c => { c with groupOff := true })
        { t with doors := { t.doors with groupOn := t.doors.groupOn.set g false } } := by
  rw [State.members, List.foldl_filter, List.foldl_filter, List.foldl_filter]
  refine State.foldl_congr_channel (s := t) (fun u j hu => ?_) (fun u j i hi => ?_) _ allChannels_nodup _ fun j _ => rfl
  · by_cases hk : j = k
    · subst hk; simp
    · rw [hsame j hk] at hu
      by_cases hsw : (s.channel j).entry.switching = .group g
      · by_cases hfault : (s.channel j).state = .fault
        · simp [Channel.inGroup, hentry, hsw, hk, hfault, State.dropMember, hu]
        · cases hp : (s.channel j).state.powered
          · simp [Channel.inGroup, hentry, hsw, hk, hfault,
              State.dropMember_unpowered (s := u) (k := j) (by rw [hu, hp]) (by rwa [hu])]
          · simp [Channel.inGroup, hentry, hsw, hk, hfault, State.dropMember_powered (s := u) (k := j) (by rw [hu, hp]),
              State.abandonForPower, hu]
      · simp [Channel.inGroup, hentry, hsw]
  · split
    · split
      · exact State.dropMember_channel_ne u hi
      · rfl
    · rfl

theorem State.dropSupply_individual {s : State} {k : Fin 8} (h : (s.channel k).entry.switching = .individual) :
    s.dropSupply k = s.modChannel k fun c => { c with ownOn := false } := by
  simp only [State.dropSupply, h]

theorem State.dropSupply_group {s : State} {k : Fin 8} {g : Fin 2} (h : (s.channel k).entry.switching = .group g) :
    s.dropSupply k =
      ((s.members g).filter (· != k)).foldl State.dropMember
        (s.modDoors fun u => { u with groupOn := u.groupOn.set g false }) := by
  simp only [State.dropSupply, h]

theorem State.overcurrentRise_powered {s : State} {k : Fin 8} (h : (s.channel k).state.powered = true) :
    s.overcurrentRise k =
      ((((s.countDoors (Ctr.overcurrent k)).enterFault k).dropSupply k).raiseHeld .channelFault
        { channel := some k.val }).notice (.channelFault k) :=
  if_pos h

theorem State.overcurrentRise_unpowered {s : State} {k : Fin 8} (h : (s.channel k).state.powered = false) :
    s.overcurrentRise k = s.countDoors (Ctr.ignoredOvercurrent k) :=
  if_neg (by simp [h])

/-! ## CHANNEL-RESET (R122) -/

theorem State.faultShares_isEmpty {s : State} : s.faultShares.isEmpty = true ↔ ∀ j, (s.channel j).state ≠ .fault := by
  simp [State.faultShares, mem_allChannels]

/-- A channel taken out of FAULT. -/
theorem Channel.enter_unpowered_of_fault {c : Channel} (h : c.state = .fault) :
    ({ c.enter .unpowered with fault := none } : Channel) =
      { c with state := .unpowered, fault := none, changes := { c.changes with state := true } } := by
  simp [Channel.enter, h]

theorem State.resetFault_eq {s : State} {k : Fin 8} (h : (s.channel k).state = .fault) :
    s.resetFault k =
      let v := s.modChannel k fun c =>
        { c with state := .unpowered, fault := none, changes := { c.changes with state := true } }
      if v.faultShares.isEmpty then v.withdraw .channelFault else v := by
  have hv : (s.modChannel k fun c => { c.enter .unpowered with fault := none }) = s.modChannel k fun c =>
      { c with state := .unpowered, fault := none, changes := { c.changes with state := true } } :=
    State.modChannel_congr (Channel.enter_unpowered_of_fault h)
  unfold State.resetFault
  rw [hv]

theorem State.doChannelReset_fault {s : State} {k : Fin 8} (h : (s.channel k).state = .fault) :
    s.doChannelReset k.val = (s.resetFault k, .done, .wasFault true) := by
  simp only [State.doChannelReset, index?_val, h, if_true]

theorem State.doChannelReset_other {s : State} {k : Fin 8} (h : (s.channel k).state ≠ .fault) :
    s.doChannelReset k.val = (s, .done, .wasFault false) := by
  simp only [State.doChannelReset, index?_val, h, if_false]

/-- Settles O27: the overcurrent input's level, the power and the switching of its channel, then the two requests. -/
theorem overcurrentResetAndRead : Obligations.OvercurrentResetAndRead := by
  intro s rq tag k hpin c down faulted cut told
  have hfault : c.state.powered = true →
      ((s.modChannel k fun c => { c with pins := { c.pins with overcurrent := true } }).countDoors
        (Ctr.overcurrent k)).enterFault k = faulted := by
    intro hp
    rw [State.enterFault_eq (by simpa using hp), State.abandonForPower]
    simp only [State.countDoors_channel, State.modChannel_channel]
    rfl
  have hother : c.state.powered = true → ∀ j, j ≠ k → faulted.channel j = s.channel j := by
    intro hp j hj
    rw [← hfault hp, State.enterFault_channel_ne _ hj, State.countDoors_channel, State.modChannel_channel_ne _ _ hj]
  have hself : c.state.powered = true → (faulted.channel k).entry = c.entry := by
    intro hp
    rw [← hfault hp, State.enterFault_channel, State.countDoors_channel, State.modChannel_channel]
    rfl
  have hentry : c.state.powered = true → ∀ j, (faulted.channel j).entry = (s.channel j).entry := by
    intro hp j
    by_cases hj : j = k
    · rw [hj, hself hp]
    · rw [hother hp j hj]
  have hrise : c.pins.overcurrent = false → c.state.powered = true →
      exec (.overcurrent k true) s = .next (told (faulted.dropSupply k)) := by
    intro hpins hp
    rw [exec_overcurrent_run hpin, if_pos (by simp [show (s.channel k).pins.overcurrent = _ from hpins]),
      State.overcurrentRise_powered (by simpa using hp), hfault hp]
  refine ⟨fun hpins hp => ⟨fun hsw => ?_, fun g hsw => ?_⟩, fun hpins hp => ?_, fun hpins => ?_, ?_, fun hcon => ?_⟩
  · rw [hrise hpins hp, State.dropSupply_individual (by rw [hself hp]; exact hsw)]
  · intro others
    rw [hrise hpins hp, State.dropSupply_group (by rw [hself hp]; exact hsw),
      State.dropMembers_eq s faulted k g (hentry hp) (hother hp)]
    rfl
  · rw [exec_overcurrent_run hpin, if_pos (by simp [show (s.channel k).pins.overcurrent = _ from hpins]),
      State.overcurrentRise_unpowered (by simpa using hp)]
  · rw [exec_overcurrent_run hpin, if_neg (by simp [show (s.channel k).pins.overcurrent = _ from hpins]), State.modChannel_same]
    rw [← hpins]
  · rw [exec_overcurrent_run hpin, if_neg (by simp)]
  · have hreset : ∀ n, exec (.channelReset rq tag n) s =
        .next (State.settleRequest rq .channelReset tag (s.doChannelReset n)) := fun n =>
      State.live_request_console hpin hcon .channelReset tag fun s => s.doChannelReset n
    have hread : ∀ n, exec (.channelRead rq tag n) s =
        .next (State.settleRequest rq .channelRead tag (s.doChannelRead n)) := fun n =>
      State.live_request_console hpin hcon .channelRead tag fun s => s.doChannelRead n
    refine ⟨fun hst => ?_, fun hst => ?_, fun n hn => ⟨?_, ?_⟩, ?_⟩
    · intro v
      have hv : ∀ j, j ≠ k → v.channel j = s.channel j := fun j hj => State.modChannel_channel_ne s _ hj
      rw [hreset, State.doChannelReset_fault hst, State.resetFault_eq hst]
      refine ⟨fun ⟨j, hj, hother⟩ => ?_, fun hlast => ?_⟩
      · rw [if_neg]
        rw [State.faultShares_isEmpty]
        exact fun h => h j (by rw [hv j hj, hother])
      · rw [if_pos]
        rw [State.faultShares_isEmpty]
        intro j
        by_cases hj : j = k
        · subst hj; simp
        · rw [hv j hj]; exact hlast j hj
    · rw [hreset, State.doChannelReset_other hst]
    · rw [hreset, State.doChannelReset, index?_none hn]; rfl
    · rw [hread, State.doChannelRead, index?_none hn]; rfl
    · rw [hread, State.doChannelRead, index?_val]; rfl

end Sys2Proof.Machine


/-! Detector filters (R99, R100), bay edges and the lock check (R106 to R108), the offer to a channel and its clear edge (R123
to R128). -/

namespace Sys2Proof.Machine

/-! ## Searches -/

/-- In a rising list the search finds the least element that fits. -/
theorem find?_least {n : Nat} {p : Fin n → Bool} : ∀ {l : List (Fin n)}, l.Pairwise (· < ·) → ∀ {a : Fin n}, a ∈ l →
    p a = true → (∀ b ∈ l, b < a → p b = false) → l.find? p = some a
  | [], _, _, ha, _, _ => by simp at ha
  | x :: xs, hl, a, ha, hp, hless => by
    obtain ⟨hx, hxs⟩ := List.pairwise_cons.mp hl
    obtain rfl | hmem := List.mem_cons.mp ha
    · rw [List.find?_cons_of_pos hp]
    · rw [List.find?_cons_of_neg (by simp [hless x (by simp) (hx a hmem)])]
      exact find?_least hxs hmem hp fun b hb => hless b (List.mem_cons_of_mem x hb)

/-- The place of the first element that fits, in a list cut at it. -/
theorem findIdx?_split {α : Type} {p : α → Bool} {old new : List α} {r : α} (hold : ∀ x ∈ old, p x = false)
    (hr : p r = true) : (old ++ r :: new).findIdx? p = some old.length := by
  induction old with
  | nil => simp [List.findIdx?_cons, hr]
  | cons x xs ih =>
    have ih' := ih fun y hy => hold y (List.mem_cons_of_mem x hy)
    simp [List.findIdx?_cons, hold x (by simp), ih']

theorem modify_split {α : Type} (old new : List α) (r : α) (f : α → α) :
    (old ++ r :: new).modify old.length f = old ++ f r :: new := by
  induction old with
  | nil => rfl
  | cons x xs ih => simp [ih]

/-- A list is its part before an element, the element, and its part after it. -/
theorem take_getElem_drop {α : Type} {l : List α} {i : Nat} {r : α} (h : l[i]? = some r) :
    l = l.take i ++ r :: l.drop (i + 1) := by
  obtain ⟨hi, rfl⟩ := List.getElem?_eq_some_iff.mp h
  rw [List.getElem_cons_drop, List.take_append_drop]

/-! ## Detector filters (R99) -/

theorem exec_detectorLevelChange_run {s : State} (hpin : s.pinHeld = false) (d : Detector) (high : Bool) :
    exec (.detectorLevelChange d high) s =
      .next (if (s.rail.detectors[detectorIndex d]).level = high then
          s.modDetector (detectorIndex d) fun u => { u with level := high }
        else (s.modDetector (detectorIndex d) fun u => { u with level := high }).levelChanged d) :=
  State.liveInput_run hpin (fun s => s.modDetector (detectorIndex d) fun u => { u with level := high })
    fun t => if (s.rail.detectors[detectorIndex d]).level = high then t else t.levelChanged d

theorem State.modDetector_same {s : State} {i : Fin 9} {f : DetectorUnit → DetectorUnit}
    (h : f s.rail.detectors[i] = s.rail.detectors[i]) : s.modDetector i f = s := by
  have hdetectors : upd s.rail.detectors i f = s.rail.detectors := upd_same h
  simp only [State.modDetector, State.modRail, hdetectors]

theorem State.modDetector_detector (s : State) (i : Fin 9) (f : DetectorUnit → DetectorUnit) :
    (s.modDetector i f).rail.detectors[i] = f s.rail.detectors[i] := upd_self _ _ _

theorem State.levelChanged_unfitted {s : State} {d : Detector}
    (h : (s.rail.detectors[detectorIndex d]).entry.fitted = false) : s.levelChanged d = s :=
  if_pos h

theorem State.levelChanged_back {s : State} {d : Detector}
    (h : (s.rail.detectors[detectorIndex d]).entry.fitted = true)
    (hback : levelPresent (s.rail.detectors[detectorIndex d]).entry.polarity (s.rail.detectors[detectorIndex d]).level =
      (s.rail.detectors[detectorIndex d]).present) :
    s.levelChanged d = s.modDetector (detectorIndex d) fun u => { u with timer := none } := by
  rw [State.levelChanged]
  exact (if_neg (by rw [h]; decide)).trans (if_pos hback)

theorem State.levelChanged_other {s : State} {d : Detector}
    (h : (s.rail.detectors[detectorIndex d]).entry.fitted = true)
    (hother : levelPresent (s.rail.detectors[detectorIndex d]).entry.polarity (s.rail.detectors[detectorIndex d]).level ≠
      (s.rail.detectors[detectorIndex d]).present) :
    s.levelChanged d =
      if (s.rail.detectors[detectorIndex d]).entry.debounce = 0 then s.makeEdge d
      else s.modDetector (detectorIndex d) fun u => { u with timer := some u.entry.debounce } := by
  rw [State.levelChanged]
  exact (if_neg (by rw [h]; decide)).trans (if_neg hother)

theorem State.debounceExpiry_stopped {s : State} {d : Detector} (h : (s.rail.detectors[detectorIndex d]).timer = none) :
    s.debounceExpiry d = s :=
  if_neg (by rw [h]; decide)

theorem State.debounceExpiry_running {s : State} {d : Detector} {n : Nat}
    (h : (s.rail.detectors[detectorIndex d]).timer = some n) : s.debounceExpiry d = s.makeEdge d :=
  if_pos (by rw [h]; rfl)

/-- Settles O20: the level against the input's own and the filtered one, the debounce, and the timer. -/
theorem detectorFilter : Obligations.DetectorFilter := by
  intro s d high hpin i u stored edge
  have hexpiry : exec (.detectorDebounceExpiry d) s = .next (s.debounceExpiry d) :=
    State.live_run hpin fun s => s.debounceExpiry d
  have hstored : stored = s.modDetector i fun u => { u with level := high } := rfl
  have hunit : stored.rail.detectors[i] = { u with level := high } := s.modDetector_detector i _
  have hedge : ∀ w : State, w.rail.detectors[i].entry = u.entry → w.makeEdge d = edge w w.rail.detectors[i].level := by
    intro w hw
    simp only [State.makeEdge, edge, show (w.rail.detectors[detectorIndex d]).entry = u.entry from hw]
    cases levelPresent u.entry.polarity (w.rail.detectors[detectorIndex d]).level <;> cases d <;> rfl
  refine ⟨?_, fun hlevel => ⟨fun hf => ?_, fun hf hb => ?_, fun hf hb hd => ?_, fun hf hb hd => ?_⟩, fun ht => ?_,
    fun n ht => ?_⟩
  · rw [exec_detectorLevelChange_run hpin, if_pos rfl, State.modDetector_same rfl]
  · rw [exec_detectorLevelChange_run hpin, if_neg hlevel, ← hstored, State.levelChanged_unfitted]
    rw [hunit]; exact hf
  · rw [exec_detectorLevelChange_run hpin, if_neg hlevel, ← hstored, State.levelChanged_back]
    · rfl
    · rw [hunit]; exact hf
    · rw [hunit]; exact hb
  · rw [exec_detectorLevelChange_run hpin, if_neg hlevel, ← hstored, State.levelChanged_other, hunit, if_neg hd]
    · rfl
    · rw [hunit]; exact hf
    · rw [hunit]; exact hb
  · rw [exec_detectorLevelChange_run hpin, if_neg hlevel, ← hstored, State.levelChanged_other, hunit, if_pos hd,
      hedge stored (by rw [hunit])]
    · rw [hunit]
    · rw [hunit]; exact hf
    · rw [hunit]; exact hb
  · rw [hexpiry, State.debounceExpiry_stopped ht]
  · rw [hexpiry, State.debounceExpiry_running ht, hedge s rfl]

end Sys2Proof.Machine


/-! Bay edges, the lock check, the offer to a channel and its clear edge (R106 to R108, R123 to R128). -/

namespace Sys2Proof.Machine

/-! ## The record an edge concerns (R106, R108) -/

theorem StationRail.oldestNotAbove_none {u : StationRail} {k : Nat} (h : ∀ r ∈ u.cabins, k < r.progress) :
    u.oldestNotAbove k = none := by
  simpa [StationRail.oldestNotAbove] using h

theorem StationRail.oldestNotAbove_split {u : StationRail} {k : Nat} {old new : List StationRecord} {r : StationRecord}
    (h : u.cabins = old ++ r :: new) (hold : ∀ x ∈ old, k < x.progress) (hr : r.progress ≤ k) :
    u.oldestNotAbove k = some old.length := by
  rw [StationRail.oldestNotAbove, h]
  exact findIdx?_split (fun x hx => by simpa using hold x hx) (by simpa using hr)

theorem State.setProgress_split {s : State} {old new : List StationRecord} {r : StationRecord}
    (h : s.rail.cabins = old ++ r :: new) (p : Nat) :
    s.setProgress old.length p = s.modRail fun u => { u with cabins := old ++ { r with progress := p } :: new } := by
  simp only [State.setProgress, State.modRail, h, modify_split]

theorem getElem?_split {α : Type} (old new : List α) (r : α) : (old ++ r :: new)[old.length]? = some r := by simp

/-! ## Bays (R106, R107) -/

theorem State.bayArrival_phantom {s : State} {k : Fin 8} (h : ∀ r ∈ s.rail.cabins, k.val < r.progress) :
    s.bayArrival k =
      (s.raiseMomentary .phantomAtBay { channel := some k.val }).countRail (Ctr.phantom k.castSucc) := by
  rw [State.bayArrival, StationRail.oldestNotAbove_none h]

theorem State.bayArrival_split {s : State} {k : Fin 8} {old new : List StationRecord} {r : StationRecord}
    (h : s.rail.cabins = old ++ r :: new) (hold : ∀ x ∈ old, k.val < x.progress) (hr : r.progress ≤ k.val) :
    s.bayArrival k = ((s.judgeSkip r.progress k r.cabin).setProgress old.length (k.val + 1)).offerCabin k r := by
  have hrecord : s.rail.cabins[old.length]? = some r := by rw [h, getElem?_split]
  simp only [State.bayArrival, StationRail.oldestNotAbove_split h hold hr, hrecord]

theorem State.skippedBay_none {s : State} {p : Nat} {k : Fin 8}
    (h : ∀ j : Fin 8, p ≤ j.val → j < k → s.fitted j.castSucc = false) : s.skippedBay p k = none := by
  rw [State.skippedBay, List.find?_eq_none]
  intro j _ hj
  simp only [Bool.and_eq_true, decide_eq_true_eq] at hj
  obtain ⟨⟨hp, hk⟩, hf⟩ := hj
  simp [h j hp hk] at hf

theorem State.skippedBay_least {s : State} {p : Nat} {k j : Fin 8} (hp : p ≤ j.val) (hk : j < k)
    (hf : s.fitted j.castSucc = true) (hless : ∀ m : Fin 8, p ≤ m.val → m < j → s.fitted m.castSucc = false) :
    s.skippedBay p k = some j := by
  have hmem : ∀ i : Fin 8, i ∈ allBays := by decide
  have hrising : allBays.Pairwise (· < ·) := by decide
  refine find?_least hrising (hmem j) ?_ fun m _ hm => ?_
  · simpa [hp, hf] using hk
  · by_cases hpm : p ≤ m.val
    · simp [hless m hpm hm]
    · simp [hpm]

/-! ## The lock check (R108) -/

theorem State.lockCheck_phantom {s : State} (h : ∀ r ∈ s.rail.cabins, 8 < r.progress) :
    s.lockCheck = (s.raiseMomentary .phantomAtBay {}).countRail (Ctr.phantom 8) := by
  rw [State.lockCheck, StationRail.oldestNotAbove_none h]

theorem State.lockCheck_split {s : State} {old new : List StationRecord} {r : StationRecord}
    (h : s.rail.cabins = old ++ r :: new) (hold : ∀ x ∈ old, 8 < x.progress) (hr : r.progress ≤ 8) :
    s.lockCheck =
      let v := s.modRail fun u => { u with cabins := old ++ { r with progress := 9 } :: new }
      if r.door = .closedLocked then v.countRail Ctr.lockPass
      else (v.raiseMomentary .doorNotLocked { cabin := r.cabin }).countRail Ctr.lockFail := by
  have hrecord : s.rail.cabins[old.length]? = some r := by rw [h, getElem?_split]
  simp only [State.lockCheck, StationRail.oldestNotAbove_split h hold hr, hrecord, State.setProgress_split h,
    State.raiseNotLocked]

/-! ## The offer to a channel (R123 to R127) -/

theorem State.offerCabin_unserved {s : State} {k : Fin 8} (h : (s.channel k).state ≠ .ready) (r : StationRecord) :
    s.offerCabin k r =
      if (s.channel k).entry.role = .none then s.countDoors (Ctr.unservedOffer k)
      else (s.countDoors (Ctr.unservedOffer k)).raiseMomentary .bayUnserved
        { channel := some k.val, cabin := r.cabin } :=
  if_neg h

/-- A ready channel with the offered cabin as its served one. -/
def State.offered (s : State) (k : Fin 8) (r : StationRecord) : State :=
  (s.countDoors (Ctr.servedOffer k)).serve k r

@[simp] theorem State.offered_channel (s : State) (k : Fin 8) (r : StationRecord) :
    (s.offered k r).channel k =
      { s.channel k with served := some ⟨r.number, r.cabin, r.profile, (s.channel k).entry.role, none⟩ } := by
  rw [State.offered, State.serve, State.modChannel_channel, State.countDoors_channel]

theorem State.offered_eq (s : State) (k : Fin 8) (r : StationRecord) :
    s.offered k r = (s.countDoors (Ctr.servedOffer k)).modChannel k fun c =>
      { c with served := some ⟨r.number, r.cabin, r.profile, (s.channel k).entry.role, none⟩ } :=
  State.modChannel_congr rfl

theorem State.offerCabin_local {s : State} {k : Fin 8} (h : (s.channel k).state = .ready)
    (hm : (s.channel k).mode = .local_) (r : StationRecord) : s.offerCabin k r = (s.offered k r).readSensor k := by
  simp only [State.offerCabin, h, hm, if_true]
  rfl

theorem State.offerCabin_remote {s : State} {k : Fin 8} (h : (s.channel k).state = .ready)
    (hm : (s.channel k).mode ≠ .local_) (r : StationRecord) :
    s.offerCabin k r = (s.offered k r).judgeOffer k r.number r.profile := by
  simp only [State.offerCabin, h, if_true]
  cases hmode : (s.channel k).mode
  case local_ => exact absurd hmode hm
  all_goals rfl

theorem State.offerCabin_none {s : State} {k : Fin 8} (h : (s.channel k).state = .ready)
    (hrole : (s.channel k).entry.role = .none) (r : StationRecord) : s.offerCabin k r = s.offered k r := by
  by_cases hm : (s.channel k).mode = .local_
  · simp [State.offerCabin_local h hm, State.readSensor, hrole]
  · simp [State.offerCabin_remote h hm, State.judgeOffer, hrole]

theorem State.offerCabin_atOpen {s : State} {k : Fin 8} (h : (s.channel k).state = .ready)
    (hrole : (s.channel k).entry.role = .openDoor) (hend : (s.channel k).pins.openEnd = true) (r : StationRecord) :
    s.offerCabin k r = (s.offered k r).channelWrite k .opened := by
  by_cases hm : (s.channel k).mode = .local_
  · simp [State.offerCabin_local h hm, State.readSensor, hrole, hend]
  · simp [State.offerCabin_remote h hm, State.judgeOffer, hrole, State.judgeOpen, hend]

theorem State.offerCabin_atLocked {s : State} {k : Fin 8} (h : (s.channel k).state = .ready)
    (hrole : (s.channel k).entry.role = .closeDoor) (hlocked : (s.channel k).pins.locked = true) (r : StationRecord) :
    s.offerCabin k r = (s.offered k r).channelWrite k .closedLocked := by
  by_cases hm : (s.channel k).mode = .local_
  · simp [State.offerCabin_local h hm, State.readSensor, hrole, hlocked]
  · simp [State.offerCabin_remote h hm, State.judgeOffer, hrole, State.judgeClose, hlocked]

/-- In LOCAL nothing is driven: with the role's sensor released the cabin is only served. -/
theorem State.offerCabin_local_idle {s : State} {k : Fin 8} (h : (s.channel k).state = .ready)
    (hm : (s.channel k).mode = .local_) (r : StationRecord)
    (hidle : ((s.channel k).entry.role = .openDoor ∧ (s.channel k).pins.openEnd = false) ∨
      ((s.channel k).entry.role = .closeDoor ∧ (s.channel k).pins.locked = false) ∨ (s.channel k).entry.role = .gate) :
    s.offerCabin k r = s.offered k r := by
  rw [State.offerCabin_local h hm, State.readSensor]
  obtain ⟨hrole, hend⟩ | ⟨hrole, hlocked⟩ | hrole := hidle
  · simp [hrole, hend]
  · simp [hrole, hlocked]
  · simp [hrole]

theorem State.offerCabin_open {s : State} {k : Fin 8} (h : (s.channel k).state = .ready)
    (hm : (s.channel k).mode ≠ .local_) (hrole : (s.channel k).entry.role = .openDoor)
    (hend : (s.channel k).pins.openEnd = false) (r : StationRecord) :
    s.offerCabin k r = if r.profile.door = .auto then (s.offered k r).startOpenDoor k else s.offered k r := by
  simp only [State.offerCabin_remote h hm, State.judgeOffer, State.judgeOpen, State.offered_channel, hrole, hend,
    Bool.false_eq_true, if_false]
  cases r.profile.door <;> rfl

theorem State.offerCabin_close {s : State} {k : Fin 8} (h : (s.channel k).state = .ready)
    (hm : (s.channel k).mode ≠ .local_) (hrole : (s.channel k).entry.role = .closeDoor)
    (hlocked : (s.channel k).pins.locked = false) (r : StationRecord) :
    s.offerCabin k r = if r.profile.door = .manual then s.offered k r else (s.offered k r).startCloseDoor k := by
  simp only [State.offerCabin_remote h hm, State.judgeOffer, State.judgeClose, State.offered_channel, hrole, hlocked,
    Bool.false_eq_true, if_false]
  cases r.profile.door <;> rfl

theorem State.offerCabin_gate {s : State} {k : Fin 8} (h : (s.channel k).state = .ready)
    (hm : (s.channel k).mode ≠ .local_) (hrole : (s.channel k).entry.role = .gate) (r : StationRecord) :
    s.offerCabin k r =
      if r.profile.cls = .passenger ∧ s.doorState r.number = some .opened then (s.offered k r).startOpenGate k
      else s.offered k r := by
  simp only [State.offerCabin_remote h hm, State.judgeOffer, State.offered_channel, hrole]
  rfl

/-! ## Clear edges (R126, R128) -/

theorem Channel.releaseServed_powered {c : Channel} (h : c.state.powered = true) :
    c.releaseServed = { c with served := none } :=
  if_pos h

theorem Channel.releaseServed_eq (c : Channel) :
    c.releaseServed = if c.state = .unpowered ∨ c.state = .fault then c else { c with served := none } := by
  unfold Channel.releaseServed
  cases h : c.state <;> simp [ChannelState.powered]

theorem State.clearEdge_local {s : State} {k : Fin 8} (h : (s.channel k).mode = .local_) :
    s.clearEdge k = s.modChannel k Channel.releaseServed := by
  rw [State.clearEdge, if_pos h]

theorem State.clearEdge_remote {s : State} {k : Fin 8} (h : (s.channel k).mode ≠ .local_) :
    s.clearEdge k = (s.clearActs k).modChannel k Channel.releaseServed := by
  rw [State.clearEdge, if_neg h]

theorem State.clearActs_still {s : State} {k : Fin 8}
    (h : (s.channel k).state = .unpowered ∨ (s.channel k).state = .fault ∨ (s.channel k).state = .halted ∨
      (s.channel k).state = .powering) : s.clearActs k = s := by
  obtain h | h | h | h := h <;> simp only [State.clearActs, h]

/-- In these states a clear edge does no more than the release, in every mode. -/
theorem State.clearEdge_still {s : State} {k : Fin 8}
    (h : (s.channel k).state = .unpowered ∨ (s.channel k).state = .fault ∨ (s.channel k).state = .halted ∨
      (s.channel k).state = .powering) : s.clearEdge k = s.modChannel k Channel.releaseServed := by
  by_cases hm : (s.channel k).mode = .local_
  · exact State.clearEdge_local hm
  · rw [State.clearEdge_remote hm, State.clearActs_still h]

theorem State.clearActs_ready {s : State} {k : Fin 8} (h : (s.channel k).state = .ready) :
    s.clearActs k =
      if (s.channel k).entry.role = .gate ∧ (s.channel k).gateOpen then s.modChannel k Channel.closeGate else s := by
  simp only [State.clearActs, h]

theorem State.clearActs_openGate {s : State} {k : Fin 8} (h : (s.channel k).state = .opening)
    (hk : (s.channel k).actionKind = some .openGate) : s.clearActs k = (s.abandon k).modChannel k Channel.closeGate := by
  simp only [State.clearActs, h, hk, if_true]

theorem State.clearActs_openDoor {s : State} {k : Fin 8} (h : (s.channel k).state = .opening)
    (hk : (s.channel k).actionKind = some .openDoor) :
    s.clearActs k = ((s.abandon k).channelWrite k .openFailed).raiseOpenFail k := by
  have hne : ¬ (some ActionKind.openDoor = some .openGate) := by decide
  simp only [State.clearActs, h, hk, hne, if_false]

theorem State.clearActs_close {s : State} {k : Fin 8}
    (h : (s.channel k).state = .closing ∨ (s.channel k).state = .reversing) :
    s.clearActs k =
      if (s.channel k).actionKind = some .closeGate then s else (s.abandon k).channelWrite k .unknown := by
  obtain h | h := h <;> simp only [State.clearActs, h]

/-- The state with an action abandoned by a clear edge. -/
theorem State.abandon_eq {s : State} {k : Fin 8} (h : (s.channel k).state ≠ .ready) :
    s.abandon k =
      (s.modChannel k fun c =>
        { c with
          state := .ready, action := none, driveTimer := none, reverseTimer := none
          changes := { c.changes with state := true } }).countDoors (Ctr.abandoned k) := by
  rw [State.abandon, State.modChannel_endAction h]

/-- CLOSE_GATE of a channel in READY. -/
theorem Channel.closeGate_ready {c : Channel} (h : c.state = .ready) :
    c.closeGate =
      if c.pins.locked then
        { c with state := .ready, gateOpen := false, action := none, driveTimer := none, reverseTimer := none }
      else
        { c with
          state := .closing
          action := some ⟨.closeGate, .gate, c.entry.driveTime, c.entry.reverseTime, c.entry.attempts⟩
          attemptsLeft := c.entry.attempts, driveTimer := some (c.entry.driveTime * 100), reverseTimer := none
          changes := { c.changes with state := true } } := by
  simp [Channel.closeGate, Channel.closeDrive, Channel.enter, Channel.newAction, h]

theorem Channel.closeGate_powered {c : Channel} : c.closeGate.state.powered = true := by
  unfold Channel.closeGate; split <;> rfl

/-- Settles O21: the record of a bay's and of LCK's arrival edge, the offer by role, mode and sensor, and the clear edge by
state, mode and action. -/
theorem bayEdgeTakesTheOldestRecord : Obligations.BayEdgeTakesTheOldestRecord := by
  refine ⟨?bay, ?lck, ?offer, ?clear⟩
  case bay =>
    intro s k
    refine ⟨State.bayArrival_phantom, fun old new r hl hold hr hfit => ?_, fun i r j hi hold hp hk hf hless => ?_⟩
    · rw [State.bayArrival_split hl hold hr, State.judgeSkip, State.skippedBay_none hfit, State.setProgress_split hl]
    · have hl := take_getElem_drop hi
      have hlen : (s.rail.cabins.take i).length = i := by
        rw [List.length_take, Nat.min_eq_left (List.getElem?_eq_some_iff.mp hi).1.le]
      have hr : r.progress ≤ k.val := hp.trans (Nat.le_of_lt hk)
      rw [State.bayArrival_split hl hold hr, hlen, State.judgeSkip, State.skippedBay_least hp hk hf hless]
  case lck =>
    intro s
    refine ⟨State.lockCheck_phantom, fun old new r hl hold hr => ?_⟩
    intro v
    have hcheck := State.lockCheck_split hl hold hr
    exact ⟨fun hd => hcheck.trans (if_pos hd), fun hd => hcheck.trans (if_neg hd)⟩
  case offer =>
    intro s k r c role unserved served started
    have hserved : s.offered k r = served := s.offered_eq k r
    refine ⟨fun hst => ⟨fun hrole => ?_, fun hrole => ?_⟩, fun hst => ⟨fun hrole => ?_, fun hrole hend => ?_,
      fun hrole hlocked => ?_, fun hm => ⟨fun hrole hend => ?_, fun hrole hlocked => ?_, fun hrole => ?_⟩,
      fun hm => ⟨fun hrole hend => ⟨fun hd => ?_, fun hd => ?_⟩, fun hrole hlocked => ⟨fun hd => ?_, fun hd => ?_⟩,
        fun hrole => ?_⟩⟩⟩
    · rw [State.offerCabin_unserved hst, if_pos hrole]
    · rw [State.offerCabin_unserved hst, if_neg hrole]
    · rw [State.offerCabin_none hst hrole, hserved]
    · rw [State.offerCabin_atOpen hst hrole hend, hserved]
    · rw [State.offerCabin_atLocked hst hrole hlocked, hserved]
    · rw [State.offerCabin_local_idle hst hm r (.inl ⟨hrole, hend⟩), hserved]
    · rw [State.offerCabin_local_idle hst hm r (.inr (.inl ⟨hrole, hlocked⟩)), hserved]
    · rw [State.offerCabin_local_idle hst hm r (.inr (.inr hrole)), hserved]
    · rw [State.offerCabin_open hst hm hrole hend, if_pos hd, State.startOpenDoor, hserved]
      refine congrArg (State.channelWrite · k .opening) ?_
      refine State.modChannel_congr ?_
      rw [← hserved, State.offered_channel]
      simp [Channel.enter, Channel.newAction, show (s.channel k).state = .ready from hst, started, role, c]
    · rw [State.offerCabin_open hst hm hrole hend, if_neg hd, hserved]
    · rw [State.offerCabin_close hst hm hrole hlocked, if_neg hd, State.startCloseDoor, hserved]
      refine congrArg (State.channelWrite · k .closing) ?_
      refine State.modChannel_congr ?_
      rw [← hserved, State.offered_channel]
      simp [Channel.enter, Channel.newAction, Channel.closeDrive, show (s.channel k).state = .ready from hst, started, role, c]
    · rw [State.offerCabin_close hst hm hrole hlocked, if_pos hd, hserved]
    · intro doors
      refine ⟨fun hcls hd => ?_, fun h => ?_⟩
      · rw [State.offerCabin_gate hst hm hrole, if_pos ⟨hcls, hd⟩, State.startOpenGate, hserved]
        refine State.modChannel_congr ?_
        rw [← hserved, State.offered_channel]
        simp [Channel.enter, Channel.newAction, show (s.channel k).state = .ready from hst, started, role, c]
      · rw [State.offerCabin_gate hst hm hrole, if_neg, hserved]
        rintro ⟨hcls, hd⟩
        exact h.elim (· hcls) (· hd)
  case clear =>
    intro s k c release ended shut abandoned
    have hrelease : ∀ w : State, (w.channel k).state.powered = true → w.modChannel k Channel.releaseServed = release w :=
      fun w hw => State.modChannel_congr (Channel.releaseServed_powered hw)
    have hshut : ∀ w : State, (w.channel k).state = .ready → w.modChannel k Channel.closeGate = w.modChannel k shut :=
      fun w hw => State.modChannel_congr (Channel.closeGate_ready hw)
    have habandon : c.state ≠ .ready → s.abandon k = abandoned := fun h => State.abandon_eq h
    have hended : (abandoned.channel k).state = .ready := by
      simp [abandoned, ended]
    refine ⟨fun hst => ?_, fun hst => ?_, fun hp hm => ?_, fun hm => ⟨fun hst hrole hopen => ?_, fun hst h => ?_,
      fun a ha => ⟨fun hst hk => ?_, fun hst hk => ?_, fun hst hk => ?_, fun hst hk => ?_⟩⟩⟩
    · rw [State.clearEdge_still (hst.elim .inl (.inr ∘ .inl)), State.modChannel_same]
      rw [Channel.releaseServed_eq, if_pos hst]
    · rw [State.clearEdge_still (.inr (.inr hst)), hrelease]
      obtain h | h := hst <;> rw [show (s.channel k).state = _ from h] <;> rfl
    · rw [State.clearEdge_local hm, hrelease s hp]
    · rw [State.clearEdge_remote hm, State.clearActs_ready hst, if_pos ⟨hrole, hopen⟩, hrelease, hshut s hst]
      rw [State.modChannel_channel]; exact Channel.closeGate_powered
    · rw [State.clearEdge_remote hm, State.clearActs_ready hst, if_neg, hrelease]
      · rw [show (s.channel k).state = _ from hst]; rfl
      · rintro ⟨hrole, hopen⟩
        exact h.elim (· hrole) fun hc => absurd (hopen.symm.trans hc) (by decide)
    · rw [State.clearEdge_remote hm, State.clearActs_openGate hst (by rw [Channel.actionKind_of_action ha, hk]), hrelease,
        habandon (by rw [hst]; decide), hshut abandoned hended]
      rw [State.modChannel_channel]; exact Channel.closeGate_powered
    · rw [State.clearEdge_remote hm, State.clearActs_openDoor hst (by rw [Channel.actionKind_of_action ha, hk]),
        State.raiseOpenFail, State.channelWrite_channelDetail, habandon (by rw [hst]; decide)]
      have hdetail : abandoned.channelDetail k = { channel := some k.val, cabin := c.served.bind fun v => v.cabin } := by
        simp [State.channelDetail, Channel.cabin, abandoned, ended, c]
      rw [hdetail]
      exact State.modChannel_congr (Channel.releaseServed_eq _)
    · rw [State.clearEdge_remote hm, State.clearActs_close hst, if_neg, habandon, hrelease]
      · rw [State.channelWrite_channel_wrote, Channel.wrote_state, hended]; rfl
      · obtain h | h := hst <;> rw [h] <;> decide
      · rw [Channel.actionKind_of_action ha, hk]; decide
    · rw [State.clearEdge_remote hm, State.clearActs_close hst, if_pos, hrelease]
      · obtain h | h := hst <;> rw [show (s.channel k).state = _ from h] <;> rfl
      · rw [Channel.actionKind_of_action ha, hk]

end Sys2Proof.Machine


/-! The stop chain: what a raise leaves, changes of A, withdrawals, notices, restart permits and the clearing of notices
(R174 to R179, R181, R191). -/

namespace Sys2Proof.Machine

/-! ## Categories -/

theorem Category.sup_assoc (a b c : Category) : (a.sup b).sup c = a.sup (b.sup c) := by
  cases a <;> cases b <;> cases c <;> decide

theorem Category.rank_pos {a : Category} : 0 < a.rank ↔ a ≠ .none := by cases a <;> decide

/-- A record after one more raise takes the demand of the raise where that is higher (R174). -/
theorem CauseRecord.again_eq (r : CauseRecord) (table : Category) (d : Detail) (m : Bool) :
    r.again table d m =
      let wanted := table.sup (d.requested.getD .none)
      { r with
        occurrences := min 255 (r.occurrences + 1)
        category := if r.category.rank < wanted.rank then wanted else r.category
        present := r.present || !m } := by
  rw [CauseRecord.again, Category.sup_assoc]
  rfl

/-! ## Changes of A -/

theorem State.judgeRise_eq (s : State) : s.judgeRise = s.setAsserted s.judgeRise.chain.asserted := by
  rw [State.judgeRise_asserted, State.judgeRise]
  split
  · rfl
  · simp [State.setAsserted]

theorem State.judgeRise_still {s : State} (h : s.demanded.rank ≤ s.chain.asserted.rank) : s.judgeRise = s :=
  if_neg (Nat.not_lt.mpr h)

/-- A rise of A: the doors, the stop timer and the notice, in that order (R176). -/
theorem State.judgeRise_rises {s : State} (h : s.chain.asserted.rank < s.demanded.rank) :
    s.judgeRise =
      let old := s.chain.asserted
      let new := s.demanded
      let u := s.modChain fun c => { c with asserted := new }
      ((if new = .emergency then u.haltAll else u).judgeStopTimer old new).notice (.category old new) := by
  have hne : s.demanded ≠ s.chain.asserted := fun he => by rw [he] at h; exact Nat.lt_irrefl _ h
  have hold : s.chain.asserted ≠ .emergency := fun he => by
    rw [he] at h
    exact absurd (Category.rank_le_emergency s.demanded) (Nat.not_le.mpr h)
  rw [State.judgeRise, if_pos h, State.setAsserted, if_neg hne]
  simp only [State.tellDoors, hold, ne_eq, not_false_iff, and_true, and_false, if_false]

theorem stopTimerStarts_self (c : Category) (still : Bool) : stopTimerStarts c c still = false := by
  by_cases h : c = .none <;> simp [stopTimerStarts, h]

/-- A change of A that starts the stop timer starts it with the stop time limit and is counted (R181). -/
theorem State.setAsserted_starts {s : State} {n : Category}
    (h : stopTimerStarts s.chain.asserted n s.rope.standstill = true) :
    (s.setAsserted n).chain.timer = some (s.rope.table.stopTime * 1000) ∧
      (s.setAsserted n).chain.counters[Ctr.stopTimer] = s.chain.counters[Ctr.stopTimer] + 1 := by
  have hn : n ≠ s.chain.asserted := fun hn => by rw [hn, stopTimerStarts_self] at h; exact Bool.noConfusion h
  simp only [State.setAsserted, if_neg hn, State.notice_chain, State.judgeStopTimer, State.tellDoors_rope, State.modChain_rope,
    if_pos h]
  exact ⟨by simp, by simpa using bump_self _ _⟩

/-- Any other change of A leaves the stop timer (R181). -/
theorem State.setAsserted_startsNot {s : State} {n : Category}
    (h : stopTimerStarts s.chain.asserted n s.rope.standstill = false) :
    (s.setAsserted n).chain.timer = s.chain.timer ∧ (s.setAsserted n).chain.counters = s.chain.counters := by
  by_cases hn : n = s.chain.asserted
  · simp [State.setAsserted, hn]
  · simp [State.setAsserted, if_neg hn, State.judgeStopTimer, h]

theorem stopTimerStarts_rise {old new : Category} {still : Bool} (ho : old = .none) (hn : new ≠ .none)
    (hs : still = false) : stopTimerStarts old new still = true := by simp [stopTimerStarts, ho, hn, hs]

theorem stopTimerStarts_other {old new : Category} {still : Bool} (h : old ≠ .none ∨ new = .none ∨ still = true) :
    stopTimerStarts old new still = false := by
  obtain h | h | h := h <;> simp [stopTimerStarts, h]

/-! ## Raises -/

theorem Ctr.raises_ne_stopTimer : ∀ i : Fin 39, Ctr.raises i ≠ Ctr.stopTimer := by decide

theorem State.raise_counter (s : State) (c : Cause) (d : Detail) (m : Bool) :
    (s.raise c d m).chain.counters[Ctr.raises (causeCode c)] = s.chain.counters[Ctr.raises (causeCode c)] + 1 := by
  obtain ⟨l, -, e⟩ := s.raise_chain c d m
  rw [e, State.judgeRise_counter _ _ (Ctr.raises_ne_stopTimer _)]
  exact bump_self _ _

/-- The state a raise judges A in: the raise counted, the set as the raise leaves it. -/
def State.raised (s : State) (c : Cause) (l : List CauseRecord) : State :=
  (s.countChain (Ctr.raises (causeCode c))).modChain fun u => { u with causes := l }

theorem State.raised_counter (s : State) (c : Cause) (l : List CauseRecord) :
    (s.raised c l).chain.counters[Ctr.stopTimer] = s.chain.counters[Ctr.stopTimer] :=
  bump_ne _ _ _ (Ctr.raises_ne_stopTimer _).symm

/-- The stop chain after a raise is that of a change of A to the value the raise leaves it. -/
theorem State.raise_chain_setAsserted (s : State) (c : Cause) (d : Detail) (m : Bool) :
    ∃ l, (s.raise c d m).chain = ((s.raised c l).setAsserted (s.raise c d m).chain.asserted).chain := by
  obtain ⟨l, -, e⟩ := s.raise_chain c d m
  refine ⟨l, ?_⟩
  rw [e, ← State.raised, ← State.judgeRise_eq]

theorem State.raise_starts {s : State} {c : Cause} {d : Detail} {m : Bool}
    (h : stopTimerStarts s.chain.asserted (s.raise c d m).chain.asserted s.rope.standstill = true) :
    (s.raise c d m).chain.timer = some (s.rope.table.stopTime * 1000) ∧
      (s.raise c d m).chain.counters[Ctr.stopTimer] = s.chain.counters[Ctr.stopTimer] + 1 := by
  obtain ⟨l, e⟩ := s.raise_chain_setAsserted c d m
  obtain ⟨htimer, hcount⟩ := State.setAsserted_starts (s := s.raised c l) h
  rw [e]
  exact ⟨htimer, hcount.trans (by rw [State.raised_counter])⟩

theorem State.raise_startsNot {s : State} {c : Cause} {d : Detail} {m : Bool}
    (h : stopTimerStarts s.chain.asserted (s.raise c d m).chain.asserted s.rope.standstill = false) :
    (s.raise c d m).chain.timer = s.chain.timer ∧
      (s.raise c d m).chain.counters[Ctr.stopTimer] = s.chain.counters[Ctr.stopTimer] := by
  obtain ⟨l, e⟩ := s.raise_chain_setAsserted c d m
  obtain ⟨htimer, hcount⟩ := State.setAsserted_startsNot (s := s.raised c l) h
  rw [e]
  exact ⟨htimer, by rw [hcount, State.raised_counter]⟩

/-- A after a raise is what it was or some record's category. -/
theorem State.raise_from (s : State) (c : Cause) (d : Detail) (m : Bool) :
    (s.raise c d m).chain.asserted = s.chain.asserted ∨
      ∃ r ∈ (s.raise c d m).chain.causes, r.category = (s.raise c d m).chain.asserted := by
  obtain ⟨l, -, e⟩ := s.raise_chain c d m
  rw [e]
  exact State.judgeRise_from _

/-! ## Notices -/

theorem State.notice_on {s : State} (h : s.admin.part.notices = true) (r : NoticeReason) :
    s.notice r =
      (s.countAdmin Ctr.noticeBuilt).offer .station 2
        (ownFrame s.admin.part.console .notice 0 (.built (.notice r s.summary)) .own) :=
  if_pos h

theorem State.notice_off {s : State} (h : s.admin.part.notices = false) (r : NoticeReason) :
    s.notice r = s.countAdmin Ctr.noticeSuppressed :=
  if_neg (by rw [h]; decide)

/-- Settles O39: the set, A, the stop timer and the hand-on of an entry after a raise; withdrawals, rises of A, notices. -/
theorem raiseAndWithdrawal : Obligations.RaiseAndWithdrawal := by
  refine ⟨fun s c d m => ?raised, fun s c => ⟨fun h => ?_, fun h => ?_⟩, fun s => ?rise, fun s why => ?notices⟩
  case raised =>
    intro table wanted t
    refine ⟨fun h => ?_, fun h => ?_, s.raise_table c d m, s.raise_filters c d m, s.raise_counter c d m,
      s.raise_asserted_ge c d m, s.raise_covers c d m, s.raise_from c d m, fun ho hn hs => ?_, fun h => ?_, ?_, s.raise_reach c d m⟩
    · rw [State.raise_causes, State.inSet_true.mpr h]
      simp only [CauseRecord.again_eq]
      rfl
    · rw [State.raise_causes, State.inSet_false.mpr h]
      rfl
    · exact State.raise_starts (stopTimerStarts_rise ho hn hs)
    · exact State.raise_startsNot (stopTimerStarts_other h)
    · intro counted r judged noticed called
      refine ⟨fun h => ?_, fun h => ?_⟩
      · show s.raise c d m = judged (s.raise c d m).chain.causes
        rw [State.raise_causes, State.inSet_true.mpr h, State.raise_known (State.inSet_true.mpr h)]
        rfl
      · show s.raise c d m = _
        rw [State.raise_new (State.inSet_false.mpr h), State.handOnEntry, State.judgeRise_table]
        rfl
  · rw [State.withdraw_known (State.inSet_true.mpr h)]; rfl
  · rw [State.withdraw_stray (State.inSet_false.mpr h)]; rfl
  case rise =>
    intro old new
    refine ⟨State.judgeRise_still, fun h => ?_⟩
    intro u v w
    have hnew : new ≠ .none := Category.rank_pos.mp (Nat.zero_lt_of_lt h)
    have hrope : v.rope = s.rope := by unfold v u; split <;> simp
    have hw : v.judgeStopTimer old new = w := by
      have hstarts : stopTimerStarts old new s.rope.standstill = true ↔ old = .none ∧ s.rope.standstill = false := by
        simp [stopTimerStarts, hnew]
      simp only [State.judgeStopTimer, hrope, hstarts]
      rfl
    rw [State.judgeRise_rises h, ← hw]
    rfl
  case notices =>
    exact ⟨fun h => State.notice_off h why, fun h => (State.notice_on h why).trans rfl⟩

end Sys2Proof.Machine


/-! RESTART-PERMIT and CAUSES-CLEAR-NOTICES: the set a permit leaves, and what its change of A reaches (R178, R179). -/

namespace Sys2Proof.Machine

/-! ## What a notice and a change of A reach -/

@[simp] theorem State.push_station_line (s : State) (c : Fin 4) (f : Frame) : (s.push .station c f).1.line = s.line := by
  unfold State.push
  dsimp only
  split
  · simp [State.countPort]
  · split
    · simp
    · split
      · split <;> simp
      · split <;> simp

@[simp] theorem State.offer_station_line (s : State) (c : Fin 4) (f : Frame) : (s.offer .station c f).line = s.line :=
  (State.push_station_line _ c f).trans rfl

@[simp] theorem State.notice_line (s : State) (r : NoticeReason) : (s.notice r).line = s.line := by
  unfold State.notice
  split <;> simp

theorem State.notice_adminCounters (s : State) (r : NoticeReason) :
    (s.notice r).admin.counters =
      bump s.admin.counters (if s.admin.part.notices then Ctr.noticeBuilt else Ctr.noticeSuppressed) := by
  unfold State.notice
  split <;> simp

/-- A change of A reaches the station port its notice goes to, the frames its notice pushes out, and the channels and doors it
halts or releases (R132, R133, R176). -/
theorem State.setAsserted_reach (s : State) (c : Category) :
    s.changesOnly (s.setAsserted c)
      [.stationPort, .frameSwitch, .postPoller, .stationRail, .doorChannels, .stopChain, .adminResponder] := by
  refine ⟨fun b hb => ?_, s.setAsserted_pinHeld c, s.setAsserted_pending c⟩
  have hline : (s.setAsserted c).line = s.line := by
    unfold State.setAsserted
    dsimp only
    split <;> simp
  cases b <;> simp_all [State.sameBlock]

/-- A change of A neither to nor from EMERGENCY leaves the doors and the station rail (R132, R133). -/
theorem State.setAsserted_quietDoors {s : State} {c : Category} (hold : s.chain.asserted ≠ .emergency)
    (hnew : c ≠ .emergency) : (s.setAsserted c).doors = s.doors ∧ (s.setAsserted c).rail = s.rail := by
  unfold State.setAsserted
  dsimp only
  split
  · exact ⟨rfl, rfl⟩
  · simp [State.tellDoors, hold, hnew]

theorem State.setAsserted_adminCounters {s : State} {c : Category} (h : c ≠ s.chain.asserted) :
    (s.setAsserted c).admin.counters =
      bump s.admin.counters (if s.admin.part.notices then Ctr.noticeBuilt else Ctr.noticeSuppressed) := by
  unfold State.setAsserted
  rw [if_neg h, State.notice_adminCounters]
  simp

theorem State.setAsserted_same {s : State} {c : Category} (h : c = s.chain.asserted) : s.setAsserted c = s := by
  unfold State.setAsserted
  exact if_pos h

/-- At standstill a change of A changes A and nothing else of the stop chain. -/
theorem State.setAsserted_chain_still {s : State} (hstill : s.rope.standstill = true) (c : Category) :
    (s.setAsserted c).chain = { s.chain with asserted := c } := by
  have hstarts : stopTimerStarts s.chain.asserted c s.rope.standstill = false := stopTimerStarts_other (.inr (.inr hstill))
  by_cases h : c = s.chain.asserted
  · rw [State.setAsserted_same h, h]
  · simp [State.setAsserted, if_neg h, State.judgeStopTimer, hstarts]

/-! ## RESTART-PERMIT (R178) -/

/-- A permit leaves the records whose condition is present, RESET_LATCH not among them. -/
theorem afterPermit_eq (l : List CauseRecord) :
    afterPermit l = l.filter fun r => r.present && decide (r.code ≠ .resetLatch) := by
  rw [afterPermit, List.filter_map]
  have hkept : ∀ r : CauseRecord,
      (r.present && decide (r.code ≠ .resetLatch)) =
        (if r.code = .resetLatch then { r with present := false } else r).present := fun r => by
    by_cases h : r.code = .resetLatch <;> simp [h]
  have hfilter : l.filter ((fun r => r.present) ∘ fun r => if r.code = .resetLatch then { r with present := false } else r) =
      l.filter fun r => r.present && decide (r.code ≠ .resetLatch) :=
    List.filter_congr fun r _ => (hkept r).symm
  rw [hfilter]
  refine (List.map_congr_left fun r hr => ?_).trans (List.map_id' _)
  have hcode : r.code ≠ .resetLatch := by
    have := (List.mem_filter.mp hr).2
    simp only [Bool.and_eq_true, decide_eq_true_eq] at this
    exact this.2
  exact if_neg hcode

/-- The stop chain after a permit at standstill. -/
theorem State.permit_chain {s : State} (hstill : s.rope.standstill = true) :
    s.permit.chain =
      { s.chain with
        causes := afterPermit s.chain.causes, asserted := demandedOf (afterPermit s.chain.causes)
        counters := bump s.chain.counters Ctr.permit } :=
  (s.permit_eq ▸ State.setAsserted_chain_still (s := s.permitted) hstill _).trans rfl

theorem State.doRestartPermit_still {s : State} (hstill : s.rope.standstill = true) :
    s.doRestartPermit =
      (s.permit, if afterPermit s.chain.causes = [] then .done else .partially,
        .permit (afterPermit s.chain.causes).length (demandedOf (afterPermit s.chain.causes))) := by
  rw [State.doRestartPermit, if_pos (show s.still = true from hstill)]
  simp only [State.permit_chain hstill, List.length_eq_zero_iff]

theorem State.doRestartPermit_moving {s : State} (h : s.rope.standstill = false) :
    s.doRestartPermit = (s.countChain Ctr.refusedPermit, .inMotion, .empty) :=
  if_neg (by rw [State.still, h]; decide)

theorem exec_restartPermit_console {s : State} {rq : Requester} (hpin : s.pinHeld = false) (hcon : s.isConsole rq = true)
    (tag : Byte) :
    exec (.restartPermit rq tag) s = .next (State.settleRequest rq .restartPermit tag s.doRestartPermit) :=
  State.live_request_console hpin hcon .restartPermit tag State.doRestartPermit

theorem exec_causesClearNotices_console {s : State} {rq : Requester} (hpin : s.pinHeld = false)
    (hcon : s.isConsole rq = true) (tag : Byte) :
    exec (.causesClearNotices rq tag) s = .next (State.settleRequest rq .causesClearNotices tag s.doClearNotices) :=
  State.live_request_console hpin hcon .causesClearNotices tag State.doClearNotices

/-- Settles O40: the permit as a change of A over the set it leaves; the clearing as a filter of the set. -/
theorem permitAndClearing : Obligations.PermitAndClearing := by
  intro s rq tag hpin hcon
  refine ⟨fun hstill => ?permit, fun hmoving => ?refused, ?notices⟩
  case permit =>
    intro left
    have hleft : afterPermit s.chain.causes = left := afterPermit_eq _
    have hpermit : s.permit = s.permitted.setAsserted (demandedOf left) := by rw [State.permit_eq, hleft]
    have hpermitted : s.changesOnly s.permitted [.stopChain] := by
      refine ⟨fun b hb => ?_, rfl, rfl⟩
      cases b <;> simp_all [State.sameBlock, State.permitted]
    refine ⟨s.permit, hleft ▸ State.permit_chain hstill, ?_, fun h => ?_, fun hold hnew => ?_, fun h => ?_, ?_⟩
    · rw [hpermit]
      obtain ⟨hblocks, hpinned, hpending⟩ := s.permitted.setAsserted_reach (demandedOf left)
      refine ⟨fun b hb => ?_, hpinned, hpending⟩
      have hb' := hblocks b hb
      cases b <;> simp_all [State.sameBlock, State.permitted]
    · rw [hpermit, State.setAsserted_same (s := s.permitted) h]
      exact hpermitted
    · rw [hpermit]
      exact State.setAsserted_quietDoors (s := s.permitted) hold hnew
    · rw [hpermit]
      exact State.setAsserted_adminCounters (s := s.permitted) h
    · rw [exec_restartPermit_console hpin hcon, State.doRestartPermit_still hstill, hleft]
  case refused =>
    rw [exec_restartPermit_console hpin hcon, State.doRestartPermit_moving hmoving]
  case notices =>
    rw [exec_causesClearNotices_console hpin hcon]
    rfl

end Sys2Proof.Machine


/-! EMERGENCY and the door channels: the halt at its rise, the release at its fall (R132, R133, R176). -/

namespace Sys2Proof.Machine

/-! ## The halt of one channel -/

/-- A channel after the halt, the door write of an abandoned action included (R132). -/
def Channel.halted (c : Channel) : Channel :=
  if c.state.halts then
    { (if c.action.isSome then c.wrote .unknown else c).stopDrives.enter .halted with action := none }
  else c

theorem Channel.halted_of_halts {c : Channel} (h : c.state.halts = true) :
    c.halted =
      { c with
        state := .halted, served := if c.action.isSome then (c.wrote .unknown).served else c.served, action := none
        driveTimer := none, reverseTimer := none, localDrive := none, localTimer := none
        changes := { c.changes with state := true } } := by
  have hne : c.state ≠ .halted := fun he => by rw [he] at h; exact Bool.noConfusion h
  rw [Channel.halted, if_pos h]
  cases c.action.isSome <;> simp [Channel.wrote, Channel.enter, Channel.stopDrives, Channel.stopLocal, hne]

theorem State.haltAll_reach (s : State) : s.changesOnly s.haltAll [.doorChannels, .stationRail] := by
  refine ⟨fun b hb => ?_, by simp, by simp⟩
  cases b <;> simp_all [State.sameBlock]

theorem State.haltChannel_halted (s : State) (k : Fin 8) : (s.haltChannel k).channel k = (s.channel k).halted := by
  unfold State.haltChannel Channel.halted
  dsimp only
  split
  · rw [State.modChannel_channel]
    split
    · rw [State.channelWrite_channel_wrote, State.countDoors_channel]
    · rfl
  · rfl

theorem State.haltChannels_halted (l : List (Fin 8)) : l.Nodup → ∀ s : State, ∀ k ∈ l,
    (l.foldl State.haltChannel s).channel k = (s.channel k).halted := by
  induction l with
  | nil => exact fun _ s k hk => absurd hk (by simp)
  | cons j l ih =>
    intro hnodup s k hk
    obtain ⟨hj, hl⟩ := List.nodup_cons.mp hnodup
    rw [List.foldl_cons]
    by_cases hkj : k = j
    · rw [hkj, ((State.haltChannels_channel l hl _).2 j).2 hj, State.haltChannel_halted]
    · rw [ih hl _ k ((List.mem_cons.mp hk).resolve_left hkj), State.haltChannel_channel_ne _ hkj]

theorem State.haltAll_halted (s : State) (k : Fin 8) : s.haltAll.channel k = (s.channel k).halted :=
  State.haltChannels_halted allChannels allChannels_nodup s k (mem_allChannels k)

theorem Channel.wrote_identity (c : Channel) (d : DoorState) :
    ((c.wrote d).served.map fun v => (v.number, v.cabin, v.profile, v.role)) =
      c.served.map fun v => (v.number, v.cabin, v.profile, v.role) := by
  rw [Channel.wrote, Option.map_map]
  refine congrArg (Option.map · c.served) (funext fun v => ?_)
  simp only [Function.comp_apply]
  split <;> rfl

/-! ## The doors the halt writes -/

/-- Whether the halt of a channel writes a record's door: the record is the served one of an abandoned door action. -/
def Channel.halts (c : Channel) (r : StationRecord) : Bool :=
  c.state.halts && c.action.isSome &&
    match c.served with
    | some v => writesDoor v.role && decide (r.number = v.number)
    | none => false

theorem State.doorWrite_cabins (s : State) (n : BitVec 16) (d : DoorState) :
    (s.doorWrite n d).rail.cabins = s.rail.cabins.map fun r => if r.number = n then { r with door := d } else r := by
  unfold State.doorWrite
  split
  · rfl
  · next h =>
    refine ((List.map_congr_left fun r hr => ?_).trans (List.map_id' _)).symm
    exact if_neg fun hn => h (List.any_eq_true.mpr ⟨r, hr, by simp [hn]⟩)

theorem State.doorWrite_railRest (s : State) (n : BitVec 16) (d : DoorState) :
    (s.doorWrite n d).rail.detectors = s.rail.detectors ∧ (s.doorWrite n d).rail.generator = s.rail.generator := by
  unfold State.doorWrite
  split <;> exact ⟨rfl, rfl⟩

/-- A door written by the halt of a channel. -/
def StationRecord.halted (c : Channel) (r : StationRecord) : StationRecord :=
  if c.halts r then { r with door := .unknown } else r

theorem State.haltChannel_rail (s : State) (k : Fin 8) :
    (s.haltChannel k).rail.cabins = s.rail.cabins.map (StationRecord.halted (s.channel k)) ∧
      (s.haltChannel k).rail.detectors = s.rail.detectors ∧ (s.haltChannel k).rail.generator = s.rail.generator := by
  unfold State.haltChannel StationRecord.halted Channel.halts
  dsimp only
  cases hst : (s.channel k).state.halts
  · simp
  cases hact : (s.channel k).action.isSome
  · simp
  have hsame : ((s.countDoors (Ctr.halt k)).channel k).served = (s.channel k).served := by rw [State.countDoors_channel]
  cases hserved : (s.channel k).served with
  | none => simp [State.channelWrite, hserved]
  | some v =>
    cases hw : writesDoor v.role
    · simp [State.channelWrite, hserved, hw]
    · simp [State.channelWrite, hserved, hw, State.doorWrite_cabins, State.doorWrite_railRest]

theorem Channel.halts_door (c : Channel) (r : StationRecord) (d : DoorState) : c.halts { r with door := d } = c.halts r := rfl

theorem State.haltChannels_rail (l : List (Fin 8)) : l.Nodup → ∀ s : State,
    (l.foldl State.haltChannel s).rail.cabins =
        s.rail.cabins.map (fun r => if l.any (fun k => (s.channel k).halts r) then { r with door := .unknown } else r) ∧
      (l.foldl State.haltChannel s).rail.detectors = s.rail.detectors ∧
      (l.foldl State.haltChannel s).rail.generator = s.rail.generator := by
  induction l with
  | nil => exact fun _ s => ⟨by simp, rfl, rfl⟩
  | cons j l ih =>
    intro hnodup s
    obtain ⟨hj, hl⟩ := List.nodup_cons.mp hnodup
    obtain ⟨hcabins, hdetectors, hgenerator⟩ := s.haltChannel_rail j
    obtain ⟨hcabins', hdetectors', hgenerator'⟩ := ih hl (s.haltChannel j)
    refine ⟨?_, hdetectors'.trans hdetectors, hgenerator'.trans hgenerator⟩
    rw [List.foldl_cons, hcabins', hcabins, List.map_map]
    refine List.map_congr_left fun r _ => ?_
    have hlater : ∀ r : StationRecord, (l.any fun k => ((s.haltChannel j).channel k).halts r) = l.any fun k => (s.channel k).halts r :=
      fun r => Bool.eq_iff_iff.mpr <| List.any_eq_true.trans <| (exists_congr fun k => and_congr_right fun hk => by
        have hne : k ≠ j := fun h => hj (h ▸ hk)
        rw [State.haltChannel_channel_ne s hne]).trans List.any_eq_true.symm
    simp only [Function.comp_apply, hlater, StationRecord.halted, List.any_cons]
    by_cases hhit : (s.channel j).halts r = true
    · simp [hhit, Channel.halts_door]
    · simp [hhit]

theorem State.haltAll_rail (s : State) :
    s.haltAll.rail.cabins =
        s.rail.cabins.map
          (fun r => if allChannels.any (fun k => (s.channel k).halts r) then { r with door := .unknown } else r) ∧
      s.haltAll.rail.detectors = s.rail.detectors ∧ s.haltAll.rail.generator = s.rail.generator := by
  unfold State.haltAll
  exact State.haltChannels_rail allChannels allChannels_nodup s

/-- A channel that has an action exactly while it moves writes the door it moved. -/
theorem Channel.halts_eq {c : Channel} (h : c.action.isSome = c.state.moving) (r : StationRecord) :
    c.halts r =
      ((decide (c.state = .opening) || decide (c.state = .closing) || decide (c.state = .reversing)) &&
        match c.served with
        | some v => decide (v.number = r.number) && (decide (v.role = .openDoor) || decide (v.role = .closeDoor))
        | none => false) := by
  have hserved : ∀ v : Served, (writesDoor v.role && decide (r.number = v.number)) =
      (decide (v.number = r.number) && (decide (v.role = .openDoor) || decide (v.role = .closeDoor))) := fun v => by
    rw [Bool.and_comm, decide_eq_decide.mpr (eq_comm (a := r.number))]
    cases v.role <;> rfl
  have hstate : (c.state.halts && c.state.moving) =
      (decide (c.state = .opening) || decide (c.state = .closing) || decide (c.state = .reversing)) := by
    cases c.state <;> rfl
  rw [Channel.halts, h, hstate]
  cases c.served with
  | none => rfl
  | some v => exact congrArg _ (hserved v)

/-! ## The rise and the fall reach the doors -/

theorem State.haltChannel_modChain (s : State) (f : StopChain → StopChain) (k : Fin 8) :
    (s.modChain f).haltChannel k = (s.haltChannel k).modChain f := by
  have hdoor : ∀ (u : State) n d, (u.modChain f).doorWrite n d = (u.doorWrite n d).modChain f := fun u n d => by
    by_cases h : ∃ r ∈ u.rail.cabins, r.number = n
    · rw [State.doorWrite_listed h, State.doorWrite_listed (s := u.modChain f) h]; rfl
    · have hnone : ∀ r ∈ u.rail.cabins, r.number ≠ n := fun r hr hn => h ⟨r, hr, hn⟩
      rw [State.doorWrite_stale hnone, State.doorWrite_stale (s := u.modChain f) hnone]; rfl
  have hwrite : ∀ (u : State) d, (u.modChain f).channelWrite k d = (u.channelWrite k d).modChain f := fun u d => by
    unfold State.channelWrite
    rw [show (u.modChain f).channel k = u.channel k from rfl]
    cases (u.channel k).served with
    | none => rfl
    | some v =>
      simp only [hdoor]
      split <;> rfl
  unfold State.haltChannel
  rw [show (s.modChain f).channel k = s.channel k from rfl]
  dsimp only
  split
  · split
    · rw [show (s.modChain f).countDoors (Ctr.halt k) = (s.countDoors (Ctr.halt k)).modChain f from rfl, hwrite]; rfl
    · rfl
  · rfl

theorem State.haltAll_modChain (s : State) (f : StopChain → StopChain) : (s.modChain f).haltAll = s.haltAll.modChain f := by
  unfold State.haltAll
  generalize allChannels = l
  induction l generalizing s with
  | nil => rfl
  | cons k l ih => rw [List.foldl_cons, List.foldl_cons, State.haltChannel_modChain, ih]

/-- A rise to EMERGENCY halts the channels (R132, R176). -/
theorem State.setAsserted_halts {s : State} (h : s.chain.asserted ≠ .emergency) :
    (s.setAsserted .emergency).doors = s.haltAll.doors ∧ (s.setAsserted .emergency).rail = s.haltAll.rail := by
  simp [State.setAsserted, if_neg (Ne.symm h), State.tellDoors, h, State.haltAll_modChain]

/-- A fall from EMERGENCY releases them (R133, R176). -/
theorem State.setAsserted_releases {s : State} {c : Category} (h : s.chain.asserted = .emergency) (hc : c ≠ .emergency) :
    (s.setAsserted c).doors = s.releaseAll.doors ∧ (s.setAsserted c).rail = s.rail := by
  simp [State.setAsserted, State.tellDoors, h, hc]
  rfl

/-- The doors and the station rail after a raise are those of the change of A it makes. -/
theorem State.raise_doors_rail (s : State) (c : Cause) (d : Detail) (m : Bool) :
    ∃ l, (s.raise c d m).doors = ((s.raised c l).setAsserted (s.raise c d m).chain.asserted).doors ∧
      (s.raise c d m).rail = ((s.raised c l).setAsserted (s.raise c d m).chain.asserted).rail := by
  cases h : s.inSet c
  · refine ⟨s.chain.causes ++ [newRecord c (s.chain.table[causeCode c]).category d m], ?_⟩
    have e : s.raise c d m = (s.raised c (s.chain.causes ++ [_])).judgeRise.handOnEntry _ := State.raise_new h d m
    rw [e, State.handOnEntry_chain, State.handOnEntry_doors, State.handOnEntry_rail, ← State.judgeRise_eq]
    exact ⟨rfl, rfl⟩
  · refine ⟨s.chain.causes.map fun r => if r.code = c then r.again (s.chain.table[causeCode c]).category d m else r, ?_⟩
    have e : s.raise c d m = (s.raised c (s.chain.causes.map _)).judgeRise := State.raise_known h d m
    rw [e, ← State.judgeRise_eq]
    exact ⟨rfl, rfl⟩

/-- The counting of a raise and its change of the set do not reach the halt. -/
theorem State.raised_haltAll (s : State) (c : Cause) (l : List CauseRecord) :
    (s.raised c l).haltAll.doors = s.haltAll.doors ∧ (s.raised c l).haltAll.rail = s.haltAll.rail := by
  simp [State.raised, State.countChain, State.haltAll_modChain]

theorem State.raise_halts {s : State} {c : Cause} {d : Detail} {m : Bool} (hold : s.chain.asserted ≠ .emergency)
    (hnew : (s.raise c d m).chain.asserted = .emergency) :
    (s.raise c d m).doors = s.haltAll.doors ∧ (s.raise c d m).rail = s.haltAll.rail := by
  obtain ⟨l, hdoors, hrail⟩ := s.raise_doors_rail c d m
  obtain ⟨hd, hr⟩ := State.setAsserted_halts (s := s.raised c l) hold
  rw [hdoors, hrail, hnew, hd, hr]
  exact s.raised_haltAll c l

theorem State.raise_haltsNot {s : State} {c : Cause} {d : Detail} {m : Bool}
    (h : s.chain.asserted = .emergency ∨ (s.raise c d m).chain.asserted ≠ .emergency) :
    (s.raise c d m).doors = s.doors ∧ (s.raise c d m).rail = s.rail := by
  obtain ⟨l, hdoors, hrail⟩ := s.raise_doors_rail c d m
  have hge := s.raise_asserted_ge c d m
  rw [hdoors, hrail]
  by_cases hold : s.chain.asserted = .emergency
  · have hnew : (s.raise c d m).chain.asserted = .emergency := by
      rw [hold] at hge
      exact Category.rank_injective (Nat.le_antisymm (Category.rank_le_emergency _) hge)
    rw [State.setAsserted_same (s := s.raised c l) (hnew.trans hold.symm)]
    exact ⟨rfl, rfl⟩
  · exact State.setAsserted_quietDoors (s := s.raised c l) hold (h.resolve_left hold)

/-! ## The release of one channel -/

theorem Channel.release_other {c : Channel} (h : c.state ≠ .halted) : c.release = c := if_neg h

theorem Channel.release_halted {c : Channel} (h : c.state = .halted) :
    c.release =
      let ready : Channel := { c with state := .ready, served := none, changes := { c.changes with state := true } }
      if c.entry.role = .gate ∧ c.gateOpen = true ∧ c.mode ≠ .local_ then ready.closeGate else ready := by
  unfold Channel.release
  rw [if_pos h]
  simp [Channel.enter, h]

theorem State.settleRequest_reach (rq : Requester) (code : RequestCode) (tag : Byte) (r : Reply) :
    (State.settleRequest rq code tag r).chain = r.1.chain ∧ (State.settleRequest rq code tag r).doors = r.1.doors ∧
      (State.settleRequest rq code tag r).rail = r.1.rail := by
  rw [State.settleRequest, State.answerTo]
  split <;> simp

/-- Settles O29: the halt of each channel and its doors; the rise to EMERGENCY by a raise and by STOP; the release by a
permit. -/
theorem emergencyHaltsTheChannels : Obligations.EmergencyHaltsTheChannels := by
  refine ⟨fun s k => ?channel, fun s => ?doors, fun s c d m => ?raise, fun s rq tag hpin hcon => ?requests⟩
  case channel =>
    intro c d
    have hd : d = c.halted := s.haltAll_halted k
    refine ⟨fun hst => ?_, fun hst => ?_, ?_, s.haltAll_groupOn⟩
    · have hhalts : c.state.halts = true := by obtain h | h | h | h := hst <;> rw [h] <;> rfl
      rw [hd, Channel.halted_of_halts hhalts]
      refine ⟨rfl, rfl, rfl, rfl, rfl, rfl, rfl, rfl, rfl, rfl, rfl, rfl, rfl, ?_, rfl, rfl⟩
      show Option.map _ (if _ then _ else _) = _
      split
      · exact c.wrote_identity .unknown
      · rfl
    · have hstays : ¬ c.state.halts = true := by obtain h | h | h | h := hst <;> rw [h] <;> decide
      rw [hd, Channel.halted, if_neg hstays]
    · exact s.haltAll_reach
  case doors =>
    intro doorless hmoving
    obtain ⟨hcabins, hrest⟩ := s.haltAll_rail
    have hlist : List.finRange 8 = allChannels := by decide
    have hsame : (fun r => allChannels.any fun k => (s.channel k).halts r) = doorless := by
      funext r
      simp only [Channel.halts_eq (hmoving _), doorless, hlist] <;> rfl
    rw [hcabins, ← hsame]
    exact ⟨rfl, hrest⟩
  case raise =>
    exact ⟨State.raise_halts, State.raise_haltsNot⟩
  case requests =>
    intro left
    refine ⟨fun hold => ?stop, fun hstill hold hnew => ?permit⟩
    case stop =>
      have hE : (s.consoleStop .emergency).chain.asserted = .emergency :=
        Category.rank_injective (Nat.le_antisymm (Category.rank_le_emergency _)
          (s.raise_requested_le .consoleStop { requested := some .emergency } true))
      obtain ⟨hdoors, hrail⟩ := State.raise_halts hold hE
      refine ⟨_, exec_stop_console_or_summit hpin (.inl hcon) tag (some .emergency), ?_⟩
      obtain ⟨hc, hd, hr⟩ := State.settleRequest_reach rq .stop tag (s.doStop (some .emergency))
      rw [hc, hd, hr, State.doStop_of_ne_none (by decide)]
      exact ⟨hE, hdoors, hrail⟩
    case permit =>
      have hleft : afterPermit s.chain.causes = left := afterPermit_eq _
      have hpermit : s.permit = s.permitted.setAsserted (demandedOf left) := by rw [State.permit_eq, hleft]
      obtain ⟨hdoors, hrail⟩ := State.setAsserted_releases (s := s.permitted) hold hnew
      refine ⟨_, exec_restartPermit_console hpin hcon tag, ?_⟩
      obtain ⟨hc, hd, hr⟩ := State.settleRequest_reach rq .restartPermit tag s.doRestartPermit
      unfold State.channel
      rw [hc, hd, hr, State.doRestartPermit_still hstill, hpermit, hdoors, hrail]
      refine ⟨State.setAsserted_asserted _ _, rfl, rfl, rfl, rfl, fun k => ?_⟩
      intro c ready shuts
      rw [show s.permitted.releaseAll.doors.channels[k] = c.release from s.permitted.releaseAll_channel k]
      refine ⟨Channel.release_other, fun hst => ?_⟩
      have hrelease := Channel.release_halted hst
      refine ⟨fun h => hrelease.trans (if_neg h), fun h hlocked => ?_, fun h hlocked => ?_⟩
      · rw [hrelease, if_pos h, Channel.closeGate_ready rfl, if_pos hlocked]
      · rw [hrelease, if_pos h, Channel.closeGate_ready rfl, if_neg (by rw [hlocked]; decide)]

end Sys2Proof.Machine


/-! The ports' small rules: what is due on a closed port, the arbiter's pick, the rejoin timer, the frame that leaves
(R15 to R17, R33, R34). -/

namespace Sys2Proof.Machine

theorem State.modPort_congr {s : State} {p : Port} {f g : PortUnit → PortUnit} (h : f (s.port p) = g (s.port p)) :
    s.modPort p f = s.modPort p g := by
  cases p <;> simp_all [State.modPort]

theorem State.modPort_same {s : State} {p : Port} {f : PortUnit → PortUnit} (h : f (s.port p) = s.port p) :
    s.modPort p f = s :=
  (State.modPort_congr (g := fun u => u) h).trans (s.modPort_id p)

theorem State.modPort_modPort (s : State) (p : Port) (f g : PortUnit → PortUnit) :
    (s.modPort p f).modPort p g = s.modPort p fun u => g (f u) := by
  cases p <;> rfl

/-! ## Nothing to pick (R33) -/

theorem PortUnit.readyClass_iff {u : PortUnit} {c : Fin 4} :
    u.readyClass c = true ↔ permitted u.mode c = true ∧ u.queues[c] ≠ [] := by
  simp [PortUnit.readyClass]

theorem PortUnit.walk_none {u : PortUnit} (h : ∀ c, u.readyClass c = false) : ∀ k t, u.walk k t = none
  | 0, _ => rfl
  | k + 1, t => by rw [PortUnit.walk, if_neg (by rw [h]; decide), PortUnit.walk_none h k]

theorem PortUnit.pickClass_none {u : PortUnit} (h : ∀ c, u.readyClass c = false) (mode : Scheduler) :
    u.pickClass mode = none := by
  cases mode
  · simp [PortUnit.pickClass, h]
  · simp [PortUnit.pickClass, h, PortUnit.walk_none h]

theorem PortUnit.readyClass_closed {u : PortUnit}
    (h : u.mode = .detached ∨ u.mode = .rejoining ∨ ∀ d : Fin 4, u.queues[d] = []) (c : Fin 4) : u.readyClass c = false := by
  obtain h | h | h := h
  · simp [PortUnit.readyClass, permitted, h]
  · simp [PortUnit.readyClass, permitted, h]
  · have := h c
    simp_all [PortUnit.readyClass]

/-- Nothing is due on a port that takes no frames. -/
theorem State.settle_closed {s : State} {p : Port} (h : (s.port p).mode = .detached ∨ (s.port p).mode = .rejoining) :
    s.settle p = s := by
  have hnone : ∀ m, (s.port p).pickClass m = none :=
    PortUnit.pickClass_none (PortUnit.readyClass_closed (h.imp_right .inl))
  cases p
  · exact State.duePick_of_none (.inr (hnone _))
  · have hask : s.askReady = false := by
      obtain h | h := h <;> simp_all [State.askReady]
    exact State.settle_of_none (.inr (hnone _)) hask

/-- A closed port's state is set without more ado. -/
theorem State.enterMode_closed {s : State} {p : Port} (h : (s.port p).mode = .detached ∨ (s.port p).mode = .rejoining)
    (m : PortMode) : s.enterMode p m = s.modPort p fun u => { u with mode := m } := by
  rw [State.enterMode, State.settle_closed h]

/-! ## The rejoin timer (R16) -/

theorem State.withdraw_port (s : State) (c : Cause) (p : Port) : (s.withdraw c).port p = s.port p := by
  cases p <;> simp

theorem State.rejoinExpiry_running {s : State} {p : Port} {n : Nat} (hm : (s.port p).mode = .detached)
    (hr : (s.port p).rejoin = some n) :
    s.rejoinExpiry p =
      ((s.modPort p fun u => { u with mode := .rejoining, goodRun := 0, rejoin := none }).withdraw (portCause p)).notice
        (.portState p .detached .rejoining (s.port p).errors) := by
  have hrunning : (s.port p).mode = .detached ∧ (s.port p).rejoin.isSome = true := ⟨hm, by rw [hr]; rfl⟩
  rw [State.rejoinExpiry]
  dsimp only
  rw [if_pos hrunning, State.enterMode_closed (.inl hm), State.modPort_modPort, State.reportMode, State.withdraw_port,
    State.modPort_port]

theorem State.rejoinExpiry_stopped {s : State} {p : Port} (h : (s.port p).mode ≠ .detached ∨ (s.port p).rejoin = none) :
    s.rejoinExpiry p = s := by
  have hstopped : ¬((s.port p).mode = .detached ∧ (s.port p).rejoin.isSome = true) := by
    rintro ⟨hm, hr⟩
    obtain h | h := h
    · exact h hm
    · rw [h] at hr; exact Bool.noConfusion hr
  exact if_neg hstopped

/-! ## The frame that leaves (R17, R38, R44) -/

theorem State.leave_free {s : State} {p : Port} (h : (s.port p).inFlight = none) : s.leave p = s := by
  rw [State.leave, h]

theorem State.leave_frame {s : State} {p : Port} {c : Fin 4} {f : Frame} (h : (s.port p).inFlight = some (c, f)) :
    s.leave p = ((s.modPort p fun u => { u with inFlight := none }).countPort p (Ctr.transmitted c)).frameLeft f := by
  rw [State.leave, h]

/-- Settles O5: the rejoin timer by mode and timer; the leaving frame by its origin. -/
theorem rejoinTimerAndFrameLeaves : Obligations.RejoinTimerAndFrameLeaves := by
  refine ⟨fun s p hpin => ⟨fun n hm hr => ?_, fun h => ?_⟩, fun s p hpin => ⟨fun h => ?_, fun c f h => ?_⟩⟩
  · have hexec : exec (.rejoinTimerExpiry p) s = .next (s.rejoinExpiry p) :=
      State.live_run hpin fun s => s.rejoinExpiry p
    rw [hexec, State.rejoinExpiry_running hm hr]
    cases p <;> rfl
  · have hexec : exec (.rejoinTimerExpiry p) s = .next (s.rejoinExpiry p) :=
      State.live_run hpin fun s => s.rejoinExpiry p
    rw [hexec, State.rejoinExpiry_stopped h]
  · have hexec : exec (.frameLeaves p) s = .next (s.leave p) := State.live_run hpin fun s => s.leave p
    rw [hexec, State.leave_free h]
  · intro u
    have hexec : exec (.frameLeaves p) s = .next (u.frameLeft f) :=
      (State.live_run hpin fun s => s.leave p).trans (congrArg Host.Outcome.next (State.leave_frame h))
    have hpoller : u.poller = s.poller := by simp [u]
    refine ⟨fun hown => ?_, fun n hroll => ?_, fun k a hask hout => ?_, fun k hask hnone => ?_⟩
    · rw [hexec, State.frameLeft]
      obtain h | h := hown <;> rw [h]
    · rw [hexec, State.frameLeft, hroll]
      simp only [State.rollLeaves, hpoller]
      rfl
    · rw [hexec, State.frameLeft, hask]
      simp only [State.askLeaves, hpoller, hout]
      rfl
    · rw [hexec, State.frameLeft, hask]
      simp only [State.askLeaves, hpoller, hnone]

/-! ## The arbiter (R33, R34) -/

theorem State.duePick_some {s : State} {p : Port} {c : Fin 4} {t : Fin 7} {f : Frame} {rest : List Frame}
    (hfree : (s.port p).inFlight = none) (hpick : (s.port p).pickClass s.admin.part.scheduler = some (c, t))
    (hq : (s.port p).queues[c] = f :: rest) :
    s.duePick p = s.modPort p fun u => { u with queues := u.queues.set c rest, inFlight := some (c, f), turn := t } := by
  refine State.modPort_congr ?_
  simp only [PortUnit.duePick, hfree, hpick, PortUnit.picked, hq]

theorem turnClass_eq : ∀ t : Fin 7, ([1, 2, 1, 3, 1, 2, 1] : List (Fin 4)).getD t.val 0 = turnClass t := by decide

/-- The `k`-th turn after a turn is `k` steps of the pattern away. -/
theorem turn_add : ∀ t k : Fin 7, t + k = (· + 1)^[k.val] t := by decide

/-- The walk takes the first turn whose queue holds a frame. -/
theorem PortUnit.walk_first {u : PortUnit} : ∀ (n k : Nat) (t : Fin 7), k < n →
    (∀ j < k, u.readyClass (turnClass ((· + 1)^[j] t)) = false) →
    u.readyClass (turnClass ((· + 1)^[k] t)) = true →
    u.walk n t = some (turnClass ((· + 1)^[k] t), (· + 1)^[k] t + 1)
  | n + 1, 0, t, _, _, hready => by
    rw [PortUnit.walk]
    exact if_pos hready
  | n + 1, k + 1, t, hk, hempty, hready => by
    have hfirst : u.readyClass (turnClass t) = false := hempty 0 (Nat.succ_pos k)
    rw [PortUnit.walk, if_neg (by rw [hfirst]; decide), Function.iterate_succ_apply]
    refine PortUnit.walk_first n k (t + 1) (Nat.lt_of_succ_lt_succ hk) (fun j hj => ?_) ?_
    · rw [← Function.iterate_succ_apply]
      exact hempty (j + 1) (Nat.succ_lt_succ hj)
    · rw [← Function.iterate_succ_apply]
      exact hready

theorem mem_allClasses : ∀ c : Fin 4, c ∈ ([0, 1, 2, 3] : List (Fin 4)) := by decide

theorem permitted_of_open {m : PortMode} (h : m = .active ∨ m = .warned) (c : Fin 4) : permitted m c = true := by
  obtain rfl | rfl := h <;> rfl

/-- Settles O6: STRICT takes the least ready class; MIXED class 0 or the first ready turn of the walk. -/
theorem arbiterPick : Obligations.ArbiterPick := by
  have hexec : ∀ (s : State) p, s.pinHeld = false → exec (.arbiterPick p) s = .next (s.duePick p) :=
    fun s p hpin => State.live_run hpin fun s => s.duePick p
  refine ⟨fun s p hpin hfree hmode => ⟨fun c f rest hq hless hopen => ?strict, fun h => ?none⟩,
    fun s p hpin hfree hmode => ⟨fun f rest hq hopen => ?zero, fun k f rest hopen hzero hempty hq => ?walk⟩⟩
  case strict =>
    have hperm : permitted (s.port p).mode c = true := by
      obtain h | h | ⟨h, rfl⟩ := hopen <;> rw [h] <;> rfl
    have hpick : (s.port p).pickClass s.admin.part.scheduler = some (c, (s.port p).turn) := by
      have hleast : ([0, 1, 2, 3] : List (Fin 4)).find? (s.port p).readyClass = some c := by
        refine find?_least (by decide) (mem_allClasses c) ?_ fun d _ hd => ?_
        · exact PortUnit.readyClass_iff.mpr ⟨hperm, by rw [hq]; simp⟩
        · have := hless d hd
          simp_all [PortUnit.readyClass]
      rw [hmode, PortUnit.pickClass, hleast, Option.map_some]
    rw [hexec s p hpin, State.duePick_some hfree hpick hq]
    exact congrArg Host.Outcome.next (State.modPort_congr rfl)
  case none =>
    rw [hexec s p hpin, State.duePick_of_none (.inr (PortUnit.pickClass_none (PortUnit.readyClass_closed h) _))]
  case zero =>
    have hperm : permitted (s.port p).mode 0 = true := by
      obtain h | h | h := hopen <;> rw [h] <;> rfl
    have hpick : (s.port p).pickClass s.admin.part.scheduler = some (0, (s.port p).turn) := by
      rw [hmode]
      exact if_pos (PortUnit.readyClass_iff.mpr ⟨hperm, by rw [hq]; simp⟩)
    rw [hexec s p hpin, State.duePick_some hfree hpick hq]
    exact congrArg Host.Outcome.next (State.modPort_congr rfl)
  case walk =>
    have hready : ∀ c, (s.port p).readyClass c = !((s.port p).queues[c]).isEmpty := fun c => by
      rw [PortUnit.readyClass, permitted_of_open hopen, Bool.true_and]
    have hnot : ¬ (s.port p).readyClass 0 = true := by rw [hready, hzero]; decide
    simp only [turnClass_eq] at hempty hq ⊢
    have hpick : (s.port p).pickClass s.admin.part.scheduler =
        some (turnClass ((s.port p).turn + k), (s.port p).turn + k + 1) := by
      rw [hmode, PortUnit.pickClass, if_neg hnot, turn_add]
      refine PortUnit.walk_first 7 k.val _ k.isLt (fun j hj => ?_) ?_
      · rw [← turn_add _ ⟨j, hj.trans k.isLt⟩, hready, hempty ⟨j, hj.trans k.isLt⟩ hj]; rfl
      · rw [← turn_add, hready, hq]; rfl
    rw [hexec s p hpin, State.duePick_some hfree hpick hq]
    exact congrArg Host.Outcome.next (State.modPort_congr rfl)

end Sys2Proof.Machine


/-! The offer of a frame to a transmit queue (R14 to R16, R30 to R32) and the frames it drops (R38, R44). -/

namespace Sys2Proof.Machine

/-! ## The offer (R30 to R32) -/

theorem queueCapacity_eq (c : Fin 4) : Config.queueCapacity c = if c.val < 2 then 8 else 16 := by
  revert c; decide

theorem State.push_refused {s : State} {p : Port} {c : Fin 4} (h : takesOffer (s.port p).mode c = false) (f : Frame) :
    s.push p c f = ((s.countPort p (refusalCounter (s.port p).mode c)).frameDropped f, false) :=
  if_pos h

theorem State.push_room {s : State} {p : Port} {c : Fin 4} (h : takesOffer (s.port p).mode c = true)
    (hroom : (s.port p).queues[c].length < Config.queueCapacity c) (f : Frame) :
    s.push p c f = (s.modPort p fun u => { u with queues := u.queues.set c (u.queues[c] ++ [f]) }, true) := by
  have hhas : (s.port p).hasRoom c = true := decide_eq_true hroom
  rw [State.push]
  simp only [h, hhas, Bool.true_eq_false, if_false, if_true]
  exact congrArg (·, true) (State.modPort_congr rfl)

theorem PortUnit.hasRoom_full {u : PortUnit} {c : Fin 4} (h : Config.queueCapacity c ≤ u.queues[c].length) :
    u.hasRoom c = false :=
  decide_eq_false (Nat.not_lt.mpr h)

theorem Frame.hasKind_iff {f g : Frame} : Frame.hasKind f.kindNibble g = true ↔ g.kindNibble = f.kindNibble := by
  simp [Frame.hasKind]

/-- The oldest frame of the offered kind makes room in class 0. -/
theorem classZero_kind {old new : List Frame} {f g : Frame} (hold : ∀ x ∈ old, x.kindNibble ≠ f.kindNibble)
    (hg : g.kindNibble = f.kindNibble) :
    classZeroVictim (old ++ g :: new) f = some g ∧ classZeroRoom (old ++ g :: new) f = old ++ new := by
  have hnot : ∀ x ∈ old, ¬ Frame.hasKind f.kindNibble x = true := fun x hx h => hold x hx (Frame.hasKind_iff.mp h)
  have hkind : Frame.hasKind f.kindNibble g = true := Frame.hasKind_iff.mpr hg
  have hfind : (old ++ g :: new).find? (Frame.hasKind f.kindNibble) = some g := by
    rw [List.find?_append, List.find?_eq_none.mpr hnot, List.find?_cons_of_pos hkind]
    rfl
  refine ⟨by rw [classZeroVictim, hfind], ?_⟩
  rw [classZeroRoom, if_pos (by simp [hkind]), List.eraseP_append_right _ hnot, List.eraseP_cons_of_pos hkind]

/-- Without a frame of the offered kind the oldest makes room in class 0. -/
theorem classZero_oldest {new : List Frame} {f g : Frame} (hg : g.kindNibble ≠ f.kindNibble)
    (hnew : ∀ x ∈ new, x.kindNibble ≠ f.kindNibble) :
    classZeroVictim (g :: new) f = some g ∧ classZeroRoom (g :: new) f = new := by
  have hnot : ∀ x ∈ g :: new, ¬ Frame.hasKind f.kindNibble x = true := fun x hx h => by
    obtain rfl | hx := List.mem_cons.mp hx
    · exact hg (Frame.hasKind_iff.mp h)
    · exact hnew x hx (Frame.hasKind_iff.mp h)
  refine ⟨by rw [classZeroVictim, List.find?_eq_none.mpr hnot]; rfl, ?_⟩
  rw [classZeroRoom, if_neg (by simpa using hnot)]
  rfl

theorem State.push_fullZero {s : State} {p : Port} (h : takesOffer (s.port p).mode 0 = true)
    (hfull : Config.queueCapacity 0 ≤ (s.port p).queues[(0 : Fin 4)].length) {f g : Frame} {left : List Frame}
    (hvictim : classZeroVictim (s.port p).queues[(0 : Fin 4)] f = some g)
    (hleft : classZeroRoom (s.port p).queues[(0 : Fin 4)] f = left) :
    s.push p 0 f =
      (((s.countSwitch (fullDropCounter p 0)).modPort p fun v => v.withQueue 0 (left ++ [f])).frameDropped g, true) := by
  rw [State.push]
  simp only [h, PortUnit.hasRoom_full hfull, hvictim, Bool.true_eq_false, Bool.false_eq_true, if_false, if_true]
  refine congrArg (fun t => (State.frameDropped t g, true)) (State.modPort_congr ?_)
  rw [State.countSwitch_port, hleft]

theorem State.push_fullOne {s : State} {p : Port} (h : takesOffer (s.port p).mode 1 = true)
    (hfull : Config.queueCapacity 1 ≤ (s.port p).queues[(1 : Fin 4)].length) (f : Frame) :
    s.push p 1 f =
      ((s.countSwitch (fullDropCounter p 1)).modPort p fun v => v.withQueue 1 (v.queues[(1 : Fin 4)].tail ++ [f]), true) := by
  have hzero : ¬ (1 : Fin 4) = 0 := by decide
  rw [State.push]
  simp only [h, PortUnit.hasRoom_full hfull, hzero, Bool.true_eq_false, Bool.false_eq_true, if_false, if_true]

theorem State.push_fullHigh {s : State} {p : Port} {c : Fin 4} (hc : 2 ≤ c.val) (h : takesOffer (s.port p).mode c = true)
    (hfull : Config.queueCapacity c ≤ (s.port p).queues[c].length) (f : Frame) :
    s.push p c f = ((s.countSwitch (fullDropCounter p c)).frameDropped f, false) := by
  have hzero : c ≠ 0 := fun e => by rw [e] at hc; exact absurd hc (by decide)
  have hone : c ≠ 1 := fun e => by rw [e] at hc; exact absurd hc (by decide)
  rw [State.push]
  simp only [h, PortUnit.hasRoom_full hfull, hzero, hone, Bool.true_eq_false, Bool.false_eq_true, if_false]

/-! ## The frames dropped (R38, R44) -/

theorem State.frameDropped_roll {f : Frame} {n : Byte} (h : f.origin = .roll n) (s : State) :
    s.frameDropped f = s.rollDropped n := by rw [State.frameDropped, h]

theorem State.frameDropped_ask {f : Frame} {k : Nat} (h : f.origin = .ask k) (s : State) :
    s.frameDropped f = s.askFlushed k := by rw [State.frameDropped, h]

theorem State.frameDropped_other {f : Frame} (h : f.origin = .own ∨ f.origin = .switched) (s : State) :
    s.frameDropped f = s := by
  obtain h | h := h <;> rw [State.frameDropped, h]

/-- Settles O9: the offer by the port state, the room and the class; the frame dropped by its origin. -/
theorem offerPolicy : Obligations.OfferPolicy := by
  refine ⟨fun s p c f hsettled => ?offer, fun s f => ⟨fun n hroll => ?_, fun k a hask hout => ?_, fun k hask hnone => ?_,
    fun h => State.frameDropped_other h s⟩⟩
  case offer =>
    have hoffer : s.offerSaying p c f = s.push p c f := by rw [State.offerSaying, hsettled]
    rw [hoffer, ← queueCapacity_eq]
    refine ⟨fun h => State.push_refused h f, fun h hroom => State.push_room h hroom f, fun h hfull => ?_⟩
    intro u
    refine ⟨fun hc old new g hq hold => ⟨fun hg => ?_, fun hnil hg hnew => ?_⟩, fun hc => ?_, fun hc => ?_⟩
    · subst hc
      obtain ⟨hvictim, hleft⟩ := classZero_kind (new := new) hold hg
      exact State.push_fullZero h hfull (hq ▸ hvictim) (hq ▸ hleft)
    · subst hc hnil
      obtain ⟨hvictim, hleft⟩ := classZero_oldest hg hnew
      exact State.push_fullZero h hfull (hq ▸ hvictim) (hq ▸ hleft)
    · subst hc
      exact State.push_fullOne h hfull f
    · exact State.push_fullHigh hc h hfull f
  · rw [State.frameDropped_roll hroll]; rfl
  · rw [State.frameDropped_ask hask, State.askFlushed, hout]; rfl
  · rw [State.frameDropped_ask hask, State.askFlushed, hnone]

end Sys2Proof.Machine


/-! Reception and the port states: the checks of a frame, the error count, the flush at the entry to MUTED and DETACHED
(R4, R11 to R16, R38, R44). -/

namespace Sys2Proof.Machine

/-! ## Flushed frames and the poller (R38, R44) -/

/-- Whether a frame is the outstanding roll's own, in QUEUED. -/
def Poller.holdsRoll (v : Poller) (f : Frame) : Bool :=
  match f.origin with
  | .roll n => decide (v.roll = some (n, .queued))
  | _ => false

/-- Whether a frame is the outstanding ask's own, in QUEUED. -/
def Poller.holdsAsk (v : Poller) (f : Frame) : Bool :=
  match f.origin, v.ask with
  | .ask k, some a => decide (a.serial = k) && decide (a.phase = .queued)
  | _, _ => false

/-- The poller once frames have been dropped without leaving: an outstanding roll or ask among them ends as unsent. -/
def Poller.unsent (v : Poller) (roll ask : Bool) : Poller :=
  let w := if roll then bump v.counters Ctr.unsentRoll else v.counters
  { v with
    roll := if roll then none else v.roll, ask := if ask then none else v.ask
    counters := if ask then bump w Ctr.unsentAsk else w }

theorem Poller.unsent_none (v : Poller) : v.unsent false false = v := rfl

theorem Ctr.unsentRoll_ne_unsentAsk : Ctr.unsentRoll ≠ Ctr.unsentAsk := by decide

/-- Roll and ask end once: what ends first is not there to end again. -/
theorem Poller.unsent_unsent (v : Poller) (r a r' a' : Bool) (hr : r = true → r' = false) (ha : a = true → a' = false) :
    (v.unsent r a).unsent r' a' = v.unsent (r || r') (a || a') := by
  cases r <;> cases a <;> cases r' <;> cases a' <;> simp_all [Poller.unsent, bump, upd_comm _ _ _ Ctr.unsentRoll_ne_unsentAsk]

theorem Poller.holdsRoll_unsent (v : Poller) (r a : Bool) (f : Frame) :
    (v.unsent r a).holdsRoll f = if r then false else v.holdsRoll f := by
  cases r <;> simp only [Poller.holdsRoll, Poller.unsent] <;> cases f.origin <;> rfl

theorem Poller.holdsAsk_unsent (v : Poller) (r a : Bool) (f : Frame) :
    (v.unsent r a).holdsAsk f = if a then false else v.holdsAsk f := by
  cases a <;> simp only [Poller.holdsAsk, Poller.unsent] <;> cases f.origin <;> rfl

theorem State.modPoller_holds {s : State} {f : Frame} {r a : Bool} (hr : s.poller.holdsRoll f = r)
    (ha : s.poller.holdsAsk f = a) :
    (s.modPoller fun v => v.unsent (v.holdsRoll f) (v.holdsAsk f)) = s.modPoller fun v => v.unsent r a := by
  subst hr ha
  rfl

theorem State.modPoller_holdsNeither {s : State} {f : Frame} (hr : s.poller.holdsRoll f = false)
    (ha : s.poller.holdsAsk f = false) : (s.modPoller fun v => v.unsent (v.holdsRoll f) (v.holdsAsk f)) = s := by
  rw [State.modPoller_holds hr ha]
  rfl

theorem State.frameDropped_eq (s : State) (f : Frame) :
    s.frameDropped f = s.modPoller fun v => v.unsent (v.holdsRoll f) (v.holdsAsk f) := by
  cases horigin : f.origin with
  | roll n =>
    have ha : s.poller.holdsAsk f = false := by rw [Poller.holdsAsk, horigin]
    rw [State.frameDropped_roll horigin, State.rollDropped]
    by_cases h : s.poller.roll = some (n, .queued)
    · have hr : s.poller.holdsRoll f = true := by rw [Poller.holdsRoll, horigin]; exact decide_eq_true h
      rw [if_pos h, State.modPoller_holds hr ha]
      rfl
    · have hr : s.poller.holdsRoll f = false := by rw [Poller.holdsRoll, horigin]; exact decide_eq_false h
      rw [if_neg h, State.modPoller_holdsNeither hr ha]
  | ask k =>
    have hr : s.poller.holdsRoll f = false := by rw [Poller.holdsRoll, horigin]
    rw [State.frameDropped_ask horigin, State.askFlushed]
    cases hask : s.poller.ask with
    | none => exact (State.modPoller_holdsNeither hr (by rw [Poller.holdsAsk, horigin, hask])).symm
    | some a =>
      have hiff : s.poller.holdsAsk f = decide (a.serial = k ∧ a.phase = .queued) := by
        rw [Poller.holdsAsk, horigin, hask, Bool.decide_and]
      by_cases h : a.serial = k ∧ a.phase = .queued
      · simp only [h, and_self, if_true]
        rw [State.modPoller_holds hr (hiff.trans (decide_eq_true h))]
        rfl
      · simp only [h, if_false]
        rw [State.modPoller_holdsNeither hr (hiff.trans (decide_eq_false h))]
  | own =>
    rw [State.frameDropped_other (.inl horigin), State.modPoller_holdsNeither] <;> simp [Poller.holdsRoll, Poller.holdsAsk, horigin]
  | switched =>
    rw [State.frameDropped_other (.inr horigin), State.modPoller_holdsNeither] <;> simp [Poller.holdsRoll, Poller.holdsAsk, horigin]

/-- The poller once a list of frames has been flushed. -/
def Poller.flushed (v : Poller) (l : List Frame) : Poller := v.unsent (l.any v.holdsRoll) (l.any v.holdsAsk)

theorem Poller.flushed_append (v : Poller) (l m : List Frame) : (v.flushed l).flushed m = v.flushed (l ++ m) := by
  have hroll : m.any (v.flushed l).holdsRoll = if l.any v.holdsRoll then false else m.any v.holdsRoll := by
    simp only [Poller.flushed, funext (Poller.holdsRoll_unsent v _ _)]
    split <;> simp
  have hask : m.any (v.flushed l).holdsAsk = if l.any v.holdsAsk then false else m.any v.holdsAsk := by
    simp only [Poller.flushed, funext (Poller.holdsAsk_unsent v _ _)]
    split <;> simp
  rw [Poller.flushed, hroll, hask, Poller.flushed, Poller.unsent_unsent _ _ _ _ _ (fun h => if_pos h) (fun h => if_pos h),
    Poller.flushed, List.any_append, List.any_append]
  cases l.any v.holdsRoll <;> cases l.any v.holdsAsk <;> rfl

theorem State.modPoller_modPort (s : State) (p : Port) (f : Poller → Poller) (g : PortUnit → PortUnit) :
    (s.modPoller f).modPort p g = (s.modPort p g).modPoller f := by
  cases p <;> rfl

theorem State.modPoller_modPoller (s : State) (f g : Poller → Poller) :
    (s.modPoller f).modPoller g = s.modPoller fun v => g (f v) := rfl

/-- A port with a counter raised by a number. -/
def PortUnit.countMany (u : PortUnit) (i : Fin 21) (n : Nat) : PortUnit :=
  { u with counters := upd u.counters i (· + BitVec.ofNat 32 n) }

theorem PortUnit.countMany_succ (u : PortUnit) (i : Fin 21) (n : Nat) :
    ({ u with counters := bump u.counters i } : PortUnit).countMany i n = u.countMany i (n + 1) := by
  have hadd : ∀ x : Counter, x + 1 + BitVec.ofNat 32 n = x + BitVec.ofNat 32 (n + 1) := fun x => by
    rw [BitVec.add_assoc, Nat.add_comm n 1, BitVec.ofNat_add]
    rfl
  simp only [PortUnit.countMany, bump, upd_upd, hadd]

theorem PortUnit.countMany_zero (u : PortUnit) (i : Fin 21) : u.countMany i 0 = u := by
  simp [PortUnit.countMany, upd_same]

/-- Frames dropped at a port: each counted there, the poller told. -/
theorem State.dropFrames_eq (p : Port) (i : Fin 21) (l : List Frame) : ∀ s : State,
    l.foldl (fun s f => (s.countPort p i).frameDropped f) s =
      (s.modPort p fun u => u.countMany i l.length).modPoller (·.flushed l) := by
  induction l with
  | nil =>
    intro s
    have hpoller : (fun v : Poller => v.flushed []) = id := rfl
    simp only [List.foldl_nil, List.length_nil, PortUnit.countMany_zero, State.modPort_id, hpoller]
    rfl
  | cons f l ih =>
    intro s
    have hone : ∀ v : Poller, v.unsent (v.holdsRoll f) (v.holdsAsk f) = v.flushed [f] := fun v => by simp [Poller.flushed]
    rw [List.foldl_cons, ih, State.frameDropped_eq, State.modPoller_modPort, State.modPoller_modPoller, State.countPort,
      State.modPort_modPort]
    simp only [PortUnit.countMany_succ, hone, Poller.flushed_append]
    rfl

theorem State.flushClass_eq (s : State) (p : Port) (counter : Fin 4 → Fin 21) (c : Fin 4) :
    s.flushClass p counter c =
      (s.modPort p fun u => (u.withQueue c []).countMany (counter c) (u.queues[c]).length).modPoller
        (·.flushed (s.port p).queues[c]) := by
  rw [State.flushClass, State.dropFrames_eq, State.modPort_modPort]
  exact congrArg (State.modPoller · _) (State.modPort_congr rfl)

/-! ## Entries to a port state (R13 to R15) -/

theorem PortUnit.queues_set {q : Vector (List Frame) 4} :
    (((q.set 0 []).set 1 []).set 2 []).set 3 [] = Vector.replicate 4 [] ∧
      ((q.set 1 []).set 2 []).set 3 [] = (Vector.replicate 4 []).set 0 q[(0 : Fin 4)] := by
  constructor <;>
    · refine Vector.ext fun i hi => ?_
      obtain rfl | rfl | rfl | rfl : i = 0 ∨ i = 1 ∨ i = 2 ∨ i = 3 := by omega
      all_goals simp

/-- A port once classes have been flushed: their queues empty, each frame counted in its class's counter. -/
def PortUnit.flush (u : PortUnit) (counter : Fin 4 → Fin 21) (l : List (Fin 4)) : PortUnit :=
  { u with
    queues := l.foldl (fun (q : Vector (List Frame) 4) (c : Fin 4) => q.set c []) u.queues
    counters := (l.map fun c => (counter c, u.queues[c].length)).foldl
      (fun v x => upd v x.1 (· + BitVec.ofNat 32 x.2)) u.counters }

theorem State.flushClasses_eq (p : Port) (counter : Fin 4 → Fin 21) (l : List (Fin 4)) : l.Nodup → ∀ s : State,
    l.foldl (fun s c => s.flushClass p counter c) s =
      (s.modPort p fun u => u.flush counter l).modPoller (·.flushed (l.flatMap fun c => (s.port p).queues[c])) := by
  induction l with
  | nil =>
    intro _ s
    have hport : (s.modPort p fun u => u.flush counter []) = s := State.modPort_same rfl
    simp only [List.foldl_nil, hport]
    rfl
  | cons c l ih =>
    intro hnodup s
    obtain ⟨hc, hl⟩ := List.nodup_cons.mp hnodup
    have hqueue : ∀ d ∈ l, ∀ u : PortUnit,
        ((u.withQueue c []).countMany (counter c) (u.queues[c]).length).queues[d] = u.queues[d] := fun d hd u => by
      have hne : c.val ≠ d.val := fun h => hc (Fin.ext h ▸ hd)
      simp [PortUnit.countMany, PortUnit.withQueue, hne]
    have hflush : ∀ u : PortUnit,
        ((u.withQueue c []).countMany (counter c) (u.queues[c]).length).flush counter l = u.flush counter (c :: l) := fun u => by
      have hmap : (l.map fun d =>
          (counter d, (((u.withQueue c []).countMany (counter c) (u.queues[c]).length).queues[d]).length)) =
            l.map fun d => (counter d, (u.queues[d]).length) :=
        List.map_congr_left fun d hd => by rw [hqueue d hd]
      rw [PortUnit.flush, hmap]
      rfl
    have hframes : (l.flatMap fun d => ((s.flushClass p counter c).port p).queues[d]) =
        l.flatMap fun d => (s.port p).queues[d] :=
      List.flatMap_congr fun d hd => by
        rw [State.flushClass_eq, State.modPoller_port, State.modPort_port, hqueue d hd]
    rw [List.foldl_cons, ih hl, hframes, State.flushClass_eq, State.modPoller_modPort, State.modPoller_modPoller, State.modPort_modPort]
    simp only [hflush, Poller.flushed_append, List.flatMap_cons]

/-- The entry to MUTED once nothing is due (R14). -/
theorem State.changeMode_muted {s : State} {p : Port} (h : s.settle p = s) :
    s.changeMode p .muted =
      ((s.modPort p fun u => ({ u with mode := .muted } : PortUnit).flush Ctr.mutedDrop [1, 2, 3]).modPoller
        (·.flushed (([1, 2, 3] : List (Fin 4)).flatMap fun c => (s.port p).queues[c]))).notice
          (.portState p (s.port p).mode .muted (s.port p).errors) := by
  rw [State.changeMode, State.enterMode, h, State.flushClasses_eq p Ctr.mutedDrop _ (by decide), State.modPort_modPort, State.reportMode,
    State.modPoller_port, State.modPort_port, State.modPort_port]
  rfl

/-- The entry to DETACHED once nothing is due (R15). -/
theorem State.enterDetached_settled {s : State} {p : Port} (h : s.settle p = s) :
    s.enterDetached p =
      (((s.modPort p fun u =>
        { ({ u with mode := .detached } : PortUnit).flush Ctr.detachDrop [0, 1, 2, 3] with
          rejoin := some (s.admin.part.rejoinDelay p), goodRun := 0
          counters := bump (({ u with mode := .detached } : PortUnit).flush Ctr.detachDrop [0, 1, 2, 3]).counters
            Ctr.detachEntries }).modPoller
        (·.flushed (([0, 1, 2, 3] : List (Fin 4)).flatMap fun c => (s.port p).queues[c]))).notice
          (.portState p (s.port p).mode .detached (s.port p).errors)).raiseHeld (portCause p) {} := by
  rw [State.enterDetached]
  dsimp only
  rw [State.enterMode, h, State.flushClasses_eq p Ctr.detachDrop _ (by decide), State.countPort, State.modPoller_modPort,
    State.modPoller_modPort, State.modPort_modPort, State.modPort_modPort, State.modPort_modPort, State.reportMode,
    State.modPoller_port, State.modPort_port, State.modPort_port]
  simp only [State.modPoller_admin, State.modPort_admin]
  rfl

/-- The other changes of state (R13). -/
theorem State.changeMode_plain {s : State} {p : Port} {m : PortMode} (h : s.settle p = s)
    (hm : m = .active ∨ m = .warned ∨ m = .rejoining) :
    s.changeMode p m =
      (s.modPort p fun u => { u with mode := m }).notice (.portState p (s.port p).mode m (s.port p).errors) := by
  have hplain : s.changeMode p m = (s.enterMode p m).reportMode p (s.port p).mode := by
    obtain rfl | rfl | rfl := hm <;> rfl
  rw [hplain, State.enterMode, h, State.reportMode, State.modPort_port]

end Sys2Proof.Machine


/-! What a port does with received bytes: the checks, the error count, REJOINING (R4, R11 to R16). -/

namespace Sys2Proof.Machine

/-! ## The four checks (R11) -/

theorem frameCheck_bad {bytes : List Byte} {cause : Fin 21}
    (h : (bytes.length < 6 ∧ cause = Ctr.short) ∨ (70 < bytes.length ∧ cause = Ctr.long) ∨
      (6 ≤ bytes.length ∧ bytes.length ≤ 70 ∧ (bytes.getD 3 0).toNat + 6 ≠ bytes.length ∧ cause = Ctr.length) ∨
      (6 ≤ bytes.length ∧ bytes.length ≤ 70 ∧ (bytes.getD 3 0).toNat + 6 = bytes.length ∧ crc bytes ≠ 0 ∧
        cause = Ctr.check)) : frameCheck bytes = some cause := by
  unfold frameCheck
  obtain ⟨hshort, rfl⟩ | ⟨hlong, rfl⟩ | ⟨hshort, hlong, hlength, rfl⟩ | ⟨hshort, hlong, hlength, hcheck, rfl⟩ := h
  · rw [if_pos hshort]
  · rw [if_neg (by omega), if_pos hlong]
  · rw [if_neg (by omega), if_neg (by omega), if_pos hlength]
  · rw [if_neg (by omega), if_neg (by omega), if_neg (by omega), if_pos hcheck]

theorem frameCheck_good {bytes : List Byte} (hshort : 6 ≤ bytes.length) (hlong : bytes.length ≤ 70)
    (hlength : (bytes.getD 3 0).toNat + 6 = bytes.length) (hcheck : crc bytes = 0) : frameCheck bytes = none := by
  unfold frameCheck
  rw [if_neg (by omega), if_neg (by omega), if_neg (by omega), if_neg (by simpa using hcheck)]

/-! ## The error count (R12, R13) -/

theorem errorsCounted_iff {m : PortMode} : errorsCounted m = true ↔ m = .active ∨ m = .warned ∨ m = .muted := by
  cases m <;> decide

theorem State.changeErrors_counted {s : State} {p : Port}
    (h : (s.port p).mode = .active ∨ (s.port p).mode = .warned ∨ (s.port p).mode = .muted) (f : Nat → Nat) :
    s.changeErrors p f =
      let errors := f (s.port p).errors
      let u := s.modPort p fun u => { u with errors := errors }
      let m := followErrors (s.port p).mode errors
      if m = (s.port p).mode then u else u.changeMode p m := by
  have hset : (s.modPort p fun u => { u with errors := f u.errors }) =
      s.modPort p fun u => { u with errors := f (s.port p).errors } := State.modPort_congr rfl
  rw [State.changeErrors, if_pos (errorsCounted_iff.mpr h)]
  simp only [State.modPort_port, hset]

theorem State.changeErrors_frozen {s : State} {p : Port} (h : (s.port p).mode = .detached ∨ (s.port p).mode = .rejoining)
    (f : Nat → Nat) : s.changeErrors p f = s := by
  rw [State.changeErrors, if_neg]
  obtain h | h := h <;> rw [h] <;> decide

/-- A frame counted at a port and its error count changed. -/
theorem State.changeErrors_countPort {s : State} {p : Port}
    (h : (s.port p).mode = .active ∨ (s.port p).mode = .warned ∨ (s.port p).mode = .muted) (cause : Fin 21) (f : Nat → Nat) :
    (s.countPort p cause).changeErrors p f =
      let errors := f (s.port p).errors
      let u := s.modPort p fun u => { u with errors := errors, counters := bump u.counters cause }
      let m := followErrors (s.port p).mode errors
      if m = (s.port p).mode then u else u.changeMode p m := by
  have hport : (s.countPort p cause).port p = { s.port p with counters := bump (s.port p).counters cause } :=
    s.modPort_port p _
  rw [State.changeErrors_counted (by rw [hport]; exact h), hport]
  simp only [State.countPort, State.modPort_modPort]

/-! ## Reception (R11, R15, R16) -/

theorem exec_frameReceived {s : State} (hpin : s.pinHeld = false) (p : Port) (bytes : List Byte) (contents : Contents) :
    exec (.frameReceived p bytes contents) s = .next (s.receive p bytes contents) :=
  State.live_run hpin fun s => s.receive p bytes contents

theorem State.receive_detached {s : State} {p : Port} (h : (s.port p).mode = .detached) (bytes : List Byte)
    (contents : Contents) : s.receive p bytes contents = s.countPort p Ctr.detachedDiscard :=
  if_pos h

theorem State.receive_bad {s : State} {p : Port} (h : (s.port p).mode ≠ .detached) {bytes : List Byte} {cause : Fin 21}
    (hcheck : frameCheck bytes = some cause) (contents : Contents) :
    s.receive p bytes contents = s.badFrame p cause := by
  rw [State.receive, if_neg h, hcheck]

theorem State.receive_good {s : State} {p : Port} (h : (s.port p).mode ≠ .detached) {bytes : List Byte}
    (hcheck : frameCheck bytes = none) (contents : Contents) :
    s.receive p bytes contents = s.goodFrame p (receivedFrame bytes) contents := by
  rw [State.receive, if_neg h, hcheck]

theorem State.countPort_port (s : State) (p : Port) (i : Fin 21) :
    (s.countPort p i).port p = { s.port p with counters := bump (s.port p).counters i } :=
  s.modPort_port p _

theorem State.badFrame_counted {s : State} {p : Port}
    (h : (s.port p).mode = .active ∨ (s.port p).mode = .warned ∨ (s.port p).mode = .muted) (cause : Fin 21) :
    s.badFrame p cause = (s.countPort p cause).errorUp p := by
  rw [State.badFrame]
  refine if_neg ?_
  rw [State.countPort_port]
  obtain h | h | h := h <;> simp [h]

theorem State.goodFrame_counted {s : State} {p : Port}
    (h : (s.port p).mode = .active ∨ (s.port p).mode = .warned ∨ (s.port p).mode = .muted) (f : Frame)
    (contents : Contents) :
    s.goodFrame p f contents = ((s.countPort p Ctr.good).errorDown p).handOnFrame p f contents := by
  rw [State.goodFrame]
  refine if_neg ?_
  rw [State.countPort_port]
  obtain h | h | h := h <;> simp [h]

theorem State.goodFrame_rejoining {s : State} {p : Port} (h : (s.port p).mode = .rejoining) (f : Frame)
    (contents : Contents) : s.goodFrame p f contents = (s.countPort p Ctr.good).rejoinGood p := by
  rw [State.goodFrame]
  exact if_pos (by rw [State.countPort_port]; exact h)

theorem State.handOnFrame_unassigned {f : Frame} (h : kindOfCode f.kindNibble = none) (s : State) (p : Port)
    (contents : Contents) : s.handOnFrame p f contents = s.countPort p Ctr.unassigned := by
  rw [State.handOnFrame, h]

/-! ## REJOINING (R16) -/

theorem State.rejoinGood_short {s : State} {p : Port} (h : (s.port p).goodRun < 15) :
    s.rejoinGood p = (s.modPort p fun u => { u with goodRun := u.goodRun + 1 }).countPort p Ctr.rejoinDiscard := by
  have hrun : satAdd 16 (s.port p).goodRun 1 = (s.port p).goodRun + 1 := Nat.min_eq_right (by omega)
  have hset : (s.modPort p fun u => { u with goodRun := satAdd 16 u.goodRun 1 }) =
      s.modPort p fun u => { u with goodRun := u.goodRun + 1 } := State.modPort_congr (by rw [hrun])
  rw [State.rejoinGood]
  simp only [hset, State.countPort_port, State.modPort_port]
  exact if_neg (by omega)

theorem State.rejoinGood_full {s : State} {p : Port} (hm : (s.port p).mode = .rejoining) (h : 15 ≤ (s.port p).goodRun) :
    s.rejoinGood p =
      (s.modPort p fun u =>
        { u with mode := .active, errors := 0, goodRun := 0, counters := bump u.counters Ctr.rejoinDiscard }).notice
          (.portState p .rejoining .active 0) := by
  have hrun : 16 ≤ satAdd 16 (s.port p).goodRun 1 := by rw [satAdd]; omega
  rw [State.rejoinGood]
  simp only [State.countPort_port, State.modPort_port]
  rw [if_pos hrun, State.enterMode_closed (.inr (by rw [State.countPort_port, State.modPort_port]; exact hm))]
  simp only [State.countPort, State.modPort_modPort, State.reportMode, State.modPort_port]

theorem State.modPoller_id (s : State) : s.modPoller id = s := rfl

/-- A flush of a port whose queues are empty leaves it. -/
theorem PortUnit.flush_empty {u : PortUnit} (h : ∀ c : Fin 4, u.queues[c] = []) (counter : Fin 4 → Fin 21)
    (l : List (Fin 4)) : u.flush counter l = u := by
  have hqueues : ∀ l : List (Fin 4), l.foldl (fun (q : Vector (List Frame) 4) (c : Fin 4) => q.set c []) u.queues = u.queues := by
    intro l
    induction l with
    | nil => rfl
    | cons c l ih => rw [List.foldl_cons, show u.queues.set c [] = u.queues from upd_same (f := fun _ => []) (h c).symm, ih]
  have hcounters : ∀ l : List (Fin 4), (l.map fun c => (counter c, u.queues[c].length)).foldl
      (fun v x => upd v x.1 (· + BitVec.ofNat 32 x.2)) u.counters = u.counters := by
    intro l
    induction l with
    | nil => rfl
    | cons c l ih => rw [List.map_cons, List.foldl_cons, upd_same (by simp [h c]), ih]
  rw [PortUnit.flush, hqueues, hcounters]

/-- A bad frame takes a REJOINING port with empty queues back to DETACHED. -/
theorem State.enterDetached_rejoining {s : State} {p : Port} (hm : (s.port p).mode = .rejoining)
    (hq : ∀ c : Fin 4, (s.port p).queues[c] = []) :
    s.enterDetached p =
      ((s.modPort p fun u =>
        { u with
          mode := .detached, goodRun := 0, rejoin := some (s.admin.part.rejoinDelay p)
          counters := bump u.counters Ctr.detachEntries }).notice
        (.portState p .rejoining .detached (s.port p).errors)).raiseHeld (portCause p) {} := by
  have hframes : (([0, 1, 2, 3] : List (Fin 4)).flatMap fun c => (s.port p).queues[c]) = [] := by simp [hq]
  have hflush : ({ s.port p with mode := .detached } : PortUnit).flush Ctr.detachDrop [0, 1, 2, 3] =
      { s.port p with mode := .detached } := PortUnit.flush_empty (u := { s.port p with mode := .detached }) hq _ _
  rw [State.enterDetached_settled (State.settle_closed (.inr hm)), hframes, hm]
  refine congrArg (fun t => (State.notice t _).raiseHeld (portCause p) {}) ?_
  have hpoller : (fun v : Poller => v.flushed []) = id := rfl
  rw [hpoller]
  refine (State.modPoller_id _).trans (State.modPort_congr ?_)
  rw [hflush]

/-- Settles O7: the bad and the good frame by the port state; the entries to a port state; the error count by state. -/
theorem reception : Obligations.Reception := by
  refine ⟨fun s p bytes contents hpin hopen => ?counted, fun s p bytes contents hpin => ?closed, fun s p m hsettled => ?entry,
    fun s p => ?errors⟩
  case counted =>
    intro follow moved
    have hfollow : follow = followErrors := by
      funext m e
      cases m <;> rfl
    have hdetached : (s.port p).mode ≠ .detached := by
      obtain h | h | h := hopen <;> rw [h] <;> decide
    refine ⟨fun cause h => ?_, fun hshort hlong hlength hcheck hkind => ?_⟩
    · rw [exec_frameReceived hpin, State.receive_bad hdetached (frameCheck_bad h), State.badFrame_counted hopen, State.errorUp,
        State.changeErrors_countPort hopen]
      simp only [moved, hfollow]
      rfl
    · rw [exec_frameReceived hpin, State.receive_good hdetached (frameCheck_good hshort hlong hlength hcheck),
        State.goodFrame_counted hopen, State.handOnFrame_unassigned (kindOfCode_none (n := (receivedFrame bytes).kindNibble) hkind), State.errorDown,
        State.changeErrors_countPort hopen]
      simp only [moved, hfollow]
  case closed =>
    refine ⟨fun hm => ?_, fun hm hcheck hrun => ?_, fun hm hcheck hrun => ?_, fun cause hm hcheck hq => ?_⟩
    · rw [exec_frameReceived hpin, State.receive_detached hm]
    · rw [exec_frameReceived hpin, State.receive_good (by rw [hm]; decide) hcheck, State.goodFrame_rejoining hm,
        State.rejoinGood_short (by rw [State.countPort_port]; exact hrun)]
    · rw [exec_frameReceived hpin, State.receive_good (by rw [hm]; decide) hcheck, State.goodFrame_rejoining hm,
        State.rejoinGood_full (by rw [State.countPort_port]; exact hm) (by rw [State.countPort_port]; exact hrun),
        State.countPort, State.modPort_modPort]
    · rw [exec_frameReceived hpin, State.receive_bad (by rw [hm]; decide) hcheck, State.badFrame,
        if_pos (by rw [State.countPort_port]; exact hm),
        State.enterDetached_rejoining (by rw [State.countPort_port]; exact hm) (by rw [State.countPort_port]; exact hq),
        State.countPort_port, State.countPort, State.modPort_modPort, State.modPort_admin]
      cases p <;> rfl
  case entry =>
    intro u many lost
    have hlost : ∀ l, lost l = s.modPoller (·.flushed l) := fun l => rfl
    have hframes : u.queues[(1 : Fin 4)] ++ u.queues[(2 : Fin 4)] ++ u.queues[(3 : Fin 4)] =
        ([1, 2, 3] : List (Fin 4)).flatMap fun c => u.queues[c] := by simp
    have hall : u.queues[(0 : Fin 4)] ++ u.queues[(1 : Fin 4)] ++ u.queues[(2 : Fin 4)] ++ u.queues[(3 : Fin 4)] =
        ([0, 1, 2, 3] : List (Fin 4)).flatMap fun c => u.queues[c] := by simp
    refine ⟨fun hm => State.changeMode_plain hsettled hm, fun hm => ?_, fun hm => ?_⟩
    · subst hm
      rw [State.changeMode_muted hsettled]
      refine congrArg (State.notice · _) ?_
      rw [hlost, State.modPoller_modPort, hframes]
      refine congrArg (State.modPoller · _) (State.modPort_congr ?_)
      rw [← PortUnit.queues_set.2]
      rfl
    · subst hm
      have hchange : s.changeMode p .detached = s.enterDetached p := rfl
      rw [hchange, State.enterDetached_settled hsettled, hlost, State.modPoller_modPort, hall]
      cases p
      · refine congrArg (fun t => (State.notice t _).raiseHeld .consoleLink {}) ?_
        refine congrArg (State.modPoller · _) (State.modPort_congr ?_)
        rw [← PortUnit.queues_set.1]
        rfl
      · refine congrArg (fun t => (State.notice t _).raiseHeld .lineDetached {}) ?_
        refine congrArg (State.modPoller · _) (State.modPort_congr ?_)
        rw [← PortUnit.queues_set.1]
        rfl
  case errors =>
    intro e mode moved
    have hmoved : ∀ f : Nat → Nat, mode = .active ∨ mode = .warned ∨ mode = .muted →
        s.changeErrors p f = moved (f e) (followErrors mode (f e)) := fun f h => State.changeErrors_counted h f
    refine ⟨fun hm => ?_, fun hm => ?_, fun hm => ?_, fun hm => ?_⟩
    · refine ⟨(hmoved _ (.inl hm)).trans ?_, (hmoved _ (.inl hm)).trans ?_⟩ <;> rw [hm] <;> rfl
    · refine ⟨(hmoved _ (.inr (.inl hm))).trans ?_, (hmoved _ (.inr (.inl hm))).trans ?_⟩ <;> rw [hm] <;> rfl
    · refine ⟨(hmoved _ (.inr (.inr hm))).trans ?_, (hmoved _ (.inr (.inr hm))).trans ?_⟩ <;> rw [hm] <;> rfl
    · exact ⟨State.changeErrors_frozen hm _, State.changeErrors_frozen hm _⟩

end Sys2Proof.Machine


/-! The frame switch: the class table through reception, the judgement of a good frame, its way on (R19 to R29). -/

namespace Sys2Proof.Machine

/-! ## The class table through what reception reaches -/

@[simp] theorem State.push_classes (s : State) (p : Port) (c : Fin 4) (f : Frame) : (s.push p c f).1.switch.classes = s.switch.classes := by
  unfold State.push; dsimp only; (repeat' split) <;> simp
@[simp] theorem State.sendAsk_classes (s : State) : (s.sendAsk).switch.classes = s.switch.classes := by unfold State.sendAsk; split <;> simp
@[simp] theorem State.dueAsk_classes (s : State) : (s.dueAsk).switch.classes = s.switch.classes := by
  unfold State.dueAsk; dsimp only; split <;> simp
@[simp] theorem State.settle_classes (s : State) (p : Port) : (s.settle p).switch.classes = s.switch.classes := by
  cases p <;> simp [State.settle]
@[simp] theorem State.offerSaying_classes (s : State) (p : Port) (c : Fin 4) (f : Frame) : (s.offerSaying p c f).1.switch.classes = s.switch.classes := by
  simp [State.offerSaying]
@[simp] theorem State.offer_classes (s : State) (p : Port) (c : Fin 4) (f : Frame) : (s.offer p c f).switch.classes = s.switch.classes := by
  simp [State.offer]
@[simp] theorem State.notice_classes (s : State) (r : NoticeReason) : (s.notice r).switch.classes = s.switch.classes := by
  unfold State.notice; split <;> simp
@[simp] theorem State.setAsserted_classes (s : State) (new : Category) : (s.setAsserted new).switch.classes = s.switch.classes := by
  unfold State.setAsserted; dsimp only; split <;> simp
@[simp] theorem State.judgeRise_classes (s : State) : (s.judgeRise).switch.classes = s.switch.classes := by
  unfold State.judgeRise; split <;> simp
@[simp] theorem State.offerCall_classes (s : State) (f : Option Frame) : (s.offerCall f).switch.classes = s.switch.classes := by
  cases f <;> simp [State.offerCall]
@[simp] theorem State.sendCall_classes (s : State) (i : Fin 4) (sub : CallSub) : (s.sendCall i sub).switch.classes = s.switch.classes := by
  simp [State.sendCall]
@[simp] theorem State.freeCore_classes (s : State) (i : Fin 4) (reason : ClearReason) (quiet : Bool) : (s.freeCore i reason quiet).switch.classes = s.switch.classes := by
  simp [State.freeCore]
@[simp] theorem State.resumeRecord_classes (s : State) (i : Fin 4) (v : VoiceName) : (s.resumeRecord i v).switch.classes = s.switch.classes := by
  unfold State.resumeRecord; dsimp only; split <;> simp
@[simp] theorem State.resumeHeld_classes (s : State) (k : Nat) : (s.resumeHeld k).switch.classes = s.switch.classes := by
  induction k generalizing s with
  | zero => rfl
  | succ k ih => unfold State.resumeHeld; split <;> simp [ih]
@[simp] theorem State.resumption_classes (s : State) : (s.resumption).switch.classes = s.switch.classes := by simp [State.resumption]
@[simp] theorem State.setupCall_classes (s : State) (i : Fin 4) (r : CallRecord) (v : VoiceName) : (s.setupCall i r v).switch.classes = s.switch.classes := by
  simp [State.setupCall]
@[simp] theorem State.takeVictim_classes (s : State) (j : Fin 4) : (s.takeVictim j).switch.classes = s.switch.classes := by
  unfold State.takeVictim; dsimp only; split <;> simp
@[simp] theorem State.takeVictims_classes (l : List (Fin 4)) (s : State) : (l.foldl State.takeVictim s).switch.classes = s.switch.classes := by
  induction l generalizing s with
  | nil => rfl
  | cons a l ih => simp [ih]
@[simp] theorem State.openSummit_classes (s : State) (i : Fin 4) (r : CallRecord) : (s.openSummit i r).1.switch.classes = s.switch.classes := by
  unfold State.openSummit; (repeat' split) <;> simp
@[simp] theorem State.stopCallToSummit_classes (s : State) (i : Fin 4) : (s.stopCallToSummit i).switch.classes = s.switch.classes := by
  unfold State.stopCallToSummit; dsimp only
  have h := State.openSummit_classes s i { s.tel.records[i] with remote := .summit (summitLineOf s.tel.table.operations) }
  split <;> rename_i e <;> rw [e] at h <;> simpa using h
@[simp] theorem State.stopCallTrigger_classes (s : State) : (s.stopCallTrigger).switch.classes = s.switch.classes := by
  unfold State.stopCallTrigger; dsimp only; (repeat' split) <;> simp
@[simp] theorem State.handOnEntry_classes (s : State) (r : CauseRecord) : (s.handOnEntry r).switch.classes = s.switch.classes := by
  unfold State.handOnEntry; dsimp only; split <;> split <;> simp
@[simp] theorem State.raise_classes (s : State) (c : Cause) (d : Detail) (m : Bool) : (s.raise c d m).switch.classes = s.switch.classes := by
  unfold State.raise; dsimp only; split <;> simp
@[simp] theorem State.raiseHeld_classes (s : State) (c : Cause) (d : Detail) : (s.raiseHeld c d).switch.classes = s.switch.classes := by
  simp [State.raiseHeld]
@[simp] theorem State.raiseMomentary_classes (s : State) (c : Cause) (d : Detail) : (s.raiseMomentary c d).switch.classes = s.switch.classes := by
  simp [State.raiseMomentary]
@[simp] theorem State.flushClass_classes (s : State) (p : Port) (f : Fin 4 → Fin 21) (c : Fin 4) : (s.flushClass p f c).switch.classes = s.switch.classes := by
  unfold State.flushClass
  have h : ∀ (l : List Frame) (s : State),
      (l.foldl (fun s x => (s.countPort p (f c)).frameDropped x) s).switch.classes = s.switch.classes := by
    intro l; induction l with
    | nil => intro s; rfl
    | cons a l ih => intro s; simp [ih]
  simp [h]
@[simp] theorem State.enterMode_classes (s : State) (p : Port) (m : PortMode) : (s.enterMode p m).switch.classes = s.switch.classes := by
  simp [State.enterMode]
@[simp] theorem State.reportMode_classes (s : State) (p : Port) (m : PortMode) : (s.reportMode p m).switch.classes = s.switch.classes := by
  simp [State.reportMode]
@[simp] theorem State.enterDetached_classes (s : State) (p : Port) : (s.enterDetached p).switch.classes = s.switch.classes := by
  simp [State.enterDetached]
@[simp] theorem State.changeMode_classes (s : State) (p : Port) (m : PortMode) : (s.changeMode p m).switch.classes = s.switch.classes := by
  unfold State.changeMode; split <;> simp
@[simp] theorem State.changeErrors_classes (s : State) (p : Port) (f : Nat → Nat) : (s.changeErrors p f).switch.classes = s.switch.classes := by
  unfold State.changeErrors; dsimp only; (repeat' split) <;> simp
@[simp] theorem State.errorDown_classes (s : State) (p : Port) : (s.errorDown p).switch.classes = s.switch.classes := by
  simp [State.errorDown]

/-! ## Step 2: consumption (R21, R22) -/

/-- Whether a frame is one its block takes (R21). -/
def State.takes (s : State) (p : Port) (k : Kind) (f : Frame) : Prop :=
  (k = .roll ∧ p = .line ∧ f.returning = true) ∨
  (k = .report ∧ p = .line ∧ (s.poller.ask.map fun a => a.post.val + 1) = some f.src.toNat) ∨
  ((k = .beat ∨ k = .terminalEvent) ∧ p = .line ∧ f.src = 63) ∨
  ((k = .call ∨ k = .voice) ∧ f.dst.toNat = 0 ∧ p = .line ∧ f.src = 63) ∨ (k = .adminRequest ∧ f.dst.toNat = 0)

/-- Whether a frame is of a kind a block takes from one source alone (R21, R22). -/
def claims (k : Kind) (f : Frame) : Prop :=
  k = .roll ∨ k = .report ∨ k = .beat ∨ k = .terminalEvent ∨ ((k = .call ∨ k = .voice) ∧ f.dst.toNat = 0) ∨
  (k = .adminRequest ∧ f.dst.toNat = 0)

theorem Frame.dst_zero {f : Frame} : f.dst = 0 ↔ f.dst.toNat = 0 := by
  rw [BitVec.toNat_eq]; rfl

theorem postAddr_toNat (q : Post) : (postAddr q).toNat = q.val + 1 := by
  have := q.isLt
  rw [postAddr, BitVec.toNat_ofNat, postNumber]
  exact Nat.mod_eq_of_lt (by omega)

theorem State.fromAsked_iff {s : State} {p : Port} {f : Frame} :
    s.fromAsked p f = true ↔ p = .line ∧ (s.poller.ask.map fun a => a.post.val + 1) = some f.src.toNat := by
  have hpost : ∀ a : OutstandingAsk, f.src = postAddr a.post ↔ a.post.val + 1 = f.src.toNat := fun a => by
    rw [BitVec.toNat_eq, postAddr_toNat, eq_comm]
  unfold State.fromAsked
  cases s.poller.ask with
  | none => simp
  | some a => simp [hpost]

theorem fromSummit_iff {p : Port} {f : Frame} : fromSummit p f = true ↔ p = .line ∧ f.src = 63 := by
  rw [fromSummit, Bool.and_eq_true, decide_eq_true_iff, decide_eq_true_iff]
  rfl

theorem consumedIf_true {b : Bool} (h : b = true) : consumedIf b = .consumed := if_pos h

theorem consumedIf_false {b : Bool} (h : ¬ b = true) : consumedIf b = .wrongSource := if_neg h

theorem State.judgeConsumption_taken {s : State} {p : Port} {k : Kind} {f : Frame} (h : s.takes p k f) :
    s.judgeConsumption p k f = .consumed := by
  obtain ⟨rfl, hp, hr⟩ | ⟨rfl, hfrom⟩ | ⟨hk, hfrom⟩ | ⟨hk, hd, hfrom⟩ | ⟨rfl, hd⟩ := h
  · exact consumedIf_true (by simp [hp, hr])
  · exact consumedIf_true (State.fromAsked_iff.mpr hfrom)
  · obtain rfl | rfl := hk <;> exact consumedIf_true (fromSummit_iff.mpr hfrom)
  · obtain rfl | rfl := hk <;>
      exact (if_pos (Frame.dst_zero.mpr hd)).trans (consumedIf_true (fromSummit_iff.mpr hfrom))
  · exact if_pos (Frame.dst_zero.mpr hd)

theorem State.judgeConsumption_wrong {s : State} {p : Port} {k : Kind} {f : Frame} (h : claims k f)
    (hnot : ¬ s.takes p k f) : s.judgeConsumption p k f = .wrongSource := by
  obtain rfl | rfl | rfl | rfl | ⟨hk, hd⟩ | ⟨rfl, hd⟩ := h
  · exact consumedIf_false fun ht => hnot (.inl ⟨rfl, by simpa using ht⟩)
  · exact consumedIf_false fun ht => hnot (.inr (.inl ⟨rfl, State.fromAsked_iff.mp ht⟩))
  · exact consumedIf_false fun ht => hnot (.inr (.inr (.inl ⟨.inl rfl, fromSummit_iff.mp ht⟩)))
  · exact consumedIf_false fun ht => hnot (.inr (.inr (.inl ⟨.inr rfl, fromSummit_iff.mp ht⟩)))
  · have hsource : ¬ fromSummit p f = true := fun ht => hnot (.inr (.inr (.inr (.inl ⟨hk, hd, fromSummit_iff.mp ht⟩))))
    obtain rfl | rfl := hk <;> exact (if_pos (Frame.dst_zero.mpr hd)).trans (consumedIf_false hsource)
  · exact absurd (.inr (.inr (.inr (.inr ⟨rfl, hd⟩)))) hnot

/-- A frame no block claims: none has it at address 0, and the rest go through. -/
theorem State.judgeConsumption_unclaimed {s : State} {p : Port} {k : Kind} {f : Frame} (h : ¬ claims k f) :
    s.judgeConsumption p k f = if f.dst.toNat = 0 then .noConsumer else .through := by
  have hthrough : ∀ v, (¬ f.dst.toNat = 0) → (if f.dst = 0 then v else Verdict.through) = .through :=
    fun v hd => if_neg fun e => hd (Frame.dst_zero.mp e)
  cases k
  case roll => exact absurd (.inl rfl) h
  case report => exact absurd (.inr (.inl rfl)) h
  case beat => exact absurd (.inr (.inr (.inl rfl))) h
  case terminalEvent => exact absurd (.inr (.inr (.inr (.inl rfl)))) h
  case call =>
    have hd : ¬ f.dst.toNat = 0 := fun hd => h (.inr (.inr (.inr (.inr (.inl ⟨.inl rfl, hd⟩)))))
    rw [if_neg hd]; exact hthrough _ hd
  case voice =>
    have hd : ¬ f.dst.toNat = 0 := fun hd => h (.inr (.inr (.inr (.inr (.inl ⟨.inr rfl, hd⟩)))))
    rw [if_neg hd]; exact hthrough _ hd
  case adminRequest =>
    have hd : ¬ f.dst.toNat = 0 := fun hd => h (.inr (.inr (.inr (.inr (.inr ⟨rfl, hd⟩)))))
    rw [if_neg hd]; exact hthrough _ hd
  all_goals exact ite_congr (propext Frame.dst_zero) (fun _ => rfl) (fun _ => rfl)

theorem protectedKind_iff {k : Kind} :
    protectedKind k = true ↔ k = .roll ∨ k = .mark ∨ k = .ask ∨ k = .postClear := by
  cases k <;> decide

/-! ## The decision (R19, R20) -/

section
variable {s : State} {p : Port} {k : Kind} {f : Frame}

theorem State.switchFrame_protected (h : p = .station ∧ (k = .roll ∨ k = .mark ∨ k = .ask ∨ k = .postClear))
    (contents : Contents) : s.switchFrame p k f contents = s.countSwitch (Ctr.protectedDrop (portIndex p)) :=
  if_pos ⟨h.1, protectedKind_iff.mpr h.2⟩

theorem State.not_protected_of_takes (h : s.takes p k f) :
    ¬(p = .station ∧ (k = .roll ∨ k = .mark ∨ k = .ask ∨ k = .postClear)) := by
  rintro ⟨rfl, hk⟩
  obtain ⟨-, hp, -⟩ | ⟨-, hp, -⟩ | ⟨-, hp, -⟩ | ⟨-, -, hp, -⟩ | ⟨rfl, -⟩ := h
  · cases hp
  · cases hp
  · cases hp
  · cases hp
  · obtain h | h | h | h := hk <;> cases h

/-- A frame that is not protected goes as step 2 judges it. -/
theorem State.switchFrame_judged (h : ¬(p = .station ∧ (k = .roll ∨ k = .mark ∨ k = .ask ∨ k = .postClear)))
    (contents : Contents) :
    (s.judgeConsumption p k f = .consumed → s.switchFrame p k f contents =
      ((s.countSwitch (Ctr.consumed (portIndex p))).copyConsumed p k f).consume p k f contents) ∧
    (s.judgeConsumption p k f = .wrongSource → s.switchFrame p k f contents = s.countSwitch (Ctr.wrongSource (portIndex p))) ∧
    (s.judgeConsumption p k f = .noConsumer → s.switchFrame p k f contents = s.countSwitch (Ctr.noConsumer (portIndex p))) ∧
    (s.judgeConsumption p k f = .through → s.switchFrame p k f contents = s.routeFrame p k f) := by
  have hopen : ¬(p = .station ∧ protectedKind k = true) := fun ⟨hp, hk⟩ => h ⟨hp, protectedKind_iff.mp hk⟩
  rw [State.switchFrame, if_neg hopen]
  refine ⟨fun hv => ?_, fun hv => ?_, fun hv => ?_, fun hv => ?_⟩ <;> rw [hv]

end

/-! ## Step 3: the out port (R24, R25) -/

/-- The port a destination leads to; none for an unknown address (R24, R25). -/
def outPort (m : Mask) (p : Port) (d : Nat) : Option Port :=
  if (1 ≤ d ∧ d ≤ 48) ∨ d = 63 then some .line
  else if 64 ≤ d ∧ d ≤ 79 then some .station
  else if d = 127 ∨ maskNames m (otherPort p) = true then some (otherPort p)
  else none

theorem otherPort_ne (p : Port) : otherPort p ≠ p := by cases p <;> decide

theorem routeTo_of_ne {p o : Port} (h : o ≠ p) : routeTo p o = .out o := if_neg h

theorem routeOf_none {m : Mask} {p : Port} {dst : Addr} (h : outPort m p dst.toNat = none) : routeOf m p dst = .unknown := by
  unfold outPort at h
  unfold routeOf
  dsimp only
  split at h
  · cases h
  · split at h
    · cases h
    · split at h
      · cases h
      · next hline hstation hother =>
        obtain ⟨hbroadcast, hmask⟩ := not_or.mp hother
        rw [if_neg hline, if_neg hstation, if_neg hbroadcast, if_neg hmask]

theorem routeOf_some {m : Mask} {p o : Port} {dst : Addr} (h : outPort m p dst.toNat = some o) :
    routeOf m p dst = routeTo p o := by
  unfold outPort at h
  unfold routeOf
  dsimp only
  split at h
  · next hline => rw [if_pos hline, ← Option.some.inj h]
  · next hline =>
    split at h
    · next hstation => rw [if_neg hline, if_pos hstation, ← Option.some.inj h]
    · next hstation =>
      split at h
      · next hother =>
        rw [if_neg hline, if_neg hstation, ← Option.some.inj h, routeTo_of_ne (otherPort_ne p)]
        by_cases hbroadcast : dst.toNat = 127
        · rw [if_pos hbroadcast]
        · rw [if_neg hbroadcast, if_pos (hother.resolve_left hbroadcast)]
      · cases h

/-! ## Step 4 and the copies (R23, R27 to R29) -/

theorem State.routeFrame_of {s : State} {p : Port} {f : Frame} {r : Route} (h : routeOf s.admin.part.mask p f.dst = r)
    (k : Kind) :
    (r = .unknown → s.routeFrame p k f = s.countSwitch (Ctr.unknownAddress (portIndex p))) ∧
    (r = .hairpin → s.routeFrame p k f = s.countSwitch (Ctr.hairpin (portIndex p))) ∧
    (∀ o, r = .out o → s.routeFrame p k f = s.applyClass p o k f) := by
  rw [State.routeFrame, h]
  refine ⟨fun e => ?_, fun e => ?_, fun o e => ?_⟩ <;> rw [e]

theorem copiesForwarded_iff {console : Addr} {p o : Port} {dst : Addr} :
    copiesForwarded console p o dst = true ↔
      p = .line ∧ ¬(o = .station ∧ (dst.toNat = console.toNat ∨ dst.toNat = 127)) := by
  have hconsole : dst = console ↔ dst.toNat = console.toNat := BitVec.toNat_eq
  have hbroadcast : dst = broadcastAddr ↔ dst.toNat = 127 := by rw [BitVec.toNat_eq]; rfl
  simp only [copiesForwarded, Bool.and_eq_true, Bool.not_eq_true', decide_eq_true_iff, Bool.and_eq_false_iff,
    decide_eq_false_iff_not, Bool.or_eq_false_iff, hconsole, hbroadcast, not_and_or, not_or]

theorem State.applyClass_of {s : State} {p : Port} {k : Kind} {e : ClassEntry} (h : s.switch.entry p k = e) (o : Port)
    (f : Frame) :
    (e.action = .drop → s.applyClass p o k f = s.countSwitch (Ctr.classDrop (portIndex p))) ∧
    (e.action = .forward → s.applyClass p o k f = s.forwardFrame p o e.cls f) ∧
    (e.action = .forwardCopy → copiesForwarded s.admin.part.console p o f.dst = true →
      s.applyClass p o k f = (s.forwardFrame p o e.cls f).copyToConsole p e.cls f) ∧
    (e.action = .forwardCopy → ¬ copiesForwarded s.admin.part.console p o f.dst = true →
      s.applyClass p o k f = s.forwardFrame p o e.cls f) ∧
    (e.action = .redirect →
      s.applyClass p o k f =
        (s.countSwitch (Ctr.redirected (portIndex p))).offer .station e.cls (f.readdressed s.admin.part.console)) := by
  have hpart : (s.forwardFrame p o e.cls f).admin.part = s.admin.part := by simp [State.forwardFrame]
  simp only [State.applyClass, h]
  refine ⟨fun ha => ?_, fun ha => ?_, fun ha hc => ?_, fun ha hc => ?_, fun ha => ?_⟩ <;> simp only [ha]
  · rw [hpart, if_pos hc]
  · rw [hpart, if_neg hc]

theorem receivedFrame_payloadLength {bytes : List Byte} (h : 6 ≤ bytes.length) :
    (receivedFrame bytes).payloadBytes.length = bytes.length - 6 := by
  simp only [receivedFrame, Frame.payloadBytes, List.length_take, List.length_drop]
  omega

theorem length_of_frameCheck {bytes : List Byte} (h : frameCheck bytes = none) : 6 ≤ bytes.length := by
  by_contra hshort
  rw [frameCheck, if_pos (by omega)] at h
  cases h

/-- Settles O8: the judgement of step 2, then the out port of step 3, then the class of step 4. -/
theorem goodFrameIsForwarded : Obligations.GoodFrameIsForwarded := by
  intro s p bytes contents k hpin hopen hcheck hkind v w f d src i entry copied consumed claimed isProtected
  have hdetached : (s.port p).mode ≠ .detached := by
    obtain h | h | h := hopen <;> rw [h] <;> decide
  have hexec : exec (.frameReceived p bytes contents) s = .next (w.switchFrame p k f contents) := by
    rw [exec_frameReceived hpin, State.receive_good hdetached hcheck, State.goodFrame_counted hopen, State.handOnFrame,
      show kindOfCode (receivedFrame bytes).kindNibble = some k from hkind]
  have hpart : w.admin.part = s.admin.part := by
    unfold w v
    split <;> simp
  have hentry : w.switch.entry p k = entry := by
    have hclasses : w.switch.classes = s.switch.classes := by
      unfold w v
      split <;> simp
    unfold entry SwitchUnit.entry
    rw [hclasses]
  clear_value w entry
  have htakes : consumed ↔ w.takes p k f := Iff.rfl
  have hclaims : claimed ↔ claims k f := Iff.rfl
  have hnot : consumed → ¬ isProtected := fun h => State.not_protected_of_takes (htakes.mp h)
  refine ⟨fun h => ?_, fun h => ?consumed, fun hp hclaim hno => ?_, fun hp hclaim hd => ?_, fun hp hclaim hd => ?through⟩
  · rw [hexec, State.switchFrame_protected h]
  case consumed =>
    intro x y
    have hcopy : (w.countSwitch (Ctr.consumed i)).copyConsumed p k f = y := by
      have he : (w.countSwitch (Ctr.consumed i)).switch.entry p k = entry := hentry
      rw [State.copyConsumed, he]
      simp only [State.copyToConsole, State.countSwitch_admin, hpart]
      rfl
    have hconsume : w.switchFrame p k f contents = y.consume p k f contents := by
      rw [(State.switchFrame_judged (hnot h) contents).1 (State.judgeConsumption_taken (htakes.mp h)), hcopy]
    rw [hexec, hconsume]
    refine ⟨?_, ?_, ?_, ?_, ?_, ?_, ?_⟩ <;> rintro rfl
    · rfl
    · rfl
    · rw [← receivedFrame_payloadLength (length_of_frameCheck hcheck)]; rfl
    · rfl
    · rfl
    · rfl
    · rfl
  · rw [hexec, (State.switchFrame_judged hp contents).2.1 (State.judgeConsumption_wrong (hclaims.mp hclaim) (mt htakes.mpr hno))]
  · rw [hexec, (State.switchFrame_judged hp contents).2.2.1 ((State.judgeConsumption_unclaimed (mt hclaims.mpr hclaim)).trans (if_pos hd))]
  case through =>
    intro named out ownWay
    have hroute : w.switchFrame p k f contents = w.routeFrame p k f :=
      (State.switchFrame_judged hp contents).2.2.2 ((State.judgeConsumption_unclaimed (mt hclaims.mpr hclaim)).trans (if_neg hd))
    have hnamed : maskNames s.admin.part.mask (otherPort p) = named := by
      unfold named
      cases s.admin.part.mask <;> cases p <;> rfl
    have hother : otherPort p = if p = .station then .line else .station := by cases p <;> rfl
    have hout : outPort w.admin.part.mask p f.dst.toNat = out := by
      rw [hpart, outPort, hnamed, hother]
      rfl
    refine ⟨fun h => ?_, fun h => ?_, fun o h hne => ?_⟩
    · rw [hexec, hroute, (State.routeFrame_of rfl k).1 (routeOf_none (hout.trans h))]
    · rw [hexec, hroute, (State.routeFrame_of rfl k).2.1 ((routeOf_some (hout.trans h)).trans (if_pos rfl))]
    · have hclass : w.switchFrame p k f contents = w.applyClass p o k f :=
        hroute.trans ((State.routeFrame_of rfl k).2.2 o ((routeOf_some (hout.trans h)).trans (routeTo_of_ne hne)))
      intro forwarded
      have hforwarded : w.forwardFrame p o entry.cls f = forwarded := rfl
      have hown : ownWay ↔ (o = .station ∧ (d = s.admin.part.console.toNat ∨ d = 127)) := by
        unfold ownWay
        rw [h, Option.some.injEq]
      have hcopied : forwarded.copyToConsole p entry.cls f = copied forwarded := by
        have hp : forwarded.admin.part = s.admin.part := by simp [forwarded, hpart]
        rw [State.copyToConsole, hp]
      obtain ⟨hdrop, hforward, hcopies, hcopiesNot, hredirect⟩ := State.applyClass_of hentry o f
      rw [hexec, hclass]
      refine ⟨fun ha => by rw [hdrop ha], fun ha => by rw [hforward ha, hforwarded], fun ha hp hway => ?_, fun ha hway => ?_, fun ha => ?_⟩
      · rw [hcopies ha (copiesForwarded_iff.mpr ⟨hp, by rw [hpart]; exact mt hown.mpr hway⟩), hforwarded, hcopied]
      · have hnone : ¬ copiesForwarded w.admin.part.console p o f.dst = true := fun hc => by
          obtain ⟨hline, hfar⟩ := copiesForwarded_iff.mp hc
          rw [hpart] at hfar
          exact hway.elim (fun hs => absurd (hs.symm.trans hline) (by decide)) fun h => hfar (hown.mp h)
        rw [hcopiesNot ha hnone, hforwarded]
      · rw [hredirect ha, hpart]

end Sys2Proof.Machine


/-! What a port sends passes its receiver's checks and reads back (R1, R2, R11, R17). -/

namespace Sys2Proof.Machine

/-! ## The check word over itself (R2) -/

/-- A data bit equal to the bit shifted out adds no generator. -/
theorem crcBit_self {r : BitVec 16} {b : Bool} (h : b = r.getLsbD 15) : crcBit r b = r <<< 1 := by
  simp [crcBit, h]

/-- The register's own high byte shifts it by a byte. -/
theorem crcByte_self (r : BitVec 16) : crcByte r (r.extractLsb' 8 8) = r <<< 8 := by
  have hbit : ∀ n i : Nat, n + i = 7 → (r.extractLsb' 8 8).getLsbD i = (r <<< n).getLsbD 15 := fun n i h => by
    have hn : n ≤ 15 := by omega
    have hi : i < 8 := by omega
    simp [hi, Nat.not_lt.mpr hn, show 8 + i = 15 - n by omega, BitVec.getLsbD_eq_getElem (show 15 - n < 16 by omega)]
  have hstep : ∀ n i : Nat, n + i = 7 → crcBit (r <<< n) ((r.extractLsb' 8 8).getLsbD i) = r <<< (n + 1) := fun n i h => by
    rw [crcBit_self (hbit n i h), ← BitVec.shiftLeft_add]
  have hfirst := hstep 0 7 rfl
  rw [BitVec.shiftLeft_zero] at hfirst
  simp only [crcByte, List.foldl_cons, List.foldl_nil]
  rw [hfirst, hstep 1 6 rfl, hstep 2 5 rfl, hstep 3 4 rfl, hstep 4 3 rfl, hstep 5 2 rfl,
    hstep 6 1 rfl, hstep 7 0 rfl]

/-- Bytes followed by their check word leave the register at 0. -/
theorem crc_crcBytes (bytes : List Byte) : crc (bytes ++ crcBytes bytes) = 0 := by
  have hlow : (crc bytes).extractLsb' 0 8 = ((crc bytes) <<< 8).extractLsb' 8 8 := by
    refine BitVec.eq_of_getLsbD_eq fun i hi => ?_
    simp [hi, show 8 + i < 16 by omega, BitVec.getLsbD_eq_getElem (show i < 16 by omega)]
  have hfold : crc (bytes ++ crcBytes bytes) = (crcBytes bytes).foldl crcByte (crc bytes) := List.foldl_append
  rw [hfold, crcBytes, List.foldl_cons, List.foldl_cons, List.foldl_nil, crcByte_self, hlow, crcByte_self,
    ← BitVec.shiftLeft_add]
  exact BitVec.shiftLeft_eq_zero (by decide)

/-! ## The bytes of a sent frame -/

theorem Frame.wire_eq (f : Frame) :
    f.wire = f.b0 :: f.b1 :: f.b2 :: BitVec.ofNat 8 f.payloadBytes.length :: (f.payloadBytes ++ crcBytes f.body) := rfl

theorem Frame.wire_length (f : Frame) : f.wire.length = f.payloadBytes.length + 6 := by
  simp [Frame.wire_eq, crcBytes]

/-- Settles O10: the length byte is the payload's, the check word leaves 0, the bytes between are the payload. -/
theorem sentFrameReadsBack : Obligations.SentFrameReadsBack := by
  intro f hpayload
  have hlength : (f.wire.getD 3 0).toNat + 6 = f.wire.length := by
    have hbyte : f.wire.getD 3 0 = BitVec.ofNat 8 f.payloadBytes.length := rfl
    rw [hbyte, BitVec.toNat_ofNat, Nat.mod_eq_of_lt (by omega), Frame.wire_length]
  have hbytes : (f.wire.drop 4).take (f.wire.length - 6) = f.payloadBytes := by
    rw [Frame.wire_length, Nat.add_sub_cancel]
    exact List.take_left' rfl
  refine ⟨frameCheck_good ?_ ?_ hlength (crc_crcBytes f.body), ?_⟩
  · rw [Frame.wire_length]; omega
  · rw [Frame.wire_length]; omega
  · rw [receivedFrame, hbytes]; rfl

end Sys2Proof.Machine


/-! A REPORT payload reads back as the reading it was written from (R6). -/

namespace Sys2Proof.Machine

/-! ## Entries of one size in a row -/

/-- Byte `j` of entry `i` in a row of entries of `c` bytes each. -/
theorem getD_flatMap {α β : Type} {f : α → List β} {c : Nat} (hlen : ∀ e, (f e).length = c) (post : List β) (d : β) :
    ∀ (l : List α) (pre : List β) (i : Nat) (hi : i < l.length) (j : Nat), j < c →
      (pre ++ l.flatMap f ++ post).getD (pre.length + c * i + j) d = (f l[i]).getD j d
  | e :: l, pre, 0, _, j, hj => by
    have hin : j < (f e).length := by rw [hlen]; exact hj
    simp [List.getD_eq_getElem?_getD, List.getElem?_append_right, List.getElem?_append_left hin, List.append_assoc]
  | e :: l, pre, i + 1, hi, j, hj => by
    have hindex : pre.length + c * (i + 1) + j = (pre ++ f e).length + c * i + j := by
      rw [List.length_append, hlen, Nat.mul_add]; omega
    have hlist : pre ++ (e :: l).flatMap f ++ post = pre ++ f e ++ l.flatMap f ++ post := by simp
    rw [hindex, hlist, getD_flatMap hlen post d l (pre ++ f e) i (Nat.lt_of_succ_lt_succ hi) j hj]
    rfl

/-! ## One entry (R6) -/

theorem seatByte_reads : ∀ (seat : Fin 4) (derail wire : Bool),
    let b : Byte := BitVec.ofNat 8 (seat.val * 64 + derail.toNat * 32 + wire.toNat * 16)
    topSeat b = seat ∧ b.getLsbD 5 = derail ∧ b.getLsbD 4 = wire := by decide

theorem signed16_bytes {o : Int} (hlow : -32768 ≤ o) (hhigh : o ≤ 32767) :
    signed16 ((BitVec.ofInt 16 o).extractLsb' 8 8) ((BitVec.ofInt 16 o).extractLsb' 0 8) = o := by
  have happend : ((BitVec.ofInt 16 o).extractLsb' 8 8 ++ (BitVec.ofInt 16 o).extractLsb' 0 8 : BitVec 16) = BitVec.ofInt 16 o := by
    refine BitVec.eq_of_getLsbD_eq fun i hi => ?_
    rw [BitVec.getLsbD_append]
    by_cases h : i < 8
    · simp [h]
    · have hi' : i - 8 < 8 := by omega
      simp [h, hi', show 8 + (i - 8) = i by omega]
  rw [signed16, happend, BitVec.toInt_ofInt, Int.bmod_def]
  omega

theorem passageBytes_reads {seat : Fin 4} {age : Nat} (h : age ≤ 1023) :
    let b : Byte := BitVec.ofNat 8 (seat.val * 64 + age / 256)
    topSeat b = seat ∧ b.toNat % 4 * 256 + (BitVec.ofNat 8 (age % 256) : Byte).toNat = age := by
  have := seat.isLt
  have hb : (BitVec.ofNat 8 (seat.val * 64 + age / 256) : Byte).toNat = seat.val * 64 + age / 256 := by
    rw [BitVec.toNat_ofNat]; omega
  have hlow : (BitVec.ofNat 8 (age % 256) : Byte).toNat = age % 256 := by rw [BitVec.toNat_ofNat]; omega
  refine ⟨Fin.ext ?_, ?_⟩
  · simp only [topSeat, hb]; omega
  · rw [hb, hlow]; omega

/-- The counts and the passages-lost flag of byte 1. -/
theorem countByte_reads {lost : Bool} {s p : Nat} (hs : s ≤ 4) (hp : p ≤ 4) :
    let b : Byte := BitVec.ofNat 8 (lost.toNat * 128 + s * 16 + p)
    b.getLsbD 7 = lost ∧ b.toNat / 16 % 8 = s ∧ b.toNat % 8 = p := by
  have hlost : lost.toNat ≤ 1 := Bool.toNat_le lost
  have hb : (BitVec.ofNat 8 (lost.toNat * 128 + s * 16 + p) : Byte).toNat = lost.toNat * 128 + s * 16 + p := by
    rw [BitVec.toNat_ofNat]; omega
  refine ⟨?_, by rw [hb]; omega, by rw [hb]; omega⟩
  rw [BitVec.getLsbD, hb, Nat.testBit_eq_decide_div_mod_eq]
  cases lost <;> simp <;> omega

/-! ## The payload (R6) -/

theorem seatBytes_length (e : SeatReport) : (seatBytes e).length = 3 := rfl

theorem passageBytes_length (e : PassageReport) : (passageBytes e).length = 2 := rfl

theorem writeReport_length (r : ReportReading) : (writeReport r).length = 2 + 3 * r.seats.length + 2 * r.passages.length := by
  simp only [writeReport, List.length_append, List.length_cons, List.length_nil, List.length_flatMap, seatBytes_length,
    passageBytes_length, List.map_const', List.sum_replicate, smul_eq_mul]
  omega

theorem seatReport_write (r : ReportReading) (h : ∀ e ∈ r.seats, -32768 ≤ e.offset ∧ e.offset ≤ 32767) {i : Nat}
    (hi : i < r.seats.length) : seatReport (writeReport r) i = r.seats[i] := by
  have hread : ∀ j, j < 3 → (writeReport r).getD (2 + 3 * i + j) 0 = (seatBytes r.seats[i]).getD j 0 := fun j hj =>
    getD_flatMap seatBytes_length (r.passages.flatMap passageBytes) 0 r.seats
      [r.mark, BitVec.ofNat 8 (r.lost.toNat * 128 + r.seats.length * 16 + r.passages.length)] i hi j hj
  obtain ⟨hlow, hhigh⟩ := h _ (List.getElem_mem hi)
  obtain ⟨hseat, hderail, hwire⟩ := seatByte_reads r.seats[i].seat r.seats[i].derail r.seats[i].wire
  have h0 : (writeReport r).getD (2 + 3 * i) 0 =
      BitVec.ofNat 8 (r.seats[i].seat.val * 64 + r.seats[i].derail.toNat * 32 + r.seats[i].wire.toNat * 16) :=
    hread 0 (by decide)
  have h1 : (writeReport r).getD (3 + 3 * i) 0 = (BitVec.ofInt 16 r.seats[i].offset).extractLsb' 8 8 := by
    rw [show 3 + 3 * i = 2 + 3 * i + 1 by omega]; exact hread 1 (by decide)
  have h2 : (writeReport r).getD (4 + 3 * i) 0 = (BitVec.ofInt 16 r.seats[i].offset).extractLsb' 0 8 := by
    rw [show 4 + 3 * i = 2 + 3 * i + 2 by omega]; exact hread 2 (by decide)
  rw [seatReport]
  simp only [h0, h1, h2, hseat, hderail, hwire, signed16_bytes hlow hhigh]

theorem passageReport_write (r : ReportReading) (h : ∀ e ∈ r.passages, e.age ≤ 1023) {k : Nat}
    (hk : k < r.passages.length) : passageReport (writeReport r) r.seats.length k = r.passages[k] := by
  have hpre : ([r.mark, BitVec.ofNat 8 (r.lost.toNat * 128 + r.seats.length * 16 + r.passages.length)] ++
      r.seats.flatMap seatBytes).length = 2 + 3 * r.seats.length := by
    simp only [List.length_append, List.length_cons, List.length_nil, List.length_flatMap, seatBytes_length, List.map_const',
      List.sum_replicate, smul_eq_mul]
    omega
  have hread : ∀ j, j < 2 → (writeReport r).getD (2 + 3 * r.seats.length + 2 * k + j) 0 = (passageBytes r.passages[k]).getD j 0 := by
    intro j hj
    have hrow := getD_flatMap passageBytes_length [] 0 r.passages
      ([r.mark, BitVec.ofNat 8 (r.lost.toNat * 128 + r.seats.length * 16 + r.passages.length)] ++ r.seats.flatMap seatBytes) k hk j hj
    rwa [hpre, List.append_nil] at hrow
  obtain ⟨hseat, hage⟩ := passageBytes_reads (seat := r.passages[k].seat) (h _ (List.getElem_mem hk))
  have h0 : (writeReport r).getD (2 + 3 * r.seats.length + 2 * k) 0 =
      BitVec.ofNat 8 (r.passages[k].seat.val * 64 + r.passages[k].age / 256) := hread 0 (by decide)
  have h1 : (writeReport r).getD (3 + 3 * r.seats.length + 2 * k) 0 = BitVec.ofNat 8 (r.passages[k].age % 256) := by
    rw [show 3 + 3 * r.seats.length + 2 * k = 2 + 3 * r.seats.length + 2 * k + 1 by omega]; exact hread 1 (by decide)
  rw [passageReport]
  simp only [h0, h1, hseat, hage]

/-- Settles O11: the count byte gives the two numbers of entries, and each entry its place. -/
theorem reportReadsBack : Obligations.ReportReadsBack := by
  intro r hs hp hseats hpassages
  obtain ⟨hlost, hscount, hpcount⟩ := countByte_reads (lost := r.lost) hs hp
  have hbyte : (writeReport r).getD 1 0 = BitVec.ofNat 8 (r.lost.toNat * 128 + r.seats.length * 16 + r.passages.length) := rfl
  have hmark : (writeReport r).getD 0 0 = r.mark := rfl
  have hseatList : (List.range r.seats.length).map (seatReport (writeReport r)) = r.seats :=
    List.ext_getElem (by simp) fun i h _ => by
      simpa using seatReport_write r hseats (by simpa using h)
  have hpassageList : (List.range r.passages.length).map (passageReport (writeReport r) r.seats.length) = r.passages :=
    List.ext_getElem (by simp) fun k h _ => by
      simpa using passageReport_write r hpassages (by simpa using h)
  rw [readReport]
  simp only [hbyte, hscount, hpcount, hlost, hmark, hseatList, hpassageList]
  rw [if_pos ⟨by rw [writeReport_length]; omega, hs, hp, writeReport_length r⟩]

end Sys2Proof.Machine


/-! The loss of the line leaves no call to the summit (R139, R164): once the link is SILENT and the hold stack empty, nothing
opens a summit call, and each record in turn loses its own. -/

namespace Sys2Proof.Machine

/-! ## Off the summit -/

/-- A record that is not held and no summit call. -/
def CallRecord.OffSummit (r : CallRecord) : Prop := r.state ≠ .held ∧ (r.state ≠ .free → r.remote.isSummit = false)

/-- The line is lost: the link is SILENT and no call is held. -/
def State.Cut (s : State) : Prop := s.link.state = .silent ∧ s.tel.stack = []

/-- A step after the loss of the line: the line stays lost, and each record stays or is off the summit. -/
def State.Severs (s t : State) : Prop := t.Cut ∧ ∀ i, t.record i = s.record i ∨ (t.record i).OffSummit

theorem State.Severs.refl {s : State} (h : s.Cut) : s.Severs s := ⟨h, fun _ => .inl rfl⟩

theorem State.Severs.trans {s t u : State} (h : s.Severs t) (k : t.Severs u) : s.Severs u := by
  refine ⟨k.1, fun i => ?_⟩
  obtain hk | hk := k.2 i
  · rw [hk]; exact h.2 i
  · exact .inr hk

/-- What holds of a record off the summit and of the record before holds after. -/
theorem State.Severs.keep {s t : State} (h : s.Severs t) {P : CallRecord → Prop} (hoff : ∀ r, CallRecord.OffSummit r → P r)
    {i : Fin 4} (hs : P (s.record i)) : P (t.record i) := by
  obtain hi | hi := h.2 i
  · rw [hi]; exact hs
  · exact hoff _ hi

/-- A step that changes one record, to one off the summit. -/
theorem State.Severs.of_record {s t : State} (hcut : s.Cut) (hlink : t.link = s.link) (hstack : t.tel.stack = s.tel.stack)
    {i : Fin 4} {f : CallRecord → CallRecord} (hrecords : t.tel.records = upd s.tel.records i f)
    (hoff : (f (s.record i)).OffSummit) : s.Severs t := by
  refine ⟨⟨hlink ▸ hcut.1, hstack.trans hcut.2⟩, fun j => ?_⟩
  show t.tel.records[j] = s.tel.records[j] ∨ (t.tel.records[j]).OffSummit
  rw [hrecords, upd_apply]
  split
  · exact .inr hoff
  · exact .inl rfl

/-! ## What happens after the loss of the line -/

theorem State.resumption_empty {s : State} (h : s.tel.stack = []) : s.resumption = s := by
  have hnone : s.tel.resumable = none := by rw [Telephony.resumable, h]; rfl
  rw [State.resumption, Config.stackCapacity, State.resumeHeld]
  simp only [hnone]

theorem State.openSummit_silent {s : State} (h : s.link.state = .silent) (i : Fin 4) (r : CallRecord) :
    s.openSummit i r = (s, some .lineLost) := if_pos h

theorem State.freeCore_severs {s : State} (h : s.Cut) (i : Fin 4) (reason : ClearReason) (quiet : Bool) :
    s.Severs (s.freeCore i reason quiet).resumption := by
  have hstack : (s.freeCore i reason quiet).tel.stack = s.tel.stack := by rw [State.freeCore_stack, h.2]; rfl
  rw [State.resumption_empty (hstack.trans h.2)]
  refine .of_record h (by simp) hstack (State.freeCore_records s i reason quiet) ⟨by simp, fun hf => absurd rfl hf⟩

theorem State.stopCallToSummit_severs {s : State} (h : s.Cut) (i : Fin 4) : s.Severs (s.stopCallToSummit i) := by
  rw [State.stopCallToSummit]
  dsimp only
  rw [State.openSummit_silent h.1]
  dsimp only
  generalize ({ s.tel.records[i] with remote := .summit (summitLineOf s.tel.table.operations) } : CallRecord) = r
  have hfreed := State.freeCore_severs (s := s.modRecord i fun _ => r) h i .lineLost true
  refine ⟨hfreed.1, fun j => ?_⟩
  by_cases hj : j = i
  · subst hj
    have hstack : ((s.modRecord j fun _ => r).freeCore j .lineLost true).tel.stack = [] := by
      rw [State.freeCore_stack, State.modRecord_stack, h.2]; rfl
    refine .inr ?_
    rw [State.resumption_empty hstack]
    show (((s.modRecord j fun _ => r).freeCore j .lineLost true).tel.records[j]).OffSummit
    rw [State.freeCore_records, upd_self]
    exact ⟨by simp, fun hf => absurd rfl hf⟩
  · have hsame : (s.modRecord i fun _ => r).record j = s.record j := upd_ne _ _ _ _ hj
    rw [← hsame]
    exact hfreed.2 j

theorem State.stopCallTrigger_severs {s : State} (h : s.Cut) : s.Severs s.stopCallTrigger := by
  rw [State.stopCallTrigger]
  split
  · next i _ hi =>
    have hopen : s.Severs ((s.modRecord i fun _ => stopCallRecord i).countTel Ctr.stopCall) :=
      .of_record h rfl rfl (i := i) (f := fun _ => stopCallRecord i) rfl ⟨by simp [stopCallRecord], fun _ => rfl⟩
    dsimp only
    split
    · exact hopen.trans (State.stopCallToSummit_severs hopen.1 i)
    · exact hopen
  · exact ⟨h, fun _ => .inl rfl⟩

theorem State.raise_severs {s : State} (h : s.Cut) (c : Cause) (d : Detail) (m : Bool) : s.Severs (s.raise c d m) := by
  have hjudged : ∀ l, s.Severs (s.raised c l).judgeRise := fun l => by
    refine ⟨⟨by rw [State.judgeRise_link]; exact h.1, by rw [State.judgeRise_tel]; exact h.2⟩, fun i => .inl ?_⟩
    show (s.raised c l).judgeRise.tel.records[i] = _
    rw [State.judgeRise_tel]; rfl
  cases hin : s.inSet c
  · have hnoticed : ∀ (l : List CauseRecord) (r : NoticeReason), s.Severs ((s.raised c l).judgeRise.notice r) := fun l r => by
      obtain ⟨hcut, hrecords⟩ := hjudged l
      refine ⟨⟨by rw [State.notice_link]; exact hcut.1, by rw [State.notice_tel]; exact hcut.2⟩, fun i => ?_⟩
      show ((s.raised c l).judgeRise.notice r).tel.records[i] = _ ∨ (((s.raised c l).judgeRise.notice r).tel.records[i]).OffSummit
      rw [State.notice_tel]; exact hrecords i
    have hnew : s.raise c d m = (s.raised c (s.chain.causes ++ [_])).judgeRise.handOnEntry _ := State.raise_new hin d m
    rw [hnew, State.handOnEntry]
    split
    · split
      · exact (hnoticed _ _).trans (State.stopCallTrigger_severs (hnoticed _ _).1)
      · exact (hjudged _).trans (State.stopCallTrigger_severs (hjudged _).1)
    · split
      · exact hnoticed _ _
      · exact hjudged _
  · have hknown : s.raise c d m = (s.raised c (s.chain.causes.map _)).judgeRise := State.raise_known hin d m
    rw [hknown]
    exact hjudged _

/-- A freeing leaves the freed record off the summit. -/
theorem State.freeCall_severs {s : State} (h : s.Cut) (i : Fin 4) (reason : ClearReason) (quiet excused : Bool) :
    s.Severs (s.freeCall i reason quiet excused) ∧ ((s.freeCall i reason quiet excused).record i).OffSummit := by
  have hfreed := State.freeCore_severs h i reason quiet
  have hoff : ((s.freeCore i reason quiet).resumption.record i).OffSummit := by
    have hstack : (s.freeCore i reason quiet).tel.stack = [] := by rw [State.freeCore_stack, h.2]; rfl
    rw [State.resumption_empty hstack]
    show ((s.freeCore i reason quiet).tel.records[i]).OffSummit
    rw [State.freeCore_records, upd_self]
    exact ⟨by simp, fun hf => absurd rfl hf⟩
  rw [State.freeCall]
  split
  · have hraised := State.raise_severs hfreed.1 .callUnanswered { line := some (s.tel.records[i]).line.val } true
    exact ⟨hfreed.trans hraised, hraised.keep (fun _ => id) hoff⟩
  · exact ⟨hfreed, hoff⟩

/-- The fallback leaves its record off the summit. -/
theorem State.fallback_severs {s : State} (h : s.Cut) (i : Fin 4) (reason : ClearReason) :
    s.Severs (s.fallback i reason) ∧ ((s.fallback i reason).record i).OffSummit := by
  rw [State.fallback]
  dsimp only
  split
  · have hrecords : ∀ (u : State) (f : CallRecord → CallRecord), u.tel.records = upd s.tel.records i f →
        (∀ r, (f r).OffSummit) → u.link = s.link → u.tel.stack = s.tel.stack → s.Severs u ∧ (u.record i).OffSummit :=
      fun u f hr hoff hlink hstack => by
        refine ⟨.of_record h hlink hstack hr (hoff _), ?_⟩
        show (u.tel.records[i]).OffSummit
        rw [hr, upd_self]; exact hoff _
    rw [State.openLocal]
    split
    · refine hrecords _ _ (by simp [State.releaseChannel_records]; rfl) (fun r => ⟨by simp, fun _ => rfl⟩) (by simp) (by simp)
    · refine hrecords _ _ (by simp [State.releaseChannel_records]; rfl) (fun r => ⟨by simp, fun _ => rfl⟩) (by simp) (by simp)
  · exact State.freeCall_severs h i reason true false

/-! ## The three steps (R164) -/

/-- A fold of steps after the loss of the line, each of which settles its record in a way that stays. -/
theorem State.foldl_severs {op : State → Fin 4 → State} {P : CallRecord → Prop} (hoff : ∀ r, CallRecord.OffSummit r → P r)
    (hop : ∀ {s : State}, s.Cut → ∀ i, s.Severs (op s i) ∧ P ((op s i).record i)) (l : List (Fin 4)) :
    ∀ {s : State}, s.Cut → s.Severs (l.foldl op s) ∧ ∀ i ∈ l, P ((l.foldl op s).record i) := by
  induction l with
  | nil => exact fun h => ⟨.refl h, fun i hi => absurd hi (by simp)⟩
  | cons j l ih =>
    intro s h
    obtain ⟨hstep, hsettled⟩ := hop h j
    obtain ⟨hrest, hlater⟩ := ih hstep.1
    rw [List.foldl_cons]
    refine ⟨hstep.trans hrest, fun i hi => ?_⟩
    obtain rfl | hi := List.mem_cons.mp hi
    · exact hrest.keep hoff hsettled
    · exact hlater i hi

/-- Step 1: no call is held any longer. -/
theorem State.loseHeld_severs {s : State} (h : s.tel.Sound) (hlink : s.link.state = .silent) :
    s.loseHeld.Cut ∧ ∀ i, (s.loseHeld.record i).state ≠ .held := by
  obtain ⟨hsevers, hsettled⟩ := State.foldl_severs (op := fun s i => s.freeCall i .lineLost true false) (fun _ => id)
    (fun hcut i => State.freeCall_severs hcut i .lineLost true false) s.tel.stack
    (s := s.modTel fun u => { u with stack := [] }) ⟨hlink, rfl⟩
  refine ⟨hsevers.1, fun i => ?_⟩
  obtain ⟨-, -, hheld, -⟩ := h
  by_cases hi : i ∈ s.tel.stack
  · exact (hsettled i hi).1
  · exact hsevers.keep (P := fun r => r.state ≠ .held) (fun _ hr => hr.1) (mt (hheld i).mp hi)

/-- What step 2 leaves of a record: a summit call only where it is a help call. -/
def CallRecord.OnlyHelp (r : CallRecord) : Prop := r.state ≠ .free → r.remote.isSummit = true → r.isHelp = true

theorem CallRecord.OffSummit.onlyHelp {r : CallRecord} (h : r.OffSummit) : r.OnlyHelp := fun hf hs => by
  rw [h.2 hf] at hs; exact Bool.noConfusion hs

theorem State.loseRecord_severs {s : State} (h : s.Cut) (i : Fin 4) :
    s.Severs (s.loseRecord i) ∧ ((s.loseRecord i).record i).OnlyHelp := by
  rw [State.loseRecord]
  split
  · obtain ⟨hsevers, hoff⟩ := State.freeCall_severs h i .lineLost true false
    exact ⟨hsevers, hoff.onlyHelp⟩
  · next hkept =>
    refine ⟨.refl h, fun hf hs => ?_⟩
    by_contra hhelp
    exact hkept ⟨hf, hs, by simpa using hhelp⟩

/-- What step 3 leaves of a record that is not held and at most a help call: no summit call. -/
def CallRecord.Cleared (r : CallRecord) : Prop := r.state ≠ .held → r.OnlyHelp → r.OffSummit

theorem CallRecord.OffSummit.cleared {r : CallRecord} (h : r.OffSummit) : r.Cleared := fun _ _ => h

theorem State.turnHelp_severs {s : State} (h : s.Cut) (i : Fin 4) :
    s.Severs (s.turnHelp i) ∧ ((s.turnHelp i).record i).Cleared := by
  rw [State.turnHelp]
  split
  · obtain ⟨hsevers, hoff⟩ := State.fallback_severs h i .lineLost
    exact ⟨hsevers, hoff.cleared⟩
  · next hkept =>
    refine ⟨.refl h, fun hheld honly => ⟨hheld, fun hf => ?_⟩⟩
    by_contra hsummit
    have hs : (s.record i).remote.isSummit = true := by simpa using hsummit
    have hlive : (s.record i).state.live = true := by
      revert hheld hf
      cases (s.record i).state <;> simp [CallState.live]
    exact hkept ⟨hlive, hs, honly hf hs⟩

theorem State.lineLost_severs {s : State} (h : s.tel.Sound) (hlink : s.link.state = .silent) :
    s.lineLost.tel.stack = [] ∧ ∀ i, (s.lineLost.record i).OffSummit := by
  obtain ⟨hcut, hheld⟩ := State.loseHeld_severs h hlink
  unfold State.lineLost
  generalize s.loseHeld = u at *
  obtain ⟨hlose, honly⟩ := State.foldl_severs (P := CallRecord.OnlyHelp) (fun _ => CallRecord.OffSummit.onlyHelp)
    State.loseRecord_severs allRecords hcut
  generalize allRecords.foldl State.loseRecord u = v at *
  obtain ⟨hturn, hcleared⟩ := State.foldl_severs (P := CallRecord.Cleared) (fun _ => CallRecord.OffSummit.cleared)
    State.turnHelp_severs allRecords hlose.1
  generalize allRecords.foldl State.turnHelp v = w at *
  refine ⟨hturn.1.2, fun i => hcleared i (mem_allRecords i) ?_ ?_⟩
  · exact (hlose.trans hturn).keep (P := fun r => r.state ≠ .held) (fun _ hr => hr.1) (hheld i)
  · exact hturn.keep (fun _ => CallRecord.OffSummit.onlyHelp) (honly i (mem_allRecords i))

theorem State.raiseHeld_telSound {s : State} (h : s.tel.Sound) (c : Cause) (d : Detail) : (s.raiseHeld c d).tel.Sound :=
  (State.raise_soundBut h.soundBut c d false).sound fun _ => id

/-- The state whose calls the entry to SILENT loses (R139). -/
theorem State.enterSilent_eq (s : State) :
    ∃ u : State, s.enterSilent = u.lineLost ∧ u.link.state = .silent ∧ (s.tel.Sound → u.tel.Sound) := by
  have hsilent : ∀ x : State, x.link.state = .silent → ∀ p : Prop, [Decidable p] →
      (if p then x.raiseHeld .summitSilent {} else x).link.state = .silent ∧
        (x.tel.Sound → (if p then x.raiseHeld .summitSilent {} else x).tel.Sound) := fun x hx p _ => by
    split
    · exact ⟨by rw [State.raiseHeld_link]; exact hx, fun h => State.raiseHeld_telSound h _ _⟩
    · exact ⟨hx, id⟩
  exact ⟨_, rfl, hsilent _ rfl _⟩

/-- Settles O31: the held calls go first, then the summit calls but for help, then each help call is turned. -/
theorem lineLossEndsEverySummitCall : Obligations.LineLossEndsEverySummitCall := by
  intro s t n hpin hsound hlate hstep
  have hexec : exec .lateTimerExpiry s = .next s.enterSilent :=
    (State.live_run hpin State.lateExpiry).trans (congrArg Host.Outcome.next (if_pos (by rw [hlate]; rfl)))
  have ht : t = s.enterSilent := by
    rw [hexec] at hstep
    exact (Host.Outcome.next.inj hstep).symm
  obtain ⟨u, hu, hlink, htel⟩ := s.enterSilent_eq
  obtain ⟨hstack, hrecords⟩ := State.lineLost_severs (htel hsound) hlink
  rw [ht, hu]
  exact ⟨hstack, fun i => (hrecords i).2⟩

end Sys2Proof.Machine


/-! SUPPORT. The held reset pin: every block at its reset values, and what a command still stores (R192; log 11). -/

namespace Sys2Proof.Machine

/-- What a command may change while the reset pin is held: input levels alone (R192; log 11). -/
def State.HeldTo (s t : State) : Prop :=
  s.changesOnly t [.ropeTravel, .stationRail, .doorChannels, .telephony, .stopChain] ∧
    t.rope = { s.rope with driveRun := t.rope.driveRun } ∧
    t.rail = { s.rail with detectors := t.rail.detectors } ∧
    (∀ d : Fin 9, t.rail.detectors[d] = { s.rail.detectors[d] with level := (t.rail.detectors[d]).level }) ∧
    t.doors = { s.doors with channels := t.doors.channels } ∧
    (∀ k : Fin 8, t.channel k = { s.channel k with pins := (t.channel k).pins }) ∧
    t.tel = { s.tel with hooks := t.tel.hooks } ∧
    t.chain = { s.chain with filters := t.chain.filters } ∧
    ∀ i : Fin 5, t.chain.filters[i] = { s.chain.filters[i] with level := (t.chain.filters[i]).level }

/-- The five blocks that hold input levels, each changed in these alone; the other blocks stay. -/
theorem State.heldTo_of {s t : State} (hstay : s.changesOnly t
      [.ropeTravel, .stationRail, .doorChannels, .telephony, .stopChain])
    (hrope : t.rope = { s.rope with driveRun := t.rope.driveRun } := by rfl)
    (hrail : t.rail = { s.rail with detectors := t.rail.detectors } := by rfl)
    (hdet : ∀ d : Fin 9, t.rail.detectors[d] = { s.rail.detectors[d] with level := (t.rail.detectors[d]).level } := by
      intro; rfl)
    (hdoors : t.doors = { s.doors with channels := t.doors.channels } := by rfl)
    (hchan : ∀ k : Fin 8, t.channel k = { s.channel k with pins := (t.channel k).pins } := by intro; rfl)
    (htel : t.tel = { s.tel with hooks := t.tel.hooks } := by rfl)
    (hchain : t.chain = { s.chain with filters := t.chain.filters } := by rfl)
    (hfil : ∀ i : Fin 5, t.chain.filters[i] = { s.chain.filters[i] with level := (t.chain.filters[i]).level } := by
      intro; rfl) :
    s.HeldTo t :=
  ⟨hstay, hrope, hrail, hdet, hdoors, hchan, htel, hchain, hfil⟩

/-- What holds of every element and itself, and of the changed one and its new value, holds of all elements. -/
theorem upd_pointwise {α : Type} {n : Nat} {v : Vector α n} {i : Fin n} {f : α → α} (P : α → α → Prop)
    (hrefl : ∀ x, P x x) (hf : P v[i] (f v[i])) (j : Fin n) : P v[j] (upd v i f)[j] := by
  by_cases h : j = i
  · subst h; rwa [upd_self]
  · rw [upd_ne _ _ _ _ h]; exact hrefl _

theorem State.HeldTo.refl (s : State) : s.HeldTo s := State.heldTo_of (s.changesOnly_refl _)

theorem State.heldTo_driveRun (s : State) (level : Bool) :
    s.HeldTo (s.modRope fun u => { u with driveRun := level }) :=
  State.heldTo_of ⟨fun b hb => by cases b <;> simp_all [State.sameBlock], rfl, rfl⟩

theorem State.heldTo_detectorLevel (s : State) (d : Fin 9) (high : Bool) :
    s.HeldTo (s.modDetector d fun u => { u with level := high }) :=
  State.heldTo_of ⟨fun b hb => by cases b <;> simp_all [State.sameBlock, State.modDetector], rfl, rfl⟩
    (hdet := upd_pointwise (fun a b : DetectorUnit => b = { a with level := b.level }) (fun _ => rfl) rfl)

theorem State.heldTo_pins (s : State) (k : Fin 8) (f : ChannelPins → ChannelPins) : s.HeldTo (s.modPins k f) :=
  State.heldTo_of ⟨fun b hb => by cases b <;> simp_all [State.sameBlock, State.modPins], rfl, rfl⟩
    (hchan := upd_pointwise (fun a b : Channel => b = { a with pins := b.pins }) (fun _ => rfl) rfl)

theorem State.heldTo_hook (s : State) (l : Fin 2) (off : Bool) : s.HeldTo (s.setHook l off) :=
  State.heldTo_of ⟨fun b hb => by cases b <;> simp_all [State.sameBlock, State.setHook], rfl, rfl⟩

theorem State.heldTo_filterLevel (s : State) (i : StopInput) (level : Bool) :
    s.HeldTo (s.modFilter i fun f => { f with level := level }) :=
  State.heldTo_of ⟨fun b hb => by cases b <;> simp_all [State.sameBlock, State.modFilter], rfl, rfl⟩
    (hfil := upd_pointwise (fun a b : StopFilter => b = { a with level := b.level }) (fun _ => rfl) rfl)

/-- While the reset pin is held, a command other than the two resets stores at most an input's level (log 11). -/
theorem State.exec_held {s : State} (h : s.pinHeld = true) (c : Instr) (hreset : c ≠ .hardReset)
    (hpin : c ≠ .resetPinAsserted) : ∃ t : State, exec c s = .next t ∧ s.HeldTo t := by
  unfold exec
  cases c with
  | hardReset => exact absurd rfl hreset
  | resetPinAsserted => exact absurd rfl hpin
  | driveRunChange level => exact ⟨_, State.liveInput_held h _ _, s.heldTo_driveRun level⟩
  | detectorLevelChange d high => exact ⟨_, State.liveInput_held h _ _, s.heldTo_detectorLevel (detectorIndex d) high⟩
  | openEndChange k _ => exact ⟨_, State.liveInput_held h _ _, s.heldTo_pins k _⟩
  | lockedChange k _ => exact ⟨_, State.liveInput_held h _ _, s.heldTo_pins k _⟩
  | overcurrent k _ => exact ⟨_, State.liveInput_held h _ _, s.heldTo_pins k _⟩
  | localKeyChange k _ => exact ⟨_, State.liveInput_held h _ _, s.heldTo_pins k _⟩
  | localOpenChange k _ => exact ⟨_, State.liveInput_held h _ _, s.heldTo_pins k _⟩
  | localCloseChange k _ => exact ⟨_, State.liveInput_held h _ _, s.heldTo_pins k _⟩
  | offHook l => exact ⟨_, State.liveInput_held h _ _, s.heldTo_hook l true⟩
  | onHook l => exact ⟨_, State.liveInput_held h _ _, s.heldTo_hook l false⟩
  | stopFilterLevelChange i _ => exact ⟨_, State.liveInput_held h _ _, s.heldTo_filterLevel i _⟩
  | _ => exact ⟨s, State.live_held h _, .refl s⟩

theorem resetLatchRecord_default : resetLatchRecord causeTableDefault = ⟨.resetLatch, .emergency, {}, 1, true⟩ := by
  decide

/-! ## The obligation -/

/-- Settles O3: the pin's assertion writes the reset values out; under the held pin each command stores at most the
level of its input. -/
theorem resetPin : Obligations.ResetPin := by
  unfold Obligations.ResetPin
  refine ⟨fun s => ⟨s.holdReset, rfl, rfl, rfl, rfl, rfl, rfl, rfl, rfl, rfl, rfl, rfl, rfl, rfl, rfl,
    congrArg (fun r => [r]) resetLatchRecord_default, rfl⟩,
    fun s c h hreset hpin => State.exec_held h c hreset hpin⟩
end Sys2Proof.Machine


/-! SUPPORT. The opening of a summit call and the stop-call trigger: one equation for each way they end (R156, R165). -/

namespace Sys2Proof.Machine

/-! ## A summit call that has its channel (R156) -/

/-- A summit call in SETUP on a channel. -/
def CallRecord.inSetup (r : CallRecord) (v : VoiceName) : CallRecord :=
  { r with state := .setup, channel := some v, known := true, timer := some 2000 }

/-- Record and channel of a summit call entering SETUP, before its REQUEST. -/
def State.inSetup (s : State) (i : Fin 4) (r : CallRecord) (v : VoiceName) : State :=
  { s with tel :=
    { s.tel with
      voices := upd s.tel.voices (voiceIndex v) fun _ => ⟨0, [], false, none, none, false, 0, none⟩
      records := upd s.tel.records i fun _ => r.inSetup v } }

theorem State.inSetup_record (s : State) (i : Fin 4) (r : CallRecord) (v : VoiceName) :
    (s.inSetup i r v).tel.records[i] = r.inSetup v := upd_self _ _ _

theorem State.claim_setup (s : State) (i : Fin 4) (r : CallRecord) (v : VoiceName) :
    (s.modRecord i fun _ => { r with state := .setup, timer := some 2000, known := true, channel := none }).claim i v =
      s.inSetup i r v := by
  simp only [State.claim, State.modVoice, State.modRecord, State.modTel, upd_upd]; rfl

theorem State.setupCall_eq {r : CallRecord} {l : Fin 4} (h : r.remote = .summit l) (s : State) (i : Fin 4)
    (v : VoiceName) :
    s.setupCall i r v =
      (s.inSetup i r v).offer .line 1 (callFrame .request r.ref r.line l r.priority (some v) .normal) := by
  have hclaim : s.setupCall i r v = (s.inSetup i r v).sendCall i .request :=
    congrArg (State.sendCall · i .request) (s.claim_setup i r v)
  have hframe : (r.inSetup v).frame .request .normal =
      some (callFrame .request r.ref r.line l r.priority (some v) .normal) := by
    simp only [CallRecord.frame, CallRecord.inSetup, h]; rfl
  rw [hclaim, State.sendCall, State.inSetup_record, hframe]
  rfl

/-! ## The link and the channels judged (R156) -/

theorem State.openSummit_free {s : State} {v : VoiceName} (h : s.link.state ≠ .silent) (hv : s.tel.freeChannel = some v)
    (i : Fin 4) (r : CallRecord) : s.openSummit i r = (s.setupCall i r v, none) := by
  rw [State.openSummit, if_neg h]
  simp only [hv]

theorem State.openSummit_busy {s : State} (h : s.link.state ≠ .silent) (hv : s.tel.freeChannel = none) {i : Fin 4}
    {r : CallRecord} (hp : r.priority = .emergency → s.tel.preemption (some i) r.line = none) :
    s.openSummit i r = (s, some .busy) := by
  rw [State.openSummit, if_neg h]
  simp only [hv]
  split
  · next he => rw [hp he]
  · rfl

theorem State.openSummit_preempts {s : State} (h : s.link.state ≠ .silent) (hv : s.tel.freeChannel = none) {i : Fin 4}
    {r : CallRecord} (he : r.priority = .emergency) {victims : List (Fin 4)} {v : VoiceName}
    (hp : s.tel.preemption (some i) r.line = some (victims, v)) :
    s.openSummit i r = (((victims.foldl State.takeVictim s).setupCall i r v).resumption, none) := by
  rw [State.openSummit, if_neg h]
  simp only [hv, if_pos he, hp]

/-! ## Stop calls (R165) -/

theorem Telephony.stopCallAllowed_iff (u : Telephony) :
    u.stopCallAllowed = true ↔
      u.activeRecord 0 = none ∧ ∀ i : Fin 4, ¬ ((u.records[i]).state = .held ∧ (u.records[i]).line = 0) := by
  simp [Telephony.stopCallAllowed, mem_allRecords, imp_iff_not_or]

theorem State.stopCallTrigger_ignored {s : State} (h : s.tel.stopCallAllowed = false ∨ s.tel.freeRecord = none) :
    s.stopCallTrigger = s.countTel Ctr.stopCallIgnored := by
  rw [State.stopCallTrigger]
  split
  · next hallowed hfree =>
    obtain h | h := h
    · rw [h] at hallowed; exact Bool.noConfusion hallowed
    · rw [h] at hfree; exact absurd hfree (by simp)
  · rfl

section
variable {s : State} {i : Fin 4} (hallowed : s.tel.stopCallAllowed = true) (hfree : s.tel.freeRecord = some i)
include hallowed hfree

theorem State.stopCallTrigger_rings (hhook : s.tel.hooks[(0 : Fin 2)] = false) :
    s.stopCallTrigger = (s.countTel Ctr.stopCall).modRecord i fun _ => stopCallRecord i := by
  rw [State.stopCallTrigger, hallowed, hfree]
  exact if_neg (ne_true_of_eq_false hhook)

theorem State.stopCallTrigger_answered (hhook : s.tel.hooks[(0 : Fin 2)] = true) :
    s.stopCallTrigger = ((s.countTel Ctr.stopCall).modRecord i fun _ => stopCallRecord i).stopCallToSummit i := by
  rw [State.stopCallTrigger, hallowed, hfree]
  exact if_pos hhook

end

/-- A stop call's record once it is a call to the operations summit line. -/
def State.stopCallSummit (s : State) (i : Fin 4) : CallRecord :=
  { s.tel.records[i] with remote := .summit (summitLineOf s.tel.table.operations) }

theorem State.stopCallSummit_opened (s : State) (i : Fin 4) :
    (s.modRecord i fun _ => stopCallRecord i).stopCallSummit i =
      { stopCallRecord i with remote := .summit (summitLineOf s.tel.table.operations) } := by
  rw [State.stopCallSummit, State.modRecord, State.modTel, upd_self]

theorem State.stopCallToSummit_opened {s t : State} {i : Fin 4} (h : s.openSummit i (s.stopCallSummit i) = (t, none)) :
    s.stopCallToSummit i = t := by
  rw [State.stopCallSummit] at h
  rw [State.stopCallToSummit]
  simp only [h]

theorem State.stopCallToSummit_refused {s : State} {i : Fin 4} {reason : ClearReason}
    (h : s.openSummit i (s.stopCallSummit i) = (s, some reason)) :
    s.stopCallToSummit i = ((s.modRecord i fun _ => s.stopCallSummit i).freeCore i reason true).resumption := by
  rw [State.stopCallSummit] at h ⊢
  rw [State.stopCallToSummit]
  simp only [h]

end Sys2Proof.Machine


/-! A hard reset (R183, R192): what a reset's own entries leave of the port, the telephony unit and the counts, the station
port being in REJOINING and the link SILENT. -/

namespace Sys2Proof.Machine

/-! ## The three notices and the stop calls of a reset (log 9, log 10) -/

/-- The telephony unit after `n` stop-call triggers on its reset values with the link SILENT. -/
def telephonyCalled (table : TelephonyFields) (hooks : Vector Bool 2) (n : Nat) : Telephony :=
  { telephonyReset table hooks with
    records :=
      if n = 0 then Vector.replicate 4 callFree
      else upd (Vector.replicate 4 callFree) 0 fun _ =>
        if hooks[(0 : Fin 2)] then
          { stopCallRecord 0 with remote := .summit (summitLineOf table.operations), state := .free, timer := none }
        else stopCallRecord 0
    counters :=
      if hooks[(0 : Fin 2)] then
        upd (upd (Vector.replicate 38 0) Ctr.stopCall fun _ => BitVec.ofNat 32 n) (Ctr.cleared (reasonIndex .lineLost))
          fun _ => BitVec.ofNat 32 n
      else
        upd (upd (Vector.replicate 38 0) Ctr.stopCall fun _ => BitVec.ofNat 32 (min 1 n)) Ctr.stopCallIgnored
          fun _ => BitVec.ofNat 32 (n - 1) }

/-- The counter of a notice, built or suppressed (R191). -/
def noticeCounter (notices : Bool) : Fin 16 := if notices then Ctr.noticeBuilt else Ctr.noticeSuppressed

/-- A state whose station port, responder and telephony unit are at their reset values but for `n` notices and `calls`
stop calls. -/
def State.entered (w : State) (n calls : Nat) : State :=
  { w with
    station :=
      { portInitial with
        counters :=
          if w.admin.part.notices then upd (Vector.replicate 21 0) (Ctr.detachDrop 2) fun _ => BitVec.ofNat 32 n
          else Vector.replicate 21 0 }
    admin :=
      { w.admin with
        counters := upd (Vector.replicate 16 0) (noticeCounter w.admin.part.notices) fun _ => BitVec.ofNat 32 n }
    tel := telephonyCalled w.tel.table w.tel.hooks calls }

theorem upd_replicate_zero {k : Nat} (i : Fin k) (n : Nat) :
    upd (upd (Vector.replicate k (0 : Counter)) i fun _ => BitVec.ofNat 32 n) i (· + 1) =
      upd (Vector.replicate k 0) i fun _ => BitVec.ofNat 32 (n + 1) := by
  rw [upd_upd]
  exact upd_congr (BitVec.ofNat_add n 1).symm

/-- A notice at a REJOINING station port is built, refused there and counted, or suppressed. -/
theorem State.notice_rejoining {s : State} (h : s.station.mode = .rejoining) (r : NoticeReason) :
    s.notice r =
      if s.admin.part.notices then (s.countAdmin Ctr.noticeBuilt).countPort .station (Ctr.detachDrop 2)
      else s.countAdmin Ctr.noticeSuppressed := by
  have hclosed : ((s.countAdmin Ctr.noticeBuilt).port .station).mode = .rejoining := h
  rw [State.notice]
  split
  · rw [State.offer, State.offerSaying, State.settle_closed (.inr hclosed), State.push_refused (by rw [hclosed]; rfl),
      hclosed, State.frameDropped_other (.inl rfl)]
    rfl
  · rfl

theorem State.entered_notice (w : State) (n calls : Nat) (r : NoticeReason) :
    (w.entered n calls).notice r = w.entered (n + 1) calls := by
  rw [State.notice_rejoining rfl]
  cases hon : w.admin.part.notices
  · simp only [State.entered, State.countAdmin, State.modAdmin, bump, noticeCounter, hon, Bool.false_eq_true, if_false,
      upd_replicate_zero]
  · simp only [State.entered, State.countAdmin, State.modAdmin, State.countPort, State.modPort, bump, noticeCounter, hon,
      if_true, upd_replicate_zero]

/-- A record without a channel, freed without a frame. -/
theorem State.freeCore_silent {s : State} {i : Fin 4} (h : (s.tel.records[i]).channel = none) (reason : ClearReason) :
    s.freeCore i reason true =
      s.modTel fun u =>
        { u with
          stack := u.stack.filter (· != i)
          records := upd u.records i fun r => { r with state := .free, timer := none }
          counters := bump u.counters (Ctr.cleared (reasonIndex reason)) } := by
  have hquiet : ((s.tel.records[i]).known && !true) = false := by simp
  rw [State.freeCore]
  simp only [hquiet]
  rw [State.releaseChannel]
  simp only [h]
  rfl

/-- A stop call answered at once while the link is SILENT: counted, and freed with LINE_LOST (R165). -/
theorem State.stopCallTrigger_lost {s : State} {i : Fin 4} (hallowed : s.tel.stopCallAllowed = true)
    (hfree : s.tel.freeRecord = some i) (hhook : s.tel.hooks[(0 : Fin 2)] = true) (hlink : s.link.state = .silent)
    (hstack : s.tel.stack = []) :
    s.stopCallTrigger =
      s.modTel fun u =>
        { u with
          records := upd u.records i fun _ =>
            { stopCallRecord i with
              remote := .summit (summitLineOf u.table.operations), state := .free, timer := none }
          counters := bump (bump u.counters Ctr.stopCall) (Ctr.cleared (reasonIndex .lineLost)) } := by
  rw [State.stopCallTrigger_answered hallowed hfree hhook,
    State.stopCallToSummit_refused
      (State.openSummit_silent (s := (s.countTel Ctr.stopCall).modRecord i fun _ => stopCallRecord i) hlink _ _), State.stopCallSummit_opened,
    State.freeCore_silent (by rw [State.modRecord, State.modTel, upd_self]; rfl), State.resumption_empty]
  · simp only [State.modRecord, State.modTel, State.countTel, upd_upd, hstack]
    rfl
  · simp only [State.modRecord, State.modTel, State.countTel, hstack]
    rfl

/-- The first stop call of a reset, LINE 0 on-hook, rings it; the second finds it rung. -/
theorem telephonyCalled_onHook (table : TelephonyFields) {hooks : Vector Bool 2} (h : hooks[(0 : Fin 2)] = false) :
    (telephonyCalled table hooks 0).stopCallAllowed = true ∧ (telephonyCalled table hooks 0).freeRecord = some 0 ∧
      (telephonyCalled table hooks 1).stopCallAllowed = false := by
  refine ⟨rfl, rfl, ?_⟩
  unfold telephonyCalled
  simp only [h]
  rfl

/-- Each stop call of a reset, LINE 0 off-hook, finds the four records FREE. -/
theorem telephonyCalled_offHook (table : TelephonyFields) {hooks : Vector Bool 2} (h : hooks[(0 : Fin 2)] = true) {n : Nat}
    (hn : n < 2) :
    (telephonyCalled table hooks n).stopCallAllowed = true ∧ (telephonyCalled table hooks n).freeRecord = some 0 := by
  unfold telephonyCalled
  simp only [h]
  match n, hn with
  | 0, _ => exact ⟨rfl, rfl⟩
  | 1, _ => exact ⟨rfl, rfl⟩

/-- Each stop call of a reset is counted as such, or as ignored where the first rings LINE 0 (R165). -/
theorem State.entered_call {w : State} (hlink : w.link.state = .silent) (n : Nat) {calls : Nat} (hcalls : calls < 2) :
    (w.entered n calls).stopCallTrigger = w.entered n (calls + 1) := by
  have hstep : ∀ {f : Telephony → Telephony}, (w.entered n calls).stopCallTrigger = (w.entered n calls).modTel f →
      f (telephonyCalled w.tel.table w.tel.hooks calls) = telephonyCalled w.tel.table w.tel.hooks (calls + 1) →
      (w.entered n calls).stopCallTrigger = w.entered n (calls + 1) := by
    intro f h hf
    rw [h, State.modTel]
    exact congrArg (fun k => { w.entered n calls with tel := k }) hf
  cases hhook : w.tel.hooks[(0 : Fin 2)]
  · obtain ⟨hallowed, hfree, hrung⟩ := telephonyCalled_onHook w.tel.table hhook
    match calls, hcalls with
    | 0, _ =>
      refine hstep (f := fun u => { u with
        records := upd u.records 0 fun _ => stopCallRecord 0, counters := bump u.counters Ctr.stopCall })
        (State.stopCallTrigger_rings (s := w.entered n 0) hallowed hfree hhook) ?_
      simp only [telephonyCalled, hhook]
      rfl
    | 1, _ =>
      refine hstep (f := fun u => { u with counters := bump u.counters Ctr.stopCallIgnored })
        (State.stopCallTrigger_ignored (s := w.entered n 1) (.inl hrung)) ?_
      simp only [telephonyCalled, hhook]
      rfl
  · obtain ⟨hallowed, hfree⟩ := telephonyCalled_offHook w.tel.table hhook hcalls
    refine hstep (State.stopCallTrigger_lost (s := w.entered n calls) hallowed hfree hhook hlink rfl) ?_
    match calls, hcalls with
    | 0, _ =>
      simp only [telephonyCalled, hhook]
      rfl
    | 1, _ =>
      simp only [telephonyCalled, hhook]
      rfl

/-- A record's entry at a reset: its notice and its stop call, as the flags of its code say. -/
theorem State.entered_handOn {w : State} (hlink : w.link.state = .silent) (n : Nat) {calls : Nat} (hcalls : calls < 2)
    (r : CauseRecord) :
    (w.entered n calls).handOnEntry r =
      w.entered (n + (w.chain.table[causeCode r.code]).notice.toNat)
        (calls + (w.chain.table[causeCode r.code]).call.toNat) := by
  have hflags : (w.entered n calls).chain.table = w.chain.table := rfl
  rw [State.handOnEntry, hflags]
  cases (w.chain.table[causeCode r.code]).notice <;> cases (w.chain.table[causeCode r.code]).call <;>
    simp [State.entered_notice, State.entered_call hlink _ hcalls]

/-- The stop chain once SUMMIT_SILENT has entered it at a reset (R148). -/
def StopChain.silent (u : StopChain) : StopChain :=
  { u with
    causes := u.causes ++ [⟨.summitSilent, (u.table[causeCode .summitSilent]).category, {}, 1, true⟩]
    counters := bump u.counters (Ctr.raises (causeCode .summitSilent)) }

theorem newRecord_plain (c : Cause) (table : Category) : newRecord c table {} false = ⟨c, table, {}, 1, true⟩ := by
  cases table <;> rfl

theorem State.entered_silent {w : State} (n calls : Nat) (hA : w.chain.asserted = .emergency)
    (hcauses : w.chain.causes = [resetLatchRecord w.chain.table]) :
    (w.entered n calls).raiseHeld .summitSilent {} =
      ((w.modChain StopChain.silent).entered n calls).handOnEntry
        ⟨.summitSilent, (w.chain.table[causeCode .summitSilent]).category, {}, 1, true⟩ := by
  have hout : (w.entered n calls).inSet .summitSilent = false := by
    show (w.chain.causes.any _) = false
    rw [hcauses]; rfl
  have hchain : (w.entered n calls).raised .summitSilent
      (w.chain.causes ++ [⟨.summitSilent, (w.chain.table[causeCode .summitSilent]).category, {}, 1, true⟩]) =
        (w.modChain StopChain.silent).entered n calls := rfl
  have hstill : ((w.modChain StopChain.silent).entered n calls).judgeRise =
      (w.modChain StopChain.silent).entered n calls :=
    State.judgeRise_still (by
      show _ ≤ w.chain.asserted.rank
      rw [hA]
      exact Category.rank_le_emergency _)
  rw [State.raiseHeld, State.raise_new hout]
  simp only [newRecord_plain]
  exact congrArg (State.handOnEntry · _) ((congrArg State.judgeRise hchain).trans hstill)

theorem State.entered_zero {w : State} (hstation : w.station = portInitial)
    (hcounters : w.admin.counters = Vector.replicate 16 0) (htel : w.tel = telephonyReset w.tel.table w.tel.hooks) :
    w.entered 0 0 = w := by
  have hcalled : telephonyCalled w.tel.table w.tel.hooks 0 = w.tel := by
    rw [htel]
    cases hhook : w.tel.hooks[(0 : Fin 2)] <;> simp only [telephonyCalled, telephonyReset, hhook] <;> rfl
  rw [State.entered, hcalled]
  cases hon : w.admin.part.notices
  · calc _ = { w with station := portInitial, admin := { w.admin with counters := Vector.replicate 16 0 } } := rfl
      _ = w := by rw [← hstation, ← hcounters]
  · calc _ = { w with station := portInitial, admin := { w.admin with counters := Vector.replicate 16 0 } } := rfl
      _ = w := by rw [← hstation, ← hcounters]

/-- What a reset's own entries leave: the counts of their notices and stop calls, and SUMMIT_SILENT in the set. -/
theorem State.handOnReset_entered {w : State} (hstation : w.station = portInitial)
    (hcounters : w.admin.counters = Vector.replicate 16 0)
    (htel : w.tel = telephonyReset w.tel.table w.tel.hooks) (hlink : w.link.state = .silent)
    (hA : w.chain.asserted = .emergency) (hcauses : w.chain.causes = [resetLatchRecord w.chain.table]) (old : Category) :
    w.handOnReset old =
      (w.modChain StopChain.silent).entered
        (1 + (w.chain.table[causeCode .resetLatch]).notice.toNat + (w.chain.table[causeCode .summitSilent]).notice.toNat)
        ((w.chain.table[causeCode .resetLatch]).call.toNat + (w.chain.table[causeCode .summitSilent]).call.toNat) := by
  have hzero : w = w.entered 0 0 := (State.entered_zero hstation hcounters htel).symm
  have hone : (w.chain.table[causeCode .resetLatch]).call.toNat < 2 := Bool.toNat_lt _
  have hlatch : (w.entered 1 0).handOnEntry (resetLatchRecord w.chain.table) =
      w.entered (1 + (w.chain.table[causeCode .resetLatch]).notice.toNat)
        (0 + (w.chain.table[causeCode .resetLatch]).call.toNat) :=
    State.entered_handOn hlink 1 (by decide) _
  rw [State.handOnReset]
  calc _ = (((w.entered 0 0).notice (.category old .emergency)).handOnEntry
        (resetLatchRecord w.chain.table)).raiseHeld .summitSilent {} := by rw [← hzero]
    _ = _ := by
      rw [State.entered_notice, hlatch, Nat.zero_add, State.entered_silent _ _ hA hcauses,
        State.entered_handOn (w := w.modChain StopChain.silent) hlink _ hone]
      rfl

/-! ## The obligation -/

/-- The hard reset values with the reset pin released. -/
def State.released (s : State) : State := { s.hardValues with pinHeld := false }

theorem State.hardReset_eq (s : State) : s.hardReset = (s.released.modChain StopChain.silent).entered 3 1 :=
  State.handOnReset_entered (w := s.released) rfl rfl rfl rfl rfl rfl s.chain.asserted

theorem State.hardReset_filter (s : State) (i : StopInput) :
    s.hardReset.stopFilter i = filterReset (s.stopFilter i).level := by
  rw [State.hardReset_eq]
  show (⟨(s.chain.levels.toList.map filterReset).toArray, by simp⟩ : Vector StopFilter 5)[stopInputIndex i] = _
  simp [StopChain.levels, State.stopFilter]

theorem telephonyCalled_others (table : TelephonyFields) (hooks : Vector Bool 2) (n : Nat) {i : Fin 4} (h : i ≠ 0) :
    (telephonyCalled table hooks n).records[i] = callFree := by
  unfold telephonyCalled
  split
  · exact Vector.getElem_replicate _
  · exact (upd_ne _ _ _ _ h).trans (Vector.getElem_replicate _)

/-- Settles O2: the reset values, then three notices refused at the station port and one stop call. -/
theorem hardResetValues : Obligations.HardResetValues := by
  unfold Obligations.HardResetValues
  intro s
  have hrecord : ∀ i, s.hardReset.record i = (telephonyCalled telephonyDefault s.tel.hooks 1).records[i] := fun i => by
    rw [State.hardReset_eq]; rfl
  have hcounters : s.hardReset.tel.counters = (telephonyCalled telephonyDefault s.tel.hooks 1).counters := by
    rw [State.hardReset_eq]; rfl
  refine ⟨s.hardReset, rfl, ?_, ?_, fun p => ?ports, ?_, ?_, ?_, ?_, ?_, ?_, ?_, ?_, ?_, ?_, ?_, ?_, ?_, ?_, ?_, ?_,
    fun i => ?filters, ?_, ?_, ?_, ?_, ?_, ?_, fun i hi => ?others, fun hhook => ?rung, fun hhook => ?lost⟩
  case ports => rw [State.hardReset_eq]; cases p <;> exact ⟨rfl, rfl, rfl, rfl, rfl, rfl, fun c => Vector.getElem_replicate _⟩
  case filters => rw [State.hardReset_filter]; exact ⟨rfl, rfl, rfl⟩
  case others => rw [hrecord, telephonyCalled_others _ _ _ hi]; rfl
  case rung =>
    rw [hrecord, hcounters]
    simp only [telephonyCalled, hhook]
    exact ⟨rfl, rfl⟩
  case lost =>
    rw [hrecord, hcounters]
    simp only [telephonyCalled, hhook]
    exact ⟨rfl, rfl, rfl, rfl⟩
  all_goals rw [State.hardReset_eq]; rfl

end Sys2Proof.Machine


/-! What raises and offers leave of the poller; the soft restart (R193): the answer before it touches nothing it keeps, and
its values are those of the state it was asked in. -/

namespace Sys2Proof.Machine

/-! ## What an offer or a raise can reach of the poller: the roll, the asks, the queues of posts and the counters -/

/-- The poller with what the asker and a dropped frame touch blotted out. -/
def Poller.kept (u : Poller) : Poller :=
  { u with
    posts := vecMap (fun e => { e with attention := false }) u.posts, roll := none, attention := [], sweep := [], ask := none,
    askSerial := 0, counters := Vector.replicate 259 0 }

theorem vecMap_getElem {α : Type} {n : Nat} (f : α → α) (v : Vector α n) (i : Fin n) : (vecMap f v)[i] = f v[i] := by
  simp [vecMap]

theorem Poller.kept_posts (u : Poller) (p : Post) : u.kept.posts[p] = { u.posts[p] with attention := false } :=
  vecMap_getElem _ _ _

theorem State.countPoller_kept (s : State) (i : Fin 259) : (s.countPoller i).poller.kept = s.poller.kept := rfl

@[simp] theorem State.frameDropped_kept (s : State) (f : Frame) : (s.frameDropped f).poller.kept = s.poller.kept := by
  unfold State.frameDropped State.rollDropped State.askFlushed
  repeat' split
  all_goals rfl

@[simp] theorem State.push_kept (s : State) (p : Port) (c : Fin 4) (f : Frame) : (s.push p c f).1.poller.kept = s.poller.kept := by
  unfold State.push; dsimp only; (repeat' split) <;> simp

/-- A post asked changes its attention flag alone. -/
@[simp] theorem Poller.asked_kept (u : Poller) (p : Post) : (u.asked p).kept = u.kept := by
  have hposts : vecMap (fun e => { e with attention := false }) (u.asked p).posts =
      vecMap (fun e => { e with attention := false }) u.posts := by
    refine Vector.ext fun i hi => ?_
    have hpost : { (u.asked p).posts[(⟨i, hi⟩ : Post)] with attention := false } =
        { u.posts[(⟨i, hi⟩ : Post)] with attention := false } := by
      show ({ (upd u.posts p _)[(⟨i, hi⟩ : Post)] with attention := false } : PostEntry) = _
      rw [upd_apply]
      split
      · next h => rw [← h]
      · rfl
    exact (vecMap_getElem _ _ (⟨i, hi⟩ : Post)).trans
      (hpost.trans (vecMap_getElem (fun e : PostEntry => { e with attention := false }) u.posts ⟨i, hi⟩).symm)
  unfold Poller.kept
  rw [hposts]
  rfl

@[simp] theorem State.sendAsk_kept (s : State) : s.sendAsk.poller.kept = s.poller.kept := by
  rw [State.sendAsk]
  split
  · rfl
  · next p _ => rw [State.push_kept, State.countPoller_kept]; exact s.poller.asked_kept p
@[simp] theorem State.dueAsk_kept (s : State) : (s.dueAsk).poller.kept = s.poller.kept := by
  unfold State.dueAsk; dsimp only; split <;> simp
@[simp] theorem State.settle_kept (s : State) (p : Port) : (s.settle p).poller.kept = s.poller.kept := by
  cases p <;> simp [State.settle]
@[simp] theorem State.offerSaying_kept (s : State) (p : Port) (c : Fin 4) (f : Frame) : (s.offerSaying p c f).1.poller.kept = s.poller.kept := by
  simp [State.offerSaying]
@[simp] theorem State.offer_kept (s : State) (p : Port) (c : Fin 4) (f : Frame) : (s.offer p c f).poller.kept = s.poller.kept := by
  simp [State.offer]
@[simp] theorem State.notice_kept (s : State) (r : NoticeReason) : (s.notice r).poller.kept = s.poller.kept := by
  unfold State.notice; split <;> simp
@[simp] theorem State.setAsserted_kept (s : State) (new : Category) : (s.setAsserted new).poller.kept = s.poller.kept := by
  unfold State.setAsserted; dsimp only; split <;> simp
@[simp] theorem State.judgeRise_kept (s : State) : (s.judgeRise).poller.kept = s.poller.kept := by
  unfold State.judgeRise; split <;> simp
@[simp] theorem State.offerCall_kept (s : State) (f : Option Frame) : (s.offerCall f).poller.kept = s.poller.kept := by
  cases f <;> simp [State.offerCall]
@[simp] theorem State.sendCall_kept (s : State) (i : Fin 4) (sub : CallSub) : (s.sendCall i sub).poller.kept = s.poller.kept := by
  simp [State.sendCall]
@[simp] theorem State.freeCore_kept (s : State) (i : Fin 4) (reason : ClearReason) (quiet : Bool) : (s.freeCore i reason quiet).poller.kept = s.poller.kept := by
  simp [State.freeCore]
@[simp] theorem State.resumeRecord_kept (s : State) (i : Fin 4) (v : VoiceName) : (s.resumeRecord i v).poller.kept = s.poller.kept := by
  unfold State.resumeRecord; dsimp only; split <;> simp
@[simp] theorem State.resumeHeld_kept (s : State) (k : Nat) : (s.resumeHeld k).poller.kept = s.poller.kept := by
  induction k generalizing s with
  | zero => rfl
  | succ k ih => unfold State.resumeHeld; split <;> simp [ih]
@[simp] theorem State.resumption_kept (s : State) : (s.resumption).poller.kept = s.poller.kept := by simp [State.resumption]
@[simp] theorem State.setupCall_kept (s : State) (i : Fin 4) (r : CallRecord) (v : VoiceName) : (s.setupCall i r v).poller.kept = s.poller.kept := by
  simp [State.setupCall]
@[simp] theorem State.takeVictim_kept (s : State) (j : Fin 4) : (s.takeVictim j).poller.kept = s.poller.kept := by
  unfold State.takeVictim; dsimp only; split <;> simp
@[simp] theorem State.takeVictims_kept (l : List (Fin 4)) (s : State) : (l.foldl State.takeVictim s).poller.kept = s.poller.kept := by
  induction l generalizing s with
  | nil => rfl
  | cons a l ih => simp [ih]
@[simp] theorem State.openSummit_kept (s : State) (i : Fin 4) (r : CallRecord) : (s.openSummit i r).1.poller.kept = s.poller.kept := by
  unfold State.openSummit; (repeat' split) <;> simp
@[simp] theorem State.stopCallToSummit_kept (s : State) (i : Fin 4) : (s.stopCallToSummit i).poller.kept = s.poller.kept := by
  unfold State.stopCallToSummit; dsimp only
  have h := State.openSummit_kept s i { s.tel.records[i] with remote := .summit (summitLineOf s.tel.table.operations) }
  split <;> rename_i e <;> rw [e] at h <;> simpa using h
@[simp] theorem State.stopCallTrigger_kept (s : State) : (s.stopCallTrigger).poller.kept = s.poller.kept := by
  unfold State.stopCallTrigger; dsimp only; (repeat' split) <;> simp
@[simp] theorem State.handOnEntry_kept (s : State) (r : CauseRecord) : (s.handOnEntry r).poller.kept = s.poller.kept := by
  unfold State.handOnEntry; dsimp only; split <;> split <;> simp
@[simp] theorem State.raise_kept (s : State) (c : Cause) (d : Detail) (m : Bool) : (s.raise c d m).poller.kept = s.poller.kept := by
  unfold State.raise; dsimp only; split <;> simp
@[simp] theorem State.raiseHeld_kept (s : State) (c : Cause) (d : Detail) : (s.raiseHeld c d).poller.kept = s.poller.kept := by
  simp [State.raiseHeld]
@[simp] theorem State.raiseMomentary_kept (s : State) (c : Cause) (d : Detail) : (s.raiseMomentary c d).poller.kept = s.poller.kept := by
  simp [State.raiseMomentary]
theorem State.settleRequest_kept (s : State) (rq : Requester) (code : RequestCode) (tag : Byte) (result : Result)
    (data : AnswerData) : (State.settleRequest rq code tag (s, result, data)).poller.kept = s.poller.kept := by
  rw [State.settleRequest, State.countAdmin_poller, State.answerTo]
  split <;> simp

/-! ## Single fields after such a step -/

theorem Poller.seats_of_kept {u v : Poller} (h : v.kept = u.kept) : v.seats = u.seats := by
  have e := congrArg Poller.seats h
  exact e

theorem Poller.post_of_kept {u v : Poller} (h : v.kept = u.kept) (p : Post) :
    v.posts[p] = { u.posts[p] with attention := (v.posts[p]).attention } := by
  have e := congrArg (fun k : Poller => { k.posts[p] with attention := (v.posts[p]).attention }) h
  simp only [Poller.kept_posts] at e
  exact e

theorem State.seat_of_kept {s t : State} (h : t.poller.kept = s.poller.kept) (r : SeatRef) : t.seat r = s.seat r := by
  rw [State.seat, State.seat, Poller.seats_of_kept h]

/-! ## The values of a soft restart depend on what it keeps alone -/

theorem Poller.pollerSoft_of_kept {u v : Poller} (h : v.kept = u.kept) (t : PartTable) : pollerSoft t v = pollerSoft t u := by
  have hfitted : vecMap (fun e => { postDefault with fitted := e.fitted }) v.posts =
      vecMap (fun e => { postDefault with fitted := e.fitted }) u.posts := by
    refine Vector.ext fun i hi => ?_
    rw [show (vecMap _ v.posts)[i] = _ from vecMap_getElem _ v.posts ⟨i, hi⟩,
      show (vecMap _ u.posts)[i] = _ from vecMap_getElem _ u.posts ⟨i, hi⟩, Poller.post_of_kept h]
  rw [pollerSoft, pollerSoft, Poller.seats_of_kept h, hfitted]

theorem Poller.buildSequence_of_kept {u v : Poller} (h : v.kept = u.kept) (t : Track) :
    buildSequence v t = buildSequence u t := by
  have hin : inSequence v t = inSequence u t := funext fun r => by
    rw [inSequence, inSequence, Poller.seats_of_kept h, Poller.post_of_kept h]
  have hpos : seatPosition v = seatPosition u := funext fun r => by rw [seatPosition, seatPosition, Poller.seats_of_kept h]
  rw [buildSequence, buildSequence, hin, hpos]

theorem Poller.trackerSoft_of_kept {u v : Poller} (h : v.kept = u.kept) (k : Tracker) : trackerSoft v k = trackerSoft u k := by
  rw [trackerSoft, trackerSoft, Poller.buildSequence_of_kept h, Poller.buildSequence_of_kept h]

theorem State.answered_softValues (s : State) (rq : Requester) (code : RequestCode) (tag : Byte) (result : Result)
    (data : AnswerData) : (State.settleRequest rq code tag (s, result, data)).softValues = s.softValues := by
  have hkept := s.settleRequest_kept rq code tag result data
  obtain ⟨hchain, hdoors, hrail⟩ := State.settleRequest_reach rq code tag (s, result, data)
  have hblocks : ∀ u : State, u = State.settleRequest rq code tag (s, result, data) →
      u.switch.classes = s.switch.classes ∧ u.admin.part = s.admin.part ∧ u.rope = s.rope ∧ u.tracker = s.tracker ∧
        u.tel = s.tel ∧ u.pinHeld = s.pinHeld ∧ u.pending = s.pending := by
    rintro u rfl
    rw [State.settleRequest, State.answerTo]
    split <;> simp
  obtain ⟨hclasses, hpart, hrope, htracker, htel, hpin, hpending⟩ := hblocks _ rfl
  generalize State.settleRequest rq code tag (s, result, data) = u at *
  dsimp only at hchain hdoors hrail
  rw [State.softValues, State.softValues, hchain, hdoors, hrail, hrope, htracker, htel, hpin, hpending, hpart,
    Poller.pollerSoft_of_kept hkept, Poller.trackerSoft_of_kept hkept, switchSoft, switchSoft, hclasses, adminSoft, adminSoft, hpart]

/-! ## The obligation -/

/-- The notices and the stop calls of a reset with a cause table (log 9). -/
def resetNotices (table : Vector CauseEntry 39) : Nat :=
  1 + (table[causeCode .resetLatch]).notice.toNat + (table[causeCode .summitSilent]).notice.toNat

def resetCalls (table : Vector CauseEntry 39) : Nat :=
  (table[causeCode .resetLatch]).call.toNat + (table[causeCode .summitSilent]).call.toNat

/-- What RESTART-PART at standstill leaves. -/
def State.restarted (s : State) : State :=
  (s.softValues.modChain StopChain.silent).entered (resetNotices s.chain.table) (resetCalls s.chain.table)

theorem State.softValues_handOn (s : State) (old : Category) : s.softValues.handOnReset old = s.restarted :=
  State.handOnReset_entered (w := s.softValues) rfl rfl rfl rfl rfl rfl old

theorem exec_restartPart {s : State} {rq : Requester} {tag : Byte} (hpin : s.pinHeld = false) (hcon : s.isConsole rq = true) :
    exec (.restartPart rq tag) s =
      .next (if s.rope.standstill then s.restarted
        else State.settleRequest rq .restartPart tag (s, .inMotion, .empty)) := by
  have hexec : exec (.restartPart rq tag) s = .next (s.onRestartPart rq tag) :=
    State.live_run hpin fun s => s.onRestartPart rq tag
  have hmay : s.mayRequest rq .restartPart = true := State.mayRequest_console hcon _
  have hrequest : ∀ own, s.request rq .restartPart tag own = State.settleRequest rq .restartPart tag (own s) := fun own => by
    rw [State.request, if_pos hmay]
  rw [hexec, State.onRestartPart, hmay, Bool.true_and, hrequest, hrequest]
  refine congrArg Host.Outcome.next ?_
  show (if s.rope.standstill = true then _ else _) = _
  congr 1
  rw [State.softRestart]
  have hvalues : (State.settleRequest rq .restartPart tag s.done).softValues = s.softValues :=
    s.answered_softValues rq .restartPart tag .done .empty
  rw [hvalues, State.softValues_handOn]

theorem telephonyCalled_none (table : TelephonyFields) (hooks : Vector Bool 2) (i : Fin 4) :
    (telephonyCalled table hooks 0).records[i] = callFree := by
  unfold telephonyCalled
  exact Vector.getElem_replicate _

/-- LINE 0 on-hook: the first stop call rings it, a second is ignored. -/
theorem telephonyCalled_rung (table : TelephonyFields) {hooks : Vector Bool 2} (h : hooks[(0 : Fin 2)] = false) (n : Nat) :
    (n ≠ 0 → (telephonyCalled table hooks n).records[(0 : Fin 4)] = stopCallRecord 0) ∧
      (telephonyCalled table hooks n).counters =
        upd (upd (Vector.replicate 38 0) Ctr.stopCall fun _ => BitVec.ofNat 32 (min 1 n)) Ctr.stopCallIgnored
          fun _ => BitVec.ofNat 32 (n - 1) := by
  unfold telephonyCalled
  simp only [h]
  refine ⟨fun hn => ?_, rfl⟩
  simp only [if_neg hn]
  rfl

/-- LINE 0 off-hook: each stop call is freed again with LINE_LOST. -/
theorem telephonyCalled_lost (table : TelephonyFields) {hooks : Vector Bool 2} (h : hooks[(0 : Fin 2)] = true) (n : Nat) :
    ((telephonyCalled table hooks n).records[(0 : Fin 4)]).state = .free ∧
      ((telephonyCalled table hooks n).records[(0 : Fin 4)]).channel = none ∧
      ((telephonyCalled table hooks n).records[(0 : Fin 4)]).timer = none ∧
      (telephonyCalled table hooks n).counters =
        upd (upd (Vector.replicate 38 0) Ctr.stopCall fun _ => BitVec.ofNat 32 n) (Ctr.cleared (reasonIndex .lineLost))
          fun _ => BitVec.ofNat 32 n := by
  unfold telephonyCalled
  simp only [h]
  by_cases hn : n = 0
  · simp only [if_pos hn]; exact ⟨rfl, rfl, rfl, rfl⟩
  · simp only [if_neg hn]; exact ⟨rfl, rfl, rfl, rfl⟩

theorem doorsSoft_channel (u : Doors) (k : Fin 8) :
    (doorsSoft u).channels[k] = channelReset (u.channels[k]).entry (u.channels[k]).pins := by
  rw [doorsSoft]; exact vecMap_getElem _ _ _

theorem StopChain.levels_reset (u : StopChain) (table : Vector CauseEntry 39) (i : Fin 5) :
    (chainReset table u.levels).filters[i] = filterReset (u.filters[i]).level := by
  simp [chainReset, StopChain.levels]

/-- Settles O4: refused in motion; at standstill the soft values of the state asked in, then the reset's own entries. -/
theorem restartPartKeepsTheTables : Obligations.RestartPartKeepsTheTables := by
  unfold Obligations.RestartPartKeepsTheTables
  intro s rq tag hpin hcon
  refine ⟨fun hmoves => ?_, fun hstill => ?_⟩
  · rw [exec_restartPart hpin hcon, if_neg (by rw [hmoves]; decide)]
  intro latch silent notices calls
  refine ⟨s.restarted, ?_, hpin, rfl, fun p => ?ports, rfl, rfl, rfl, rfl, rfl, ?rope, fun p => ?posts, fun r => ?seats,
    ⟨rfl, rfl, rfl, rfl, rfl, rfl, rfl, rfl, rfl, rfl, rfl⟩, rfl, fun d => ?detectors, rfl, rfl, rfl, fun k => ?channels, rfl,
    rfl, rfl, rfl, rfl, rfl, rfl, rfl, rfl, fun i => ?filters, rfl, rfl, rfl, rfl, rfl, rfl, fun i hi => ?others,
    fun hzero => ?nocall, fun hhook => ?rung, fun hhook => ?lost⟩
  · rw [exec_restartPart hpin hcon, if_pos hstill]
  case ports => cases p <;> exact ⟨rfl, rfl, rfl, rfl, rfl, rfl, fun c => Vector.getElem_replicate _⟩
  case rope =>
    show ropeSoft s.rope = _
    have hand : (s.rope.standstill && s.rope.driveRun) = s.rope.driveRun := by rw [hstill, Bool.true_and]
    rw [ropeSoft, hand]
  case posts => exact vecMap_getElem _ s.poller.posts p
  case seats => exact vecMap_getElem _ s.poller.seats _
  case detectors => exact vecMap_getElem _ s.rail.detectors d
  case channels => exact doorsSoft_channel s.doors k
  case filters =>
    have h : s.restarted.stopFilter i = filterReset (s.stopFilter i).level :=
      StopChain.levels_reset s.chain s.chain.table (stopInputIndex i)
    rw [h]
    exact ⟨rfl, rfl, rfl⟩
  case others => exact telephonyCalled_others s.tel.table s.tel.hooks _ hi
  case nocall =>
    have h : s.restarted.record 0 = (telephonyCalled s.tel.table s.tel.hooks calls).records[(0 : Fin 4)] := rfl
    rw [h, hzero]
    exact telephonyCalled_none _ _ _
  case rung => exact telephonyCalled_rung s.tel.table hhook calls
  case lost => exact telephonyCalled_lost s.tel.table hhook calls

end Sys2Proof.Machine


/-! The post and seat tables and the seat checker (R49 to R54). -/

namespace Sys2Proof.Machine

/-! ## The post and seat tables -/

theorem mem_allPosts (p : Post) : p ∈ allPosts := List.mem_finRange p

theorem mem_allSeats (r : SeatRef) : r ∈ allSeats :=
  List.mem_flatMap.mpr ⟨r.post, mem_allPosts _, List.mem_map.mpr ⟨r.seat, List.mem_finRange _, rfl⟩⟩

theorem seatIndex_inj {q r : SeatRef} (h : seatIndex q.post q.seat = seatIndex r.post r.seat) : q = r := by
  obtain ⟨⟨p, hp⟩, ⟨s, hs⟩⟩ := q
  obtain ⟨⟨p', hp'⟩, ⟨s', hs'⟩⟩ := r
  simp only [seatIndex, Fin.mk.injEq] at h
  simp only [SeatRef.mk.injEq, Fin.mk.injEq]
  omega

@[simp] theorem State.modSeat_seat (s : State) (r : SeatRef) (f : SeatEntry → SeatEntry) :
    (s.modSeat r f).seat r = f (s.seat r) := upd_self _ _ _

theorem State.modSeat_seat_ne (s : State) {r q : SeatRef} (f : SeatEntry → SeatEntry) (h : q ≠ r) :
    (s.modSeat r f).seat q = s.seat q := upd_ne _ _ _ _ fun e => h (seatIndex_inj e)

@[simp] theorem State.modPost_post (s : State) (p : Post) (f : PostEntry → PostEntry) :
    (s.modPost p f).post p = f (s.post p) := upd_self _ _ _

theorem State.modPost_post_ne (s : State) {p q : Post} (f : PostEntry → PostEntry) (h : q ≠ p) :
    (s.modPost p f).post q = s.post q := upd_ne _ _ _ _ h

theorem State.modSeat_modSeat (s : State) (r : SeatRef) (f g : SeatEntry → SeatEntry) :
    (s.modSeat r f).modSeat r g = s.modSeat r fun e => g (f e) := by
  simp [State.modSeat, State.modPoller]

@[simp] theorem State.countPoller_seat (s : State) (i : Fin 259) (r : SeatRef) : (s.countPoller i).seat r = s.seat r := rfl

@[simp] theorem State.raiseHeld_seat (s : State) (c : Cause) (d : Detail) (r : SeatRef) :
    (s.raiseHeld c d).seat r = s.seat r := State.seat_of_kept (by simp) r

@[simp] theorem State.raiseMomentary_seat (s : State) (c : Cause) (d : Detail) (r : SeatRef) :
    (s.raiseMomentary c d).seat r = s.seat r := State.seat_of_kept (by simp) r

/-! ## Shares (R49) -/

theorem State.modSeat_any {s : State} {r : SeatRef} {f : SeatEntry → SeatEntry} {has : SeatEntry → Bool}
    (hr : has (f (s.seat r)) = false) :
    (allSeats.any fun q => has ((s.modSeat r f).seat q)) = true ↔ ∃ q, q ≠ r ∧ has (s.seat q) = true := by
  rw [List.any_eq_true]
  constructor
  · rintro ⟨q, -, hq⟩
    by_cases h : q = r
    · subst h; rw [State.modSeat_seat, hr] at hq; exact absurd hq (by decide)
    · exact ⟨q, h, by rwa [State.modSeat_seat_ne _ _ h] at hq⟩
  · rintro ⟨q, h, hq⟩
    exact ⟨q, mem_allSeats q, by rwa [State.modSeat_seat_ne _ _ h]⟩

theorem State.dropLimit_none {s : State} {r : SeatRef} (h : (s.seat r).limitShare = false) : s.dropLimit r = s :=
  if_neg (by rw [h]; decide)

theorem State.dropLimit_share {s : State} {r : SeatRef} (h : (s.seat r).limitShare = true) :
    let u := s.modSeat r fun e => { e with limitShare := false }
    ((∃ q, q ≠ r ∧ (s.seat q).limitShare = true) → s.dropLimit r = u) ∧
      ((∀ q, q ≠ r → (s.seat q).limitShare = false) → s.dropLimit r = u.withdraw .seatLimit) := by
  intro u
  have hany : u.poller.anyLimit = true ↔ ∃ q, q ≠ r ∧ (s.seat q).limitShare = true :=
    State.modSeat_any (has := SeatEntry.limitShare) rfl
  have hdrop : s.dropLimit r = if u.poller.anyLimit then u else u.withdraw .seatLimit := if_pos h
  refine ⟨fun hother => ?_, fun hnone => ?_⟩
  · rw [hdrop, if_pos (hany.mpr hother)]
  · rw [hdrop, if_neg (mt hany.mp fun ⟨q, hq, hshare⟩ => by rw [hnone q hq] at hshare; exact absurd hshare (by decide))]

theorem State.dropSwitch_none {s : State} {r : SeatRef} (h : (s.seat r).switchShare = false) : s.dropSwitch r = s :=
  if_neg (by rw [h]; decide)

theorem State.dropSwitch_share {s : State} {r : SeatRef} (h : (s.seat r).switchShare = true) :
    let u := s.modSeat r fun e => { e with switchShare := false }
    ((∃ q, q ≠ r ∧ (s.seat q).switchShare = true) → s.dropSwitch r = u) ∧
      ((∀ q, q ≠ r → (s.seat q).switchShare = false) → s.dropSwitch r = u.withdraw .seatSwitch) := by
  intro u
  have hany : u.poller.anySwitch = true ↔ ∃ q, q ≠ r ∧ (s.seat q).switchShare = true :=
    State.modSeat_any (has := SeatEntry.switchShare) rfl
  have hdrop : s.dropSwitch r = if u.poller.anySwitch then u else u.withdraw .seatSwitch := if_pos h
  refine ⟨fun hother => ?_, fun hnone => ?_⟩
  · rw [hdrop, if_pos (hany.mpr hother)]
  · rw [hdrop, if_neg (mt hany.mp fun ⟨q, hq, hshare⟩ => by rw [hnone q hq] at hshare; exact absurd hshare (by decide))]

/-! ## The offset (R50 to R52) -/

theorem State.beyondWarn_seat (s : State) (r q : SeatRef) : (s.beyondWarn r).seat q = s.seat q := by
  simp [State.beyondWarn]

theorem satAdd_one (m n : Nat) : satAdd m n 1 = min m (n + 1) := rfl

/-- Beyond the stop limit, short of the confirm count or with the share already there. -/
theorem State.beyondStop_counts {s : State} {r : SeatRef}
    (h : min (s.seat r).confirm ((s.seat r).beyond + 1) < (s.seat r).confirm ∨ (s.seat r).limitShare = true) :
    s.beyondStop r = s.modSeat r fun e => { e with beyond := min (s.seat r).confirm ((s.seat r).beyond + 1) } := by
  refine if_neg fun ⟨hn, hshare⟩ => ?_
  obtain h | h := h
  · exact absurd hn (Nat.ne_of_lt h)
  · rw [hshare] at h; exact Bool.noConfusion h

/-- At the confirm count the seat's share becomes present and is raised. -/
theorem State.beyondStop_confirms {s : State} {r : SeatRef}
    (hn : min (s.seat r).confirm ((s.seat r).beyond + 1) = (s.seat r).confirm) (hshare : (s.seat r).limitShare = false) :
    s.beyondStop r =
      (s.modSeat r fun e =>
        { e with beyond := min (s.seat r).confirm ((s.seat r).beyond + 1), limitShare := true }).raiseHeld .seatLimit
        (seatDetail r) := by
  have h : s.beyondStop r = ((s.modSeat r fun e =>
      { e with beyond := min (s.seat r).confirm ((s.seat r).beyond + 1) }).modSeat r fun e =>
        { e with limitShare := true }).raiseHeld .seatLimit (seatDetail r) := if_pos ⟨hn, hshare⟩
  rw [h, State.modSeat_modSeat]

theorem State.judgeOffset_off {s : State} {r : SeatRef} (h : (s.seat r).compare = .off) (o : Int) : s.judgeOffset r o = s := by
  simp only [State.judgeOffset, h, testedValue]

theorem State.judgeOffset_fault {s : State} {r : SeatRef} {o t : Int} (ht : testedValue (s.seat r).compare o = some t)
    (ho : o = -32768) : s.judgeOffset r o = ((s.countPoller Ctr.sensorFault).beyondWarn r).beyondStop r := by
  simp only [State.judgeOffset, ht, if_pos ho]

/-- The state once the warn limit has been judged. -/
def State.warnJudged (s : State) (r : SeatRef) (t : Int) : State :=
  if ((s.seat r).warn : Int) < t then s.beyondWarn r else s

theorem State.warnJudged_seat (s : State) (r q : SeatRef) (t : Int) : (s.warnJudged r t).seat q = s.seat q := by
  unfold State.warnJudged
  split
  · exact s.beyondWarn_seat r q
  · rfl

theorem State.judgeOffset_value {s : State} {r : SeatRef} {o t : Int} (ht : testedValue (s.seat r).compare o = some t)
    (ho : o ≠ -32768) :
    s.judgeOffset r o =
      if ((s.seat r).stop : Int) < t then (s.warnJudged r t).beyondStop r else (s.warnJudged r t).withinStop r := by
  simp only [State.judgeOffset, ht, if_neg ho, beyondLimit, decide_eq_true_eq, State.warnJudged]

theorem testedValue_iff {m : Compare} {o t : Int}
    (h : (m = .band ∧ t = (o.natAbs : Int)) ∨ (m = .above ∧ t = o) ∨ (m = .below ∧ t = -o)) : testedValue m o = some t := by
  obtain ⟨rfl, rfl⟩ | ⟨rfl, rfl⟩ | ⟨rfl, rfl⟩ := h <;> rfl

/-! ## The switches (R53, R54) -/

/-- A step that leaves the switch fields of a seat as they are. -/
def State.KeepsSwitch (s t : State) (r : SeatRef) : Prop :=
  (t.seat r).supervised = (s.seat r).supervised ∧ (t.seat r).switchShare = (s.seat r).switchShare

theorem State.KeepsSwitch.trans {s t u : State} {r : SeatRef} (h : s.KeepsSwitch t r) (k : t.KeepsSwitch u r) :
    s.KeepsSwitch u r := ⟨k.1.trans h.1, k.2.trans h.2⟩

theorem State.KeepsSwitch.of_seat {s t : State} {r : SeatRef} (h : t.seat r = s.seat r) : s.KeepsSwitch t r :=
  ⟨congrArg _ h, congrArg _ h⟩

theorem State.modSeat_keepsSwitch (s : State) (r : SeatRef) {f : SeatEntry → SeatEntry}
    (hf : ∀ e, (f e).supervised = e.supervised ∧ (f e).switchShare = e.switchShare) : s.KeepsSwitch (s.modSeat r f) r := by
  unfold State.KeepsSwitch
  rw [State.modSeat_seat]
  exact hf _

theorem State.beyondStop_keepsSwitch (s : State) (r : SeatRef) : s.KeepsSwitch (s.beyondStop r) r := by
  have hcount := s.modSeat_keepsSwitch r (f := fun e =>
    { e with beyond := satAdd (s.seat r).confirm (s.seat r).beyond 1 }) fun _ => ⟨rfl, rfl⟩
  unfold State.beyondStop
  dsimp only
  split
  · exact (hcount.trans (State.modSeat_keepsSwitch _ r (f := fun e => { e with limitShare := true }) fun _ => ⟨rfl, rfl⟩)).trans
      (.of_seat (State.raiseHeld_seat _ _ _ _))
  · exact hcount

theorem State.dropLimit_keepsSwitch (s : State) (r : SeatRef) : s.KeepsSwitch (s.dropLimit r) r := by
  have hdrop := s.modSeat_keepsSwitch r (f := fun e => { e with limitShare := false }) fun _ => ⟨rfl, rfl⟩
  unfold State.dropLimit
  dsimp only
  split
  · split
    · exact hdrop
    · exact hdrop.trans (.of_seat (by rw [State.seat, State.withdraw_poller]; rfl))
  · exact .of_seat rfl

theorem State.withinStop_keepsSwitch (s : State) (r : SeatRef) : s.KeepsSwitch (s.withinStop r) r :=
  (s.modSeat_keepsSwitch r (f := fun e => { e with beyond := 0 }) fun _ => ⟨rfl, rfl⟩).trans
    (State.dropLimit_keepsSwitch _ r)

theorem State.judgeOffset_keepsSwitch (s : State) (r : SeatRef) (o : Int) : s.KeepsSwitch (s.judgeOffset r o) r := by
  cases ht : testedValue (s.seat r).compare o with
  | none => simp only [State.judgeOffset, ht]; exact .of_seat rfl
  | some t =>
    by_cases ho : o = -32768
    · rw [State.judgeOffset_fault ht ho]
      have hwarn : s.KeepsSwitch ((s.countPoller Ctr.sensorFault).beyondWarn r) r :=
        .of_seat (State.beyondWarn_seat (s.countPoller Ctr.sensorFault) r r)
      exact hwarn.trans (State.beyondStop_keepsSwitch _ r)
    · have hwarn : s.KeepsSwitch (s.warnJudged r t) r := .of_seat (s.warnJudged_seat r r t)
      rw [State.judgeOffset_value ht ho]
      split
      · exact hwarn.trans (State.beyondStop_keepsSwitch _ r)
      · exact hwarn.trans (State.withinStop_keepsSwitch _ r)

theorem State.seatEntry_fitted {s : State} {p : Post} {e : SeatReport} (h : (s.seat ⟨p, e.seat⟩).fitted = true) :
    s.seatEntry p e = (s.judgeOffset ⟨p, e.seat⟩ e.offset).judgeSwitches ⟨p, e.seat⟩ (e.derail || e.wire) := if_pos h

section
variable {s : State} {r : SeatRef} {o : Int} (hsup : (s.seat r).supervised = true)
include hsup

theorem State.judgeSwitches_closed : s.judgeSwitches r false = s.dropSwitch r := by
  simp [State.judgeSwitches, hsup]

theorem State.judgeSwitches_openAgain (h : (s.seat r).switchShare = true) :
    s.judgeSwitches r true = s.countPoller Ctr.switchOpen := by
  simp [State.judgeSwitches, hsup, h]

theorem State.judgeSwitches_opened (h : (s.seat r).switchShare = false) :
    s.judgeSwitches r true =
      ((s.countPoller Ctr.switchOpen).modSeat r fun e => { e with switchShare := true }).raiseHeld .seatSwitch
        (seatDetail r) := by
  simp [State.judgeSwitches, hsup, h]

end

/-! ## The obligation -/

theorem State.beyondStop_counts_of {s : State} {r : SeatRef} (v : State) (hv : v.seat r = s.seat r)
    (h : min (s.seat r).confirm ((s.seat r).beyond + 1) < (s.seat r).confirm ∨ (s.seat r).limitShare = true) :
    v.beyondStop r = v.modSeat r fun e => { e with beyond := min (s.seat r).confirm ((s.seat r).beyond + 1) } := by
  rw [← hv] at h ⊢
  exact State.beyondStop_counts h

theorem State.beyondStop_confirms_of {s : State} {r : SeatRef} (v : State) (hv : v.seat r = s.seat r)
    (hn : min (s.seat r).confirm ((s.seat r).beyond + 1) = (s.seat r).confirm) (hshare : (s.seat r).limitShare = false) :
    v.beyondStop r =
      (v.modSeat r fun e =>
        { e with beyond := min (s.seat r).confirm ((s.seat r).beyond + 1), limitShare := true }).raiseHeld .seatLimit
        (seatDetail r) := by
  rw [← hv] at hn hshare ⊢
  exact State.beyondStop_confirms hn hshare

/-- Settles O15: the offset by mode, warn limit and stop limit; the switches of a fitted seat; the two shares. -/
theorem seatOffsetJudgement : Obligations.SeatOffsetJudgement := by
  unfold Obligations.SeatOffsetJudgement
  refine ⟨fun s r o t => ?offset, fun s p e => ?entry, fun s r => ?shares⟩
  case offset =>
    intro e detail warned faulted judged n
    have hfault : faulted.seat r = s.seat r := (State.beyondWarn_seat _ r r).trans (State.countPoller_seat _ _ _)
    have hjudged : judged.seat r = s.seat r := s.warnJudged_seat r r t
    refine ⟨fun h => State.judgeOffset_off h o, fun h => ?_⟩
    have ht : testedValue (s.seat r).compare o = some t := testedValue_iff h
    refine ⟨fun ho hle => ?_, fun ho hlt hcount => ?_, fun ho hlt hn hshare => ?_, fun ho hcount => ?_, fun ho hn hshare => ?_⟩
    · rw [State.judgeOffset_value ht ho, if_neg (Int.not_lt.mpr hle)]; rfl
    · rw [State.judgeOffset_value ht ho, if_pos hlt]
      exact State.beyondStop_counts_of judged hjudged hcount
    · rw [State.judgeOffset_value ht ho, if_pos hlt]
      exact State.beyondStop_confirms_of judged hjudged hn hshare
    · rw [State.judgeOffset_fault ht ho]
      exact State.beyondStop_counts_of faulted hfault hcount
    · rw [State.judgeOffset_fault ht ho]
      exact State.beyondStop_confirms_of faulted hfault hn hshare
  case entry =>
    intro r v detail
    obtain ⟨hsup, hshare⟩ : s.KeepsSwitch v r := s.judgeOffset_keepsSwitch r e.offset
    refine ⟨fun h => if_neg (by rw [h]; decide), fun h => ?_⟩
    rw [State.seatEntry_fitted h]
    refine ⟨fun hno => if_pos (hsup.trans hno), fun hs hd hw => ?_, fun hs hopen => ⟨fun hold => ?_, fun hnew => ?_⟩⟩
    · rw [hd, hw]
      exact State.judgeSwitches_closed (hsup.trans hs)
    · rw [show (e.derail || e.wire) = true by simpa using hopen]
      exact State.judgeSwitches_openAgain (hsup.trans hs) (hshare.trans hold)
    · rw [show (e.derail || e.wire) = true by simpa using hopen]
      exact State.judgeSwitches_opened (hsup.trans hs) (hshare.trans hnew)
  case shares =>
    exact ⟨State.dropLimit_none, State.dropLimit_share, State.dropSwitch_none, State.dropSwitch_share⟩

end Sys2Proof.Machine


/-! Rolls (R37 to R41). -/

namespace Sys2Proof.Machine

/-! ## The poller through a change of the error count (R12, R13) -/

@[simp] theorem State.flushClass_kept (s : State) (p : Port) (f : Fin 4 → Fin 21) (c : Fin 4) : (s.flushClass p f c).poller.kept = s.poller.kept := by
  unfold State.flushClass
  have h : ∀ (l : List Frame) (s : State),
      (l.foldl (fun s g => (s.countPort p (f c)).frameDropped g) s).poller.kept = s.poller.kept := by
    intro l
    induction l with
    | nil => exact fun _ => rfl
    | cons g l ih => intro s; rw [List.foldl_cons, ih, State.frameDropped_kept, State.countPort_poller]
  rw [h, State.modPort_poller]
@[simp] theorem State.enterMode_kept (s : State) (p : Port) (m : PortMode) : (s.enterMode p m).poller.kept = s.poller.kept := by
  simp [State.enterMode]
@[simp] theorem State.reportMode_kept (s : State) (p : Port) (m : PortMode) : (s.reportMode p m).poller.kept = s.poller.kept := by
  simp [State.reportMode]
@[simp] theorem State.enterDetached_kept (s : State) (p : Port) : (s.enterDetached p).poller.kept = s.poller.kept := by
  simp [State.enterDetached]
@[simp] theorem State.changeMode_kept (s : State) (p : Port) (m : PortMode) : (s.changeMode p m).poller.kept = s.poller.kept := by
  unfold State.changeMode; split <;> simp
@[simp] theorem State.changeErrors_kept (s : State) (p : Port) (f : Nat → Nat) : (s.changeErrors p f).poller.kept = s.poller.kept := by
  unfold State.changeErrors; dsimp only; (repeat' split) <;> simp
@[simp] theorem State.errorUp_kept (s : State) (p : Port) : (s.errorUp p).poller.kept = s.poller.kept := by
  simp [State.errorUp]

theorem Poller.lost_of_kept {u v : Poller} (h : v.kept = u.kept) : v.lost = u.lost := by
  have e := congrArg Poller.lost h
  exact e

/-! ## A post's share of POST_ABSENT (R40, R49) -/

theorem State.modPost_any {s : State} {p : Post} {f : PostEntry → PostEntry} {has : PostEntry → Bool}
    (hp : has (f (s.post p)) = false) :
    (allPosts.any fun q => has ((s.modPost p f).post q)) = true ↔ ∃ q, q ≠ p ∧ has (s.post q) = true := by
  rw [List.any_eq_true]
  constructor
  · rintro ⟨q, -, hq⟩
    by_cases h : q = p
    · subst h; rw [State.modPost_post, hp] at hq; exact absurd hq (by decide)
    · exact ⟨q, h, by rwa [State.modPost_post_ne _ _ h] at hq⟩
  · rintro ⟨q, h, hq⟩
    exact ⟨q, mem_allPosts q, by rwa [State.modPost_post_ne _ _ h]⟩

theorem State.modPost_modPost (s : State) (p : Post) (f g : PostEntry → PostEntry) :
    (s.modPost p f).modPost p g = s.modPost p fun e => g (f e) := by
  simp [State.modPost, State.modPoller]

theorem State.modPost_congr {s : State} {p : Post} {f g : PostEntry → PostEntry} (h : f (s.post p) = g (s.post p)) :
    s.modPost p f = s.modPost p g := by
  rw [State.modPost, State.modPost, State.modPoller, State.modPoller, upd_congr h]

theorem State.dropAbsent_none {s : State} {p : Post} (h : (s.post p).absentShare = false) : s.dropAbsent p = s :=
  if_neg (by rw [h]; decide)

theorem State.dropAbsent_share {s : State} {p : Post} (h : (s.post p).absentShare = true) :
    let u := s.modPost p fun e => { e with absentShare := false }
    ((∃ q, q ≠ p ∧ (s.post q).absentShare = true) → s.dropAbsent p = u) ∧
      ((∀ q, q ≠ p → (s.post q).absentShare = false) → s.dropAbsent p = u.withdraw .postAbsent) := by
  intro u
  have hany : u.poller.anyAbsent = true ↔ ∃ q, q ≠ p ∧ (s.post q).absentShare = true :=
    State.modPost_any (has := PostEntry.absentShare) rfl
  have hdrop : s.dropAbsent p = if u.poller.anyAbsent then u else u.withdraw .postAbsent := if_pos h
  refine ⟨fun hother => ?_, fun hnone => ?_⟩
  · rw [hdrop, if_pos (hany.mpr hother)]
  · rw [hdrop, if_neg (mt hany.mp fun ⟨q, hq, hshare⟩ => by rw [hnone q hq] at hshare; exact absurd hshare (by decide))]

/-! ## PRESENT (R40) -/

/-- A post seen by a roll. -/
def State.postSeen (s : State) (p : Post) : State := s.modPost p fun e => { e with absent := 0, absentShare := false }

theorem State.judgePresent_seen {s : State} {p : Post}
    (h : (s.post p).absentShare = false ∨ ∃ q, q ≠ p ∧ (s.post q).absentShare = true) :
    s.judgePresent p true = s.postSeen p := by
  have hdrop : s.judgePresent p true = (s.modPost p fun e => { e with absent := 0 }).dropAbsent p := rfl
  have htwice : ((s.modPost p fun e => { e with absent := 0 }).modPost p fun e => { e with absentShare := false }) =
      s.postSeen p := s.modPost_modPost p _ _
  rw [hdrop]
  cases hshare : (s.post p).absentShare with
  | false =>
    rw [State.dropAbsent_none (by rw [State.modPost_post]; exact hshare), State.postSeen]
    exact State.modPost_congr (by rw [← hshare])
  | true =>
    obtain ⟨q, hq, hother⟩ := h.resolve_left (by rw [hshare]; decide)
    obtain ⟨hkeeps, -⟩ := State.dropAbsent_share (s := s.modPost p fun e => { e with absent := 0 }) (p := p)
      (by rw [State.modPost_post]; exact hshare)
    rw [hkeeps ⟨q, hq, by rwa [State.modPost_post_ne _ _ hq]⟩, htwice]

theorem State.judgePresent_last {s : State} {p : Post} (hshare : (s.post p).absentShare = true)
    (h : ∀ q, q ≠ p → (s.post q).absentShare = false) :
    s.judgePresent p true = (s.postSeen p).withdraw .postAbsent := by
  have hdrop : s.judgePresent p true = (s.modPost p fun e => { e with absent := 0 }).dropAbsent p := rfl
  obtain ⟨-, hlast⟩ := State.dropAbsent_share (s := s.modPost p fun e => { e with absent := 0 }) (p := p)
    (by rw [State.modPost_post]; exact hshare)
  rw [hdrop, hlast fun q hq => by rw [State.modPost_post_ne _ _ hq]; exact h q hq, State.modPost_modPost, State.postSeen]

theorem State.rollAnswer_fitted {s : State} {p : Post} (h : (s.post p).fitted = true) (payload : List Byte) :
    State.rollAnswer payload s p =
      if rollAttention payload p then (s.judgePresent p (rollPresent payload p)).takeAttention p
      else s.judgePresent p (rollPresent payload p) := if_pos h

/-! ## A returning ROLL (R39) -/

theorem Poller.matchesRoll_iff (u : Poller) (n : Byte) : u.matchesRoll n = true ↔ ∃ x, u.roll = some x ∧ x.1 = n := by
  rw [Poller.matchesRoll]
  split
  · next h => simp [h]
  · next h => simp [h]

/-! ## The obligation -/

theorem State.buildRoll_eq (s : State) :
    s.buildRoll =
      (s.modPoller fun u =>
        { u with
          rollNumber := s.poller.rollNumber + 1
          roll := some (s.poller.rollNumber + 1, .queued)
          counters := bump u.counters Ctr.rollsBuilt }).offer .line 0
        { b0 := 127, b1 := 0, b2 := 0, payload := .raw ((s.poller.rollNumber + 1) :: List.replicate 13 0)
          origin := .roll (s.poller.rollNumber + 1) } := rfl

/-- Settles O12: the roll period by the outstanding roll; its deadline; the returning roll; one post's answer bits. -/
theorem rollsBuiltAndLost : Obligations.RollsBuiltAndLost := by
  unfold Obligations.RollsBuiltAndLost
  refine ⟨fun s hpin => ?period, fun s hpin => ?deadline, fun s payload => ?returns, fun s payload p => ?answer⟩
  case period =>
    have hexec : exec .rollPeriodExpiry s = .next s.rollPeriod := State.live_run hpin fun s => s.rollPeriod
    intro n v build
    rw [hexec]
    refine ⟨fun h => ?_, fun m h => ?_, fun m h => ?_⟩ <;>
      (simp only [State.rollPeriod, State.modPoller_poller, h]; rfl)
  case deadline =>
    have hexec : exec .rollDeadlineExpiry s = .next s.rollDeadline := State.live_run hpin fun s => s.rollDeadline
    rw [hexec]
    refine ⟨fun h => congrArg Host.Outcome.next (if_neg (by rw [h]; decide)), fun d h => ?_⟩
    intro v
    have hrun : s.rollDeadline = (((s.modPoller fun u =>
        { u with roll := none, rollDeadline := none }).countPoller Ctr.lostRoll).errorUp .line).raiseLost :=
      if_pos (by rw [h]; rfl)
    have hlost : ∀ w : State, w.poller.lost = s.poller.lost →
        w.raiseLost = if s.poller.lost = 1 then (w.modPoller fun u => { u with lost := min 2 (s.poller.lost + 1) }).raiseHeld
            .lineBroken {} else w.modPoller fun u => { u with lost := min 2 (s.poller.lost + 1) } := fun w hw => by
      rw [← hw]; rfl
    rw [hrun]
    refine congrArg Host.Outcome.next (hlost _ ?_)
    rw [Poller.lost_of_kept (State.errorUp_kept _ _)]
    rfl
  case returns =>
    intro u v w
    refine ⟨fun h => if_pos h, fun hlen h => ?_, fun x hlen hx hn => ?_⟩
    · rw [State.takeRoll, if_neg (not_not_intro hlen), if_neg]
      rw [Poller.matchesRoll_iff]
      exact fun ⟨x, hx, hn⟩ => h x hx hn
    · rw [State.takeRoll, if_neg (not_not_intro hlen), if_pos ((Poller.matchesRoll_iff _ _).mpr ⟨x, hx, hn⟩)]
      have hreturned : s.rollReturned = v := by
        simp only [State.rollReturned, decide_eq_true_eq]; rfl
      rw [hreturned]
      rfl
  case answer =>
    intro present attention queued seen missed
    refine ⟨fun h => ?_, fun h => ?_⟩
    · have hanswer : State.rollAnswer payload s p =
          if (present || attention) = true then s.countPoller Ctr.unfittedAnswer else s :=
        if_neg (by rw [h]; decide)
      rw [hanswer]
      simp only [Bool.or_eq_true]
    have hqueued : ∀ w, (if attention then w.takeAttention p else w) = queued w := fun w => by
      simp only [State.takeAttention, List.contains_iff_mem, queued]
    have hanswer : ∀ w, s.judgePresent p present = w → State.rollAnswer payload s p = queued w := fun w hw => by
      rw [State.rollAnswer_fitted h, ← hqueued w, ← hw]; rfl
    have habsent : present = false → s.judgePresent p present =
        if (s.post p).absent = 1 then
          (missed.modPost p fun e => { e with absentShare := true }).raiseHeld .postAbsent { post := some (p.val + 1) }
        else missed := fun hp => by
      have hmissed : (s.modPost p fun e => { e with absent := satAdd 2 (s.post p).absent 1 }) = missed :=
        State.modPost_congr rfl
      rw [hp, ← hmissed]; rfl
    refine ⟨fun hp hshare => hanswer _ ?_, fun hp hshare hnone => hanswer _ ?_, fun hp hone => hanswer _ ?_,
      fun hp hone => hanswer _ ?_⟩
    · rw [hp]; exact State.judgePresent_seen hshare
    · rw [hp]; exact State.judgePresent_last hshare hnone
    · rw [habsent hp, if_neg hone]
    · rw [habsent hp, if_pos hone]

end Sys2Proof.Machine


/-! A raise and the rope travel unit and cabin tracker: it reads of them the standstill, the rope table and the track modes
alone, so that a change of anything else of the two commutes with it. -/

namespace Sys2Proof.Machine

/-- A change of the rope travel unit and of the cabin tracker that leaves what a raise reads of them: the standstill, the rope
table and the track modes. -/
structure Rig where
  rope : Rope → Rope
  tracker : Tracker → Tracker
  standstill : ∀ u, (rope u).standstill = u.standstill
  table : ∀ u, (rope u).table = u.table
  modes : ∀ k, (tracker k).modes = k.modes

/-- The state with such a change made. -/
def State.rig (s : State) (g : Rig) : State := { s with rope := g.rope s.rope, tracker := g.tracker s.tracker }

section
variable (s : State) (g : Rig)

@[simp] theorem State.rig_station : (s.rig g).station = s.station := rfl
@[simp] theorem State.rig_line : (s.rig g).line = s.line := rfl
@[simp] theorem State.rig_port (p : Port) : (s.rig g).port p = s.port p := by cases p <;> rfl
@[simp] theorem State.rig_poller : (s.rig g).poller = s.poller := rfl
@[simp] theorem State.rig_standstill : (s.rig g).rope.standstill = s.rope.standstill := g.standstill _
@[simp] theorem State.rig_table : (s.rig g).rope.table = s.rope.table := g.table _
@[simp] theorem State.rig_modes : (s.rig g).tracker.modes = s.tracker.modes := g.modes _
@[simp] theorem State.rig_rail : (s.rig g).rail = s.rail := rfl
@[simp] theorem State.rig_doors : (s.rig g).doors = s.doors := rfl
@[simp] theorem State.rig_channel (k : Fin 8) : (s.rig g).channel k = s.channel k := rfl
@[simp] theorem State.rig_link : (s.rig g).link = s.link := rfl
@[simp] theorem State.rig_tel : (s.rig g).tel = s.tel := rfl
@[simp] theorem State.rig_chain : (s.rig g).chain = s.chain := rfl
@[simp] theorem State.rig_admin : (s.rig g).admin = s.admin := rfl
@[simp] theorem State.rig_demanded : (s.rig g).demanded = s.demanded := rfl
@[simp] theorem State.rig_summary : (s.rig g).summary = s.summary := by simp [State.summary]

/-! ## The single changes -/

@[simp] theorem State.rig_modPort (p : Port) (f : PortUnit → PortUnit) : (s.rig g).modPort p f = (s.modPort p f).rig g := by
  cases p <;> rfl
@[simp] theorem State.rig_countPort (p : Port) (i : Fin 21) : (s.rig g).countPort p i = (s.countPort p i).rig g := by
  cases p <;> rfl
@[simp] theorem State.rig_countSwitch (i : Fin 28) : (s.rig g).countSwitch i = (s.countSwitch i).rig g := rfl
@[simp] theorem State.rig_modPoller (f : Poller → Poller) : (s.rig g).modPoller f = (s.modPoller f).rig g := rfl
@[simp] theorem State.rig_countPoller (i : Fin 259) : (s.rig g).countPoller i = (s.countPoller i).rig g := rfl
@[simp] theorem State.rig_modRail (f : StationRail → StationRail) : (s.rig g).modRail f = (s.modRail f).rig g := rfl
@[simp] theorem State.rig_countRail (i : Fin 49) : (s.rig g).countRail i = (s.countRail i).rig g := rfl
@[simp] theorem State.rig_modDoors (f : Doors → Doors) : (s.rig g).modDoors f = (s.modDoors f).rig g := rfl
@[simp] theorem State.rig_countDoors (i : Fin 96) : (s.rig g).countDoors i = (s.countDoors i).rig g := rfl
@[simp] theorem State.rig_modChannel (k : Fin 8) (f : Channel → Channel) : (s.rig g).modChannel k f = (s.modChannel k f).rig g := rfl
@[simp] theorem State.rig_modTel (f : Telephony → Telephony) : (s.rig g).modTel f = (s.modTel f).rig g := rfl
@[simp] theorem State.rig_countTel (i : Fin 38) : (s.rig g).countTel i = (s.countTel i).rig g := rfl
@[simp] theorem State.rig_modRecord (i : Fin 4) (f : CallRecord → CallRecord) : (s.rig g).modRecord i f = (s.modRecord i f).rig g := rfl
@[simp] theorem State.rig_modVoice (v : VoiceName) (f : VoiceUnit → VoiceUnit) : (s.rig g).modVoice v f = (s.modVoice v f).rig g := rfl
@[simp] theorem State.rig_modChain (f : StopChain → StopChain) : (s.rig g).modChain f = (s.modChain f).rig g := rfl
@[simp] theorem State.rig_countChain (i : Fin 50) : (s.rig g).countChain i = (s.countChain i).rig g := rfl
@[simp] theorem State.rig_countAdmin (i : Fin 16) : (s.rig g).countAdmin i = (s.countAdmin i).rig g := rfl

@[simp] theorem State.rig_ite (c : Prop) [Decidable c] (t : State) : (if c then s else t).rig g = if c then s.rig g else t.rig g :=
  apply_ite (State.rig · g) c s t

/-! ## Offers and notices -/

@[simp] theorem State.rig_frameDropped (f : Frame) : (s.rig g).frameDropped f = (s.frameDropped f).rig g := by
  unfold State.frameDropped
  cases f.origin with
  | roll n => by_cases h : s.poller.roll = some (n, .queued) <;> simp [State.rollDropped, h]
  | ask k => cases h : s.poller.ask <;> simp [State.askFlushed, h]
  | switched => rfl
  | own => rfl
@[simp] theorem State.rig_push_fst (p : Port) (c : Fin 4) (f : Frame) : ((s.rig g).push p c f).1 = (s.push p c f).1.rig g := by
  unfold State.push
  simp only [State.rig_port, State.rig_countSwitch, State.rig_modPort, State.rig_countPort, State.rig_frameDropped]
  split
  · rfl
  split
  · rfl
  split
  · cases classZeroVictim (s.port p).queues[c] f <;> rfl
  split <;> rfl
@[simp] theorem State.rig_duePick (p : Port) : (s.rig g).duePick p = (s.duePick p).rig g := by simp [State.duePick]
@[simp] theorem State.rig_sendAsk : (s.rig g).sendAsk = s.sendAsk.rig g := by
  unfold State.sendAsk
  simp only [State.rig_poller]
  split <;> simp
@[simp] theorem State.rig_askReady : (s.rig g).askReady = s.askReady := rfl
@[simp] theorem State.rig_dueAsk : (s.rig g).dueAsk = s.dueAsk.rig g := by simp [State.dueAsk]
@[simp] theorem State.rig_settle (p : Port) : (s.rig g).settle p = (s.settle p).rig g := by cases p <;> simp [State.settle]
@[simp] theorem State.rig_offer (p : Port) (c : Fin 4) (f : Frame) : (s.rig g).offer p c f = (s.offer p c f).rig g := by
  simp [State.offer, State.offerSaying]
@[simp] theorem State.rig_notice (r : NoticeReason) : (s.rig g).notice r = (s.notice r).rig g := by simp [State.notice]

/-! ## A change of A -/

@[simp] theorem State.rig_doorWrite (n : BitVec 16) (d : DoorState) : (s.rig g).doorWrite n d = (s.doorWrite n d).rig g := by
  simp [State.doorWrite]
@[simp] theorem State.rig_channelWrite (k : Fin 8) (d : DoorState) : (s.rig g).channelWrite k d = (s.channelWrite k d).rig g := by
  unfold State.channelWrite
  simp only [State.rig_channel]
  split <;> simp
@[simp] theorem State.rig_haltChannel (k : Fin 8) : (s.rig g).haltChannel k = (s.haltChannel k).rig g := by
  by_cases h : (s.channel k).state.halts = true <;> by_cases ha : (s.channel k).action.isSome = true <;>
    simp [State.haltChannel, h, ha]
@[simp] theorem State.rig_haltAll : (s.rig g).haltAll = s.haltAll.rig g := by
  unfold State.haltAll allChannels
  simp only [List.foldl_cons, List.foldl_nil, State.rig_haltChannel]
@[simp] theorem State.rig_releaseAll : (s.rig g).releaseAll = s.releaseAll.rig g := rfl
@[simp] theorem State.rig_tellDoors (o n : Category) : (s.rig g).tellDoors o n = (s.tellDoors o n).rig g := by
  simp [State.tellDoors]
@[simp] theorem State.rig_judgeStopTimer (o n : Category) : (s.rig g).judgeStopTimer o n = (s.judgeStopTimer o n).rig g := by
  simp [State.judgeStopTimer]
@[simp] theorem State.rig_setAsserted (n : Category) : (s.rig g).setAsserted n = (s.setAsserted n).rig g := by
  simp [State.setAsserted]
@[simp] theorem State.rig_judgeRise : (s.rig g).judgeRise = s.judgeRise.rig g := by simp [State.judgeRise]

/-! ## A stop call -/

@[simp] theorem State.rig_offerCall (f : Option Frame) : (s.rig g).offerCall f = (s.offerCall f).rig g := by
  cases f <;> simp [State.offerCall]
@[simp] theorem State.rig_sendCall (i : Fin 4) (sub : CallSub) : (s.rig g).sendCall i sub = (s.sendCall i sub).rig g := by
  simp [State.sendCall]
@[simp] theorem State.rig_releaseChannel (i : Fin 4) : (s.rig g).releaseChannel i = (s.releaseChannel i).rig g := by
  unfold State.releaseChannel
  simp only [State.rig_tel]
  cases (s.tel.records[i]).channel <;> rfl
@[simp] theorem State.rig_claim (i : Fin 4) (v : VoiceName) : (s.rig g).claim i v = (s.claim i v).rig g := rfl
@[simp] theorem State.rig_connect (i : Fin 4) : (s.rig g).connect i = (s.connect i).rig g := rfl
@[simp] theorem State.rig_ringIn (i : Fin 4) : (s.rig g).ringIn i = (s.ringIn i).rig g := rfl
@[simp] theorem State.rig_freeCore (i : Fin 4) (reason : ClearReason) (quiet : Bool) :
    (s.rig g).freeCore i reason quiet = (s.freeCore i reason quiet).rig g := by
  simp [State.freeCore]
@[simp] theorem State.rig_resumeRecord (i : Fin 4) (v : VoiceName) : (s.rig g).resumeRecord i v = (s.resumeRecord i v).rig g := by
  unfold State.resumeRecord
  simp only [State.rig_claim, State.rig_countTel, State.rig_tel, State.rig_connect, State.rig_sendCall, State.rig_ringIn]
  split <;> rfl
@[simp] theorem State.rig_resumeHeld (k : Nat) : (s.rig g).resumeHeld k = (s.resumeHeld k).rig g := by
  induction k generalizing s with
  | zero => rfl
  | succ k ih =>
    unfold State.resumeHeld
    simp only [State.rig_tel]
    split <;> simp [ih]
@[simp] theorem State.rig_resumption : (s.rig g).resumption = s.resumption.rig g := by simp [State.resumption]
@[simp] theorem State.rig_takeVictim (j : Fin 4) : (s.rig g).takeVictim j = (s.takeVictim j).rig g := by
  simp [State.takeVictim]
@[simp] theorem State.rig_takeVictims (l : List (Fin 4)) : l.foldl State.takeVictim (s.rig g) = (l.foldl State.takeVictim s).rig g := by
  induction l generalizing s with
  | nil => rfl
  | cons j l ih => simp [ih]
@[simp] theorem State.rig_setupCall (i : Fin 4) (r : CallRecord) (v : VoiceName) : (s.rig g).setupCall i r v = (s.setupCall i r v).rig g := by
  simp [State.setupCall]
@[simp] theorem State.rig_openSummit (i : Fin 4) (r : CallRecord) :
    (s.rig g).openSummit i r = ((s.openSummit i r).1.rig g, (s.openSummit i r).2) := by
  by_cases hl : s.link.state = .silent
  · rw [State.openSummit_silent hl, State.openSummit_silent (s := s.rig g) hl]
  cases hv : s.tel.freeChannel with
  | some v =>
    rw [State.openSummit_free hl hv, State.openSummit_free (s := s.rig g) hl hv, State.rig_setupCall]
  | none =>
    by_cases he : r.priority = .emergency
    · cases hp : s.tel.preemption (some i) r.line with
      | none => rw [State.openSummit_busy hl hv fun _ => hp, State.openSummit_busy (s := s.rig g) hl hv fun _ => hp]
      | some x =>
        rw [State.openSummit_preempts hl hv he hp, State.openSummit_preempts (s := s.rig g) hl hv he hp]
        simp
    · rw [State.openSummit_busy hl hv fun h => absurd h he, State.openSummit_busy (s := s.rig g) hl hv fun h => absurd h he]
@[simp] theorem State.rig_stopCallToSummit (i : Fin 4) : (s.rig g).stopCallToSummit i = (s.stopCallToSummit i).rig g := by
  unfold State.stopCallToSummit
  simp only [State.rig_tel, State.rig_openSummit]
  generalize s.openSummit i _ = x
  obtain ⟨t, _ | reason⟩ := x <;> simp
@[simp] theorem State.rig_stopCallTrigger : (s.rig g).stopCallTrigger = s.stopCallTrigger.rig g := by
  unfold State.stopCallTrigger
  simp only [State.rig_tel, State.rig_modRecord, State.rig_countTel, State.rig_stopCallToSummit]
  split
  · split <;> rfl
  · rfl

/-! ## Raises and withdrawals -/

@[simp] theorem State.rig_handOnEntry (r : CauseRecord) : (s.rig g).handOnEntry r = (s.handOnEntry r).rig g := by
  cases hn : (s.chain.table[causeCode r.code]).notice <;> cases hc : (s.chain.table[causeCode r.code]).call <;>
    simp [State.handOnEntry, -Fin.getElem_fin, hn, hc]
@[simp] theorem State.rig_raise (c : Cause) (d : Detail) (m : Bool) : (s.rig g).raise c d m = (s.raise c d m).rig g := by
  simp [State.raise]
@[simp] theorem State.rig_raiseHeld (c : Cause) (d : Detail) : (s.rig g).raiseHeld c d = (s.raiseHeld c d).rig g := by
  simp [State.raiseHeld]
@[simp] theorem State.rig_raiseMomentary (c : Cause) (d : Detail) : (s.rig g).raiseMomentary c d = (s.raiseMomentary c d).rig g := by
  simp [State.raiseMomentary]
@[simp] theorem State.rig_withdraw (c : Cause) : (s.rig g).withdraw c = (s.withdraw c).rig g := by simp [State.withdraw]

end

end Sys2Proof.Machine


/-! The missed-passage sweep (R65, R95): one record's sweep in closed form, and the lists after it. -/

namespace Sys2Proof.Machine

theorem PerTrack.set_get {α : Type} (v : PerTrack α) (t : Track) : v.set t (v.get t) = v := by cases t <;> rfl

theorem PerTrack.set_set {α : Type} (v : PerTrack α) (t : Track) (a b : α) : (v.set t a).set t b = v.set t b := by
  cases t <;> rfl

theorem PerTrack.get_set_ne {α : Type} (v : PerTrack α) {t u : Track} (h : u ≠ t) (a : α) : (v.set t a).get u = v.get u := by
  cases t <;> cases u <;> first | rfl | exact absurd rfl h

theorem modify_middle {α : Type} (f : α → α) (old new : List α) (a : α) :
    (old ++ a :: new).modify old.length f = old ++ f a :: new := by
  induction old with
  | nil => rfl
  | cons b old ih => simp [ih]

/-! ## What a sweep leaves as it was -/

/-- A step of the sweep: rope, link, cabin table, sequences, modes and seat table stay, and a missed passage in the set stays
in it. -/
structure State.SweepKeeps (s u : State) : Prop where
  rope : u.rope = s.rope
  link : u.link = s.link
  cabins : u.tracker.cabins = s.tracker.cabins
  seqs : u.tracker.seqs = s.tracker.seqs
  modes : u.tracker.modes = s.tracker.modes
  poller : u.poller.kept = s.poller.kept
  pinHeld : u.pinHeld = s.pinHeld
  pending : u.pending = s.pending
  missed : (∃ x ∈ s.chain.causes, x.code = .missedPassage) → ∃ x ∈ u.chain.causes, x.code = .missedPassage

theorem State.SweepKeeps.refl (s : State) : s.SweepKeeps s := ⟨rfl, rfl, rfl, rfl, rfl, rfl, rfl, rfl, id⟩

theorem State.SweepKeeps.trans {s u v : State} (h : s.SweepKeeps u) (k : u.SweepKeeps v) : s.SweepKeeps v :=
  ⟨k.rope.trans h.rope, k.link.trans h.link, k.cabins.trans h.cabins, k.seqs.trans h.seqs, k.modes.trans h.modes,
    k.poller.trans h.poller, k.pinHeld.trans h.pinHeld, k.pending.trans h.pending, fun hx => k.missed (h.missed hx)⟩

theorem State.sweepKeeps_modTracker (s : State) {f : Tracker → Tracker} (hcabins : (f s.tracker).cabins = s.tracker.cabins)
    (hseqs : (f s.tracker).seqs = s.tracker.seqs) (hmodes : (f s.tracker).modes = s.tracker.modes) :
    s.SweepKeeps (s.modTracker f) := ⟨rfl, rfl, hcabins, hseqs, hmodes, rfl, rfl, rfl, id⟩

theorem State.sweepKeeps_count (s : State) (i : Fin 22) : s.SweepKeeps (s.countTracker i) :=
  s.sweepKeeps_modTracker rfl rfl rfl

theorem State.sweepKeeps_raise (s : State) (c : Cause) (d : Detail) : s.SweepKeeps (s.raiseMomentary c d) :=
  ⟨by simp, by simp, by simp, by simp, by simp, by simp, by simp, by simp, fun h => State.raise_stays h c d true⟩

/-! ## One missed seat -/

/-- A missed seat on a track in a mode. -/
def State.missIn (m : TrackMode) (t : Track) (cabin : Option Nat) (s : State) (x : SeatRef) : State :=
  (match m with
    | .tracked =>
      s.raiseMomentary .missedPassage { post := some (x.post.val + 1), seat := some x.seat.val, cabin := cabin }
    | .untracked => s.countTracker (Ctr.untrackedEvents (trackIndex t))).countTracker (Ctr.missedPassages (trackIndex t))

theorem State.missSeat_eq (s : State) (t : Track) (cabin : Option Nat) (x : SeatRef) :
    s.missSeat t cabin x = State.missIn (s.tracker.modes.get t) t cabin s x := by
  rw [State.missSeat, State.trackRaise]
  cases s.tracker.modes.get t <;> rfl

theorem State.missIn_keeps (m : TrackMode) (t : Track) (cabin : Option Nat) (s : State) (x : SeatRef) :
    s.SweepKeeps (State.missIn m t cabin s x) := by
  cases m
  · exact (s.sweepKeeps_count _).trans (State.sweepKeeps_count _ _)
  · exact (s.sweepKeeps_raise _ _).trans (State.sweepKeeps_count _ _)

@[simp] theorem State.missIn_lists (m : TrackMode) (t : Track) (cabin : Option Nat) (s : State) (x : SeatRef) :
    (State.missIn m t cabin s x).tracker.lists = s.tracker.lists := by
  cases m <;> simp [State.missIn]

theorem State.missIn_tracked (t : Track) (cabin : Option Nat) (s : State) (x : SeatRef) :
    ∃ r ∈ (State.missIn .tracked t cabin s x).chain.causes, r.code = .missedPassage := by
  obtain ⟨r, hr, hcode, -⟩ := s.raise_mem .missedPassage
    { post := some (x.post.val + 1), seat := some x.seat.val, cabin := cabin } true
  exact ⟨r, hr, hcode⟩

theorem State.foldl_missIn_keeps (m : TrackMode) (t : Track) (cabin : Option Nat) (l : List SeatRef) (s : State) :
    s.SweepKeeps (l.foldl (State.missIn m t cabin) s) ∧
      (l.foldl (State.missIn m t cabin) s).tracker.lists = s.tracker.lists := by
  induction l generalizing s with
  | nil => exact ⟨.refl s, rfl⟩
  | cons x l ih =>
    obtain ⟨hkeeps, hlists⟩ := ih (State.missIn m t cabin s x)
    exact ⟨(State.missIn_keeps m t cabin s x).trans hkeeps, hlists.trans (State.missIn_lists m t cabin s x)⟩

/-- A change of one record of a train list. -/
def trainRig (t : Track) (i : Nat) (f : TrainRecord → TrainRecord) : Rig where
  rope := id
  tracker := fun k => { k with lists := k.lists.set t ((k.lists.get t).modify i f) }
  standstill := fun _ => rfl
  table := fun _ => rfl
  modes := fun _ => rfl

theorem State.missIn_modTrain (m : TrackMode) (t : Track) (cabin : Option Nat) (s : State) (x : SeatRef) (i : Nat)
    (f : TrainRecord → TrainRecord) :
    State.missIn m t cabin (s.modTrain t i f) x = (State.missIn m t cabin s x).modTrain t i f := by
  have hrig : ∀ s : State, s.modTrain t i f = s.rig (trainRig t i f) := fun _ => rfl
  rw [hrig, hrig]
  cases m
  · rfl
  · exact congrArg (State.countTracker · _) (State.rig_raiseMomentary s (trainRig t i f) _ _)

theorem State.foldl_missIn_modTrain (m : TrackMode) (t : Track) (cabin : Option Nat) (l : List SeatRef) (s : State) (i : Nat)
    (f : TrainRecord → TrainRecord) :
    l.foldl (State.missIn m t cabin) (s.modTrain t i f) = (l.foldl (State.missIn m t cabin) s).modTrain t i f := by
  induction l generalizing s with
  | nil => rfl
  | cons x l ih => rw [List.foldl_cons, State.missIn_modTrain, ih, List.foldl_cons]

theorem State.modTrain_modTrain (s : State) (t : Track) (i : Nat) (f g : TrainRecord → TrainRecord) :
    (s.modTrain t i f).modTrain t i g = s.modTrain t i fun r => g (f r) := by
  simp only [State.modTrain, State.modTracker, PerTrack.get_set_self, PerTrack.set_set, List.modify_modify_eq]
  rfl

theorem State.modTrain_id (s : State) (t : Track) (i : Nat) : s.modTrain t i (fun r => r) = s := by
  have h : (s.tracker.lists.get t).modify i (fun r => r) = s.tracker.lists.get t := List.modify_id _ _
  rw [State.modTrain, State.modTracker, h, PerTrack.set_get]

/-! ## One record swept -/

/-- The seats at a sequence's front that a position is beyond, window and all (R95). -/
def State.beyondSeats (s : State) (x : Int) (l : List SeatRef) : List SeatRef :=
  l.takeWhile fun q => decide (((s.seat q).position : Int) + (s.seat q).window < x)

theorem State.SweepKeeps.beyondSeats {s u : State} (h : s.SweepKeeps u) : u.beyondSeats = s.beyondSeats := by
  have hseat : ∀ q, u.seat q = s.seat q := State.seat_of_kept h.poller
  funext x l
  simp only [State.beyondSeats, hseat]

theorem State.sweepSeats_eq (t : Track) (i : Nat) (cabin : Option Nat) (x : Int) (l : List SeatRef) (s : State) :
    s.sweepSeats t i cabin x l =
      ((s.beyondSeats x l).foldl (State.missIn (s.tracker.modes.get t) t cabin) s).modTrain t i fun r =>
        { r with next := r.next + (s.beyondSeats x l).length } := by
  induction l generalizing s with
  | nil => exact (s.modTrain_id t i).symm
  | cons q l ih =>
    have hstep : s.sweepSeats t i cabin x (q :: l) =
        if ((s.seat q).position : Int) + (s.seat q).window < x then
          ((s.missSeat t cabin q).modTrain t i fun r => { r with next := r.next + 1 }).sweepSeats t i cabin x l
        else s := rfl
    rw [hstep]
    by_cases hq : ((s.seat q).position : Int) + (s.seat q).window < x
    · have hmissed := State.missIn_keeps (s.tracker.modes.get t) t cabin s q
      have hkeeps : s.SweepKeeps ((s.missSeat t cabin q).modTrain t i fun r => { r with next := r.next + 1 }) := by
        rw [State.missSeat_eq]
        exact hmissed.trans (State.sweepKeeps_modTracker _ rfl rfl rfl)
      have hbeyond : s.beyondSeats x (q :: l) = q :: s.beyondSeats x l := by
        simp [State.beyondSeats, hq]
      rw [if_pos hq, ih, hkeeps.beyondSeats, hkeeps.modes, hbeyond, State.missSeat_eq, State.foldl_missIn_modTrain,
        State.modTrain_modTrain, List.foldl_cons, List.length_cons]
      congr 1
      funext r
      simp only [Nat.add_assoc, Nat.add_comm 1]
    · have hbeyond : s.beyondSeats x (q :: l) = [] := by simp [State.beyondSeats, hq]
      rw [if_neg hq, hbeyond]
      exact (s.modTrain_id t i).symm

/-- The seats a record of a track passes in a sweep. -/
def State.sweptSeats (s : State) (t : Track) (r : TrainRecord) : List SeatRef :=
  s.beyondSeats (s.rope.position t r) ((s.tracker.seqs.get t).drop r.next)

/-- A record after its sweep. -/
def State.sweptTrain (s : State) (t : Track) (r : TrainRecord) : TrainRecord :=
  { r with next := r.next + (s.sweptSeats t r).length }

theorem State.SweepKeeps.sweptSeats {s u : State} (h : s.SweepKeeps u) (t : Track) (r : TrainRecord) :
    u.sweptSeats t r = s.sweptSeats t r := by
  rw [State.sweptSeats, State.sweptSeats, h.beyondSeats, h.rope, h.seqs]

theorem State.SweepKeeps.sweptTrain {s u : State} (h : s.SweepKeeps u) (t : Track) (r : TrainRecord) :
    u.sweptTrain t r = s.sweptTrain t r := by
  rw [State.sweptTrain, State.sweptTrain, h.sweptSeats]

theorem State.sweepRecord_eq {s : State} {t : Track} {old new : List TrainRecord} {r : TrainRecord}
    (h : s.tracker.lists.get t = old ++ r :: new) :
    State.sweepRecord t s old.length =
      ((s.sweptSeats t r).foldl (State.missIn (s.tracker.modes.get t) t r.cabin) s).modTracker fun k =>
        { k with lists := k.lists.set t (old ++ s.sweptTrain t r :: new) } := by
  have hr : (s.tracker.lists.get t)[old.length]? = some r := by rw [h]; simp
  have hlists := (State.foldl_missIn_keeps (s.tracker.modes.get t) t r.cabin (s.sweptSeats t r) s).2
  rw [State.sweepRecord]
  simp only [hr]
  rw [State.sweepSeats_eq, ← State.sweptSeats]
  generalize (s.sweptSeats t r).foldl (State.missIn (s.tracker.modes.get t) t r.cabin) s = u at hlists
  rw [State.modTrain, State.modTracker, State.modTracker, hlists, h]
  congr 4
  exact modify_middle _ _ _ _

theorem State.sweepRecord_keeps {s : State} {t : Track} {old new : List TrainRecord} {r : TrainRecord}
    (h : s.tracker.lists.get t = old ++ r :: new) :
    s.SweepKeeps (State.sweepRecord t s old.length) ∧
      (State.sweepRecord t s old.length).tracker.lists = s.tracker.lists.set t (old ++ s.sweptTrain t r :: new) ∧
      (s.sweptSeats t r ≠ [] → s.tracker.modes.get t = .tracked →
        ∃ x ∈ (State.sweepRecord t s old.length).chain.causes, x.code = .missedPassage) := by
  obtain ⟨hkeeps, hlists⟩ := State.foldl_missIn_keeps (s.tracker.modes.get t) t r.cabin (s.sweptSeats t r) s
  rw [State.sweepRecord_eq h]
  refine ⟨hkeeps.trans (State.sweepKeeps_modTracker _ rfl rfl rfl),
    congrArg (fun l : PerTrack (List TrainRecord) => l.set t _) hlists, fun hne hmode => ?_⟩
  obtain ⟨x, l, hl⟩ := List.exists_cons_of_ne_nil hne
  rw [hl, hmode]
  exact (State.foldl_missIn_keeps _ _ _ l _).1.missed (State.missIn_tracked t r.cabin s x)

/-! ## A whole list swept -/

/-- What the sweep of the first `n` records of a list leaves. -/
theorem State.sweepPrefix {s : State} {t : Track} :
    ∀ n ≤ (s.tracker.lists.get t).length,
      let u := (List.range n).foldl (State.sweepRecord t) s
      s.SweepKeeps u ∧
        u.tracker.lists =
          s.tracker.lists.set t
            (((s.tracker.lists.get t).take n).map (s.sweptTrain t) ++ (s.tracker.lists.get t).drop n) ∧
        (∀ r ∈ (s.tracker.lists.get t).take n, s.sweptSeats t r ≠ [] → s.tracker.modes.get t = .tracked →
          ∃ x ∈ u.chain.causes, x.code = .missedPassage) := by
  intro n
  induction n with
  | zero => exact fun _ => ⟨.refl s, by simp [PerTrack.set_get], fun r hr => absurd hr (by simp)⟩
  | succ n ih =>
    intro hn u
    obtain ⟨hkeeps, hlists, hmissed⟩ := ih (Nat.le_of_succ_le hn)
    have hu : u = State.sweepRecord t ((List.range n).foldl (State.sweepRecord t) s) n := by
      show (List.range (n + 1)).foldl (State.sweepRecord t) s = _
      rw [List.range_succ, List.foldl_append]; rfl
    generalize (List.range n).foldl (State.sweepRecord t) s = v at hkeeps hlists hmissed hu
    obtain ⟨r, hr⟩ : ∃ r, (s.tracker.lists.get t)[n]? = some r := ⟨_, List.getElem?_eq_getElem hn⟩
    have hdrop : (s.tracker.lists.get t).drop n = r :: (s.tracker.lists.get t).drop (n + 1) :=
      (List.drop_eq_getElem_cons hn).trans (by rw [(List.getElem?_eq_some_iff.mp hr).2])
    have htake : (s.tracker.lists.get t).take (n + 1) = (s.tracker.lists.get t).take n ++ [r] := by
      rw [List.take_add_one, hr]; rfl
    have hlen : (((s.tracker.lists.get t).take n).map (s.sweptTrain t)).length = n := by
      rw [List.length_map, List.length_take]; omega
    have hmiddle : v.tracker.lists.get t = ((s.tracker.lists.get t).take n).map (s.sweptTrain t) ++
        r :: (s.tracker.lists.get t).drop (n + 1) := by
      rw [hlists, PerTrack.get_set_self, hdrop]
    obtain ⟨hstep, hset, hnew⟩ := State.sweepRecord_keeps hmiddle
    rw [hlen] at hstep hset hnew
    rw [hu]
    refine ⟨hkeeps.trans hstep, ?_, fun q hq hne hmode => ?_⟩
    · rw [hset, hkeeps.sweptTrain, hlists, PerTrack.set_set, htake, List.map_append, List.append_assoc]
      rfl
    · rw [htake, List.mem_append, List.mem_singleton] at hq
      obtain hq | rfl := hq
      · exact hstep.missed (hmissed q hq hne hmode)
      · exact hnew (by rwa [hkeeps.sweptSeats]) (by rwa [hkeeps.modes])

theorem State.sweepList_swept (s : State) (t : Track) :
    s.SweepKeeps (s.sweepList t) ∧
      (s.sweepList t).tracker.lists = s.tracker.lists.set t ((s.tracker.lists.get t).map (s.sweptTrain t)) ∧
      (∀ r ∈ s.tracker.lists.get t, s.sweptSeats t r ≠ [] → s.tracker.modes.get t = .tracked →
        ∃ x ∈ (s.sweepList t).chain.causes, x.code = .missedPassage) := by
  have h := State.sweepPrefix (s := s) (t := t) _ (Nat.le_refl _)
  rwa [List.take_length, List.drop_length, List.append_nil] at h

/-- The sweep of both lists: each record passes the seats it is beyond (R95). -/
theorem State.sweepLists_swept (s : State) :
    s.SweepKeeps s.sweepLists ∧
      s.sweepLists.tracker.lists =
        ⟨s.tracker.lists.up.map (s.sweptTrain .up), s.tracker.lists.down.map (s.sweptTrain .down)⟩ ∧
      (∀ t, ∀ r ∈ s.tracker.lists.get t, s.sweptSeats t r ≠ [] → s.tracker.modes.get t = .tracked →
        ∃ x ∈ s.sweepLists.chain.causes, x.code = .missedPassage) := by
  obtain ⟨hup, huplists, hupmissed⟩ := s.sweepList_swept .up
  obtain ⟨hdown, hdownlists, hdownmissed⟩ := (s.sweepList .up).sweepList_swept .down
  have htrain : (s.sweepList .up).sweptTrain .down = s.sweptTrain .down := funext fun r => hup.sweptTrain .down r
  refine ⟨hup.trans hdown, ?_, fun t r hr hne hmode => ?_⟩
  · rw [State.sweepLists, hdownlists, huplists, htrain]; rfl
  · cases t with
    | up => exact hdown.missed (hupmissed r hr hne hmode)
    | down =>
      refine hdownmissed r ?_ (by rwa [hup.sweptSeats]) (by rwa [hup.modes])
      rw [huplists]; exact hr

theorem State.sweepLists_eq (s : State) :
    s.sweepLists =
      (List.range s.tracker.lists.down.length).foldl (State.sweepRecord .down)
        ((List.range s.tracker.lists.up.length).foldl (State.sweepRecord .up) s) := by
  have hlists := (s.sweepList_swept .up).2.1
  have hdown : (s.sweepList .up).tracker.lists.down = s.tracker.lists.down := by rw [hlists]; rfl
  show (List.range (s.sweepList .up).tracker.lists.down.length).foldl _ (s.sweepList .up) = _
  rw [hdown]
  rfl

end Sys2Proof.Machine


/-! A gate expiry (R60 to R65): the rope travel unit's fields first, then what the stop chain is told, then the sweep. -/

namespace Sys2Proof.Machine

/-- A change of the rope travel unit that leaves standstill and table. -/
def ropeRig (f : Rope → Rope) (hs : ∀ u, (f u).standstill = u.standstill) (ht : ∀ u, (f u).table = u.table) : Rig where
  rope := f
  tracker := id
  standstill := hs
  table := ht
  modes := fun _ => rfl

theorem State.judge_rig (s : State) (g : Rig) (c : Cause) (was now : Bool) :
    (s.rig g).judge c was now = (s.judge c was now).rig g := by simp [State.judge]

theorem State.judge_modRope (s : State) (f : Rope → Rope) (hs : ∀ u, (f u).standstill = u.standstill)
    (ht : ∀ u, (f u).table = u.table) (c : Cause) (was now : Bool) :
    (s.modRope f).judge c was now = (s.judge c was now).modRope f :=
  s.judge_rig (ropeRig f hs ht) c was now

/-! ## The rope after a gate -/

/-- The rope's speed, zero-gate count and standstill after a gate, its gate count not yet cleared (R60, R61). -/
def Rope.measured (u : Rope) : Rope :=
  let raw := (u.gate * u.table.pitch * 10).tdiv 256
  let v := max (-20000) (min 20000 raw)
  let zeros := if u.gate = 0 then min 2 (u.zeros + 1) else 0
  { u with
    speed := v
    zeros := zeros
    standstill := decide (u.gate = 0) && (u.standstill || decide (zeros = 2))
    counters := if v = raw then u.counters else bump u.counters Ctr.speedClamp }

theorem clampInt_eq (a b x : Int) : clampInt a b x = max a (min b x) := rfl

theorem Rope.judgeStandstill_eq (u : Rope) :
    u.judgeStandstill =
      { u with
        zeros := if u.gate = 0 then min 2 (u.zeros + 1) else 0
        standstill := decide (u.gate = 0) &&
          (u.standstill || decide ((if u.gate = 0 then min 2 (u.zeros + 1) else 0) = 2)) } := by
  unfold Rope.judgeStandstill
  by_cases h : u.gate = 0
  · simp [h, satAdd_one]
  · simp [h]

theorem State.measured_eq (s : State) : s.setSpeed.modRope Rope.judgeStandstill = { s with rope := s.rope.measured } := by
  unfold State.setSpeed gateSpeed
  dsimp only
  rw [clampInt_eq]
  split
  · next h => simp only [State.modRope, Rope.judgeStandstill_eq, Rope.measured, if_pos h]
  · next h => simp only [State.modRope, State.countRope, Rope.judgeStandstill_eq, Rope.measured, if_neg h]

/-- The rope after a gate (R60 to R64). -/
def Rope.gated (u : Rope) : Rope :=
  { u.measured with
    overspeed := decide (u.table.overspeed < u.measured.speed.natAbs)
    reverse := decide (u.measured.speed < 0) && !u.table.reversePermitted
    tachTimer :=
      if u.measured.standstill && !u.standstill && u.driveRun then some u.table.tachSilent
      else if u.standstill && !u.measured.standstill then none
      else u.tachTimer
    silent := u.silent && !(u.standstill && !u.measured.standstill)
    gate := 0
    gateTimer := 100 }

/-! ## What the stop chain is told -/

/-- The gate's fields set and an entry to STANDSTILL told. -/
def State.gateTold (s : State) : State :=
  { s with
    rope := s.rope.gated
    chain :=
      if s.rope.measured.standstill = true ∧ s.rope.standstill = false then { s.chain with timer := none } else s.chain }

/-- OVERSPEED, then REVERSE_MOTION judged. -/
def State.gateSpoken (s : State) : State :=
  (s.gateTold.judge .overspeed s.rope.overspeed s.rope.gated.overspeed).judge .reverseMotion s.rope.reverse s.rope.gated.reverse

/-- A further change of the rope goes before the two judgements. -/
theorem State.judges_modRope (s : State) {f : Rope → Rope} (hf : ∀ u, (f u).standstill = u.standstill ∧ (f u).table = u.table)
    (c d : Cause) (a b x y : Bool) :
    ((s.judge c a b).judge d x y).modRope f = ((s.modRope f).judge c a b).judge d x y := by
  rw [State.judge_modRope _ f (fun u => (hf u).1) (fun u => (hf u).2), State.judge_modRope _ f (fun u => (hf u).1)
    (fun u => (hf u).2)]

/-- The two speed conditions of a rope (R62, R63). -/
def Rope.tooFast (u : Rope) : Bool := decide (u.table.overspeed < u.speed.natAbs)
def Rope.backward (u : Rope) : Bool := decide (u.speed < 0) && !u.table.reversePermitted

theorem State.speedJudged_eq (s : State) :
    s.judgeOverspeed.judgeReverse =
      ((s.modRope fun u => { u with overspeed := s.rope.tooFast, reverse := s.rope.backward }).judge .overspeed
        s.rope.overspeed s.rope.tooFast).judge .reverseMotion s.rope.reverse s.rope.backward := by
  have hrope : s.judgeOverspeed.rope = { s.rope with overspeed := s.rope.tooFast } := State.judge_rope _ _ _ _
  have hback : s.judgeOverspeed.rope.backward = s.rope.backward := by rw [hrope]; rfl
  have hwas : s.judgeOverspeed.rope.reverse = s.rope.reverse := by rw [hrope]
  have hreverse : s.judgeOverspeed.judgeReverse =
      (s.judgeOverspeed.modRope fun u => { u with reverse := s.judgeOverspeed.rope.backward }).judge .reverseMotion
        s.judgeOverspeed.rope.reverse s.judgeOverspeed.rope.backward := rfl
  have hover : s.judgeOverspeed = (s.modRope fun u => { u with overspeed := s.rope.tooFast }).judge .overspeed
      s.rope.overspeed s.rope.tooFast := rfl
  rw [hreverse, hback, hwas, hover,
    ← State.judge_modRope _ (fun u => { u with reverse := s.rope.backward }) (fun _ => rfl) (fun _ => rfl)]
  rfl

/-- A gate's last fields, and the tach-silent timer as standstill has changed (R60, R64). -/
def Rope.restarted (u : Rope) (was : Bool) : Rope :=
  { u with
    tachTimer :=
      if u.standstill && !was && u.driveRun then some u.table.tachSilent
      else if was && !u.standstill then none
      else u.tachTimer
    silent := u.silent && !(was && !u.standstill)
    gate := 0
    gateTimer := 100 }

theorem State.judgeTach_eq (s : State) (was : Bool) :
    ((s.judgeTach was).modRope fun u => { u with gate := 0, gateTimer := Config.gatePeriod }) =
      (s.modRope (·.restarted was)).judge .tachSilent (was && !s.rope.standstill && s.rope.silent) false := by
  have hjudge : ∀ t : State, t.judge .tachSilent false false = t := fun _ => rfl
  unfold State.judgeTach
  cases was with
  | false =>
    rw [Bool.false_and, Bool.false_and, hjudge]
    by_cases hstill : s.rope.standstill = true
    · by_cases hrun : s.rope.driveRun = true <;>
        simp [State.tachStart, State.modRope, Rope.restarted, hstill, hrun, Config.gatePeriod]
    · simp [State.modRope, Rope.restarted, hstill, Config.gatePeriod]
  | true =>
    by_cases hstill : s.rope.standstill = true
    · simp [hjudge, State.modRope, Rope.restarted, hstill, Config.gatePeriod]
    · have hmoves : s.rope.standstill = false := by simpa using hstill
      rw [if_neg (by rw [hmoves]; decide), if_pos (by rw [hmoves]; rfl), State.tachStop,
        ← State.judge_modRope _ (fun u => { u with gate := 0, gateTimer := Config.gatePeriod }) (fun _ => rfl) (fun _ => rfl)]
      simp [State.modRope, Rope.restarted, hmoves, Config.gatePeriod]

/-- The state once the rope is measured and an entry to STANDSTILL told. -/
def State.gateMeasured (s : State) : State :=
  { s with
    rope := s.rope.measured
    chain :=
      if s.rope.measured.standstill = true ∧ s.rope.standstill = false then { s.chain with timer := none } else s.chain }

theorem State.gate_measured (s : State) :
    s.gate =
      ((s.gateMeasured.judgeOverspeed.judgeReverse.judgeTach s.rope.standstill).modRope fun u =>
        { u with gate := 0, gateTimer := Config.gatePeriod }).sweepLists := by
  have hstop : (if s.rope.measured.standstill && !s.rope.standstill then
      State.stopTimerStop { s with rope := s.rope.measured } else { s with rope := s.rope.measured }) = s.gateMeasured := by
    unfold State.gateMeasured
    cases s.rope.measured.standstill <;> cases s.rope.standstill <;> rfl
  unfold State.gate
  dsimp only
  rw [State.measured_eq, ← hstop]

theorem State.gate_eq (s : State) :
    s.gate =
      (if s.rope.standstill = true ∧ s.rope.measured.standstill = false ∧ s.rope.silent = true then
        s.gateSpoken.withdraw .tachSilent else s.gateSpoken).sweepLists := by
  have htold : (s.gateMeasured.modRope fun u => { u with
      overspeed := s.gateMeasured.rope.tooFast, reverse := s.gateMeasured.rope.backward }).modRope
        (·.restarted s.rope.standstill) = s.gateTold := rfl
  have hspoken : s.gateMeasured.judgeOverspeed.judgeReverse.modRope (·.restarted s.rope.standstill) = s.gateSpoken := by
    rw [State.speedJudged_eq, State.judges_modRope (f := (·.restarted s.rope.standstill)) _ fun _ => ⟨rfl, rfl⟩,
      htold]
    rfl
  have hrope : s.gateMeasured.judgeOverspeed.judgeReverse.rope =
      { s.gateMeasured.rope with overspeed := s.gateMeasured.rope.tooFast, reverse := s.gateMeasured.rope.backward } := by
    rw [State.speedJudged_eq, State.judge_rope, State.judge_rope]; rfl
  rw [State.gate_measured, State.judgeTach_eq, hspoken, hrope]
  congr 1
  show s.gateSpoken.judge .tachSilent (s.rope.standstill && !s.rope.measured.standstill && s.rope.silent) false = _
  cases s.rope.standstill <;> cases s.rope.measured.standstill <;> cases s.rope.silent <;> rfl

/-! ## The obligation -/

theorem State.judge_eq (s : State) (c : Cause) (was now : Bool) :
    s.judge c was now =
      if now = true ∧ was = false then s.raiseHeld c {} else if was = true ∧ now = false then s.withdraw c else s := by
  cases was <;> cases now <;> rfl

theorem State.gateSpoken_kept (s : State) :
    s.gateSpoken.rope = s.rope.gated ∧ s.gateSpoken.tracker = s.tracker ∧ s.gateSpoken.link = s.link ∧
      s.gateSpoken.pinHeld = s.pinHeld ∧ s.gateSpoken.pending = s.pending ∧ s.gateSpoken.poller.kept = s.poller.kept := by
  have hjudge : ∀ (t : State) c was now, (t.judge c was now).poller.kept = t.poller.kept := fun t c was now => by
    rw [State.judge_eq]; split
    · simp
    · split <;> simp
  refine ⟨?_, ?_, ?_, ?_, ?_, ?_⟩
  all_goals rw [State.gateSpoken]
  · rw [State.judge_rope, State.judge_rope]; rfl
  · rw [State.judge_tracker, State.judge_tracker]; rfl
  · rw [State.judge_link, State.judge_link]; rfl
  · rw [State.judge_pinHeld, State.judge_pinHeld]; rfl
  · rw [State.judge_pending, State.judge_pending]; rfl
  · rw [hjudge, hjudge]; rfl

/-- The state the sweep of a gate starts from. -/
def State.gateHeard (s : State) : State :=
  if s.rope.standstill = true ∧ s.rope.measured.standstill = false ∧ s.rope.silent = true then
    s.gateSpoken.withdraw .tachSilent else s.gateSpoken

theorem State.gateHeard_kept (s : State) :
    s.gateHeard.rope = s.rope.gated ∧ s.gateHeard.tracker = s.tracker ∧ s.gateHeard.link = s.link ∧
      s.gateHeard.pinHeld = s.pinHeld ∧ s.gateHeard.pending = s.pending ∧ s.gateHeard.poller.kept = s.poller.kept := by
  have h := s.gateSpoken_kept
  rw [State.gateHeard]
  split
  · simpa using h
  · exact h

/-- A position does not depend on what a gate changes. -/
theorem State.gateHeard_sweptSeats (s : State) (t : Track) (r : TrainRecord) :
    s.gateHeard.sweptSeats t r =
      ((s.tracker.seqs.get t).drop r.next).takeWhile fun x =>
        decide (((s.seat x).position : Int) + (s.seat x).window < s.rope.position t r) := by
  obtain ⟨hrope, htracker, -, -, -, hkept⟩ := s.gateHeard_kept
  have hseat : ∀ x, s.gateHeard.seat x = s.seat x := State.seat_of_kept hkept
  simp only [State.sweptSeats, State.beyondSeats, hseat, hrope, htracker]
  rfl

/-- Settles O17: the fields by `State.gate_eq`, the lists by the sweep of each record. -/
theorem gateExpiry : Obligations.GateExpiry := by
  unfold Obligations.GateExpiry
  refine ⟨fun s hpin => ?gate, State.sweepLists_eq, fun s t old new r h => State.sweepRecord_eq h⟩
  intro raw v zeros still tooFast reverse judged passed swept
  obtain ⟨hrope, htracker, hlink, hpinHeld, hpending, -⟩ := s.gateHeard_kept
  obtain ⟨hkeeps, hlists, hmissed⟩ := s.gateHeard.sweepLists_swept
  have hgate : s.gate = s.gateHeard.sweepLists := s.gate_eq
  have hpassed : ∀ t r, s.gateHeard.sweptSeats t r = passed t r := s.gateHeard_sweptSeats
  have htrain : ∀ t, s.gateHeard.sweptTrain t = fun r => { r with next := r.next + (passed t r).length } := fun t => by
    funext r; rw [State.sweptTrain, hpassed]
  have hexec : exec .gateExpiry s = .next s.gate := State.live_run hpin fun s => s.gate
  refine ⟨s.gate, hexec, ?_, ?_, ?_, ?_, ?_, ?_, ?_, ?_⟩
  · rw [hgate, hkeeps.rope, hrope]; rfl
  · rw [hgate, hkeeps.link, hlink]
  · rw [hgate, hkeeps.cabins, htracker]
  · rw [hgate, hkeeps.pending, hpending]
  · rw [hgate, hkeeps.pinHeld, hpinHeld, hpin]
  · rw [hgate, hlists, htrain, htrain, htracker]; rfl
  · intro track r hr hne hmode
    rw [hgate]
    exact hmissed track r (by rwa [htracker]) (by rwa [hpassed]) (by rwa [htracker])
  · intro told spoken
    have htold : told = s.gateTold := by
      show ({ s with rope := s.gate.rope, chain := _ } : State) = _
      rw [hgate, hkeeps.rope, hrope]; rfl
    have hspoken : spoken = s.gateSpoken := by
      rw [State.gateSpoken, State.judge_eq, State.judge_eq, ← htold]; rfl
    rw [hspoken]
    exact hgate

end Sys2Proof.Machine


/-! Asks and reports (R43 to R47), the passages handed to the tracker (R55, R93, R94) and the slip estimate (R70, R71). -/

namespace Sys2Proof.Machine

/-! ## The asker (R43) -/

theorem State.lineCarries_iff (s : State) : s.lineCarries = true ↔ s.line.mode = .active ∨ s.line.mode = .warned := by
  simp [State.lineCarries]

theorem PortUnit.hasRoom_iff (u : PortUnit) (c : Fin 4) :
    u.hasRoom c = true ↔ (u.queues[c]).length < Config.queueCapacity c := decide_eq_true_iff

theorem State.askReady_iff (s : State) :
    s.askReady = true ↔
      s.poller.ask = none ∧ (s.line.mode = .active ∨ s.line.mode = .warned) ∧ (s.line.queues[(2 : Fin 4)]).length < 16 ∧
        (s.poller.attention ≠ [] ∨ s.poller.sweep ≠ []) := by
  have hroom : s.line.hasRoom 2 = true ↔ (s.line.queues[(2 : Fin 4)]).length < 16 := s.line.hasRoom_iff 2
  rw [State.askReady, Bool.and_eq_true, Bool.and_eq_true, Bool.and_eq_true, hroom]
  simp [and_assoc]

theorem State.dueAsk_idle {s : State} (hpick : s.duePick .line = s) (h : s.askReady = false) : s.dueAsk = s := by
  rw [State.dueAsk]
  simp [hpick, h]

theorem State.dueAsk_sends {s : State} (hpick : s.duePick .line = s) (h : s.askReady = true) : s.dueAsk = s.sendAsk := by
  rw [State.dueAsk]
  simp [hpick, h]

theorem State.sendAsk_room {s : State} {p : Post} (hnext : s.poller.nextAsk = some p)
    (hmode : s.line.mode = .active ∨ s.line.mode = .warned) (hroom : (s.line.queues[(2 : Fin 4)]).length < 16) :
    s.sendAsk =
      ((s.modPoller (·.asked p)).countPoller (Ctr.asks p)).modPort .line fun u =>
        { u with queues := u.queues.set (2 : Fin 4) (u.queues[(2 : Fin 4)] ++ [askFrame p s.poller.askSerial]) } := by
  have hopen : takesOffer (((s.modPoller (·.asked p)).countPoller (Ctr.asks p)).port .line).mode 2 = true := by
    show takesOffer s.line.mode 2 = true
    obtain h | h := hmode <;> rw [h] <;> rfl
  rw [State.sendAsk, hnext]
  exact congrArg Prod.fst (State.push_room hopen hroom _)

/-! ## The end of an ask (R45) -/

theorem State.askUnfitted_iff (s : State) (a : OutstandingAsk) :
    s.askUnfitted a = false ↔ (s.post a.post).fitted = true ∧ a.unfitted = false := by
  simp [State.askUnfitted, and_comm]

/-- A missed ask counted, short of POST_SILENT. -/
def State.askMissed (s : State) (p : Post) : State :=
  (s.modPost p fun e => { e with missed := min 3 (e.missed + 1) }).countPoller (Ctr.missedAsks p)

theorem State.missAsk_eq (s : State) (p : Post) :
    s.missAsk p =
      if (s.post p).missed = 2 then
        ((s.askMissed p).modPost p fun e => { e with silentShare := true }).raiseHeld .postSilent
          { post := some (p.val + 1) }
      else s.askMissed p := by
  have hmissed : (s.modPost p fun e => { e with missed := satAdd 3 (s.post p).missed 1 }).countPoller (Ctr.missedAsks p) =
      s.askMissed p := congrArg (State.countPoller · _) (State.modPost_congr rfl)
  rw [State.missAsk, hmissed]
  rfl

section
variable {s : State} {a : OutstandingAsk} {d : Nat} (ha : s.poller.ask = some a) (hd : a.deadline = some d)
include ha hd

theorem State.askDeadline_eq :
    s.askDeadline =
      (if s.lineCarries && !s.askUnfitted a then s.missAsk a.post else s.countPoller Ctr.suspendedAsk).endAsk := by
  have hsome : a.deadline.isSome = true := by rw [hd]; rfl
  rw [State.askDeadline, ha]
  exact if_pos hsome

theorem State.askDeadline_misses (hc : s.lineCarries = true) (hf : s.askUnfitted a = false) :
    s.askDeadline = (s.missAsk a.post).endAsk := by
  rw [State.askDeadline_eq ha hd, hc, hf]
  rfl

theorem State.askDeadline_suspends (h : s.lineCarries = false ∨ s.askUnfitted a = true) :
    s.askDeadline = (s.countPoller Ctr.suspendedAsk).endAsk := by
  rw [State.askDeadline_eq ha hd, if_neg]
  obtain h | h := h <;> simp [h]

end

/-! ## A post's share of POST_SILENT (R46, R49) -/

theorem State.dropSilent_none {s : State} {p : Post} (h : (s.post p).silentShare = false) : s.dropSilent p = s :=
  if_neg (by rw [h]; decide)

theorem State.dropSilent_share {s : State} {p : Post} (h : (s.post p).silentShare = true) :
    let u := s.modPost p fun e => { e with silentShare := false }
    ((∃ q, q ≠ p ∧ (s.post q).silentShare = true) → s.dropSilent p = u) ∧
      ((∀ q, q ≠ p → (s.post q).silentShare = false) → s.dropSilent p = u.withdraw .postSilent) := by
  intro u
  have hany : u.poller.anySilent = true ↔ ∃ q, q ≠ p ∧ (s.post q).silentShare = true :=
    State.modPost_any (has := PostEntry.silentShare) rfl
  have hdrop : s.dropSilent p = if u.poller.anySilent then u else u.withdraw .postSilent := if_pos h
  refine ⟨fun hother => ?_, fun hnone => ?_⟩
  · rw [hdrop, if_pos (hany.mpr hother)]
  · rw [hdrop, if_neg (mt hany.mp fun ⟨q, hq, hshare⟩ => by rw [hnone q hq] at hshare; exact absurd hshare (by decide))]

/-- A post that has answered: its missed count is 0 and its share of POST_SILENT gone. -/
def State.postAnswered (s : State) (p : Post) : State :=
  s.modPost p fun e => { e with missed := 0, silentShare := false }

theorem State.answered_eq (s : State) (p : Post) :
    (s.modPost p fun e => { e with missed := 0 }).dropSilent p =
      if (s.post p).silentShare = true ∧ ∀ q, q ≠ p → (s.post q).silentShare = false then
        (s.postAnswered p).withdraw .postSilent
      else s.postAnswered p := by
  have htwice : ((s.modPost p fun e => { e with missed := 0 }).modPost p fun e => { e with silentShare := false }) =
      s.postAnswered p := s.modPost_modPost p _ _
  have hsame : ((s.modPost p fun e => { e with missed := 0 }).post p).silentShare = (s.post p).silentShare := by
    rw [State.modPost_post]
  have hothers : ∀ q, q ≠ p → ((s.modPost p fun e => { e with missed := 0 }).post q).silentShare = (s.post q).silentShare :=
    fun q hq => by rw [State.modPost_post_ne _ _ hq]
  cases hshare : (s.post p).silentShare with
  | false =>
    rw [State.dropSilent_none (hsame.trans hshare), if_neg (by simp), State.postAnswered]
    exact State.modPost_congr (by rw [← hshare])
  | true =>
    obtain ⟨hkeeps, hlast⟩ := State.dropSilent_share (hsame.trans hshare)
    by_cases hnone : ∀ q, q ≠ p → (s.post q).silentShare = false
    · rw [hlast fun q hq => (hothers q hq).trans (hnone q hq), htwice, if_pos ⟨rfl, hnone⟩]
    · have hsome : ∃ q, q ≠ p ∧ (s.post q).silentShare = true := by
        by_contra hno
        exact hnone fun q hq => Bool.eq_false_iff.mpr fun hq' => hno ⟨q, hq, hq'⟩
      obtain ⟨q, hq, hq'⟩ := hsome
      rw [hkeeps ⟨q, hq, (hothers q hq).trans hq'⟩, htwice, if_neg fun h => hnone h.2]

/-! ## Reports (R46, R47) -/

theorem State.takeReport_reads {s : State} {payload : List Byte} {r : ReportReading} {a : OutstandingAsk}
    (hr : readReport payload = some r) (ha : s.poller.ask = some a) : s.takeReport payload = (s.judgeReport a r).endAsk := by
  rw [State.takeReport, hr, ha]

theorem State.judgeReport_unfitted {s : State} {a : OutstandingAsk} (h : s.askUnfitted a = true) (r : ReportReading) :
    s.judgeReport a r = (s.countPoller (Ctr.reports a.post)).countPoller Ctr.unfittedReport := if_pos h

section
variable {s : State} {a : OutstandingAsk} {r : ReportReading} (h : s.askUnfitted a = false)
include h

theorem State.judgeReport_fresh (hfresh : (s.poller.markNumber - r.mark).toNat ≤ 1) :
    s.judgeReport a r = (s.countPoller (Ctr.reports a.post)).freshReport a.post r := by
  have hfitted : ¬ (s.countPoller (Ctr.reports a.post)).askUnfitted a = true := fun e => Bool.noConfusion (h.symm.trans e)
  have hf : (s.countPoller (Ctr.reports a.post)).poller.fresh r.mark = true := decide_eq_true hfresh
  rw [State.judgeReport, if_neg hfitted, if_pos hf]

theorem State.judgeReport_stale (hstale : ¬ (s.poller.markNumber - r.mark).toNat ≤ 1) :
    s.judgeReport a r = (s.countPoller (Ctr.reports a.post)).staleReport a.post := by
  have hfitted : ¬ (s.countPoller (Ctr.reports a.post)).askUnfitted a = true := fun e => Bool.noConfusion (h.symm.trans e)
  have hf : ¬ (s.countPoller (Ctr.reports a.post)).poller.fresh r.mark = true := fun e => hstale (of_decide_eq_true e)
  rw [State.judgeReport, if_neg hfitted, if_neg hf]

end

/-! ## Passages (R93, R94) -/

theorem findIdx_first {α : Type} {p : α → Bool} {front back : List α} {x : α} (hfront : ∀ y ∈ front, p y = false)
    (hx : p x = true) : (front ++ x :: back).findIdx? p = some front.length := by
  induction front with
  | nil => simp [List.findIdx?_cons, hx]
  | cons y front ih =>
    have hy : p y = false := hfront y (List.mem_cons_self ..)
    rw [List.cons_append, List.findIdx?_cons, hy, ih fun z hz => hfront z (List.mem_cons_of_mem _ hz)]
    rfl

theorem findIdx_absent {α : Type} {p : α → Bool} {l : List α} (h : ∀ y ∈ l, p y = false) : l.findIdx? p = none :=
  List.findIdx?_eq_none_iff.mpr h

theorem decide_eq_of_notMem {x : SeatRef} {l : List SeatRef} (h : x ∉ l) : ∀ y ∈ l, decide (y = x) = false :=
  fun _ hy => decide_eq_false fun e => h (e ▸ hy)

theorem Tracker.sequenced_none {u : Tracker} {x : SeatRef} (hup : x ∉ u.seqs.up) (hdown : x ∉ u.seqs.down) :
    u.sequenced x = none := by
  rw [Tracker.sequenced, findIdx_absent (decide_eq_of_notMem hup), findIdx_absent (decide_eq_of_notMem hdown)]
  rfl

theorem Tracker.sequenced_some {u : Tracker} {x : SeatRef} {t : Track} {front back : List SeatRef}
    (h : u.seqs.get t = front ++ x :: back) (hfront : x ∉ front) (hup : t = .down → x ∉ u.seqs.up) :
    u.sequenced x = some (t, front.length) := by
  have hfirst : (front ++ x :: back).findIdx? (fun y => decide (y = x)) = some front.length :=
    findIdx_first (decide_eq_of_notMem hfront) (decide_eq_true rfl)
  rw [Tracker.sequenced]
  cases t with
  | up =>
    have h : u.seqs.up = front ++ x :: back := h
    rw [h, hfirst]
  | down =>
    have h : u.seqs.down = front ++ x :: back := h
    rw [findIdx_absent (decide_eq_of_notMem (hup rfl)), h, hfirst]
    rfl

/-- A cause of a track in a mode. -/
def State.trackRaiseIn (m : TrackMode) (t : Track) (s : State) (c : Cause) (d : Detail) : State :=
  match m with
  | .tracked => s.raiseMomentary c d
  | .untracked => s.countTracker (Ctr.untrackedEvents (trackIndex t))

theorem State.trackRaise_eq (s : State) (t : Track) (c : Cause) (d : Detail) :
    s.trackRaise t c d = State.trackRaiseIn (s.tracker.modes.get t) t s c d := by
  rw [State.trackRaise]
  cases s.tracker.modes.get t <;> rfl

section
variable {s : State} {t : Track} {k : Nat}

theorem State.matchPassage_none (h : ∀ r ∈ s.tracker.lists.get t, r.next ≠ k) (x : SeatRef) (age : Nat) :
    s.matchPassage t k x age =
      (s.trackRaise t .unexpectedPassage { post := some (postNumber x.post), seat := some x.seat.val }).countTracker
        (Ctr.unexpected (trackIndex t)) := by
  rw [State.matchPassage, findIdx_absent fun r hr => decide_eq_false (h r hr)]

theorem State.matchPassage_some {old new : List TrainRecord} {r : TrainRecord}
    (h : s.tracker.lists.get t = old ++ r :: new) (hold : ∀ y ∈ old, y.next ≠ k) (hr : r.next = k) (x : SeatRef) (age : Nat) :
    s.matchPassage t k x age =
      State.judgePassage
        ((s.modTracker fun u => { u with lists := u.lists.set t (old ++ { r with next := k + 1 } :: new) }).countTracker
          (Ctr.matched (trackIndex t))) t r x age := by
  have hfirst : (s.tracker.lists.get t).findIdx? (fun y => decide (y.next = k)) = some old.length := by
    rw [h]; exact findIdx_first (fun y hy => decide_eq_false (hold y hy)) (decide_eq_true hr)
  have hget : (s.tracker.lists.get t)[old.length]? = some r := by rw [h]; simp
  have hadvanced : (s.modTrain t old.length fun r => { r with next := k + 1 }) =
      s.modTracker fun u => { u with lists := u.lists.set t (old ++ { r with next := k + 1 } :: new) } := by
    rw [State.modTrain, State.modTracker, h, modify_middle]
    rfl
  rw [State.matchPassage, hfirst]
  dsimp only
  rw [hget]
  dsimp only
  rw [hadvanced]

end

/-! ## The obligation -/

theorem State.judge_same (s : State) (c : Cause) (was : Bool) : s.judge c was was = s := by cases was <;> rfl

/-- Settles O14: the asker; the reply deadline; the report by fitting, mark and line; a passage; the deviation; ROPE_SLIP. -/
theorem asksSentAndEnded : Obligations.AsksSentAndEnded := by
  unfold Obligations.AsksSentAndEnded
  refine ⟨fun s hpin hpick => ?send, fun s hpin => ?deadline, fun s payload => ?report, fun s p e => ?passage,
    fun s t d => ?deviation, fun s => ?slip⟩
  case send =>
    have hexec : exec .askSend s = .next s.dueAsk := State.live_run hpin fun s => s.dueAsk
    refine ⟨fun p rest hask hmode hroom hwaits => ?_, fun h => ?_⟩
    · have hnext : s.poller.nextAsk = some p := by
        rw [Poller.nextAsk]
        obtain h | ⟨h, h'⟩ := hwaits
        · rw [h]
        · rw [h, h']; rfl
      have hready : s.askReady = true := s.askReady_iff.mpr ⟨hask, hmode, hroom, by
        obtain h | ⟨-, h⟩ := hwaits
        · exact .inl (by rw [h]; simp)
        · exact .inr (by rw [h]; simp)⟩
      rw [hexec, State.dueAsk_sends hpick hready, State.sendAsk_room hnext hmode hroom, askFrame, ownFrame, postAddr_byte]
      rfl
    · have hidle : s.askReady = false := Bool.eq_false_iff.mpr fun hready => by
        obtain ⟨hask, hmode, hroom, hwaits⟩ := s.askReady_iff.mp hready
        obtain h | ⟨ha, hw⟩ | h | ⟨ha, hs⟩ := h
        · exact h hask
        · exact hmode.elim ha hw
        · omega
        · exact hwaits.elim (absurd ha) (absurd hs)
      rw [hexec, State.dueAsk_idle hpick hidle]
  case deadline =>
    have hexec : exec .askDeadlineExpiry s = .next s.askDeadline := State.live_run hpin fun s => s.askDeadline
    refine ⟨fun h => by rw [hexec, State.askDeadline, h], fun a ha => ⟨fun hd => ?_, fun d hd => ?_⟩⟩
    · rw [hexec, State.askDeadline, ha]
      simp only [hd]
      rfl
    intro carries inService missed
    have hcarries : s.lineCarries = true ↔ carries := s.lineCarries_iff
    have hservice : s.askUnfitted a = false ↔ inService := s.askUnfitted_iff a
    refine ⟨fun hc hs hm => ?_, fun hc hs hm => ?_, fun h => ?_⟩
    · rw [hexec, State.askDeadline_misses ha hd (hcarries.mpr hc) (hservice.mpr hs), State.missAsk_eq, if_neg hm]
      rfl
    · rw [hexec, State.askDeadline_misses ha hd (hcarries.mpr hc) (hservice.mpr hs), State.missAsk_eq, if_pos hm]
      rfl
    · have hsuspends : s.lineCarries = false ∨ s.askUnfitted a = true := by
        rw [← hcarries, ← hservice] at h
        simpa using h
      rw [hexec, State.askDeadline_suspends ha hd hsuspends]
      rfl
  case report =>
    refine ⟨fun h => by rw [State.takeReport, h], fun r a hr ha => ?_⟩
    intro p carries inService fresh u stale missed answered seen used ended
    have htake := State.takeReport_reads hr ha
    have hstale : inService → ¬ fresh → s.judgeReport a r = if u.lineCarries then stale.missAsk p else stale :=
      fun hs hf => State.judgeReport_stale ((s.askUnfitted_iff a).mpr hs) hf
    have hcarries : u.lineCarries = true ↔ carries := s.lineCarries_iff
    refine ⟨fun h => ?_, fun hs hf => ?_, fun hs hf hc => ?_, fun hs hf hc hm => ?_, fun hs hf hc hm => ?_⟩
    · have hunfit : s.askUnfitted a = true := by
        by_contra hno
        exact h ((s.askUnfitted_iff a).mp (by simpa using hno))
      rw [htake, State.judgeReport_unfitted hunfit]
      rfl
    · have hseen : (u.modPost p fun e => { e with missed := 0 }).dropSilent p = seen := u.answered_eq p
      rw [htake, State.judgeReport_fresh ((s.askUnfitted_iff a).mpr hs) hf, State.freshReport]
      exact congrArg (fun x => State.endAsk (State.handReport x p r)) hseen
    · rw [htake, hstale hs hf, if_neg (mt hcarries.mp hc)]
      rfl
    · rw [htake, hstale hs hf, if_pos (hcarries.mpr hc), State.missAsk_eq]
      exact congrArg State.endAsk (if_neg hm)
    · rw [htake, hstale hs hf, if_pos (hcarries.mpr hc), State.missAsk_eq]
      exact congrArg State.endAsk (if_pos hm)
  case passage =>
    intro x u detail
    refine ⟨fun hup hdown => ?_, fun t front back hseq hfront hup => ?_⟩
    · have hnone : u.tracker.sequenced x = none := Tracker.sequenced_none hup hdown
      show u.passage x e.age = _
      rw [State.passage, hnone]
    have hsome : u.tracker.sequenced x = some (t, front.length) := Tracker.sequenced_some hseq hfront hup
    have hhand : s.handPassage p e = u.matchPassage t front.length x e.age := by
      show u.passage x e.age = _
      rw [State.passage, hsome]
    intro i raised
    refine ⟨fun hno => ?_, fun old new r hlist hold hr => ?_⟩
    · rw [hhand, State.matchPassage_none (s := u) hno, State.trackRaise_eq]
      rfl
    intro v position d
    have hjudge : s.handPassage p e = v.judgePassage t r x e.age := by
      rw [hhand, State.matchPassage_some (s := u) hlist hold hr]
    rw [hjudge]
    refine ⟨fun hage => if_pos hage, fun hage hd => (if_neg hage).trans (if_pos hd), fun hage hd =>
      (if_neg hage).trans ((if_neg (Nat.not_le.mpr hd)).trans ?_)⟩
    rw [State.trackRaise_eq]
    rfl
  case deviation =>
    intro sum slip applied
    refine ⟨fun h => ?_, fun h => by rw [State.offerDeviation, h]; rfl⟩
    rw [State.offerDeviation, h]
    dsimp only
    rw [clampInt_eq]
    refine congrArg State.judgeSlip ?_
    by_cases hslip : slip = sum
    · rw [if_pos hslip, if_pos hslip]; rfl
    · rw [if_neg hslip, if_neg hslip]; rfl
  case slip =>
    intro above v
    have hjudge : s.judgeSlip = v.judge .ropeSlip s.rope.slipping above := rfl
    refine ⟨fun ha hs => ?_, fun ha hs => ?_, fun h => ?_⟩
    · rw [hjudge, ha, hs]; rfl
    · rw [hjudge, ha, hs]; rfl
    · have hv : v = s := by
        show ({ s with rope := { s.rope with slipping := above } } : State) = s
        rw [h]
      rw [hjudge, hv, h, State.judge_same]

end Sys2Proof.Machine


/-! The jitter queue (R167) and VOICE frames. -/

namespace Sys2Proof.Machine

/-! ## The order of the queue -/

/-- A jitter queue in order of distance from the expected number. -/
abbrev ByDistance (e : Byte) (q : List (Byte × List Byte)) : Prop :=
  q.Pairwise fun a b => seqDistance e a.1 < seqDistance e b.1

theorem seqDistance_inj {e a b : Byte} (h : seqDistance e a = seqDistance e b) : a = b := by
  simp only [seqDistance] at h
  have := BitVec.eq_of_toNat_eq h
  bv_omega

theorem insertVoice_perm (e : Byte) (f : Byte × List Byte) (q : List (Byte × List Byte)) :
    (insertVoice e f q).Perm (f :: q) := by
  induction q with
  | nil => exact .refl _
  | cons g q ih =>
    rw [insertVoice]
    split
    · exact .refl _
    · exact (ih.cons g).trans (.swap f g q)

theorem insertVoice_byDistance {e : Byte} {f : Byte × List Byte} {q : List (Byte × List Byte)} (h : ByDistance e q)
    (hnew : ∀ g ∈ q, g.1 ≠ f.1) : ByDistance e (insertVoice e f q) := by
  induction q with
  | nil => exact List.pairwise_singleton _ _
  | cons g q ih =>
    obtain ⟨hfirst, hrest⟩ := List.pairwise_cons.mp h
    rw [insertVoice]
    split
    · next hlt =>
      refine List.pairwise_cons.mpr ⟨fun x hx => ?_, h⟩
      obtain rfl | hx := List.mem_cons.mp hx
      · exact hlt
      · exact Nat.lt_trans hlt (hfirst x hx)
    · next hge =>
      have hne : seqDistance e g.1 ≠ seqDistance e f.1 := fun he => hnew g (List.mem_cons_self ..) (seqDistance_inj he)
      refine List.pairwise_cons.mpr ⟨fun x hx => ?_, ih hrest fun y hy => hnew y (List.mem_cons_of_mem _ hy)⟩
      obtain rfl | hx := List.mem_cons.mp ((insertVoice_perm e f q).mem_iff.mp hx)
      · omega
      · exact hfirst x hx

/-! ## The judgement -/

section
variable {e : Byte} {q : List (Byte × List Byte)} {f : Byte × List Byte}

theorem judgeVoice_late (h : 128 ≤ seqDistance e f.1) : judgeVoice e q f = .late := if_pos h

variable (hnear : seqDistance e f.1 < 128)
include hnear

theorem judgeVoice_duplicate (h : ∃ g ∈ q, g.1 = f.1) : judgeVoice e q f = .duplicate := by
  have hany : (q.any fun g => decide (g.1 = f.1)) = true := by simpa using h
  exact (if_neg (Nat.not_le.mpr hnear)).trans (if_pos hany)

variable (hnew : ∀ g ∈ q, g.1 ≠ f.1)
include hnew

theorem judgeVoice_new :
    judgeVoice e q f =
      if q.length < Config.jitterCapacity then .queued false (insertVoice e f q)
      else
        match q.getLast? with
        | some g =>
          if seqDistance e f.1 < seqDistance e g.1 then .queued true (insertVoice e f q.dropLast) else .dropped
        | none => .dropped := by
  have hany : ¬ (q.any fun g => decide (g.1 = f.1)) = true := fun h => by
    obtain ⟨g, hg, hsame⟩ := List.any_eq_true.mp h
    exact hnew g hg (of_decide_eq_true hsame)
  exact (if_neg (Nat.not_le.mpr hnear)).trans ((if_neg hany).trans rfl)

theorem judgeVoice_room (hroom : q.length < 8) : judgeVoice e q f = .queued false (insertVoice e f q) :=
  (judgeVoice_new hnear hnew).trans (if_pos hroom)

theorem judgeVoice_full {front : List (Byte × List Byte)} {g : Byte × List Byte} (hfull : 8 ≤ q.length)
    (hq : q = front ++ [g]) :
    judgeVoice e q f =
      if seqDistance e f.1 < seqDistance e g.1 then .queued true (insertVoice e f front) else .dropped := by
  have hno : ¬ q.length < Config.jitterCapacity := Nat.not_lt.mpr hfull
  rw [judgeVoice_new hnear hnew, if_neg hno, hq, List.getLast?_concat, List.dropLast_concat]

end

/-! ## A VOICE frame taken -/

theorem Telephony.callOn_none {u : Telephony} {v : VoiceName}
    (h : ∀ i : Fin 4, ¬ ((u.records[i]).state = .connected ∧ (u.records[i]).channel = some v)) : u.callOn v = none := by
  refine List.find?_eq_none.mpr fun i _ => ?_
  simpa using h i

theorem Telephony.callOn_isSome {u : Telephony} {v : VoiceName} {i : Fin 4} (hs : (u.records[i]).state = .connected)
    (hc : (u.records[i]).channel = some v) : (u.callOn v).isSome = true := by
  rw [Telephony.callOn, List.find?_isSome]
  exact ⟨i, mem_allRecords i, by simpa using ⟨hs, hc⟩⟩

theorem State.takeVoice_short {s : State} {v : VoiceName} {seq : Byte} {samples : List Byte} (h : samples.length ≠ 40) :
    s.takeVoice (.voice (some v) seq samples) = s.countTel Ctr.malformedVoice := if_pos h

theorem State.takeVoice_unheld {s : State} {v : VoiceName} {seq : Byte} {samples : List Byte} (hlen : samples.length = 40)
    (h : s.tel.callOn v = none) :
    s.takeVoice (.voice (some v) seq samples) = s.countTel (Ctr.notConnected (voiceIndex v)) :=
  (if_neg (not_not_intro hlen)).trans (if_pos (by rw [h]; rfl))

theorem State.takeVoice_held {s : State} {v : VoiceName} {seq : Byte} {samples : List Byte} (hlen : samples.length = 40)
    (h : (s.tel.callOn v).isSome = true) : s.takeVoice (.voice (some v) seq samples) = s.insertFrame v (seq, samples) :=
  (if_neg (not_not_intro hlen)).trans (if_neg (by rw [Option.isNone_iff_eq_none]; exact Option.isSome_iff_ne_none.mp h))

section
variable {s : State} {v : VoiceName} {f : Byte × List Byte}

/-- The fate of a frame for a channel (R167). -/
def State.voiceFate (s : State) (v : VoiceName) (f : Byte × List Byte) : VoiceFate :=
  judgeVoice ((s.tel.voices[voiceIndex v]).expected.getD f.1) (s.tel.voices[voiceIndex v]).jitter f

theorem State.insertFrame_late (h : s.voiceFate v f = .late) : s.insertFrame v f = s.countTel (Ctr.lateVoice (voiceIndex v)) := by
  rw [State.voiceFate] at h
  rw [State.insertFrame, h]

theorem State.insertFrame_duplicate (h : s.voiceFate v f = .duplicate) :
    s.insertFrame v f = s.countTel (Ctr.duplicateVoice (voiceIndex v)) := by
  rw [State.voiceFate] at h
  rw [State.insertFrame, h]

theorem State.insertFrame_dropped (h : s.voiceFate v f = .dropped) :
    s.insertFrame v f = s.countTel (Ctr.overflowVoice (voiceIndex v)) := by
  rw [State.voiceFate] at h
  rw [State.insertFrame, h]

/-- A channel whose queue has been replaced, started where it may start. -/
theorem VoiceUnit.startPlaying_eq (w : VoiceUnit) :
    w.startPlaying =
      { w with
        playing := if w.playing = false ∧ 2 ≤ w.jitter.length then true else w.playing
        timer := if w.playing = false ∧ 2 ≤ w.jitter.length then some 5 else w.timer
        empties := if w.playing = false ∧ 2 ≤ w.jitter.length then 0 else w.empties } := by
  by_cases h : w.playing = false ∧ 2 ≤ w.jitter.length
  · simp only [VoiceUnit.startPlaying, if_pos h]; rfl
  · simp only [VoiceUnit.startPlaying, if_neg h]

theorem State.insertFrame_queued {overflow : Bool} {q : List (Byte × List Byte)} (h : s.voiceFate v f = .queued overflow q) :
    s.insertFrame v f =
      s.modTel fun u =>
        { u with
          counters := if overflow then bump u.counters (Ctr.overflowVoice (voiceIndex v)) else u.counters
          voices := upd u.voices (voiceIndex v) fun w =>
            VoiceUnit.startPlaying { w with jitter := q, expected := some (w.expected.getD f.1) } } := by
  rw [State.voiceFate] at h
  rw [State.insertFrame, h]
  cases overflow <;> rfl

end

/-! ## The obligation -/

/-- Settles O36: the VOICE frame by its contents, its call and its judgement; the judgement by distance, number and room. -/
theorem jitterQueueJudgement : Obligations.JitterQueueJudgement := by
  unfold Obligations.JitterQueueJudgement
  refine ⟨fun s v seq samples => ?frame, fun e q f hq => ?judgement⟩
  case frame =>
    intro k w e t
    refine ⟨rfl, rfl, State.takeVoice_short, fun hlen => ⟨fun h => ?_, fun i hs hc => ?_⟩⟩
    · exact State.takeVoice_unheld hlen (Telephony.callOn_none h)
    have ht : t = s.insertFrame v (seq, samples) := State.takeVoice_held hlen (Telephony.callOn_isSome hs hc)
    refine ⟨fun h => ht.trans (State.insertFrame_late h), fun h => ht.trans (State.insertFrame_duplicate h),
      fun h => ht.trans (State.insertFrame_dropped h), fun overflow q h => ?_⟩
    intro starts
    rw [ht, State.insertFrame_queued h, State.modTel, State.modTel]
    congr 2
    exact upd_congr (VoiceUnit.startPlaying_eq _)
  case judgement =>
    refine ⟨judgeVoice_late, judgeVoice_duplicate, fun hnear hnew hroom => ?_, fun front g hnear hnew hfull hlast =>
      ⟨fun hlt => ?_, fun hle => ?_⟩⟩
    · exact ⟨_, judgeVoice_room hnear hnew hroom, insertVoice_perm e f q, insertVoice_byDistance hq hnew⟩
    · have hfront : ByDistance e front := by
        rw [hlast] at hq
        exact (List.pairwise_append.mp hq).1
      have hnewfront : ∀ x ∈ front, x.1 ≠ f.1 := fun x hx => hnew x (by rw [hlast]; exact List.mem_append_left _ hx)
      exact ⟨_, (judgeVoice_full hnear hnew hfull hlast).trans (if_pos hlt), insertVoice_perm e f front,
        insertVoice_byDistance hfront hnewfront⟩
    · exact (judgeVoice_full hnear hnew hfull hlast).trans (if_neg (Nat.not_lt.mpr hle))

end Sys2Proof.Machine


/-! Codec blocks (R166) and the playout (R168). -/

namespace Sys2Proof.Machine

/-! ## Codec blocks -/

theorem exec_codecBlock {s : State} (hpin : s.pinHeld = false) (l : Fin 2) {samples : List Byte} (h : samples.length = 40) :
    exec (.codecBlock l samples) s = .next (s.codecBlock l samples) :=
  (State.live_run hpin fun s => if samples.length = Config.blockSamples then s.codecBlock l samples else s).trans
    (congrArg Host.Outcome.next (if_pos h))

theorem State.codecBlock_idle {s : State} {l : Fin 2} (h : s.tel.activeRecord l = none) (samples : List Byte) :
    s.codecBlock l samples = s := by
  rw [State.codecBlock, h]

section
variable {s : State} {l : Fin 2} {i : Fin 4} (hi : s.tel.activeRecord l = some i) (hs : (s.record i).state = .connected)
include hi hs

theorem State.codecBlock_summit {sl : Fin 4} {v : VoiceName} (hr : (s.record i).remote = .summit sl)
    (hv : (s.record i).channel = some v) (samples : List Byte) : s.codecBlock l samples = s.sendVoice v samples := by
  rw [State.codecBlock, hi]
  simp only [if_pos hs, hr, hv]

theorem State.codecBlock_local {m : Fin 2} (hr : (s.record i).remote = .localLine m) (samples : List Byte) :
    s.codecBlock l samples = s.play (otherLine l) samples := by
  rw [State.codecBlock, hi]
  simp only [if_pos hs, hr]

end

/-- The number of a VOICE frame taken from a channel. -/
def State.nextVoice (s : State) (v : VoiceName) : State :=
  s.modTel fun u => { u with voices := upd u.voices (voiceIndex v) fun w => { w with txSeq := w.txSeq + 1 } }

theorem State.nextVoice_eq (s : State) (v : VoiceName) :
    (s.modVoice v fun u => { u with txSeq := (s.tel.voices[voiceIndex v]).txSeq + 1 }) = s.nextVoice v :=
  congrArg (fun x => s.modTel fun u => { u with voices := x }) (upd_congr rfl)

theorem State.sendVoice_carried {s : State} (h : s.line.mode = .active ∨ s.line.mode = .warned) (v : VoiceName)
    (samples : List Byte) :
    s.sendVoice v samples =
      ((s.nextVoice v).countTel (Ctr.voiceSent (voiceIndex v))).offer .line 1
        (voiceFrame v (s.tel.voices[voiceIndex v]).txSeq samples) := by
  rw [State.sendVoice, ← State.nextVoice_eq]
  exact if_pos (s.lineCarries_iff.mpr h)

theorem State.sendVoice_suppressed {s : State} (h : ¬ (s.line.mode = .active ∨ s.line.mode = .warned)) (v : VoiceName)
    (samples : List Byte) : s.sendVoice v samples = (s.nextVoice v).countTel Ctr.voiceSuppressed := by
  rw [State.sendVoice, ← State.nextVoice_eq]
  exact if_neg (mt s.lineCarries_iff.mp h)

/-! ## The playout -/

theorem VoiceUnit.playOne_due {w : VoiceUnit} {g : Byte × List Byte} {rest : List (Byte × List Byte)} (h : w.jitter = g :: rest)
    (he : w.expected = some g.1) (k : Fin 2) :
    w.playOne k = (g.2, { w with jitter := rest, last := some g.2, replayUsed := false }, Ctr.played k) := by
  unfold VoiceUnit.playOne
  simp only [h, if_pos he]

/-- An expiry that does not find its frame: the last block once again, and silence after that or where there is none. -/
theorem VoiceUnit.playOne_missing {w : VoiceUnit} {e : Byte} (he : w.expected = some e)
    (hmiss : ∀ g rest, w.jitter = g :: rest → g.1 ≠ e) (k : Fin 2) :
    let replays := w.last ≠ none ∧ w.replayUsed = false
    w.playOne k =
      (if replays then w.last.getD [] else List.replicate 40 128,
        { w with replayUsed := if replays then true else w.replayUsed },
        if replays then Ctr.replayed k else Ctr.silent k) := by
  intro replays
  have hplay : w.playOne k =
      match w.last with
      | some b =>
        if w.replayUsed then (Config.silence, w, Ctr.silent k) else (b, { w with replayUsed := true }, Ctr.replayed k)
      | none => (Config.silence, w, Ctr.silent k) := by
    unfold VoiceUnit.playOne
    cases hq : w.jitter with
    | nil => rfl
    | cons g rest =>
      have hne : ¬ w.expected = some g.1 := fun h => hmiss g rest hq (Option.some.inj (h.symm.trans he))
      exact if_neg hne
  rw [hplay]
  obtain ⟨txSeq, jitter, playing, expected, _ | b, _ | _, empties, timer⟩ := w
  · rfl
  · rfl
  · rfl
  · rfl

theorem State.playOn_call {s t : State} {v : VoiceName} {i : Fin 4} (hcall : s.tel.callOn v = some i)
    (h : t.tel.records = s.tel.records) (block : List Byte) : t.playOn v block = t.play (s.record i).line block := by
  have hon : t.tel.callOn v = some i := by rw [← hcall, Telephony.callOn, Telephony.callOn, h]
  have hline : (t.record i).line = (s.record i).line := congrArg (fun k : Vector CallRecord 4 => (k[i]).line) h
  rw [State.playOn, hon, ← hline]

theorem State.playout_stopped {s : State} {v : VoiceName}
    (h : (s.tel.voices[voiceIndex v]).playing = false ∨ (s.tel.voices[voiceIndex v]).timer = none) : s.playout v = s := by
  rw [State.playout]
  refine if_neg ?_
  obtain h | h := h <;> simp [-Fin.getElem_fin, h]

section
variable {s : State} {v : VoiceName} {n : Nat} {i : Fin 4} {block : List Byte} {w : VoiceUnit} {c : Fin 38}
  (hplaying : (s.tel.voices[voiceIndex v]).playing = true) (htimer : (s.tel.voices[voiceIndex v]).timer = some n)
  (hcall : s.tel.callOn v = some i) (hone : (s.tel.voices[voiceIndex v]).playOne (voiceIndex v) = (block, w, c))
include hplaying htimer hcall hone

/-- The playout's unit after an expiry, before the eighth empty one is judged. -/
theorem State.playout_plays (hempties : (w.advance (s.tel.voices[voiceIndex v]).jitter.isEmpty).empties ≠ 8) :
    s.playout v =
      s.modTel fun u =>
        { u with
          voices := upd u.voices (voiceIndex v) fun _ => w.advance (s.tel.voices[voiceIndex v]).jitter.isEmpty
          codec := upd u.codec (s.record i).line fun _ => block
          counters := bump u.counters c } := by
  have hruns : ((s.tel.voices[voiceIndex v]).playing && (s.tel.voices[voiceIndex v]).timer.isSome) = true := by
    rw [hplaying, htimer]; rfl
  rw [State.playout, if_pos hruns, hone]
  dsimp only
  rw [if_neg hempties, State.playOn_call (t := s.countTel c) hcall rfl]
  rfl

theorem State.playout_empties (hempties : (w.advance (s.tel.voices[voiceIndex v]).jitter.isEmpty).empties = 8) :
    s.playout v =
      s.modTel fun u =>
        { u with
          voices := upd u.voices (voiceIndex v) fun _ => (w.advance (s.tel.voices[voiceIndex v]).jitter.isEmpty).toPrefill
          codec := upd u.codec (s.record i).line fun _ => List.replicate 40 128
          counters := bump (bump u.counters c) (Ctr.prefillReturn (voiceIndex v)) } := by
  have hruns : ((s.tel.voices[voiceIndex v]).playing && (s.tel.voices[voiceIndex v]).timer.isSome) = true := by
    rw [hplaying, htimer]; rfl
  rw [State.playout, if_pos hruns, hone]
  dsimp only
  rw [if_pos hempties, State.playOn_call (t := s.countTel c) hcall rfl, State.playOn_call hcall (by rfl)]
  simp only [State.play, State.modVoice, State.modTel, State.countTel, upd_upd]
  rfl

end

/-! ## The obligation -/

/-- Settles O35: the block by the line's call; the expiry by what it finds. -/
theorem codecBlockAndPlayout : Obligations.CodecBlockAndPlayout := by
  unfold Obligations.CodecBlockAndPlayout
  intro s l samples v hpin hlen k w
  have hblock := exec_codecBlock hpin l hlen
  have hexpiry : exec (.playoutTimerExpiry v) s = .next (s.playout v) := State.live_run hpin fun s => s.playout v
  refine ⟨fun h => ?_, fun i sl hi hs hr hv => ?_, fun i m hi hs hr => ?_, fun h => ?_, fun n i g rest hp ht hc hq he => ?_,
    fun n i e hp ht hc he hmiss => ?_⟩
  · rw [hblock, State.codecBlock_idle h]
  · intro u
    refine ⟨fun hm => ?_, fun ha hw => ?_⟩
    · rw [hblock, State.codecBlock_summit hi hs hr hv, State.sendVoice_carried hm]
      rfl
    · rw [hblock, State.codecBlock_summit hi hs hr hv, State.sendVoice_suppressed fun hm => hm.elim ha hw]
      rfl
  · rw [hblock, State.codecBlock_local hi hs hr]
    rfl
  · rw [hexpiry, State.playout_stopped h]
  · have hfound : w.jitter.isEmpty = false := by rw [hq]; rfl
    rw [hexpiry, State.playout_plays hp ht hc (VoiceUnit.playOne_due hq he k)]
    · refine congrArg Host.Outcome.next ?_
      have hunit : upd s.tel.voices k (fun _ => VoiceUnit.advance
          { w with jitter := rest, last := some g.2, replayUsed := false } w.jitter.isEmpty) =
          upd s.tel.voices k fun w =>
            { w with
              jitter := rest, last := some g.2, replayUsed := false, expected := some (g.1 + 1), empties := 0
              timer := some 5 } := by
        refine upd_congr ?_
        rw [hfound, VoiceUnit.advance]
        dsimp only
        rw [he]
        rfl
      exact congrArg (fun x => s.modTel fun u =>
        { u with
          voices := x, codec := upd u.codec (s.record i).line fun _ => g.2
          counters := bump u.counters (Ctr.played k) }) hunit
    · show (if w.jitter.isEmpty then _ else 0) ≠ 8
      rw [hfound]
      show (0 : Nat) ≠ 8
      decide
  · intro empties replays block played
    have hone := VoiceUnit.playOne_missing he hmiss k
    have hadvanced : VoiceUnit.advance { w with replayUsed := if replays then true else w.replayUsed } w.jitter.isEmpty =
        { w with
          replayUsed := if replays then true else w.replayUsed, expected := some (e + 1), empties := empties
          timer := some 5 } := by
      have hempties : (if w.jitter.isEmpty then satAdd 8 w.empties 1 else 0) = empties := by
        simp only [List.isEmpty_iff, satAdd_one, empties]
      rw [VoiceUnit.advance]
      dsimp only
      rw [he, hempties]
      rfl
    refine ⟨fun hne => ?_, fun height => ?_⟩
    · rw [hexpiry, State.playout_plays hp ht hc hone (by rw [hadvanced]; exact hne), hadvanced]
      exact congrArg (fun x => Host.Outcome.next (s.modTel fun u =>
        { u with
          voices := x, codec := upd u.codec (s.record i).line fun _ => block
          counters := bump u.counters played })) (upd_congr rfl)
    · rw [hexpiry, State.playout_empties hp ht hc hone (by rw [hadvanced]; exact height), hadvanced]
      exact congrArg (fun x => Host.Outcome.next (s.modTel fun u =>
        { u with
          voices := x, codec := upd u.codec (s.record i).line fun _ => List.replicate 40 128
          counters := bump (bump u.counters played) (Ctr.prefillReturn k) })) (upd_congr (by rw [height]; rfl))

end Sys2Proof.Machine


/-! The operations on a call record: freeing (R160), CONNECTED (R157), resumption (R163) and preemption (R162). -/

namespace Sys2Proof.Machine

/-! ## Frames of a summit call -/

theorem CallRecord.frame_summit {r : CallRecord} {l : Fin 4} (h : r.remote = .summit l) (sub : CallSub)
    (reason : ClearReason) :
    r.frame sub reason = some (callFrame sub r.ref r.line l r.priority (if sub = .hold then none else r.channel) reason) := by
  rw [CallRecord.frame, h]

theorem CallRecord.frame_none {r : CallRecord} (h : ∀ l, r.remote ≠ .summit l) (sub : CallSub) (reason : ClearReason) :
    r.frame sub reason = none := by
  rw [CallRecord.frame]
  split
  · next l hl => exact absurd hl (h l)
  · rfl
  · rfl

theorem State.sendCall_summit {s : State} {i : Fin 4} {r : CallRecord} {l : Fin 4} (hi : s.tel.records[i] = r)
    (h : r.remote = .summit l) (sub : CallSub) :
    s.sendCall i sub =
      s.offer .line 1 (callFrame sub r.ref r.line l r.priority (if sub = .hold then none else r.channel) .normal) := by
  rw [State.sendCall, hi, CallRecord.frame_summit h]
  rfl

/-! ## Freeing (R160) -/

/-- The voice channels once a record's channel is released. -/
def Telephony.voicesReleased (u : Telephony) (channel : Option VoiceName) : Vector VoiceUnit 2 :=
  match channel with
  | some v => upd u.voices (voiceIndex v) VoiceUnit.released
  | none => u.voices

theorem State.releaseChannel_eq (s : State) (i : Fin 4) :
    s.releaseChannel i =
      s.modTel fun u =>
        { u with
          voices := u.voicesReleased (u.records[i]).channel
          records := upd u.records i fun r => { r with channel := none } } := by
  rw [State.releaseChannel, State.modTel]
  cases h : (s.tel.records[i]).channel with
  | some v => rfl
  | none =>
    have hsame : upd s.tel.records i (fun r => { r with channel := none }) = s.tel.records := upd_same (by rw [← h])
    simp only [Telephony.voicesReleased, hsame]

/-- The telephony unit once a record is freed, its CLEAR not yet offered. -/
def Telephony.freed (u : Telephony) (i : Fin 4) (reason : ClearReason) : Telephony :=
  { u with
    records := upd u.records i fun r => { r with state := .free, timer := none, channel := none }
    stack := u.stack.filter (· != i)
    voices := u.voicesReleased (u.records[i]).channel
    counters := bump u.counters (Ctr.cleared (reasonIndex reason)) }

theorem State.freeCore_eq (s : State) (i : Fin 4) (reason : ClearReason) (quiet : Bool) :
    s.freeCore i reason quiet =
      ({ s with tel := s.tel.freed i reason } : State).offerCall
        (if (s.tel.records[i]).known && !quiet then (s.tel.records[i]).frame .clear reason else none) := by
  rw [State.freeCore]
  simp only [State.releaseChannel_eq, State.modTel, State.modRecord, State.countTel, upd_upd]
  rfl

theorem State.freeCore_clears {s : State} {i : Fin 4} {l : Fin 4} (hknown : (s.tel.records[i]).known = true)
    (hl : (s.tel.records[i]).remote = .summit l) (reason : ClearReason) :
    s.freeCore i reason false =
      ({ s with tel := s.tel.freed i reason } : State).offer .line 1
        (callFrame .clear (s.tel.records[i]).ref (s.tel.records[i]).line l (s.tel.records[i]).priority
          (s.tel.records[i]).channel reason) := by
  rw [State.freeCore_eq, hknown]
  show State.offerCall _ ((s.tel.records[i]).frame .clear reason) = _
  rw [CallRecord.frame_summit hl]
  rfl

theorem State.freeCore_silently {s : State} {i : Fin 4} {quiet : Bool}
    (h : (s.tel.records[i]).known = false ∨ quiet = true ∨ ∀ l, (s.tel.records[i]).remote ≠ .summit l)
    (reason : ClearReason) : s.freeCore i reason quiet = { s with tel := s.tel.freed i reason } := by
  rw [State.freeCore_eq]
  obtain h | h | h := h
  · rw [h]; rfl
  · rw [h, Bool.not_true, Bool.and_false]; rfl
  · rw [CallRecord.frame_none h, ite_self]; rfl

/-! ## CONNECTED (R157) -/

/-- The telephony unit once a record has entered CONNECTED on a channel, a line's codec port silent. -/
theorem State.connect_summit {s : State} {i : Fin 4} {l : Fin 4} (h : (s.tel.records[i]).remote = .summit l) :
    s.connect i =
      s.modTel fun u =>
        { u with
          order := u.order + 1
          codec := upd u.codec (u.records[i]).line fun _ => List.replicate 40 128
          records := upd u.records i fun r =>
            { r with state := .connected, timer := none, order := some (u.order + 1) } } := by
  have hquiet : s.tel.quietLines s.tel.records[i] =
      { s.tel with codec := upd s.tel.codec (s.tel.records[i]).line fun _ => List.replicate 40 128 } := by
    rw [Telephony.quietLines, h]
    rfl
  rw [State.connect, State.modTel, State.modTel, hquiet]
  rfl

theorem State.connect_local {s : State} {i : Fin 4} {m : Fin 2} (h : (s.tel.records[i]).remote = .localLine m) :
    s.connect i =
      s.modTel fun u =>
        { u with
          order := u.order + 1
          codec := upd (upd u.codec (u.records[i]).line fun _ => List.replicate 40 128) m fun _ => List.replicate 40 128
          records := upd u.records i fun r =>
            { r with state := .connected, timer := none, order := some (u.order + 1) } } := by
  have hquiet : s.tel.quietLines s.tel.records[i] =
      { s.tel with
        codec := upd (upd s.tel.codec (s.tel.records[i]).line fun _ => List.replicate 40 128) m fun _ =>
          List.replicate 40 128 } := by
    rw [Telephony.quietLines, h]
    rfl
  rw [State.connect, State.modTel, State.modTel, hquiet]
  rfl

/-! ## Resumption (R163) -/

theorem Telephony.resumable_iff (u : Telephony) (i : Fin 4) :
    u.resumable = some i ↔
      ∃ above below, u.stack = above ++ i :: below ∧ u.activeRecord (u.records[i]).line = none ∧
        ∀ j ∈ above, u.activeRecord (u.records[j]).line ≠ none := by
  rw [Telephony.resumable, List.find?_eq_some_iff_append]
  constructor
  · rintro ⟨hi, above, below, hstack, habove⟩
    exact ⟨above, below, hstack, by simpa using hi, fun j hj => by simpa [Option.isSome_iff_ne_none] using habove j hj⟩
  · rintro ⟨above, below, hstack, hi, habove⟩
    exact ⟨by simpa using hi, above, below, hstack,
      fun j hj => by simpa [Option.isSome_iff_ne_none] using habove j hj⟩

theorem State.resumption_idle {s : State} (h : s.tel.resumable = none ∨ s.tel.freeChannel = none) : s.resumption = s := by
  rw [State.resumption, Config.stackCapacity, State.resumeHeld]
  split
  · next i v hi hv =>
    obtain h | h := h
    · rw [h] at hi; exact absurd hi (by simp)
    · rw [h] at hv; exact absurd hv (by simp)
  · rfl

/-- A held record off the stack, with its channel claimed and the resumption counted. -/
def State.unheld (s : State) (i : Fin 4) (v : VoiceName) : State :=
  { s with tel :=
    { s.tel with
      stack := s.tel.stack.filter (· != i)
      voices := upd s.tel.voices (voiceIndex v) fun _ => ⟨0, [], false, none, none, false, 0, none⟩
      records := upd s.tel.records i fun r => { r with channel := some v }
      counters := bump s.tel.counters Ctr.resumedCalls } }

theorem State.unheld_record (s : State) (i : Fin 4) (v : VoiceName) :
    (s.unheld i v).tel.records[i] = { s.tel.records[i] with channel := some v } := upd_self _ _ _

theorem State.resumption_runs {s : State} {i : Fin 4} {v : VoiceName} (hi : s.tel.resumable = some i)
    (hv : s.tel.freeChannel = some v) :
    s.resumption =
      State.resumeHeld
        (if s.tel.hooks[(s.tel.records[i]).line] then ((s.unheld i v).connect i).sendCall i .resume
        else (s.unheld i v).ringIn i) 1 := by
  have hrecord : ∀ t : State, t = s.unheld i v → (if t.tel.hooks[(t.tel.records[i]).line] then (t.connect i).sendCall i .resume
      else t.ringIn i) = if s.tel.hooks[(s.tel.records[i]).line] then ((s.unheld i v).connect i).sendCall i .resume
        else (s.unheld i v).ringIn i := by
    rintro t rfl
    have hline : ((s.unheld i v).tel.records[i]).line = (s.tel.records[i]).line := by rw [State.unheld_record]
    exact congrArg (fun l : Fin 2 => if s.tel.hooks[l] then ((s.unheld i v).connect i).sendCall i .resume
      else (s.unheld i v).ringIn i) hline
  rw [State.resumption, Config.stackCapacity, State.resumeHeld, hi, hv]
  exact congrArg (State.resumeHeld · 1) (hrecord _ rfl)

/-! ## Preemption (R162) -/

theorem State.takeVictim_frees {s : State} {j : Fin 4}
    (h : (s.tel.records[j]).state ≠ .connected ∨ (s.tel.records[j]).remote.isSummit = false ∨ 2 ≤ s.tel.stack.length) :
    s.takeVictim j = s.freeCore j .preempted false := by
  refine if_neg fun ⟨hstate, hremote, hroom⟩ => ?_
  obtain h | h | h := h
  · exact h hstate
  · rw [h] at hremote; exact Bool.noConfusion hremote
  · exact absurd hroom (Nat.not_lt.mpr h)

/-- A call on hold, its HOLD not yet offered. -/
def Telephony.held (u : Telephony) (j : Fin 4) : Telephony :=
  { u with
    records := upd u.records j fun r => { r with state := .held, channel := none, timer := some 120000 }
    stack := j :: u.stack
    voices := u.voicesReleased (u.records[j]).channel
    counters := bump u.counters Ctr.heldCalls }

theorem State.takeVictim_holds {s : State} {j : Fin 4} {l : Fin 4} (hstate : (s.tel.records[j]).state = .connected)
    (hl : (s.tel.records[j]).remote = .summit l) (hroom : s.tel.stack.length < 2) :
    s.takeVictim j =
      ({ s with tel := s.tel.held j } : State).offer .line 1
        (callFrame .hold (s.tel.records[j]).ref (s.tel.records[j]).line l (s.tel.records[j]).priority none .normal) := by
  have hheld : s.takeVictim j = ({ s with tel := s.tel.held j } : State).sendCall j .hold := by
    refine (if_pos ⟨hstate, by rw [hl]; rfl, hroom⟩).trans ?_
    simp only [State.releaseChannel_eq, State.modTel, State.modRecord, State.countTel, upd_upd]
    rfl
  have hrecord : (s.tel.held j).records[j] = { s.tel.records[j] with state := .held, channel := none, timer := some 120000 } :=
    upd_self _ _ _
  rw [hheld, State.sendCall_summit (r := { s.tel.records[j] with state := .held, channel := none, timer := some 120000 })
    hrecord hl]
  rfl

theorem Priority.rank_inj {p q : Priority} : p.rank = q.rank ↔ p = q := by
  cases p <;> cases q <;> decide

theorem Priority.rank_lt_emergency {p : Priority} : p.rank < Priority.emergency.rank ↔ p ≠ .emergency := by
  cases p <;> decide

theorem CallRecord.channelVictim_iff {r : CallRecord} :
    r.channelVictim = true ↔ r.state = .connected ∧ r.remote.isSummit = true ∧ r.priority ≠ .emergency := by
  simp only [CallRecord.channelVictim, Bool.and_eq_true, decide_eq_true_eq, Priority.rank_lt_emergency, and_assoc]

theorem CallRecord.victimBefore_iff {a b : CallRecord} :
    a.victimBefore b = true ↔
      a.priority.rank < b.priority.rank ∨ (a.priority = b.priority ∧ b.order.getD 0 < a.order.getD 0) := by
  simp only [CallRecord.victimBefore, Bool.or_eq_true, Bool.and_eq_true, decide_eq_true_eq, Priority.rank_inj]

theorem CallRecord.victimBefore_asymm {a b : CallRecord} (h : a.victimBefore b = true) : b.victimBefore a = false := by
  refine Bool.eq_false_iff.mpr fun h' => ?_
  obtain hrank | ⟨hsame, horder⟩ := victimBefore_iff.mp h
  all_goals obtain hrank' | ⟨hsame', horder'⟩ := victimBefore_iff.mp h'
  · omega
  · rw [hsame'] at hrank; omega
  · rw [hsame] at hrank'; omega
  · omega

theorem Telephony.foldl_betterVictim_stays {u : Telephony} {i : Fin 4} :
    ∀ {l : List (Fin 4)}, (∀ j ∈ l, j ≠ i → (u.records[i]).victimBefore u.records[j] = true) →
      l.foldl u.betterVictim (some i) = some i
  | [], _ => rfl
  | j :: l, h => by
    have hj : u.betterVictim (some i) j = some i := by
      rw [Telephony.betterVictim]
      by_cases hji : j = i
      · rw [hji, ite_self]
      · rw [CallRecord.victimBefore_asymm (h j List.mem_cons_self hji)]; rfl
    rw [List.foldl_cons, hj]
    exact foldl_betterVictim_stays fun k hk => h k (List.mem_cons_of_mem _ hk)

/-- The record before every other candidate is chosen, whichever stood as the best so far. -/
theorem Telephony.foldl_betterVictim_first {u : Telephony} {i : Fin 4} :
    ∀ {l : List (Fin 4)} {best : Option (Fin 4)}, i ∈ l →
      (∀ j, best = some j ∨ j ∈ l → j ≠ i → (u.records[i]).victimBefore u.records[j] = true) →
      l.foldl u.betterVictim best = some i
  | j :: l, best, hi, h => by
    have hl : ∀ k ∈ l, k ≠ i → (u.records[i]).victimBefore u.records[k] = true :=
      fun k hk => h k (.inr (List.mem_cons_of_mem _ hk))
    rw [List.foldl_cons]
    by_cases hji : j = i
    · have hj : u.betterVictim best j = some i := by
        subst hji
        cases best with
        | none => rfl
        | some b =>
          by_cases hb : b = j
          · subst hb; exact ite_self _
          · exact if_pos (h b (.inl rfl) hb)
      rw [hj]
      exact foldl_betterVictim_stays hl
    · have hil : i ∈ l := (List.mem_cons.mp hi).resolve_left fun e => hji e.symm
      refine foldl_betterVictim_first hil fun k hk => ?_
      obtain hk | hk := hk
      · obtain e | e := u.betterVictim_cases best j
        · rw [e] at hk; cases hk; exact h j (.inr List.mem_cons_self)
        · rw [e] at hk; exact h k (.inl hk)
      · exact hl k hk

theorem Telephony.chooseVictim_first {u : Telephony} {i : Fin 4} (hi : (u.records[i]).channelVictim = true)
    (h : ∀ j : Fin 4, (u.records[j]).channelVictim = true → j ≠ i → (u.records[i]).victimBefore u.records[j] = true) :
    u.chooseVictim = some i := by
  rw [Telephony.chooseVictim_eq]
  refine Telephony.foldl_betterVictim_first (List.mem_filter.mpr ⟨mem_allRecords i, hi⟩) fun j hj => ?_
  obtain hj | hj := hj
  · cases hj
  · exact h j (List.mem_filter.mp hj).2

theorem Telephony.chooseVictim_none {u : Telephony} (h : ∀ i : Fin 4, (u.records[i]).channelVictim = false) :
    u.chooseVictim = none := by
  refine Option.eq_none_iff_forall_ne_some.mpr fun i hi => ?_
  have := Telephony.chooseVictim_victim hi
  rw [h i] at this
  exact Bool.noConfusion this

/-- The victim of an EMERGENCY call on its own line: the record active there, unless it is the call's own. -/
def Telephony.lineVictim (u : Telephony) (self : Option (Fin 4)) (l : Fin 2) : List (Fin 4) :=
  match u.activeRecord l with
  | some j => if self = some j then [] else [j]
  | none => []

theorem Telephony.preemption_refused {u : Telephony} {self : Option (Fin 4)} {l : Fin 2} {j : Fin 4}
    (hj : u.activeRecord l = some j) (hself : self ≠ some j) (hprio : (u.records[j]).priority = .emergency) :
    u.preemption self l = none := by
  rw [Telephony.preemption_eq, hj]
  exact (if_neg hself).trans (if_pos hprio)

theorem Telephony.preemption_line {u : Telephony} {self : Option (Fin 4)} {l : Fin 2} {j : Fin 4} {v : VoiceName}
    (hj : u.activeRecord l = some j) (hself : self ≠ some j) (hprio : (u.records[j]).priority ≠ .emergency)
    (hv : (u.records[j]).channel = some v) : u.preemption self l = some ([j], v) := by
  rw [Telephony.preemption_eq, hj]
  refine (if_neg hself).trans ((if_neg hprio).trans ?_)
  rw [hv]

theorem Telephony.preemption_channel {u : Telephony} {self : Option (Fin 4)} {l : Fin 2}
    (h : ∀ j, u.activeRecord l = some j → self ≠ some j →
      (u.records[j]).priority ≠ .emergency ∧ (u.records[j]).channel = none) :
    u.preemption self l = u.byChannel (u.lineVictim self l) := by
  rw [Telephony.preemption_eq, Telephony.lineVictim]
  split
  · next hnone => rw [hnone]
  · next j hj =>
    rw [hj]
    by_cases hself : self = some j
    · exact (if_pos hself).trans (congrArg u.byChannel (if_pos hself).symm)
    · obtain ⟨hprio, hchannel⟩ := h j hj hself
      refine (if_neg hself).trans ((if_neg hprio).trans ?_)
      rw [hchannel]
      exact congrArg u.byChannel (if_neg hself).symm

theorem Telephony.byChannel_free {u : Telephony} {v : VoiceName} (h : u.freeChannel = some v) (first : List (Fin 4)) :
    u.byChannel first = some (first, v) := by
  rw [Telephony.byChannel, h]

theorem Telephony.byChannel_none {u : Telephony} (hv : u.freeChannel = none)
    (h : ∀ i : Fin 4, (u.records[i]).channelVictim = false) (first : List (Fin 4)) : u.byChannel first = none := by
  rw [Telephony.byChannel, hv, Telephony.chooseVictim_none h]

theorem Telephony.byChannel_victim {u : Telephony} {i : Fin 4} {v : VoiceName} (hv : u.freeChannel = none)
    (hi : (u.records[i]).channelVictim = true)
    (h : ∀ j : Fin 4, (u.records[j]).channelVictim = true → j ≠ i → (u.records[i]).victimBefore u.records[j] = true)
    (hchannel : (u.records[i]).channel = some v) (first : List (Fin 4)) :
    u.byChannel first = some (first ++ [i], v) := by
  rw [Telephony.byChannel, hv, Telephony.chooseVictim_first hi h]
  show (u.records[i]).channel.map _ = _
  rw [hchannel]
  rfl

/-! ## Settled -/

theorem State.resumption_rings {s : State} {i : Fin 4} {v : VoiceName} (hi : s.tel.resumable = some i)
    (hv : s.tel.freeChannel = some v) (hhook : s.tel.hooks[(s.tel.records[i]).line] = false) :
    s.resumption = ((s.unheld i v).ringIn i).resumeHeld 1 := by
  rw [State.resumption_runs hi hv, hhook]
  rfl

theorem State.resumption_answers {s : State} {i : Fin 4} {v : VoiceName} {l : Fin 4} (hi : s.tel.resumable = some i)
    (hv : s.tel.freeChannel = some v) (hhook : s.tel.hooks[(s.tel.records[i]).line] = true)
    (hl : (s.tel.records[i]).remote = .summit l) :
    s.resumption =
      (((s.unheld i v).connect i).offer .line 1
        (callFrame .resume (s.tel.records[i]).ref (s.tel.records[i]).line l (s.tel.records[i]).priority (some v)
          .normal)).resumeHeld 1 := by
  have hremote : ((s.unheld i v).tel.records[i]).remote = .summit l := by rw [State.unheld_record]; exact hl
  have hrecord : ((s.unheld i v).connect i).tel.records[i] =
      { s.tel.records[i] with
        state := .connected, channel := some v, timer := none, order := some (s.tel.order + 1) } := by
    rw [State.connect_summit hremote]
    exact (upd_self _ _ _).trans (by rw [State.unheld_record]; rfl)
  rw [State.resumption_runs hi hv, hhook]
  exact congrArg (State.resumeHeld · 1) (State.sendCall_summit hrecord hl .resume)

theorem State.freeCall_excused {s : State} {i : Fin 4} {reason : ClearReason} {quiet excused : Bool}
    (h : (s.tel.records[i]).priority ≠ .emergency ∨ (s.tel.records[i]).order ≠ none ∨ excused = true) :
    s.freeCall i reason quiet excused = (s.freeCore i reason quiet).resumption := by
  refine if_neg fun ⟨hprio, horder, hexcused⟩ => ?_
  obtain h | h | h := h
  · exact h hprio
  · exact h horder
  · exact absurd (h.symm.trans hexcused) (by decide)

theorem State.freeCall_unanswered {s : State} {i : Fin 4} {reason : ClearReason} {quiet excused : Bool}
    (hprio : (s.tel.records[i]).priority = .emergency) (horder : (s.tel.records[i]).order = none)
    (hexcused : excused = false) :
    s.freeCall i reason quiet excused =
      (s.freeCore i reason quiet).resumption.raiseMomentary .callUnanswered
        { line := some (s.tel.records[i]).line.val } :=
  if_pos ⟨hprio, horder, hexcused⟩

/-- Settles O32: freeing, resumption and preemption, each by the equation of its operation. -/
theorem freeingACall : Obligations.FreeingACall := by
  refine ⟨fun s i reason quiet => ⟨fun l hknown hquiet hl => ?clears, fun h => ?silently⟩,
    fun s i reason quiet excused => ⟨State.freeCall_excused, State.freeCall_unanswered⟩,
    fun s => ⟨State.resumption_idle, Telephony.resumable_iff s.tel,
      fun i v hi hv => ⟨fun hhook => ?rings, fun sl hhook hl => ?resumes⟩⟩,
    fun s j => ⟨fun sl v hstate hl hv hroom => ?holds, State.takeVictim_frees⟩,
    fun u self l => ⟨fun j => Telephony.preemption_refused, fun j v => Telephony.preemption_line,
      fun h => ⟨fun v hv => ?free, fun hv => ⟨fun hnone => ?none, fun i v hi hbefore hchannel => ?victim⟩⟩⟩⟩
  case clears =>
    rw [hquiet, State.freeCore_clears hknown hl]
    rfl
  case silently => exact State.freeCore_silently h reason
  case rings =>
    rw [State.resumption_rings hi hv hhook]
    simp only [State.ringIn, State.unheld, State.modRecord, State.modTel, upd_upd]
    rfl
  case resumes =>
    have hremote : ((s.unheld i v).tel.records[i]).remote = .summit sl := by rw [State.unheld_record]; exact hl
    have hline : ((s.unheld i v).tel.records[i]).line = (s.tel.records[i]).line := by rw [State.unheld_record]
    rw [State.resumption_answers hi hv hhook hl, State.connect_summit hremote]
    simp only [State.modTel, hline]
    simp only [State.unheld, upd_upd]
    rfl
  case holds =>
    have hvoices : s.tel.voicesReleased (s.tel.records[j]).channel = upd s.tel.voices (voiceIndex v) VoiceUnit.released := by
      rw [show (s.tel.records[j]).channel = some v from hv]
      rfl
    rw [State.takeVictim_holds hstate hl hroom, Telephony.held, hvoices]
    rfl
  case free => exact (Telephony.preemption_channel h).trans (Telephony.byChannel_free hv _)
  case none =>
    refine (Telephony.preemption_channel h).trans (Telephony.byChannel_none hv (fun i => ?_) _)
    exact Bool.eq_false_iff.mpr fun hi => hnone i (CallRecord.channelVictim_iff.mp hi)
  case victim =>
    refine (Telephony.preemption_channel h).trans
      (Telephony.byChannel_victim hv (CallRecord.channelVictim_iff.mpr hi) (fun j hj hji => ?_) hchannel _)
    exact CallRecord.victimBefore_iff.mpr (hbefore j (CallRecord.channelVictim_iff.mp hj) hji)

end Sys2Proof.Machine


/-! Hooks on the two lines (R149, R153): off-hook answers or opens a call, on-hook frees one. -/

namespace Sys2Proof.Machine

/-! ## Which record a line rings -/

theorem CallRecord.activeOn_of_rings {r : CallRecord} {l : Fin 2} (h : r.rings l = true) : r.activeOn l = true := by
  rw [CallRecord.rings] at h
  rw [CallRecord.activeOn]
  split at h
  · next hstate => rw [hstate, h]; rfl
  · next hstate => rw [hstate, h, Bool.or_true]; rfl
  all_goals cases h

theorem Telephony.ringingRecord_idle {u : Telephony} {l : Fin 2} (h : u.activeRecord l = none) :
    u.ringingRecord l = none := by
  rw [Telephony.activeRecord, List.find?_eq_none] at h
  rw [Telephony.ringingRecord, List.find?_eq_none]
  exact fun i hi hrings => h i hi (CallRecord.activeOn_of_rings hrings)

/-! ## The hook commands -/

section
variable {s : State} {l : Fin 2} (hpin : s.pinHeld = false)
include hpin

theorem State.exec_offHook (h : s.tel.hooks[l] = false) :
    exec (.offHook l) s = .next ((s.setHook l true).wentOffHook l) := by
  have hexec : exec (.offHook l) s =
      .next (if s.tel.hooks[l] then s.setHook l true else (s.setHook l true).wentOffHook l) :=
    State.liveInput_run hpin (fun s => s.setHook l true) fun t => if s.tel.hooks[l] then t else t.wentOffHook l
  rw [hexec, h]
  rfl

theorem State.exec_onHook (h : s.tel.hooks[l] = true) :
    exec (.onHook l) s = .next ((s.setHook l false).wentOnHook l) := by
  have hexec : exec (.onHook l) s =
      .next (if s.tel.hooks[l] then (s.setHook l false).wentOnHook l else s.setHook l false) :=
    State.liveInput_run hpin (fun s => s.setHook l false) fun t => if s.tel.hooks[l] then t.wentOnHook l else t
  rw [hexec, h]
  rfl

theorem State.exec_offHook_same (h : s.tel.hooks[l] = true) : exec (.offHook l) s = .next s := by
  have hexec : exec (.offHook l) s =
      .next (if s.tel.hooks[l] then s.setHook l true else (s.setHook l true).wentOffHook l) :=
    State.liveInput_run hpin (fun s => s.setHook l true) fun t => if s.tel.hooks[l] then t else t.wentOffHook l
  have hsame : s.setHook l true = s := by
    rw [State.setHook, State.modTel, ← h, Fin.getElem_fin, Vector.set_getElem_self]
  rw [hexec, h, hsame]
  rfl

theorem State.exec_onHook_same (h : s.tel.hooks[l] = false) : exec (.onHook l) s = .next s := by
  have hexec : exec (.onHook l) s =
      .next (if s.tel.hooks[l] then (s.setHook l false).wentOnHook l else s.setHook l false) :=
    State.liveInput_run hpin (fun s => s.setHook l false) fun t => if s.tel.hooks[l] then t.wentOnHook l else t
  have hsame : s.setHook l false = s := by
    rw [State.setHook, State.modTel, ← h, Fin.getElem_fin, Vector.set_getElem_self]
  rw [hexec, h, hsame]
  rfl

end

/-! ## What a change of a hook does -/

theorem State.wentOffHook_rung {s : State} {l : Fin 2} {i : Fin 4} (h : s.tel.ringingRecord l = some i) :
    s.wentOffHook l = s.answer i := by
  rw [State.wentOffHook, h]

theorem State.wentOffHook_idle {s : State} (h : s.tel.activeRecord 0 = none) : s.wentOffHook 0 = s := by
  rw [State.wentOffHook, Telephony.ringingRecord_idle h]
  rfl

theorem State.wentOffHook_hotline {s : State} (h : s.tel.activeRecord 1 = none) : s.wentOffHook 1 = s.openHotline := by
  rw [State.wentOffHook, Telephony.ringingRecord_idle h]
  exact if_pos ⟨rfl, h⟩

theorem State.answer_summit {s : State} {i : Fin 4} {l : Fin 4} (h : (s.tel.records[i]).remote = .summit l) :
    s.answer i = (s.connect i).sendCall i (if (s.tel.records[i]).order.isNone then .answer else .resume) := by
  rw [State.answer, State.record, h]

theorem State.answer_local {s : State} {i : Fin 4} {m : Fin 2} (h : (s.tel.records[i]).remote = .localLine m) :
    s.answer i = s.connect i := by
  rw [State.answer, State.record, h]

theorem State.answer_stopCall {s : State} {i : Fin 4} (h : (s.tel.records[i]).remote = .none) :
    s.answer i = s.stopCallToSummit i := by
  rw [State.answer, State.record, h]

theorem State.connect_record {s : State} {i : Fin 4} {l : Fin 4} (h : (s.tel.records[i]).remote = .summit l) :
    (s.connect i).tel.records[i] =
      { s.tel.records[i] with state := .connected, timer := none, order := some (s.tel.order + 1) } := by
  rw [State.connect_summit h]
  exact upd_self _ _ _

theorem State.openHotline_free {s : State} {i : Fin 4} {v : VoiceName} (hfree : s.tel.freeRecord = some i)
    (hlink : s.link.state ≠ .silent) (hv : s.tel.freeChannel = some v) :
    s.openHotline = s.setupCall i (newCall i 1 (.summit (summitLineOf s.tel.table.hotline)) .routine) v := by
  rw [State.openHotline, hfree]
  dsimp only
  rw [State.openSummit_free hlink hv]

theorem State.wentOnHook_active {s : State} {l : Fin 2} {i : Fin 4} (h : s.tel.activeRecord l = some i) :
    s.wentOnHook l = s.freeCall i .normal false (decide ((s.record i).line = l)) := by
  rw [State.wentOnHook, h]

theorem State.wentOnHook_idle {s : State} {l : Fin 2} (h : s.tel.activeRecord l = none) : s.wentOnHook l = s := by
  rw [State.wentOnHook, h]

/-- Settles O33: the hook stored, then what rings the line or stands active on it decides. -/
theorem hooks : Obligations.Hooks := by
  intro s l hpin
  refine ⟨State.exec_offHook_same hpin, State.exec_onHook_same hpin, fun i sl hhook hring hremote => ?summit,
    fun i m hhook hring hremote => ?localCall, fun i v hhook hring hremote hlink hv => ?stopCall,
    fun hhook hidle => ?idle, fun i v hhook hidle hfree hv hlink => ?hotline, fun hhook => ⟨fun hidle => ?unused, fun i hi => ?ends⟩⟩
  case summit =>
    have hremote' : ((s.setHook l true).tel.records[i]).remote = .summit sl := hremote
    rw [State.exec_offHook hpin hhook, State.wentOffHook_rung (s := s.setHook l true) hring, State.answer_summit hremote',
      State.sendCall_summit (State.connect_record hremote') hremote, State.connect_summit hremote']
    cases horder : (s.tel.records[i]).order with
    | none => simp only [State.record, State.setHook, State.modTel, horder]; rfl
    | some n => simp only [State.record, State.setHook, State.modTel, horder]; rfl
  case localCall =>
    have hremote' : ((s.setHook l true).tel.records[i]).remote = .localLine m := hremote
    rw [State.exec_offHook hpin hhook, State.wentOffHook_rung (s := s.setHook l true) hring, State.answer_local hremote',
      State.connect_local hremote']
    rfl
  case stopCall =>
    have hremote' : ((s.setHook l true).tel.records[i]).remote = .none := hremote
    rw [State.exec_offHook hpin hhook, State.wentOffHook_rung (s := s.setHook l true) hring, State.answer_stopCall hremote',
      State.stopCallToSummit_opened (State.openSummit_free (s := s.setHook l true) hlink hv _ _), State.setupCall_eq (by rfl)]
    have hrecords : (s.setHook l true).inSetup i ((s.setHook l true).stopCallSummit i) v =
        { s with tel :=
          { s.tel with
            hooks := s.tel.hooks.set l true
            voices := upd s.tel.voices (voiceIndex v) fun _ => ⟨0, [], false, none, none, false, 0, none⟩
            records := upd s.tel.records i fun r =>
              { r with
                state := .setup, remote := .summit (summitLineOf s.tel.table.operations), channel := some v, known := true
                timer := some 2000 } } } :=
      congrArg (fun x => ({ s with tel :=
        { s.tel with
          hooks := s.tel.hooks.set l true
          voices := upd s.tel.voices (voiceIndex v) fun _ => ⟨0, [], false, none, none, false, 0, none⟩
          records := x } } : State)) (upd_congr rfl)
    rw [hrecords]
    rfl
  case idle =>
    rw [State.exec_offHook hpin hhook, State.wentOffHook_idle (s := s.setHook 0 true) hidle]
    rfl
  case hotline =>
    rw [State.exec_offHook hpin hhook, State.wentOffHook_hotline (s := s.setHook 1 true) hidle,
      State.openHotline_free (s := s.setHook 1 true) hfree hlink hv, State.setupCall_eq (by rfl)]
    rfl
  case unused =>
    rw [State.exec_onHook hpin hhook, State.wentOnHook_idle (s := s.setHook l false) hidle]
    rfl
  case ends =>
    rw [State.exec_onHook hpin hhook, State.wentOnHook_active (s := s.setHook l false) hi]
    rfl

end Sys2Proof.Machine


/-! The help button (R154), the local fallback (R164), call timers (R151) and the stop-call trigger (R165). -/

namespace Sys2Proof.Machine

/-! ## A new record -/

theorem State.modRecord_modRecord (s : State) (i : Fin 4) (f g : CallRecord → CallRecord) :
    (s.modRecord i f).modRecord i g = s.modRecord i fun r => g (f r) := by
  simp only [State.modRecord, State.modTel, upd_upd]

theorem Telephony.activeRecord_congr {u w : Telephony} {l : Fin 2}
    (h : ∀ j : Fin 4, (w.records[j]).activeOn l = (u.records[j]).activeOn l) : w.activeRecord l = u.activeRecord l :=
  congrArg (List.find? · allRecords) (funext h)

/-- A FREE record made a call leaves a line that call does not name as it was. -/
theorem State.activeRecord_modRecord {s : State} {i : Fin 4} {r : CallRecord} {l : Fin 2}
    (hfree : (s.tel.records[i]).state = .free) (hr : r.activeOn l = false) :
    (s.modRecord i fun _ => r).tel.activeRecord l = s.tel.activeRecord l := by
  refine Telephony.activeRecord_congr fun j => ?_
  by_cases hj : j = i
  · subst hj
    rw [State.modRecord_record, hr, CallRecord.activeOn, hfree]
    rfl
  · rw [State.modRecord, State.modTel, upd_ne _ _ _ _ hj]

theorem State.releaseChannel_none {s : State} {i : Fin 4} (h : (s.tel.records[i]).channel = none) :
    s.releaseChannel i = s := by
  rw [State.releaseChannel, h]

/-! ## The local fallback (R164) -/

/-- A help call from LINE 1 before it has a channel. -/
def State.helpCall (s : State) (i : Fin 4) : CallRecord :=
  newCall i 1 (.summit (summitLineOf s.tel.table.help)) .emergency

/-- A call from LINE 1 turned into a local one that rings LINE 0. -/
def State.fallen (s : State) (i : Fin 4) (r : CallRecord) : State :=
  (s.modRecord i fun _ => { r with state := .ringingOut, remote := .localLine 0, timer := some 30000 }).countTel Ctr.fallback

theorem State.openLocal_rings {s : State} {i : Fin 4} {r : CallRecord} {m : Fin 2} (h : s.tel.hooks[m] = false) :
    s.openLocal i r m =
      s.modRecord i fun _ => { r with state := .ringingOut, remote := .localLine m, timer := some 30000 } :=
  if_neg (ne_true_of_eq_false h)

theorem State.openLocal_answered {s : State} {i : Fin 4} {r : CallRecord} {m : Fin 2} (h : s.tel.hooks[m] = true) :
    s.openLocal i r m =
      (s.modRecord i fun _ => { r with state := .ringingOut, remote := .localLine m, timer := some 30000 }).connect i :=
  if_pos h

section
variable {s : State} {i : Fin 4} {r : CallRecord} {reason : ClearReason}

theorem State.fallback_refused (h : ¬ (s.tel.table.fallback = true ∧ s.tel.activeRecord 0 = none)) :
    s.fallback i reason = s.freeCall i reason true false := by
  refine if_neg fun hturned => h ?_
  rw [Bool.and_eq_true, Option.isNone_iff_eq_none] at hturned
  exact hturned

theorem State.fallback_turned (h : s.tel.table.fallback = true ∧ s.tel.activeRecord 0 = none)
    (hchannel : (s.tel.records[i]).channel = none) :
    s.fallback i reason = (s.countTel Ctr.fallback).openLocal i s.tel.records[i] 0 := by
  rw [State.fallback, if_pos (by rw [Bool.and_eq_true, Option.isNone_iff_eq_none]; exact h),
    State.releaseChannel_none hchannel]
  rfl

variable (hfree : (s.tel.records[i]).state = .free)
include hfree

theorem State.helpCall_activeRecord :
    (s.modRecord i fun _ => s.helpCall i).tel.activeRecord 0 = s.tel.activeRecord 0 :=
  State.activeRecord_modRecord hfree (by rfl)

theorem State.helpFallback_rings (h : s.tel.table.fallback = true ∧ s.tel.activeRecord 0 = none)
    (hhook : s.tel.hooks[(0 : Fin 2)] = false) :
    (s.modRecord i fun _ => s.helpCall i).fallback i reason = s.fallen i (s.helpCall i) := by
  rw [State.fallback_turned (s := s.modRecord i fun _ => s.helpCall i) ⟨h.1, (State.helpCall_activeRecord hfree).trans h.2⟩ (by rw [State.modRecord_record]; rfl),
    State.modRecord_record,
    State.openLocal_rings (s := (s.modRecord i fun _ => s.helpCall i).countTel Ctr.fallback) hhook]
  simp only [State.countTel, State.modRecord, State.modTel, State.fallen, upd_upd]

theorem State.helpFallback_answered (h : s.tel.table.fallback = true ∧ s.tel.activeRecord 0 = none)
    (hhook : s.tel.hooks[(0 : Fin 2)] = true) :
    (s.modRecord i fun _ => s.helpCall i).fallback i reason = (s.fallen i (s.helpCall i)).connect i := by
  rw [State.fallback_turned (s := s.modRecord i fun _ => s.helpCall i) ⟨h.1, (State.helpCall_activeRecord hfree).trans h.2⟩ (by rw [State.modRecord_record]; rfl),
    State.modRecord_record,
    State.openLocal_answered (s := (s.modRecord i fun _ => s.helpCall i).countTel Ctr.fallback) hhook]
  simp only [State.countTel, State.modRecord, State.modTel, State.fallen, upd_upd]

theorem State.helpFallback_refused (h : ¬ (s.tel.table.fallback = true ∧ s.tel.activeRecord 0 = none)) :
    (s.modRecord i fun _ => s.helpCall i).fallback i reason =
      (s.modRecord i fun _ => s.helpCall i).freeCall i reason true false :=
  State.fallback_refused fun hturned => h ⟨hturned.1, (State.helpCall_activeRecord hfree).symm.trans hturned.2⟩

end

/-! ## The help button (R154) -/

theorem State.helpPressed_repeat {s : State} {i : Fin 4} (hi : s.tel.activeRecord 1 = some i)
    (hprio : (s.tel.records[i]).priority = .emergency) : s.helpPressed = s.countTel Ctr.helpRepeat := by
  rw [State.helpPressed, hi]
  exact if_pos hprio

theorem State.helpPressed_raises {s : State} {i : Fin 4} (hi : s.tel.activeRecord 1 = some i)
    (hprio : (s.tel.records[i]).priority ≠ .emergency) : s.helpPressed = s.raiseByButton i := by
  rw [State.helpPressed, hi]
  exact if_neg hprio

theorem State.helpPressed_opens {s : State} (h : s.tel.activeRecord 1 = none) : s.helpPressed = s.openHelp := by
  rw [State.helpPressed, h]

theorem Remote.isSummit_iff {x : Remote} : x.isSummit = true ↔ ∃ l, x = .summit l := by
  cases x <;> simp [Remote.isSummit]

theorem State.raiseByButton_untold {s : State} {i : Fin 4}
    (h : (s.tel.records[i]).known = false ∨ (s.tel.records[i]).remote.isSummit = false) :
    s.raiseByButton i = s.modRecord i fun r => { r with priority := .emergency } := by
  rw [State.raiseByButton, State.record, State.modRecord_record]
  obtain h | h := h
  · exact if_neg (ne_true_of_eq_false h)
  · have hquiet : ({ s.tel.records[i] with priority := .emergency } : CallRecord).frame .priority .normal = none :=
      CallRecord.frame_none (fun l hl => by
        have hsummit : (s.tel.records[i]).remote.isSummit = true := Remote.isSummit_iff.mpr ⟨l, hl⟩
        rw [h] at hsummit
        exact Bool.noConfusion hsummit) _ _
    rw [State.sendCall, State.modRecord_record, hquiet]
    exact ite_self _

theorem State.raiseByButton_told {s : State} {i : Fin 4} {l : Fin 4} (hknown : (s.tel.records[i]).known = true)
    (hl : (s.tel.records[i]).remote = .summit l) :
    s.raiseByButton i =
      (s.modRecord i fun r => { r with priority := .emergency }).offer .line 1
        (callFrame .priority (s.tel.records[i]).ref (s.tel.records[i]).line l .emergency (s.tel.records[i]).channel
          .normal) := by
  rw [State.raiseByButton, State.record, State.modRecord_record]
  refine (if_pos hknown).trans ?_
  exact State.sendCall_summit (State.modRecord_record _ _ _) hl .priority

section
variable {s : State} {i : Fin 4} (hfree : s.tel.freeRecord = some i)
include hfree

theorem State.openHelp_silent (h : s.link.state = .silent) :
    s.openHelp = (s.modRecord i fun _ => s.helpCall i).fallback i .lineLost := by
  rw [State.openHelp, hfree]
  exact if_pos h

theorem State.openHelp_linked {t : State} (hlink : s.link.state ≠ .silent)
    (h : s.openSummit i (s.helpCall i) = (t, none)) : s.openHelp = t := by
  rw [State.helpCall] at h
  rw [State.openHelp, hfree]
  simp only [if_neg hlink, h]

theorem State.openHelp_busy (hlink : s.link.state ≠ .silent) (hv : s.tel.freeChannel = none)
    (hp : s.tel.preemption (some i) 1 = none) :
    s.openHelp = (s.modRecord i fun _ => s.helpCall i).fallback i .busy := by
  have h := State.openSummit_busy hlink hv (i := i) (r := s.helpCall i) fun _ => hp
  rw [State.helpCall] at h
  rw [State.openHelp, hfree]
  simp only [if_neg hlink, h]
  rfl

/-- A help call the summit does not get goes to the fallback, under the reason it would be freed with. -/
theorem State.openHelp_fallback
    (h : s.link.state = .silent ∨ (s.tel.freeChannel = none ∧ s.tel.preemption (some i) 1 = none)) :
    s.openHelp =
      (s.modRecord i fun _ => s.helpCall i).fallback i (if s.link.state = .silent then .lineLost else .busy) := by
  by_cases hlink : s.link.state = .silent
  · rw [if_pos hlink]
    exact State.openHelp_silent hfree hlink
  · obtain ⟨hv, hp⟩ := h.resolve_left hlink
    rw [if_neg hlink]
    exact State.openHelp_busy hfree hlink hv hp

end

/-! ## Call timers (R151) -/

theorem State.callExpiry_stopped {s : State} {i : Fin 4} (h : (s.record i).timer = none) : s.callExpiry i = s := by
  rw [State.callExpiry, h]
  rfl

theorem State.callExpiry_runs {s : State} {i : Fin 4} {n : Nat} (h : (s.record i).timer = some n) :
    s.callExpiry i =
      match (s.record i).state with
      | .setup => s.freeCall i .noResponse false false
      | .ringingOut | .ringingIn => s.freeCall i .noAnswer false false
      | .held => s.freeCall i .preempted false false
      | .free | .connected => s := by
  rw [State.callExpiry, h]
  rfl

/-! ## The stop-call trigger (R165) -/

theorem State.stopCallTrigger_refused {s : State} {i : Fin 4} {reason : ClearReason}
    (hallowed : s.tel.stopCallAllowed = true) (hfree : s.tel.freeRecord = some i)
    (hhook : s.tel.hooks[(0 : Fin 2)] = true)
    (h : ∀ r : CallRecord, r.priority = .operations → ∀ t : State,
      t = (s.countTel Ctr.stopCall).modRecord i (fun _ => stopCallRecord i) → t.openSummit i r = (t, some reason)) :
    s.stopCallTrigger =
      (State.freeCore ((s.countTel Ctr.stopCall).modRecord i fun _ =>
        { stopCallRecord i with remote := .summit (summitLineOf s.tel.table.operations) }) i reason true).resumption := by
  rw [State.stopCallTrigger_answered hallowed hfree hhook,
    State.stopCallToSummit_refused (h _ (by rw [State.stopCallSummit_opened]; rfl) _ rfl), State.stopCallSummit_opened,
    State.modRecord_modRecord]
  rfl

theorem State.stopCallTrigger_opens {s : State} {i : Fin 4} {v : VoiceName} (hallowed : s.tel.stopCallAllowed = true)
    (hfree : s.tel.freeRecord = some i) (hhook : s.tel.hooks[(0 : Fin 2)] = true) (hlink : s.link.state ≠ .silent)
    (hv : ((s.countTel Ctr.stopCall).modRecord i fun _ => stopCallRecord i).tel.freeChannel = some v) :
    s.stopCallTrigger =
      (((s.countTel Ctr.stopCall).modRecord i fun _ => stopCallRecord i).inSetup i
        { stopCallRecord i with remote := .summit (summitLineOf s.tel.table.operations) } v).offer .line 1
        (callFrame .request (BitVec.ofNat 8 i.val) 0 (summitLineOf s.tel.table.operations) .operations (some v) .normal) := by
  rw [State.stopCallTrigger_answered hallowed hfree hhook,
    State.stopCallToSummit_opened (State.openSummit_free
      (s := (s.countTel Ctr.stopCall).modRecord i fun _ => stopCallRecord i) hlink hv _ _),
    State.stopCallSummit_opened, State.setupCall_eq (by rfl)]
  rfl

/-- Settles O34: the help button by the record its line is active in, the trigger by the hook and the link. -/
theorem helpButtonAndCallTimer : Obligations.HelpButtonAndCallTimer := by
  refine ⟨fun s hpin => ?_, fun s => ?_⟩
  · have hhelp : exec .helpButton s = .next s.helpPressed := State.live_run hpin State.helpPressed
    refine ⟨fun i hi => ⟨fun hprio => ?again, fun hprio hquiet => ?untold, fun sl hprio hknown hl => ?told⟩,
      fun i v hidle hfree hv hlink => ?opened, fun i hidle hfree => ⟨fun victims v hlink hv hp => ?preempted,
        fun h => ⟨fun hturned hhook => ?rings, fun hturned hhook => ?answered, fun hturned => ?refused⟩⟩,
      fun i => ?expiry⟩
    case again => rw [hhelp, State.helpPressed_repeat hi hprio]
    case untold => rw [hhelp, State.helpPressed_raises hi hprio, State.raiseByButton_untold hquiet]
    case told =>
      rw [hhelp, State.helpPressed_raises hi hprio, State.raiseByButton_told hknown hl]
      rfl
    case opened =>
      rw [hhelp, State.helpPressed_opens hidle,
        State.openHelp_linked hfree hlink (State.openSummit_free hlink hv _ _), State.setupCall_eq (by rfl)]
      rfl
    case preempted =>
      rw [hhelp, State.helpPressed_opens hidle,
        State.openHelp_linked hfree hlink (State.openSummit_preempts hlink hv (by rfl) hp), State.setupCall_eq (by rfl)]
      rfl
    case rings =>
      rw [hhelp, State.helpPressed_opens hidle, State.openHelp_fallback hfree h,
        State.helpFallback_rings (Telephony.freeRecord_free hfree) hturned hhook]
      rfl
    case answered =>
      have hrecord : (s.fallen i (s.helpCall i)).tel.records[i] =
          { s.helpCall i with state := .ringingOut, remote := .localLine 0, timer := some 30000 } :=
        State.modRecord_record _ _ _
      rw [hhelp, State.helpPressed_opens hidle, State.openHelp_fallback hfree h,
        State.helpFallback_answered (Telephony.freeRecord_free hfree) hturned hhook,
        State.connect_local (m := 0) (by rw [hrecord])]
      simp only [State.modTel, hrecord]
      rfl
    case refused =>
      rw [hhelp, State.helpPressed_opens hidle, State.openHelp_fallback hfree h,
        State.helpFallback_refused (Telephony.freeRecord_free hfree) hturned]
      rfl
    case expiry =>
      have hexpiry : exec (.callTimerExpiry i) s = .next (s.callExpiry i) := State.live_run hpin fun s => s.callExpiry i
      rw [hexpiry]
      refine ⟨fun h => ?_, fun n h => ⟨fun hstate => ?_, fun hstate => ?_, fun hstate => ?_⟩⟩
      · rw [State.callExpiry_stopped h]
      · rw [State.callExpiry_runs h, hstate]
      · obtain hstate | hstate := hstate
        all_goals rw [State.callExpiry_runs h, hstate]
      · rw [State.callExpiry_runs h, hstate]
  · intro opens
    refine ⟨fun h => ?_, fun i hopens hfree => ?_⟩
    · refine State.stopCallTrigger_ignored (h.imp_left fun h => ?_)
      exact Bool.eq_false_iff.mpr fun hallowed => h ((Telephony.stopCallAllowed_iff _).mp hallowed)
    · have hallowed : s.tel.stopCallAllowed = true := (Telephony.stopCallAllowed_iff _).mpr hopens
      refine ⟨State.stopCallTrigger_rings hallowed hfree, fun hhook => ⟨fun hlink => ?_, fun hlink hv => ?_, fun v hlink hv => ?_⟩⟩
      · exact State.stopCallTrigger_refused hallowed hfree hhook fun r _ t ht =>
          State.openSummit_silent (s := t) (by rw [ht]; exact hlink) i r
      · exact State.stopCallTrigger_refused hallowed hfree hhook fun r hr t ht =>
          State.openSummit_busy (s := t) (by rw [ht]; exact hlink) (by rw [ht]; exact hv) fun he => by
            rw [hr] at he; cases he
      · rw [State.stopCallTrigger_opens hallowed hfree hhook hlink hv]
        simp only [State.inSetup, State.modRecord, State.modTel, State.countTel, upd_upd]
        rfl

end Sys2Proof.Machine


/-! CALL-PLACE and CALL-CLEAR (R155). -/

namespace Sys2Proof.Machine

theorem index?_of_lt {n k : Nat} (h : n < k) : index? n k = some ⟨n, h⟩ := dif_pos h

theorem index?_of_le {n k : Nat} (h : k ≤ n) : index? n k = none := dif_neg (Nat.not_lt.mpr h)

/-! ## CALL-PLACE -/

theorem readRemote_summit (line : Fin 4) : readRemote (.summit line.val) = some (some line) :=
  congrArg (Option.map some) (index?_of_lt line.isLt)

theorem State.doCallPlace_badValue (s : State) {remote : PlaceRemote} {priority : Option Priority}
    (h : remote = .other ∨ priority = none ∨ ∃ n, remote = .summit (n + 4)) :
    s.doCallPlace remote priority = (s, .badValue, .empty) := by
  unfold State.doCallPlace
  split
  · next r p hr =>
    obtain rfl | hnone | ⟨n, rfl⟩ := h
    · cases hr
    · cases hnone
    · rw [readRemote, index?_of_le (Nat.le_add_left 4 n)] at hr
      cases hr
  · rfl

theorem State.doCallPlace_placed {s t : State} {remote : PlaceRemote} {r : Option (Fin 4)} {p : Priority} {i : Fin 4}
    {result : Result} (hr : readRemote remote = some r) (h : s.placeCall r p = (t, result, some i)) :
    s.doCallPlace remote (some p) = (t, result, .record i.val) := by
  unfold State.doCallPlace
  simp only [hr, h]

theorem State.doCallPlace_refused {s t : State} {remote : PlaceRemote} {r : Option (Fin 4)} {p : Priority}
    {result : Result} (hr : readRemote remote = some r) (h : s.placeCall r p = (t, result, none)) :
    s.doCallPlace remote (some p) = (t, result, .empty) := by
  unfold State.doCallPlace
  simp only [hr, h]

theorem State.placeCall_onHook {s : State} (h : s.tel.hooks[(0 : Fin 2)] = false) (r : Option (Fin 4)) (p : Priority) :
    s.placeCall r p = (s, .badRequest, none) := if_pos h

section
variable {s : State} (hhook : s.tel.hooks[(0 : Fin 2)] = true)
include hhook

theorem State.placeCall_lineBusy (h : (s.tel.activeRecord 0).isSome = true) (r : Option (Fin 4)) (p : Priority) :
    s.placeCall r p = (s, .lineBusy, none) := by
  exact (if_neg (by rw [hhook]; decide)).trans (if_pos h)

theorem State.placeCall_idle (h : s.tel.activeRecord 0 = none) (r : Option (Fin 4)) (p : Priority) :
    s.placeCall r p =
      match r with
      | none => s.placeLocal p
      | some line => s.placeSummit line p := by
  refine (if_neg (by rw [hhook]; decide)).trans ((if_neg (by rw [h]; decide)).trans ?_)
  cases r <;> rfl

end

theorem State.placeLocal_busy {s : State} (h : (s.tel.activeRecord 1).isSome = true) (p : Priority) :
    s.placeLocal p = (s, .lineBusy, none) := if_pos h

theorem State.placeLocal_opens {s : State} {i : Fin 4} (h : s.tel.activeRecord 1 = none) (hfree : s.tel.freeRecord = some i)
    (p : Priority) : s.placeLocal p = (s.openLocal i (newCall i 0 (.localLine 1) p) 1, .done, some i) := by
  rw [State.placeLocal, h, hfree]
  rfl

theorem State.placeSummit_silent {s : State} (h : s.link.state = .silent) (line : Fin 4) (p : Priority) :
    s.placeSummit line p = (s, .badRequest, none) := if_pos h

section
variable {s t : State} {line i : Fin 4} {p : Priority} (hlink : s.link.state ≠ .silent) (hfree : s.tel.freeRecord = some i)
include hlink hfree

theorem State.placeSummit_opened (h : s.openSummit i (newCall i 0 (.summit line) p) = (t, none)) :
    s.placeSummit line p = (t, .done, some i) := by
  rw [State.placeSummit, if_neg hlink, hfree]
  simp only [h]

theorem State.placeSummit_refused {reason : ClearReason}
    (h : s.openSummit i (newCall i 0 (.summit line) p) = (t, some reason)) :
    s.placeSummit line p = (t, .inUse, none) := by
  rw [State.placeSummit, if_neg hlink, hfree]
  simp only [h]

end

/-- Both codec ports silent. -/
theorem upd_both_lines {α : Type} (v : Vector α 2) (x : α) :
    upd (upd v 0 fun _ => x) 1 (fun _ => x) = Vector.replicate 2 x := by
  refine Vector.ext fun i hi => ?_
  match i, hi with
  | 0, _ => simp [upd]
  | 1, _ => simp [upd]

/-- A call to LINE 1, off-hook, is CONNECTED at once, both lines' codec ports silent. -/
theorem State.openLocal_connects {s : State} {i : Fin 4} (h : s.tel.hooks[(1 : Fin 2)] = true) (p : Priority) :
    s.openLocal i (newCall i 0 (.localLine 1) p) 1 =
      { s with tel :=
        { s.tel with
          order := s.tel.order + 1
          codec := Vector.replicate 2 (List.replicate 40 128)
          records := upd s.tel.records i fun _ =>
            ⟨.connected, 0, .localLine 1, p, true, BitVec.ofNat 8 i.val, none, false, some (s.tel.order + 1), false,
              none⟩ } } := by
  have hrecord := State.modRecord_record s i fun _ =>
    { newCall i 0 (.localLine 1) p with state := .ringingOut, remote := .localLine 1, timer := some 30000 }
  rw [State.openLocal_answered h, State.connect_local (m := 1) (by rw [hrecord])]
  simp only [State.modTel, hrecord]
  simp only [newCall, upd_both_lines, State.modRecord, State.modTel, upd_upd]

/-! ## CALL-CLEAR -/

theorem State.doCallClear_badValue (s : State) {n : Nat} (h : 4 ≤ n) : s.doCallClear n = (s, .badValue, .empty) := by
  rw [State.doCallClear, index?_of_le h]
  rfl

theorem State.doCallClear_notFound {s : State} {i : Fin 4} (h : (s.record i).state = .free) :
    s.doCallClear i.val = (s, .notFound, .empty) := by
  rw [State.doCallClear, index?_of_lt i.isLt]
  exact if_pos h

theorem State.doCallClear_frees {s : State} {i : Fin 4} (h : (s.record i).state ≠ .free) :
    s.doCallClear i.val = (s.freeCall i .normal false true, .done, .empty) := by
  rw [State.doCallClear, index?_of_lt i.isLt]
  exact if_neg h

end Sys2Proof.Machine


/-! CALL frames from the summit: a REQUEST (R159), and the frames of a call the valley knows (R152, R157, R161). -/

namespace Sys2Proof.Machine

theorem allRecords_find_first {p : Fin 4 → Bool} {i : Fin 4} (hi : p i = true) (h : ∀ j, j < i → p j = false) :
    allRecords.find? p = some i := by
  match i with
  | 0 => simp [allRecords, hi]
  | 1 => simp [allRecords, hi, h 0 (by decide)]
  | 2 => simp [allRecords, hi, h 0 (by decide), h 1 (by decide)]
  | 3 => simp [allRecords, hi, h 0 (by decide), h 1 (by decide), h 2 (by decide)]

/-! ## Reading a CALL -/

/-- The contents of a CALL whose fields are in their ranges. -/
def CallReading.contents (c : CallReading) : Contents :=
  .call c.ref c.line.val c.summitLine.val (some c.priority) (some c.channel) (some c.reason)

theorem CallReading.read_contents (c : CallReading) : readCall c.contents = some c :=
  dif_pos (⟨c.line.isLt, c.summitLine.isLt⟩ : c.line.val < 2 ∧ c.summitLine.val < 4)

theorem subOfCode_none {n : Nat} (h : 7 ≤ n) : subOfCode n = none := by
  obtain ⟨k, rfl⟩ := Nat.exists_eq_add_of_le' h
  rfl

theorem readCall_none {ref : Byte} {v sl : Nat} {p : Option Priority} {channel : Option (Option VoiceName)}
    {reason : Option ClearReason} (h : 2 ≤ v ∨ 4 ≤ sl ∨ p = none ∨ channel = none ∨ reason = none) :
    readCall (.call ref v sl p channel reason) = none := by
  cases p with
  | none => rfl
  | some p =>
    cases channel with
    | none => rfl
    | some channel =>
      cases reason with
      | none => rfl
      | some reason =>
        refine dif_neg ?_
        simp only [reduceCtorEq, or_false] at h
        omega

theorem State.takeCall_malformed {s : State} {n : Nat} {contents : Contents}
    (h : subOfCode n = none ∨ readCall contents = none) : s.takeCall n contents = s.countTel Ctr.malformedCall := by
  unfold State.takeCall
  split
  · next hsub hread =>
    obtain h | h := h
    · rw [h] at hsub; cases hsub
    · rw [h] at hread; cases hread
  · next hsub hread =>
    obtain h | h := h
    · rw [h] at hsub; cases hsub
    · rw [h] at hread; cases hread
  · rfl

theorem State.takeCall_request (s : State) (c : CallReading) : s.takeCall 0 c.contents = s.takeRequest c := by
  unfold State.takeCall
  rw [CallReading.read_contents]
  rfl

theorem subCode_of_le {n : Nat} (hlow : 1 ≤ n) (hhigh : n ≤ 6) : ∃ sub : CallSub, sub ≠ .request ∧ subCode sub = n :=
  match n, hlow, hhigh with
  | 1, _, _ => ⟨.ringing, nofun, rfl⟩
  | 2, _, _ => ⟨.answer, nofun, rfl⟩
  | 3, _, _ => ⟨.clear, nofun, rfl⟩
  | 4, _, _ => ⟨.hold, nofun, rfl⟩
  | 5, _, _ => ⟨.resume, nofun, rfl⟩
  | 6, _, _ => ⟨.priority, nofun, rfl⟩

theorem State.takeCall_concerns (s : State) {sub : CallSub} (hsub : sub ≠ .request) (c : CallReading) :
    s.takeCall (subCode sub) c.contents =
      match s.tel.matchCall c with
      | some i => s.matchedCall i sub c
      | none => s.countTel Ctr.staleCall := by
  unfold State.takeCall
  rw [CallReading.read_contents]
  cases sub with
  | request => exact absurd rfl hsub
  | ringing | answer | clear | hold | resume | priority => rfl

theorem State.takeCall_stale {s : State} {n : Nat} {c : CallReading} (hlow : 1 ≤ n) (hhigh : n ≤ 6)
    (h : s.tel.matchCall c = none) : s.takeCall n c.contents = s.countTel Ctr.staleCall := by
  obtain ⟨sub, hsub, rfl⟩ := subCode_of_le hlow hhigh
  rw [State.takeCall_concerns s hsub, h]

theorem State.takeCall_matched {s : State} {sub : CallSub} {c : CallReading} {i : Fin 4} (hsub : sub ≠ .request)
    (h : s.tel.matchCall c = some i) : s.takeCall (subCode sub) c.contents = s.matchedCall i sub c := by
  rw [State.takeCall_concerns s hsub, h]

/-! ## A REQUEST (R159) -/

theorem Telephony.repeats_iff {u : Telephony} {c : CallReading} :
    u.repeats c = true ↔ ∃ i : Fin 4, (u.records[i]).state ≠ .free ∧ (u.records[i]).known = true ∧
      (u.records[i]).line = c.line ∧ (u.records[i]).ref = c.ref := by
  simp only [Telephony.repeats, List.any_eq_true, Bool.and_eq_true, decide_eq_true_eq, mem_allRecords, true_and, and_assoc]

theorem State.takeRequest_low {s : State} {c : CallReading} (h : c.ref.toNat < 4) :
    s.takeRequest c = s.answerClear c .refused := if_pos h

section
variable {s : State} {c : CallReading} (href : 4 ≤ c.ref.toNat)
include href

theorem State.takeRequest_repeated (h : s.tel.repeats c = true) : s.takeRequest c = s.countTel Ctr.repeatRequest :=
  (if_neg (Nat.not_lt.mpr href)).trans (if_pos h)

variable (hnew : s.tel.repeats c = false)
include hnew

theorem State.takeRequest_silent (h : s.link.state = .silent) : s.takeRequest c = s.answerClear c .refused :=
  (if_neg (Nat.not_lt.mpr href)).trans ((if_neg (ne_true_of_eq_false hnew)).trans (if_pos h))

variable (hlink : s.link.state ≠ .silent)
include hlink

theorem State.takeRequest_opens {v : VoiceName} (hidle : s.tel.activeRecord c.line = none)
    (hv : s.tel.freeChannel = some v) : s.takeRequest c = s.openIncoming c v := by
  refine (if_neg (Nat.not_lt.mpr href)).trans ((if_neg (ne_true_of_eq_false hnew)).trans ((if_neg hlink).trans ?_))
  rw [hidle, hv]

theorem State.takeRequest_contested (h : s.tel.activeRecord c.line ≠ none ∨ s.tel.freeChannel = none) :
    s.takeRequest c = if c.priority = .emergency then s.requestByPreemption c else s.answerClear c .busy := by
  refine (if_neg (Nat.not_lt.mpr href)).trans ((if_neg (ne_true_of_eq_false hnew)).trans ((if_neg hlink).trans ?_))
  split
  · next hidle hv =>
    obtain h | h := h
    · exact absurd hidle h
    · rw [h] at hv; cases hv
  · rfl

end

theorem State.requestByPreemption_none {s : State} {c : CallReading} (h : s.tel.preemption none c.line = none) :
    s.requestByPreemption c = s.answerClear c .busy := by
  rw [State.requestByPreemption, h]

theorem State.requestByPreemption_some {s : State} {c : CallReading} {victims : List (Fin 4)} {v : VoiceName}
    (h : s.tel.preemption none c.line = some (victims, v)) :
    s.requestByPreemption c = ((victims.foldl State.takeVictim s).openIncoming c v).resumption := by
  rw [State.requestByPreemption, h]

/-- An incoming call on its channel, before it rings or is connected. -/
def State.incoming (s : State) (c : CallReading) (i : Fin 4) (v : VoiceName) : State :=
  (s.modRecord i fun _ => incomingRecord c).claim i v

theorem State.incoming_record (s : State) (c : CallReading) (i : Fin 4) (v : VoiceName) :
    (s.incoming c i v).tel.records[i] = { incomingRecord c with channel := some v } := by
  have hclaim : (s.incoming c i v).tel.records[i] =
      { (s.modRecord i fun _ => incomingRecord c).tel.records[i] with channel := some v } := upd_self _ _ _
  rw [hclaim, State.modRecord_record]

theorem State.openIncoming_rings {s : State} {c : CallReading} {i : Fin 4} {v : VoiceName}
    (hfree : s.tel.freeRecord = some i) (hhook : s.tel.hooks[c.line] = false) :
    s.openIncoming c v =
      ((s.incoming c i v).ringIn i).offer .line 1
        (callFrame .ringing c.ref c.line c.summitLine c.priority (some v) .normal) := by
  have hrecord : ((s.incoming c i v).ringIn i).tel.records[i] =
      { incomingRecord c with channel := some v, state := .ringingIn, timer := some 30000 } := by
    rw [State.ringIn, State.modRecord_record, State.incoming_record]
    rfl
  rw [State.openIncoming, hfree]
  refine (if_neg (ne_true_of_eq_false hhook)).trans ?_
  exact State.sendCall_summit hrecord (by rfl) .ringing

theorem State.openIncoming_connects {s : State} {c : CallReading} {i : Fin 4} {v : VoiceName}
    (hfree : s.tel.freeRecord = some i) (hhook : s.tel.hooks[c.line] = true) :
    s.openIncoming c v =
      (((s.incoming c i v).connect i).offer .line 1
        (callFrame .ringing c.ref c.line c.summitLine c.priority (some v) .normal)).offer .line 1
        (callFrame .answer c.ref c.line c.summitLine c.priority (some v) .normal) := by
  have hremote : ((s.incoming c i v).tel.records[i]).remote = .summit c.summitLine := by rw [State.incoming_record]; rfl
  have hrecord : ((s.incoming c i v).connect i).tel.records[i] =
      { incomingRecord c with
        channel := some v, state := .connected, timer := none, order := some (s.tel.order + 1) } := by
    rw [State.connect_record hremote, State.incoming_record]
    rfl
  rw [State.openIncoming, hfree]
  refine (if_pos hhook).trans ?_
  have hringing := State.sendCall_summit hrecord (by rfl) .ringing
  have hanswer := State.sendCall_summit (s := ((s.incoming c i v).connect i).sendCall i .ringing)
    ((congrArg (fun u : Telephony => u.records[i]) (State.sendCall_tel _ i .ringing)).trans hrecord) (by rfl) .answer
  exact hanswer.trans (congrArg (State.offer · .line 1 _) hringing)

/-! ## A frame of a call the valley knows -/

theorem Telephony.matchCall_none {u : Telephony} {c : CallReading}
    (h : ∀ i : Fin 4, ¬ ((u.records[i]).known = true ∧ (u.records[i]).state ≠ .free ∧
      (u.records[i]).remote.isSummit = true ∧ (u.records[i]).line = c.line ∧ (u.records[i]).ref = c.ref)) :
    u.matchCall c = none := by
  refine List.find?_eq_none.mpr fun i _ => ?_
  simpa only [Bool.and_eq_true, decide_eq_true_eq, and_assoc] using h i

theorem Telephony.matchCall_first {u : Telephony} {c : CallReading} {i : Fin 4}
    (hi : (u.records[i]).known = true ∧ (u.records[i]).state ≠ .free ∧ (u.records[i]).remote.isSummit = true ∧
      (u.records[i]).line = c.line ∧ (u.records[i]).ref = c.ref)
    (h : ∀ j : Fin 4, j < i → ¬ ((u.records[j]).known = true ∧ (u.records[j]).state ≠ .free ∧
      (u.records[j]).remote.isSummit = true ∧ (u.records[j]).line = c.line ∧ (u.records[j]).ref = c.ref)) :
    u.matchCall c = some i := by
  refine allRecords_find_first ?_ fun j hj => Bool.eq_false_iff.mpr ?_
  · simpa only [Bool.and_eq_true, decide_eq_true_eq, and_assoc] using hi
  · simpa only [Bool.and_eq_true, decide_eq_true_eq, and_assoc, ne_eq] using h j hj

/-! ### PRIORITY (R161) -/

/-- What names a call to its two ends: its lines, its reference and its priority. -/
def CallRecord.party (r : CallRecord) : Fin 2 × Remote × Byte × Priority := (r.line, r.remote, r.ref, r.priority)

theorem upd_party {v : Vector CallRecord 4} {j : Fin 4} {f : CallRecord → CallRecord} (h : ∀ r, (f r).party = r.party)
    (k : Fin 4) : ((upd v j f)[k]).party = (v[k]).party := by
  by_cases hk : k = j
  · subst hk; rw [upd_self]; exact h _
  · rw [upd_ne _ _ _ _ hk]

theorem State.takeVictim_party (s : State) (j : Fin 4) :
    (s.takeVictim j).tel.hooks = s.tel.hooks ∧
      ∀ k : Fin 4, ((s.takeVictim j).tel.records[k]).party = (s.tel.records[k]).party := by
  by_cases h : (s.tel.records[j]).state ≠ .connected ∨ (s.tel.records[j]).remote.isSummit = false ∨ 2 ≤ s.tel.stack.length
  · rw [State.takeVictim_frees h, State.freeCore_eq, State.offerCall_tel]
    exact ⟨rfl, upd_party fun _ => rfl⟩
  · obtain ⟨hstate, h⟩ := not_or.mp h
    obtain ⟨hremote, hroom⟩ := not_or.mp h
    obtain ⟨l, hl⟩ := Remote.isSummit_iff.mp (Bool.eq_true_of_not_eq_false hremote)
    rw [State.takeVictim_holds (Decidable.of_not_not hstate) hl (Nat.not_le.mp hroom), State.offer_tel]
    exact ⟨rfl, upd_party fun _ => rfl⟩

theorem State.takeVictims_party (l : List (Fin 4)) (s : State) :
    (l.foldl State.takeVictim s).tel.hooks = s.tel.hooks ∧
      ∀ k : Fin 4, ((l.foldl State.takeVictim s).tel.records[k]).party = (s.tel.records[k]).party := by
  induction l generalizing s with
  | nil => exact ⟨rfl, fun _ => rfl⟩
  | cons j l ih =>
    obtain ⟨hhooks, hparty⟩ := s.takeVictim_party j
    obtain ⟨ihhooks, ihparty⟩ := ih (s.takeVictim j)
    exact ⟨ihhooks.trans hhooks, fun k => (ihparty k).trans (hparty k)⟩

theorem State.raiseHeldRecord_none {s : State} {i : Fin 4}
    (h : (s.raisedHeld i).tel.preemption (some i) ((s.raisedHeld i).record i).line = none) :
    s.raiseHeldRecord i = (s.raisedHeld i).freeCall i .busy false false := by
  have heq : s.raiseHeldRecord i =
      match (s.raisedHeld i).tel.preemption (some i) ((s.raisedHeld i).record i).line with
      | some (victims, v) => ((victims.foldl State.takeVictim (s.raisedHeld i)).resumeRecord i v).resumption
      | none => (s.raisedHeld i).freeCall i .busy false false := rfl
  rw [heq, h]

theorem State.raiseHeldRecord_some {s : State} {i : Fin 4} {victims : List (Fin 4)} {v : VoiceName}
    (h : (s.raisedHeld i).tel.preemption (some i) ((s.raisedHeld i).record i).line = some (victims, v)) :
    s.raiseHeldRecord i = ((victims.foldl State.takeVictim (s.raisedHeld i)).resumeRecord i v).resumption := by
  have heq : s.raiseHeldRecord i =
      match (s.raisedHeld i).tel.preemption (some i) ((s.raisedHeld i).record i).line with
      | some (victims, v) => ((victims.foldl State.takeVictim (s.raisedHeld i)).resumeRecord i v).resumption
      | none => (s.raisedHeld i).freeCall i .busy false false := rfl
  rw [heq, h]

/-- A record on the channel it is resumed on, the resumption counted. -/
def State.reclaimed (s : State) (i : Fin 4) (v : VoiceName) : State := (s.claim i v).countTel Ctr.resumedCalls

theorem State.reclaimed_record (s : State) (i : Fin 4) (v : VoiceName) :
    (s.reclaimed i v).tel.records[i] = { s.tel.records[i] with channel := some v } := upd_self _ _ _

theorem State.resumeRecord_eq (s : State) (i : Fin 4) (v : VoiceName) :
    s.resumeRecord i v =
      if s.tel.hooks[(s.tel.records[i]).line] then ((s.reclaimed i v).connect i).sendCall i .resume
      else (s.reclaimed i v).ringIn i := by
  have hline : ((s.reclaimed i v).tel.records[i]).line = (s.tel.records[i]).line := by rw [State.reclaimed_record]
  exact congrArg (fun l : Fin 2 => if s.tel.hooks[l] then ((s.reclaimed i v).connect i).sendCall i .resume
    else (s.reclaimed i v).ringIn i) hline

theorem State.resumeRecord_answers {s : State} {i : Fin 4} {v : VoiceName} {l : Fin 4}
    (hhook : s.tel.hooks[(s.tel.records[i]).line] = true) (hl : (s.tel.records[i]).remote = .summit l) :
    s.resumeRecord i v =
      ((s.reclaimed i v).connect i).offer .line 1
        (callFrame .resume (s.tel.records[i]).ref (s.tel.records[i]).line l (s.tel.records[i]).priority (some v)
          .normal) := by
  have hremote : ((s.reclaimed i v).tel.records[i]).remote = .summit l := by rw [State.reclaimed_record]; exact hl
  have hrecord : ((s.reclaimed i v).connect i).tel.records[i] =
      { s.tel.records[i] with
        channel := some v, state := .connected, timer := none, order := some (s.tel.order + 1) } := by
    rw [State.connect_record hremote, State.reclaimed_record]
    rfl
  rw [State.resumeRecord_eq, hhook]
  exact State.sendCall_summit hrecord hl .resume

end Sys2Proof.Machine


/-! Calls placed and cleared by the console, and the summit's CALL frames, together (R152, R155 to R163). -/

namespace Sys2Proof.Machine

section
variable {s : State} {rq : Requester} {tag : Byte} (hpin : s.pinHeld = false) (hcon : s.isConsole rq = true)
include hpin hcon

theorem exec_callPlace (remote : PlaceRemote) (p : Option Priority) :
    exec (.callPlace rq tag remote p) s = .next (State.settleRequest rq .callPlace tag (s.doCallPlace remote p)) :=
  State.live_request_console hpin hcon .callPlace tag fun s => s.doCallPlace remote p

theorem exec_callClear (n : Nat) :
    exec (.callClear rq tag n) s = .next (State.settleRequest rq .callClear tag (s.doCallClear n)) :=
  State.live_request_console hpin hcon .callClear tag fun s => s.doCallClear n

end

theorem incoming_connected {s : State} {c : CallReading} {i : Fin 4} {v : VoiceName} :
    (s.incoming c i v).connect i =
      s.modTel fun k =>
        { k with
          voices := upd k.voices (voiceIndex v) fun _ => ⟨0, [], false, none, none, false, 0, none⟩
          order := k.order + 1
          codec := upd k.codec c.line fun _ => List.replicate 40 128
          records := upd k.records i fun _ =>
            ⟨.connected, c.line, .summit c.summitLine, c.priority, false, c.ref, some v, false, some (k.order + 1), true,
              none⟩ } := by
  have hremote : ((s.incoming c i v).tel.records[i]).remote = .summit c.summitLine := by rw [State.incoming_record]; rfl
  rw [State.connect_summit hremote]
  simp only [State.modTel, State.incoming_record]
  simp only [State.incoming, State.claim, State.modVoice, State.modRecord, State.modTel, upd_upd]
  rfl

theorem incoming_ringing {s : State} {c : CallReading} {i : Fin 4} {v : VoiceName} :
    (s.incoming c i v).ringIn i =
      s.modTel fun k =>
        { k with
          voices := upd k.voices (voiceIndex v) fun _ => ⟨0, [], false, none, none, false, 0, none⟩
          records := upd k.records i fun _ =>
            ⟨.ringingIn, c.line, .summit c.summitLine, c.priority, false, c.ref, some v, false, none, true, some 30000⟩ } := by
  simp only [State.incoming, State.ringIn, State.claim, State.modVoice, State.modRecord, State.modTel, upd_upd]
  rfl

theorem reclaimed_ringing {s : State} {i : Fin 4} {v : VoiceName} :
    (s.reclaimed i v).ringIn i =
      s.modTel fun k =>
        { k with
          voices := upd k.voices (voiceIndex v) fun _ => ⟨0, [], false, none, none, false, 0, none⟩
          counters := bump k.counters Ctr.resumedCalls
          records := upd k.records i fun r => { r with state := .ringingIn, channel := some v, timer := some 30000 } } := by
  simp only [State.reclaimed, State.ringIn, State.claim, State.modVoice, State.modRecord, State.modTel, State.countTel, upd_upd]
  rfl

theorem reclaimed_connected {s : State} {i : Fin 4} {v : VoiceName} {l : Fin 4}
    (hl : (s.tel.records[i]).remote = .summit l) :
    (s.reclaimed i v).connect i =
      s.modTel fun k =>
        { k with
          voices := upd k.voices (voiceIndex v) fun _ => ⟨0, [], false, none, none, false, 0, none⟩
          counters := bump k.counters Ctr.resumedCalls
          order := k.order + 1
          codec := upd k.codec (k.records[i]).line fun _ => List.replicate 40 128
          records := upd k.records i fun r =>
            { r with state := .connected, channel := some v, timer := none, order := some (k.order + 1) } } := by
  have hremote : ((s.reclaimed i v).tel.records[i]).remote = .summit l := by rw [State.reclaimed_record]; exact hl
  rw [State.connect_summit hremote]
  simp only [State.modTel, State.reclaimed_record]
  simp only [State.reclaimed, State.claim, State.modVoice, State.modRecord, State.modTel, State.countTel, upd_upd]
  rfl

theorem CallRecord.party_eq {r : CallRecord} {line : Fin 2} {remote : Remote} {ref : Byte} {p : Priority}
    (h : r.party = (line, remote, ref, p)) : r.line = line ∧ r.remote = remote ∧ r.ref = ref ∧ r.priority = p := by
  cases h
  exact ⟨rfl, rfl, rfl, rfl⟩

theorem State.callAnswer_connects {s : State} {i : Fin 4}
    (h : (s.record i).state = .setup ∨ (s.record i).state = .ringingOut) : s.callAnswer i = s.connect i := by
  rw [State.callAnswer]
  obtain h | h := h
  · rw [h]
  · rw [h]

theorem State.callAnswer_unexpected {s : State} {i : Fin 4} (hsetup : (s.record i).state ≠ .setup)
    (hringing : (s.record i).state ≠ .ringingOut) : s.callAnswer i = s.countTel Ctr.unexpectedCall := by
  rw [State.callAnswer]
  split
  · next h => exact absurd h hsetup
  · next h => exact absurd h hringing
  all_goals rfl

/-- Settles O37: each request and each frame by the case of the record, line or channel it meets. -/
theorem callPlaceAndClear : Obligations.CallPlaceAndClear := by
  refine ⟨?console, ?malformed, ?request, ?known⟩
  case console =>
    intro s rq tag line p i hpin hcon place inside answers opened
    have hplace := readRemote_summit line
    refine ⟨fun remote priority h => ?bad, fun hhook => ⟨?_, ?_⟩, fun hhook => ⟨fun hbusy => ⟨?_, ?_⟩, fun hidle hbusy => ?_,
      fun hidle hidle' hfree => ?localCall, fun hidle hlink => ?_, fun hidle hlink hfree => ⟨fun hv hp => ?_,
        fun victims v hv hp hpre => ?preempted, fun v hv => ?free⟩⟩, fun n hn => ?_, fun h => ?_, fun h => ?_⟩
    case bad => rw [exec_callPlace hpin hcon, State.doCallPlace_badValue s h]
    · exact (exec_callPlace hpin hcon _ _).trans (by
        rw [State.doCallPlace_refused hplace (State.placeCall_onHook hhook _ p)])
    · exact (exec_callPlace hpin hcon _ _).trans (by
        rw [State.doCallPlace_refused (remote := .localLine) (by rfl) (State.placeCall_onHook hhook _ p)])
    · exact (exec_callPlace hpin hcon _ _).trans (by
        rw [State.doCallPlace_refused hplace (State.placeCall_lineBusy hhook hbusy _ p)])
    · exact (exec_callPlace hpin hcon _ _).trans (by
        rw [State.doCallPlace_refused (remote := .localLine) (by rfl) (State.placeCall_lineBusy hhook hbusy _ p)])
    · exact (exec_callPlace hpin hcon _ _).trans (by
        rw [State.doCallPlace_refused (remote := .localLine) (by rfl)
          ((State.placeCall_idle hhook hidle none p).trans (State.placeLocal_busy hbusy p))])
    case localCall =>
      refine (exec_callPlace hpin hcon _ _).trans ?_
      rw [State.doCallPlace_placed (remote := .localLine) (by rfl)
        ((State.placeCall_idle hhook hidle none p).trans (State.placeLocal_opens hidle' hfree p))]
      cases hhook' : s.tel.hooks[(1 : Fin 2)] with
      | true => rw [State.openLocal_connects hhook']; rfl
      | false => rw [State.openLocal_rings hhook']; rfl
    · exact (exec_callPlace hpin hcon _ _).trans (by
        rw [State.doCallPlace_refused hplace
          ((State.placeCall_idle hhook hidle (some line) p).trans (State.placeSummit_silent hlink line p))])
    · refine (exec_callPlace hpin hcon _ _).trans ?_
      rw [State.doCallPlace_refused hplace ((State.placeCall_idle hhook hidle (some line) p).trans (State.placeSummit_refused hlink hfree
        (State.openSummit_busy hlink hv fun he => hp.resolve_left fun hne => hne he)))]
    case preempted =>
      refine (exec_callPlace hpin hcon _ _).trans ?_
      rw [State.doCallPlace_placed hplace ((State.placeCall_idle hhook hidle (some line) p).trans (State.placeSummit_opened hlink hfree
        (State.openSummit_preempts hlink hv hp hpre))), State.setupCall_eq (by rfl)]
      rfl
    case free =>
      refine (exec_callPlace hpin hcon _ _).trans ?_
      rw [State.doCallPlace_placed hplace ((State.placeCall_idle hhook hidle (some line) p).trans (State.placeSummit_opened hlink hfree
        (State.openSummit_free hlink hv _ _))), State.setupCall_eq (by rfl)]
      rfl
    · rw [exec_callClear hpin hcon, State.doCallClear_badValue s hn]
    · rw [exec_callClear hpin hcon, State.doCallClear_notFound h]
    · rw [exec_callClear hpin hcon, State.doCallClear_frees h]
  case malformed =>
    intro s sub ref v sl p channel reason
    refine ⟨State.takeCall_malformed (.inr rfl), fun h => State.takeCall_malformed ?_⟩
    exact h.imp subOfCode_none readCall_none
  case request =>
    intro s ref line sl p channel reason request sent opened repeated
    let c : CallReading := ⟨ref, line, sl, p, channel, reason⟩
    have hrequest : request = s.takeRequest c := State.takeCall_request s c
    have hopened : ∀ (u : State) (i : Fin 4) (v : VoiceName), u.tel.freeRecord = some i →
        u.openIncoming c v = opened u i v := fun u i v hfree => by
      cases hhook : u.tel.hooks[line] with
      | true =>
        rw [State.openIncoming_connects hfree hhook, incoming_connected]
        exact (if_pos hhook).symm
      | false =>
        rw [State.openIncoming_rings hfree hhook, incoming_ringing]
        exact (if_neg (ne_true_of_eq_false hhook)).symm
    refine ⟨fun hlow => hrequest.trans (State.takeRequest_low hlow), fun href => ⟨fun hrep => ?_, fun hrep hlink => ?_,
      fun hrep hlink => ?_⟩⟩
    · exact hrequest.trans (State.takeRequest_repeated href (Telephony.repeats_iff.mpr hrep))
    · exact hrequest.trans (State.takeRequest_silent href
        (Bool.eq_false_iff.mpr fun h => hrep (Telephony.repeats_iff.mp h)) hlink)
    · have hnew : s.tel.repeats c = false := Bool.eq_false_iff.mpr fun h => hrep (Telephony.repeats_iff.mp h)
      refine ⟨fun h hp => ?_, fun i v hidle hv hfree => ?_, fun h hp => ⟨fun hpre => ?_, fun victims v i hpre hfree => ?_⟩⟩
      · exact hrequest.trans ((State.takeRequest_contested href hnew hlink h).trans (if_neg hp))
      · exact hrequest.trans ((State.takeRequest_opens href hnew hlink hidle hv).trans (hopened s i v hfree))
      · exact hrequest.trans ((State.takeRequest_contested href hnew hlink h).trans
          ((if_pos hp).trans (State.requestByPreemption_none hpre)))
      · exact hrequest.trans ((State.takeRequest_contested href hnew hlink h).trans
          ((if_pos hp).trans ((State.requestByPreemption_some hpre).trans
            (congrArg State.resumption (hopened _ i v hfree)))))
  case known =>
    intro s ref line sl p channel reason call unexpected isMeant
    let c : CallReading := ⟨ref, line, sl, p, channel, reason⟩
    refine ⟨fun h n hlow hhigh => State.takeCall_stale (c := c) hlow hhigh (Telephony.matchCall_none h), fun i hi hfirst => ?_⟩
    intro r
    have hmatch : s.tel.matchCall c = some i := Telephony.matchCall_first hi hfirst
    have hcall : ∀ {sub : CallSub}, sub ≠ .request → call (subCode sub) = s.matchedCall i sub c :=
      fun hsub => State.takeCall_matched hsub hmatch
    obtain ⟨hknown, hused, hremote, hline, href⟩ := hi
    obtain ⟨far, hfar⟩ := Remote.isSummit_iff.mp hremote
    have hconnect : s.connect i = s.modTel fun k =>
        { k with
          order := k.order + 1
          codec := upd k.codec line fun _ => List.replicate 40 128
          records := upd k.records i fun r =>
            { r with state := .connected, timer := none, order := some (k.order + 1) } } := by
      have hline' : (s.tel.records[i]).line = line := hline
      rw [State.connect_summit hfar]
      simp only [State.modTel, hline']
    refine ⟨fun hstate => ?_, fun hstate => ?_, fun hstate => ?_, fun hsetup hringing => ?_, ?_, ?_, ?_, fun hrank => ?_,
      fun hrank h => ?_, fun hrank hheld hp => ?raised⟩
    · exact (hcall (sub := .ringing) nofun).trans (if_pos hstate)
    · exact (hcall (sub := .ringing) nofun).trans (if_neg hstate)
    · exact (hcall (sub := .answer) nofun).trans ((State.callAnswer_connects hstate).trans hconnect)
    · exact (hcall (sub := .answer) nofun).trans (State.callAnswer_unexpected hsetup hringing)
    · exact hcall (sub := .clear) nofun
    · exact hcall (sub := .hold) nofun
    · exact hcall (sub := .resume) nofun
    · exact (hcall (sub := .priority) nofun).trans (if_pos hrank)
    · refine (hcall (sub := .priority) nofun).trans ((if_neg (Nat.not_le.mpr hrank)).trans (if_neg ?_))
      exact fun ⟨hheld, hp⟩ => h.elim (· hheld) (· hp)
    case raised =>
      intro u
      have hraise : call 6 = s.raiseHeldRecord i :=
        (hcall (sub := .priority) nofun).trans ((if_neg (Nat.not_le.mpr hrank)).trans (if_pos ⟨hheld, hp⟩))
      have hparty : (u.tel.records[i]).party = (line, .summit far, ref, .emergency) := by
        have hrecord : u.tel.records[i] = { s.tel.records[i] with priority := .emergency, timer := none } :=
          State.modRecord_record _ _ _
        rw [hrecord, ← hline, ← href, ← hfar]
        rfl
      have huline : (u.record i).line = line := congrArg Prod.fst hparty
      refine ⟨fun hpre => ?_, fun victims v hpre => ?_⟩
      · exact hraise.trans (State.raiseHeldRecord_none (by rw [← huline] at hpre; exact hpre))
      · intro w x
        have hresume : call 6 = (w.resumeRecord i v).resumption :=
          hraise.trans (State.raiseHeldRecord_some (by rw [← huline] at hpre; exact hpre))
        obtain ⟨hhooks, hkept⟩ := State.takeVictims_party victims u
        have hwparty : (w.tel.records[i]).party = (line, .summit far, ref, .emergency) := (hkept i).trans hparty
        obtain ⟨hwline, hwremote, hwref, hwprio⟩ := CallRecord.party_eq hwparty
        have hwhook : w.tel.hooks[(w.tel.records[i]).line] = s.tel.hooks[line] :=
          (congrArg (fun l : Fin 2 => w.tel.hooks[l]) hwline).trans
            (congrArg (fun h : Vector Bool 2 => h[line]) hhooks)
        refine ⟨fun hhook => ?_, fun far' hhook hfar' => ?_⟩
        · rw [hresume, State.resumeRecord_eq, if_neg (by rw [hwhook, hhook]; decide), reclaimed_ringing]
          rfl
        · have hsame : far' = far := Remote.summit.inj (hfar'.symm.trans hfar)
          rw [hresume, State.resumeRecord_answers (hwhook.trans hhook) hwremote, reclaimed_connected hwremote, hsame,
            hwref, hwprio]
          simp only [State.modTel, hwline]
          rfl

end Sys2Proof.Machine


/-! Events of the cabin tracker that only raise and count, and the arrival checks (R89). -/

namespace Sys2Proof.Machine

/-! ## The station list but for its door states -/

/-- What a record of the station list says of its cabin, its door state left out. -/
def StationRecord.listing (r : StationRecord) : BitVec 16 × Option Nat × Bool × Profile × Nat :=
  (r.number, r.cabin, r.inferred, r.profile, r.progress)

/-- The station list but for its door states, with the next arrival number. -/
def State.register (s : State) : List (BitVec 16 × Option Nat × Bool × Profile × Nat) × BitVec 16 :=
  (s.rail.cabins.map StationRecord.listing, s.rail.generator)

theorem State.register_congr {s t : State} (hcabins : t.rail.cabins = s.rail.cabins)
    (hgenerator : t.rail.generator = s.rail.generator) : t.register = s.register := by
  rw [State.register, State.register, hcabins, hgenerator]

@[simp] theorem State.doorWrite_register (s : State) (n : BitVec 16) (d : DoorState) :
    (s.doorWrite n d).register = s.register := by
  unfold State.doorWrite
  split
  · refine Prod.ext ?_ rfl
    simp only [State.register, State.modRail_rail, List.map_map]
    refine List.map_congr_left fun r _ => ?_
    simp only [Function.comp_apply]
    split <;> rfl
  · rfl

@[simp] theorem State.channelWrite_register (s : State) (k : Fin 8) (d : DoorState) :
    (s.channelWrite k d).register = s.register := by
  unfold State.channelWrite
  split
  · rfl
  · split
    · exact s.doorWrite_register _ d
    · rfl

@[simp] theorem State.haltChannel_register (s : State) (k : Fin 8) : (s.haltChannel k).register = s.register := by
  have hwrite : (if (s.channel k).action.isSome then (s.countDoors (Ctr.halt k)).channelWrite k .unknown else s).register =
      s.register := by
    split
    · rw [State.channelWrite_register]; rfl
    · rfl
  unfold State.haltChannel
  dsimp only
  split
  · exact hwrite
  · rfl

@[simp] theorem State.haltAll_register (s : State) : s.haltAll.register = s.register := by
  have hfold : ∀ (l : List (Fin 8)) (s : State), (l.foldl State.haltChannel s).register = s.register := by
    intro l
    induction l with
    | nil => exact fun _ => rfl
    | cons k l ih => exact fun s => (ih _).trans (s.haltChannel_register k)
  exact hfold _ s

@[simp] theorem State.raise_register (s : State) (c : Cause) (d : Detail) (m : Bool) :
    (s.raise c d m).register = s.register := by
  by_cases hrises : s.chain.asserted = .emergency ∨ (s.raise c d m).chain.asserted ≠ .emergency
  · obtain ⟨-, hrail⟩ := State.raise_haltsNot hrises
    exact State.register_congr (by rw [hrail]) (by rw [hrail])
  · obtain ⟨hold, hnew⟩ := not_or.mp hrises
    obtain ⟨-, hrail⟩ := State.raise_halts hold (Decidable.of_not_not hnew)
    exact (State.register_congr (by rw [hrail]) (by rw [hrail])).trans s.haltAll_register

/-! ## Events that only raise and count -/

/-- Whether a cause is in the active set. -/
def State.Raised (s : State) (c : Cause) : Prop := ∃ r ∈ s.chain.causes, r.code = c

/-- A step that raises causes and counts: the odometer, the link, the tracker but for its counters and the station list but
for its door states stay, and no cause leaves the set. -/
structure State.Reports (s u : State) : Prop where
  odo : u.rope.odo = s.rope.odo
  link : u.link = s.link
  tracker : ∃ v, u.tracker = { s.tracker with counters := v }
  register : u.register = s.register
  causes : ∀ c, s.Raised c → u.Raised c

namespace State.Reports

variable {s u v : State}

theorem refl (s : State) : s.Reports s := ⟨rfl, rfl, ⟨_, rfl⟩, rfl, fun _ => id⟩

theorem trans (h : s.Reports u) (k : u.Reports v) : s.Reports v := by
  obtain ⟨c, hc⟩ := h.tracker
  obtain ⟨d, hd⟩ := k.tracker
  exact ⟨k.odo.trans h.odo, k.link.trans h.link, ⟨d, by rw [hd, hc]⟩, k.register.trans h.register,
    fun c hc => k.causes c (h.causes c hc)⟩

theorem lists (h : s.Reports u) : u.tracker.lists = s.tracker.lists := by obtain ⟨v, hv⟩ := h.tracker; rw [hv]
theorem modes (h : s.Reports u) : u.tracker.modes = s.tracker.modes := by obtain ⟨v, hv⟩ := h.tracker; rw [hv]
theorem seqs (h : s.Reports u) : u.tracker.seqs = s.tracker.seqs := by obtain ⟨v, hv⟩ := h.tracker; rw [hv]
theorem cabins (h : s.Reports u) : u.tracker.cabins = s.tracker.cabins := by obtain ⟨v, hv⟩ := h.tracker; rw [hv]
theorem settings (h : s.Reports u) : u.tracker.settings = s.tracker.settings := by obtain ⟨v, hv⟩ := h.tracker; rw [hv]

theorem entry (h : s.Reports u) (id : Nat) : u.tracker.entry id = s.tracker.entry id := by
  rw [Tracker.entry, Tracker.entry, h.cabins]

/-- A change of the tracker's counters, the rope's but for the odometer, or the station list's door states. -/
theorem of_eq (hodo : u.rope.odo = s.rope.odo) (hlink : u.link = s.link)
    (htracker : ∃ v, u.tracker = { s.tracker with counters := v }) (hregister : u.register = s.register)
    (hchain : u.chain.causes = s.chain.causes) : s.Reports u :=
  ⟨hodo, hlink, htracker, hregister, fun _ h => by rw [State.Raised, hchain]; exact h⟩

theorem count (s : State) (i : Fin 22) : s.Reports (s.countTracker i) := of_eq rfl rfl ⟨_, rfl⟩ rfl rfl

theorem raise (s : State) (c : Cause) (d : Detail) (m : Bool) : s.Reports (s.raise c d m) :=
  ⟨by simp, by simp, ⟨_, by rw [State.raise_tracker]⟩, s.raise_register c d m, fun _ h => State.raise_stays h c d m⟩

theorem raiseMomentary (s : State) (c : Cause) (d : Detail) : s.Reports (s.raiseMomentary c d) := raise s c d true

theorem raiseIn (m : TrackMode) (t : Track) (s : State) (c : Cause) (d : Detail) :
    s.Reports (State.trackRaiseIn m t s c d) := by
  cases m with
  | tracked => exact raiseMomentary s c d
  | untracked => exact count s _

theorem trackRaise (s : State) (t : Track) (c : Cause) (d : Detail) : s.Reports (s.trackRaise t c d) := by
  rw [State.trackRaise_eq]
  exact raiseIn _ t s c d

theorem orderFaultIf (s : State) (b : Bool) (t : Track) (cabin : Option Nat) : s.Reports (s.orderFaultIf b t cabin) := by
  unfold State.orderFaultIf
  split
  · exact trackRaise s t _ _
  · exact refl s

theorem missIn (m : TrackMode) (t : Track) (cabin : Option Nat) (s : State) (x : SeatRef) :
    s.Reports (State.missIn m t cabin s x) :=
  (raiseIn m t s _ _).trans (count _ _)

theorem foldl_missIn (m : TrackMode) (t : Track) (cabin : Option Nat) (l : List SeatRef) (s : State) :
    s.Reports (l.foldl (State.missIn m t cabin) s) := by
  induction l generalizing s with
  | nil => exact refl s
  | cons x l ih => exact (missIn m t cabin s x).trans (ih _)

theorem withdraw (s : State) (c : Cause) : s.Reports (s.withdraw c) := by
  refine ⟨by simp, by simp, ⟨_, by rw [State.withdraw_tracker]⟩, State.register_congr (by simp) (by simp), fun d h => ?_⟩
  obtain ⟨r, hr, hcode⟩ := h
  by_cases hin : s.inSet c = true
  · rw [State.withdraw_known hin]
    exact ⟨_, List.mem_map_of_mem hr, by split <;> exact hcode⟩
  · rw [State.withdraw_stray (Bool.eq_false_iff.mpr hin)]
    exact ⟨r, hr, hcode⟩

theorem judgeSlip (s : State) : s.Reports s.judgeSlip := by
  have hmod : s.Reports (s.modRope fun u => { u with slipping := decide (s.rope.table.slipLimit < s.rope.slip.natAbs) }) :=
    of_eq rfl rfl ⟨_, rfl⟩ rfl rfl
  refine hmod.trans ?_
  show State.Reports _ (State.judge _ _ _ _)
  unfold State.judge
  split
  · exact raise _ _ _ _
  · split
    · exact withdraw _ _
    · exact refl _

theorem offerDeviation (s : State) (t : Track) (d : Int) : s.Reports (s.offerDeviation t d) := by
  unfold State.offerDeviation
  split
  · exact of_eq rfl rfl ⟨_, rfl⟩ rfl rfl
  · refine trans (u := State.modRope _ _) (of_eq ?_ ?_ ⟨s.tracker.counters, ?_⟩ ?_ ?_) (judgeSlip _)
    all_goals split <;> rfl

end State.Reports

theorem State.raiseMomentary_raised (s : State) (c : Cause) (d : Detail) : (s.raiseMomentary c d).Raised c := by
  obtain ⟨r, hr, hcode, -⟩ := s.raise_mem c d true
  exact ⟨r, hr, hcode⟩

/-! ## The arrival checks (R89) -/

/-- How far a record's position at an event of an age is from the length of its track (R66, R67, R89). -/
def State.arrivalDeviation (s : State) (t : Track) (r : TrainRecord) (age : Nat) : Int :=
  s.rope.position t r - backTerm s.rope.speed age - (trackLength s.rope.table t : Int)

/-- The order of an arrival: a fault where an older record stood before the one taken. -/
def State.arrivalOrdered (s : State) (t : Track) (old : List TrainRecord) (r : TrainRecord) : State :=
  if old = [] then s else State.trackRaiseIn (s.tracker.modes.get t) t s .orderFault { cabin := r.cabin }

/-- The order and the position of an arrival judged. -/
def State.arrivalJudged (s : State) (t : Track) (old : List TrainRecord) (r : TrainRecord) (age : Nat) : State :=
  if age = 1023 then s.arrivalOrdered t old r
  else if (s.arrivalDeviation t r age).natAbs ≤ s.rope.table.arrivalWindow then
    (s.arrivalOrdered t old r).offerDeviation t (s.arrivalDeviation t r age)
  else
    State.trackRaiseIn (s.tracker.modes.get t) t (s.arrivalOrdered t old r) .arrivalMismatch { cabin := r.cabin }

/-- The order, the position and the seats still expected of an arrival judged. -/
def State.arrivalReported (s : State) (t : Track) (old : List TrainRecord) (r : TrainRecord) (age : Nat) : State :=
  ((s.tracker.seqs.get t).drop r.next).foldl (State.missIn (s.tracker.modes.get t) t r.cabin) (s.arrivalJudged t old r age)

theorem State.arrivalOrdered_reports (s : State) (t : Track) (old : List TrainRecord) (r : TrainRecord) :
    s.Reports (s.arrivalOrdered t old r) := by
  unfold State.arrivalOrdered
  split
  · exact .refl s
  · exact .raiseIn _ t s _ _

theorem State.arrivalOrdered_rope (s : State) (t : Track) (old : List TrainRecord) (r : TrainRecord) :
    (s.arrivalOrdered t old r).rope = s.rope := by
  unfold State.arrivalOrdered State.trackRaiseIn
  split
  · rfl
  · split
    · simp
    · rfl

theorem State.arrivalJudged_reports (s : State) (t : Track) (old : List TrainRecord) (r : TrainRecord) (age : Nat) :
    s.Reports (s.arrivalJudged t old r age) := by
  unfold State.arrivalJudged
  split
  · exact s.arrivalOrdered_reports t old r
  · split
    · exact (s.arrivalOrdered_reports t old r).trans (.offerDeviation _ t _)
    · exact (s.arrivalOrdered_reports t old r).trans (.raiseIn _ t _ _ _)

theorem State.arrivalReported_reports (s : State) (t : Track) (old : List TrainRecord) (r : TrainRecord) (age : Nat) :
    s.Reports (s.arrivalReported t old r age) :=
  (s.arrivalJudged_reports t old r age).trans (.foldl_missIn _ t r.cabin _ _)

theorem State.foldl_missSeat (t : Track) (cabin : Option Nat) (m : TrackMode) (l : List SeatRef) (s : State)
    (h : s.tracker.modes.get t = m) :
    l.foldl (fun s x => s.missSeat t cabin x) s = l.foldl (State.missIn m t cabin) s := by
  induction l generalizing s with
  | nil => rfl
  | cons x l ih =>
    have hmodes : (State.missIn m t cabin s x).tracker.modes.get t = m := by
      rw [(State.Reports.missIn m t cabin s x).modes, h]
    rw [List.foldl_cons, List.foldl_cons, State.missSeat_eq, h, ih _ hmodes]

theorem State.checkArrivalPosition_eq (s : State) (t : Track) (old : List TrainRecord) (r : TrainRecord) (age : Nat) :
    (s.arrivalOrdered t old r).checkArrivalPosition t r age = s.arrivalJudged t old r age := by
  have hrope := s.arrivalOrdered_rope t old r
  have hmodes := (s.arrivalOrdered_reports t old r).modes
  rw [State.checkArrivalPosition, State.arrivalJudged, State.arrivalDeviation, State.trackRaise_eq, hrope, hmodes]

/-- The arrival checks report on the record that stands behind `old`, and take it from its list. -/
theorem State.arrivalChecks_eq {s : State} {t : Track} {old new : List TrainRecord} {r : TrainRecord}
    (h : s.tracker.lists.get t = old ++ r :: new) (age : Nat) :
    s.arrivalChecks t old.length age =
      ((s.arrivalReported t old r age).modTracker fun u => { u with lists := u.lists.set t (old ++ new) }).countTracker
        (Ctr.arrivals (trackIndex t)) := by
  have hfound : (s.tracker.lists.get t)[old.length]? = some r := by
    rw [h, List.getElem?_append_right (Nat.le_refl _), Nat.sub_self]
    rfl
  have hordered : s.orderFaultIf (decide (old.length ≠ 0)) t r.cabin = s.arrivalOrdered t old r := by
    rw [State.orderFaultIf, State.arrivalOrdered, State.trackRaise_eq]
    cases old <;> rfl
  have hjudged := s.arrivalJudged_reports t old r age
  have hreported := s.arrivalReported_reports t old r age
  rw [State.arrivalChecks, hfound]
  dsimp only
  rw [hordered, State.checkArrivalPosition_eq, hjudged.seqs,
    State.foldl_missSeat t r.cabin (s.tracker.modes.get t) _ _ (by rw [hjudged.modes])]
  refine congrArg (State.countTracker · _) ?_
  have herase : ((s.arrivalReported t old r age).tracker.lists.get t).eraseIdx old.length = old ++ new := by
    rw [hreported.lists, h, List.eraseIdx_append_of_length_le (Nat.le_refl _), Nat.sub_self]
    rfl
  rw [← herase]
  rfl

end Sys2Proof.Machine


/-! Placement (R87), resolution of a tag (R76), appending to a train list (R88, R91), and what each leaves of the lists. -/

namespace Sys2Proof.Machine

/-! ## The cabin table's entry of one cabin -/

theorem Tracker.modEntry_entry (u : Tracker) (id : Nat) {f : CabinEntry → CabinEntry} (hf : ∀ e, (f e).id = e.id) :
    (u.modEntry id f).entry id = (u.entry id).map f := by
  rw [Tracker.entry, Tracker.entry, Tracker.modEntry, List.find?_map]
  have hsame : (fun e : CabinEntry => decide (e.id = id)) ∘ (fun e => if e.id = id then f e else e) =
      fun e => decide (e.id = id) := by
    funext e
    simp only [Function.comp_apply]
    split
    · rw [hf]
    · rfl
  rw [hsame]
  cases he : u.cabins.find? fun e => decide (e.id = id) with
  | none => rfl
  | some e =>
    have hid : e.id = id := of_decide_eq_true (List.find?_some (p := fun e : CabinEntry => decide (e.id = id)) he)
    exact congrArg some (if_pos hid)

theorem State.locate_entry (s : State) (id : Nat) (l : Location) :
    (s.locate id l).tracker.entry id = (s.tracker.entry id).map fun e => { e with location := l } :=
  s.tracker.modEntry_entry id fun _ => rfl

theorem State.locateSome_eq (s : State) (cabin : Option Nat) (l : Location) :
    s.locateSome cabin l =
      s.modTracker fun v =>
        { v with cabins := v.cabins.map fun e => if some e.id = cabin then { e with location := l } else e } := by
  cases cabin with
  | none =>
    have hsame : (fun e : CabinEntry => if some e.id = none then { e with location := l } else e) = id :=
      funext fun e => if_neg nofun
    rw [State.modTracker, hsame, List.map_id]
    rfl
  | some id =>
    have hsame : (fun e : CabinEntry => if some e.id = some id then { e with location := l } else e) =
        fun e => if e.id = id then { e with location := l } else e :=
      funext fun e => by simp only [Option.some.injEq]
    rw [hsame]
    rfl

/-! ## Placement (R87) -/

/-- The records of a train list that are not of a cabin. -/
def othersThan (id : Nat) (l : List TrainRecord) : List TrainRecord := l.filter fun r => decide (r.cabin ≠ some id)

theorem othersThan_eq_self {id : Nat} {l : List TrainRecord} (h : ∀ r ∈ l, r.cabin ≠ some id) : othersThan id l = l :=
  List.filter_eq_self.mpr fun r hr => decide_eq_true (h r hr)

theorem othersThan_ne {id : Nat} {l : List TrainRecord} {r : TrainRecord} (h : r ∈ othersThan id l) : r.cabin ≠ some id :=
  of_decide_eq_true (List.mem_filter.mp h).2

/-- The station rail unit and the channels once a cabin's record, if there is one, has left the station list (R87, R129). -/
def State.offStation (s : State) (id : Nat) : State :=
  match s.rail.cabins.find? fun r => decide (r.cabin = some id) with
  | some r =>
    ((s.modRail fun u => { u with cabins := u.cabins.filter fun r => decide (r.cabin ≠ some id) }).countRail
      Ctr.placementRemoval).recordLeft r.number
  | none => s

/-- Every record of a cabin off the three lists (R87). -/
def State.unlisted (s : State) (id : Nat) : State :=
  (s.offStation id).modTracker fun v => { v with lists := ⟨othersThan id v.lists.up, othersThan id v.lists.down⟩ }

theorem State.removeFromStation_eq (s : State) (id : Nat) :
    s.removeFromStation id = (s.offStation id, s.rail.cabins.any fun r => decide (r.cabin = some id)) := by
  rw [State.removeFromStation, State.offStation]
  cases h : s.rail.cabins.find? fun r => decide (r.cabin = some id) with
  | none =>
    refine Prod.ext rfl (Bool.eq_false_iff.mpr fun hany => ?_).symm
    obtain ⟨r, hr, hid⟩ := List.any_eq_true.mp hany
    exact List.find?_eq_none.mp h r hr hid
  | some r =>
    exact Prod.ext rfl (List.any_eq_true.mpr ⟨r, List.mem_of_find?_eq_some h,
      List.find?_some (p := fun r : StationRecord => decide (r.cabin = some id)) h⟩).symm

theorem State.removeFromTrain_eq (s : State) (t : Track) (id : Nat) :
    s.removeFromTrain t id =
      (s.modTracker fun u => { u with lists := u.lists.set t (othersThan id (u.lists.get t)) },
        (s.tracker.lists.get t).any fun r => decide (r.cabin = some id)) := by
  rw [State.removeFromTrain]
  split
  · next h => rw [h]; rfl
  · next h =>
    refine Prod.ext ?_ (Bool.eq_false_iff.mpr h).symm
    have hsame : othersThan id (s.tracker.lists.get t) = s.tracker.lists.get t :=
      othersThan_eq_self fun r hr hid => h (List.any_eq_true.mpr ⟨r, hr, decide_eq_true hid⟩)
    rw [State.modTracker, hsame, PerTrack.set_get]

theorem State.offStation_tracker (s : State) (id : Nat) : (s.offStation id).tracker = s.tracker := by
  rw [State.offStation]
  split <;> rfl

theorem State.removeEverywhere_eq (s : State) (id : Nat) :
    s.removeEverywhere id =
      (s.unlisted id, ⟨s.rail.cabins.any fun r => decide (r.cabin = some id),
        s.tracker.lists.up.any fun r => decide (r.cabin = some id),
        s.tracker.lists.down.any fun r => decide (r.cabin = some id)⟩) := by
  have htracker := s.offStation_tracker id
  rw [State.removeEverywhere]
  simp only [State.removeFromStation_eq, State.removeFromTrain_eq, State.modTracker_tracker, htracker]
  rfl

/-- The reports of a placement on the records it removed. -/
def State.placeReported (s : State) (id : Nat) : State :=
  (((s.unlisted id).orderFaultIf (s.rail.cabins.any fun r => decide (r.cabin = some id)) .up (some id)).orderFaultIf
    (s.tracker.lists.up.any fun r => decide (r.cabin = some id)) .up (some id)).orderFaultIf
    (s.tracker.lists.down.any fun r => decide (r.cabin = some id)) .down (some id)

theorem State.place_eq (s : State) (id : Nat) (l : Location) : s.place id l = (s.placeReported id).locate id l := by
  rw [State.place, State.removeEverywhere_eq]
  rfl

theorem State.placeReported_reports (s : State) (id : Nat) : (s.unlisted id).Reports (s.placeReported id) :=
  ((State.Reports.orderFaultIf _ _ _ _).trans (.orderFaultIf _ _ _ _)).trans (.orderFaultIf _ _ _ _)

theorem State.unlisted_odo (s : State) (id : Nat) : (s.unlisted id).rope = s.rope := by
  rw [State.unlisted, State.offStation]
  split <;> rfl

theorem State.unlisted_link (s : State) (id : Nat) : (s.unlisted id).link = s.link := by
  rw [State.unlisted, State.offStation]
  split <;> rfl

theorem State.unlisted_chain (s : State) (id : Nat) : (s.unlisted id).chain = s.chain := by
  rw [State.unlisted, State.offStation]
  split <;> rfl

theorem State.unlisted_tracker (s : State) (id : Nat) :
    (s.unlisted id).tracker =
      { s.tracker with lists := ⟨othersThan id s.tracker.lists.up, othersThan id s.tracker.lists.down⟩ } := by
  rw [State.unlisted, State.modTracker_tracker, State.offStation_tracker]

theorem State.offStation_rail (s : State) (id : Nat) :
    (s.offStation id).rail.cabins = s.rail.cabins.filter (fun r => decide (r.cabin ≠ some id)) ∧
      (s.offStation id).rail.generator = s.rail.generator := by
  rw [State.offStation]
  split
  · exact ⟨rfl, rfl⟩
  · next h =>
    have hnone : ∀ r ∈ s.rail.cabins, r.cabin ≠ some id :=
      fun r hr hid => List.find?_eq_none.mp h r hr (decide_eq_true hid)
    exact ⟨(List.filter_eq_self.mpr fun r hr => decide_eq_true (hnone r hr)).symm, rfl⟩

/-- The lines of a station list that are not of a cabin, each as its listing. -/
def registerWithout (id : Nat) (l : List (BitVec 16 × Option Nat × Bool × Profile × Nat)) :
    List (BitVec 16 × Option Nat × Bool × Profile × Nat) := l.filter fun x => decide (x.2.1 ≠ some id)

theorem registerWithout_map (id : Nat) (l : List StationRecord) :
    registerWithout id (l.map StationRecord.listing) =
      (l.filter fun r => decide (r.cabin ≠ some id)).map StationRecord.listing := by
  rw [registerWithout, List.filter_map]
  rfl

theorem State.unlisted_register (s : State) (id : Nat) :
    (s.unlisted id).register = (registerWithout id s.register.1, s.register.2) := by
  obtain ⟨hcabins, hgenerator⟩ := s.offStation_rail id
  refine Prod.ext ?_ hgenerator
  exact (congrArg (List.map StationRecord.listing) hcabins).trans (registerWithout_map id s.rail.cabins).symm

/-! ## Resolution (R76) -/

/-- A known ID's idle count set back. -/
def State.touched (s : State) (id : Nat) : State :=
  s.modTracker fun u => u.modEntry id fun e => { e with idle := e.idle.map fun _ => 0 }

/-- An unknown ID learned. -/
def State.learnt (s : State) (id : Nat) : State :=
  (s.modTracker fun u => { u with cabins := insertCabin (learnedEntry id u.settings.profile) u.cabins }).countTracker
    Ctr.learned

/-- An unknown ID that is not learned. -/
def State.unknownTag (s : State) (id : Nat) : State :=
  (s.raiseMomentary .unknownCabin { cabin := some id }).countTracker Ctr.unknownCabin

theorem State.resolve_known {s : State} {id : Nat} (h : (s.tracker.entry id).isSome = true) :
    s.resolve id = (s.touched id, true) := if_pos h

theorem State.resolve_learns {s : State} {id : Nat} (h : s.tracker.entry id = none)
    (hlearn : s.tracker.settings.learning = true) (hroom : s.tracker.cabins.length < 192) :
    s.resolve id = (s.learnt id, true) := by
  refine (if_neg (by rw [h]; decide)).trans (if_pos ?_)
  rw [hlearn, Bool.true_and]
  exact decide_eq_true hroom

theorem State.resolve_unknown {s : State} {id : Nat} (h : s.tracker.entry id = none)
    (hlearn : ¬ (s.tracker.settings.learning = true ∧ s.tracker.cabins.length < 192)) :
    s.resolve id = (s.unknownTag id, false) := by
  refine (if_neg (by rw [h]; decide)).trans (if_neg fun hl => hlearn ?_)
  rw [Bool.and_eq_true, decide_eq_true_eq] at hl
  exact hl

theorem State.unknownTag_reports (s : State) (id : Nat) : s.Reports (s.unknownTag id) :=
  (State.Reports.raiseMomentary s _ _).trans (.count _ _)

theorem State.unknownTag_raised (s : State) (id : Nat) : (s.unknownTag id).Raised .unknownCabin :=
  s.raiseMomentary_raised _ _

theorem State.touched_entry (s : State) (id : Nat) :
    (s.touched id).tracker.entry id = (s.tracker.entry id).map fun e => { e with idle := e.idle.map fun _ => 0 } :=
  s.tracker.modEntry_entry id fun _ => rfl

/-! ## A record taken from a train list -/

/-- A step that reports, and may change the list of one track. -/
def State.TakesFrom (t : Track) (s u : State) : Prop :=
  ∃ v l c, s.Reports v ∧ u = v.modTracker fun w => { w with lists := w.lists.set t l, counters := c }

theorem State.Reports.takesFrom {s u : State} (h : s.Reports u) (t : Track) : State.TakesFrom t s u :=
  ⟨u, u.tracker.lists.get t, u.tracker.counters, h, by rw [State.modTracker, PerTrack.set_get]⟩

theorem State.arrivalChecks_takes (s : State) (t : Track) (i age : Nat) : State.TakesFrom t s (s.arrivalChecks t i age) := by
  cases h : (s.tracker.lists.get t)[i]? with
  | none =>
    rw [State.arrivalChecks, h]
    exact (State.Reports.refl s).takesFrom t
  | some r =>
    obtain ⟨hi, hr⟩ := List.getElem?_eq_some_iff.mp h
    have hsplit : s.tracker.lists.get t = (s.tracker.lists.get t).take i ++ r :: (s.tracker.lists.get t).drop (i + 1) := by
      rw [← hr, List.getElem_cons_drop, List.take_append_drop]
    have hlength : ((s.tracker.lists.get t).take i).length = i := by
      rw [List.length_take]; exact Nat.min_eq_left (Nat.le_of_lt hi)
    have heq := State.arrivalChecks_eq hsplit age
    rw [hlength] at heq
    rw [heq]
    exact ⟨_, _, _, s.arrivalReported_reports t _ r age, rfl⟩

theorem State.unknownArrival_reports (s : State) (t : Track) (cabin : Option Nat) :
    s.Reports (s.unknownArrival t cabin) :=
  (State.Reports.count s _).trans (.trackRaise _ t _ _)

namespace State.TakesFrom

variable {t : Track} {s u : State}

theorem odo (h : State.TakesFrom t s u) : u.rope.odo = s.rope.odo := by
  obtain ⟨v, l, c, hv, rfl⟩ := h; exact hv.odo

theorem link (h : State.TakesFrom t s u) : u.link = s.link := by
  obtain ⟨v, l, c, hv, rfl⟩ := h; exact hv.link

theorem register (h : State.TakesFrom t s u) : u.register = s.register := by
  obtain ⟨v, l, c, hv, rfl⟩ := h; exact hv.register

theorem causes (h : State.TakesFrom t s u) {c : Cause} (hc : s.Raised c) : u.Raised c := by
  obtain ⟨v, l, _, hv, rfl⟩ := h; exact hv.causes c hc

theorem modes (h : State.TakesFrom t s u) : u.tracker.modes = s.tracker.modes := by
  obtain ⟨v, l, c, hv, rfl⟩ := h; exact hv.modes

theorem settings (h : State.TakesFrom t s u) : u.tracker.settings = s.tracker.settings := by
  obtain ⟨v, l, c, hv, rfl⟩ := h; exact hv.settings

theorem cabins (h : State.TakesFrom t s u) : u.tracker.cabins = s.tracker.cabins := by
  obtain ⟨v, l, c, hv, rfl⟩ := h; exact hv.cabins

theorem entry (h : State.TakesFrom t s u) (id : Nat) : u.tracker.entry id = s.tracker.entry id := by
  rw [Tracker.entry, Tracker.entry, h.cabins]

theorem list (h : State.TakesFrom t s u) {x : Track} (hx : x ≠ t) : u.tracker.lists.get x = s.tracker.lists.get x := by
  obtain ⟨v, l, c, hv, rfl⟩ := h
  rw [State.modTracker_tracker]
  exact (PerTrack.get_set_ne _ hx _).trans (by rw [hv.lists])

end State.TakesFrom

end Sys2Proof.Machine


/-! Reads from ARR (R92, R101, R104, R105). -/

namespace Sys2Proof.Machine

/-! ## The two halves of a read -/

theorem State.recordLeft_eq (s : State) (n : BitVec 16) :
    s.recordLeft n =
      s.modDoors fun u =>
        { u with channels := u.channels.map fun (c : Channel) =>
          if (c.served.map Served.number) = some n then { c with served := none } else c } := by
  have hsame : (fun c : Channel => match c.served with
      | some v => if v.number = n then { c with served := none } else c
      | none => c) = fun c => if (c.served.map Served.number) = some n then { c with served := none } else c := by
    funext c
    cases c.served with
    | none => exact (if_neg nofun).symm
    | some v => simp only [Option.map_some, Option.some.injEq]
  have hmap : ∀ (f : Channel → Channel) (v : Vector Channel 8), vecMap f v = v.map f := fun f v =>
    Vector.ext fun i hi => (vecMap_getElem f v ⟨i, hi⟩).trans (Vector.getElem_map f hi).symm
  rw [← hsame]
  exact congrArg (fun x => ({ s with doors := { s.doors with channels := x } } : State)) (hmap _ s.doors.channels)

theorem readable_none {read : Option Nat} (h : ∀ id, read = some id → id = 0 ∨ 4095 < id) : readable read = none := by
  cases read with
  | none => rfl
  | some id =>
    refine Option.filter_eq_none_iff.mpr fun x hx => ?_
    cases hx
    have := h id rfl
    simp only [Bool.and_eq_true, decide_eq_true_eq]
    omega

theorem readable_some {id : Nat} (hlow : 1 ≤ id) (hhigh : id ≤ 4095) : readable (some id) = some id :=
  Option.filter_eq_some_iff.mpr ⟨rfl, by simp only [Bool.and_eq_true, decide_eq_true_eq]; exact ⟨hlow, hhigh⟩⟩

/-- What becomes of an arrival handed on: recorded, or refused by a full list (R104, R105). -/
def State.recorded (s : State) (h : Handed) : State :=
  if s.rail.cabins.length < 12 then s.appendStation h else s.stationFull h.cabin

theorem State.arrRead_none {s u : State} {h : Handed} (hv : (s.countRead 0 none).valleyArrival none = (u, h)) :
    s.arrRead none = (u.raiseMomentary .tagUnread { cabin := h.cabin }).recorded h := by
  unfold State.arrRead
  rw [hv]
  rfl

theorem State.arrRead_some {s u : State} {h : Handed} {id : Nat}
    (hv : (s.countRead 0 (some id)).valleyArrival (some id) = (u, h)) : s.arrRead (some id) = u.recorded h := by
  unfold State.arrRead
  rw [hv]
  rfl

theorem State.valleyArrival_cabin {s u : State} {read : Option Nat} {id : Nat} {inferred : Bool}
    (h : s.valleyArrivalTake read = (u, some id, inferred)) :
    s.valleyArrival read =
      (u.place id .station, ⟨some id, inferred, (u.place id .station).tracker.profileOf (some id)⟩) := by
  unfold State.valleyArrival
  rw [h]
  rfl

theorem State.valleyArrival_none {s u : State} {read : Option Nat} {inferred : Bool}
    (h : s.valleyArrivalTake read = (u, none, inferred)) :
    s.valleyArrival read = (u, ⟨none, inferred, u.tracker.settings.profile⟩) := by
  unfold State.valleyArrival
  rw [h]
  rfl

/-! ## The record a read takes (R92) -/

theorem State.valleyArrivalTake_empty {s : State} (h : s.tracker.lists.down = []) :
    s.valleyArrivalTake none = (s, none, false) := by
  rw [State.valleyArrivalTake, h]

theorem State.valleyArrivalTake_oldest {s : State} {r : TrainRecord} (h : s.tracker.lists.down.head? = some r) :
    s.valleyArrivalTake none = (s.arrivalChecks .down 0 0, r.cabin, true) := by
  obtain ⟨rest, hl⟩ := List.head?_eq_some_iff.mp h
  rw [State.valleyArrivalTake, hl]

theorem State.valleyArrivalTake_given {s u : State} {id : Nat} (h : s.resolve id = (u, true)) :
    s.valleyArrivalTake (some id) = (u.valleyArrivalGiven id, some id, false) := by
  unfold State.valleyArrivalTake
  simp only [h]

theorem State.valleyArrivalTake_unresolved {s u : State} {id : Nat} (h : s.resolve id = (u, false)) :
    s.valleyArrivalTake (some id) = (u.valleyArrivalUnresolved, none, false) := by
  unfold State.valleyArrivalTake
  simp only [h]

theorem Tracker.placeOf_first {u : Tracker} {t : Track} {id : Nat} {old new : List TrainRecord} {r : TrainRecord}
    (h : u.lists.get t = old ++ r :: new) (hr : r.cabin = some id) (hold : ∀ x ∈ old, x.cabin ≠ some id) :
    u.placeOf t id = some old.length := by
  rw [Tracker.placeOf, h]
  exact findIdx_first (fun x hx => decide_eq_false (hold x hx)) (decide_eq_true hr)

theorem Tracker.placeOf_absent {u : Tracker} {t : Track} {id : Nat} (h : ∀ x ∈ u.lists.get t, x.cabin ≠ some id) :
    u.placeOf t id = none :=
  findIdx_absent fun x hx => decide_eq_false (h x hx)

theorem Tracker.oldestAnonymous_iff {u : Tracker} {t : Track} :
    u.oldestAnonymous t = true ↔ ∃ r, (u.lists.get t).head? = some r ∧ r.cabin = none := by
  rw [Tracker.oldestAnonymous]
  cases u.lists.get t with
  | nil => simp
  | cons r l => simp

theorem Tracker.oldestAnonymous_false {u : Tracker} {t : Track} (h : ∀ r, (u.lists.get t).head? = some r → r.cabin ≠ none) :
    u.oldestAnonymous t = false :=
  Bool.eq_false_iff.mpr fun ht => by
    obtain ⟨r, hr, hnone⟩ := Tracker.oldestAnonymous_iff.mp ht
    exact h r hr hnone

section
variable {s : State} {id : Nat}

theorem State.valleyArrivalGiven_own {i : Nat} (h : s.tracker.placeOf .down id = some i) :
    s.valleyArrivalGiven id = s.arrivalChecks .down i 0 := by
  rw [State.valleyArrivalGiven, h]

theorem State.valleyArrivalGiven_anonymous (h : s.tracker.placeOf .down id = none)
    (hold : s.tracker.oldestAnonymous .down = true) : s.valleyArrivalGiven id = s.arrivalChecks .down 0 0 := by
  rw [State.valleyArrivalGiven, h, hold]
  rfl

theorem State.valleyArrivalGiven_unknown (h : s.tracker.placeOf .down id = none)
    (hold : s.tracker.oldestAnonymous .down = false) : s.valleyArrivalGiven id = s.unknownArrival .down (some id) := by
  rw [State.valleyArrivalGiven, h, hold]
  rfl

theorem State.valleyArrivalUnresolved_anonymous (hold : s.tracker.oldestAnonymous .down = true) :
    s.valleyArrivalUnresolved = s.arrivalChecks .down 0 0 := if_pos hold

theorem State.valleyArrivalUnresolved_unknown (hold : s.tracker.oldestAnonymous .down = false) :
    s.valleyArrivalUnresolved = s.unknownArrival .down none := if_neg (ne_true_of_eq_false hold)

theorem State.valleyArrivalGiven_takes (s : State) (id : Nat) : State.TakesFrom .down s (s.valleyArrivalGiven id) := by
  unfold State.valleyArrivalGiven
  split
  · exact s.arrivalChecks_takes .down _ 0
  · split
    · exact s.arrivalChecks_takes .down 0 0
    · exact (s.unknownArrival_reports .down (some id)).takesFrom .down

theorem State.valleyArrivalUnresolved_takes (s : State) : State.TakesFrom .down s s.valleyArrivalUnresolved := by
  unfold State.valleyArrivalUnresolved
  split
  · exact s.arrivalChecks_takes .down 0 0
  · exact (s.unknownArrival_reports .down none).takesFrom .down

end

/-! ## What a read leaves as it was -/

/-- The odometer and the summit link stay. -/
def State.SameTravel (s u : State) : Prop := u.rope.odo = s.rope.odo ∧ u.link = s.link

theorem State.SameTravel.trans {s u v : State} (h : s.SameTravel u) (k : u.SameTravel v) : s.SameTravel v :=
  ⟨k.1.trans h.1, k.2.trans h.2⟩

theorem State.Reports.sameTravel {s u : State} (h : s.Reports u) : s.SameTravel u := ⟨h.odo, h.link⟩

theorem State.TakesFrom.sameTravel {t : Track} {s u : State} (h : State.TakesFrom t s u) : s.SameTravel u := ⟨h.odo, h.link⟩

theorem State.place_sameTravel (s : State) (id : Nat) (l : Location) : s.SameTravel (s.place id l) := by
  have h : (s.unlisted id).SameTravel (s.placeReported id) := (s.placeReported_reports id).sameTravel
  rw [State.place_eq]
  exact ⟨h.1.trans (by rw [s.unlisted_odo id]), h.2.trans (s.unlisted_link id)⟩

theorem State.placeSome_sameTravel (s : State) (cabin : Option Nat) (l : Location) : s.SameTravel (s.placeSome cabin l) := by
  cases cabin with
  | none => exact ⟨rfl, rfl⟩
  | some id => exact s.place_sameTravel id l

theorem State.resolve_sameTravel (s : State) (id : Nat) : s.SameTravel (s.resolve id).1 := by
  unfold State.resolve
  split
  · exact ⟨rfl, rfl⟩
  · split
    · exact ⟨rfl, rfl⟩
    · exact (s.unknownTag_reports id).sameTravel

theorem State.valleyArrivalTake_sameTravel (s : State) (read : Option Nat) : s.SameTravel (s.valleyArrivalTake read).1 := by
  cases read with
  | none =>
    unfold State.valleyArrivalTake
    cases s.tracker.lists.down with
    | nil => exact ⟨rfl, rfl⟩
    | cons r l => exact (s.arrivalChecks_takes .down 0 0).sameTravel
  | some id =>
    have hresolve := s.resolve_sameTravel id
    cases h : s.resolve id with
    | mk u given =>
      rw [h] at hresolve
      cases given with
      | true => rw [State.valleyArrivalTake_given h]; exact hresolve.trans (u.valleyArrivalGiven_takes id).sameTravel
      | false => rw [State.valleyArrivalTake_unresolved h]; exact hresolve.trans u.valleyArrivalUnresolved_takes.sameTravel

theorem State.valleyArrival_sameTravel (s : State) (read : Option Nat) : s.SameTravel (s.valleyArrival read).1 :=
  (s.valleyArrivalTake_sameTravel read).trans (State.placeSome_sameTravel _ _ _)

theorem State.recorded_sameTravel (s : State) (h : Handed) : s.SameTravel (s.recorded h) := by
  unfold State.recorded
  split
  · exact ⟨rfl, rfl⟩
  · rw [State.stationFull, State.locateSome_eq]
    exact (State.Reports.raiseMomentary s _ _).sameTravel

theorem State.arrRead_sameTravel (s : State) (read : Option Nat) : s.SameTravel (s.arrRead read) := by
  have hcount : s.SameTravel (s.countRead 0 read) := by
    cases read <;> exact ⟨rfl, rfl⟩
  have hv := hcount.trans ((s.countRead 0 read).valleyArrival_sameTravel read)
  cases h : (s.countRead 0 read).valleyArrival read with
  | mk u hand =>
    rw [h] at hv
    cases read with
    | none =>
      rw [State.arrRead_none h]
      exact (hv.trans (State.Reports.raiseMomentary u _ _).sameTravel).trans (State.recorded_sameTravel _ _)
    | some id =>
      rw [State.arrRead_some h]
      exact hv.trans (State.recorded_sameTravel _ _)

/-! ## The station list after a recording (R104, R105) -/

theorem State.register_length (s : State) : s.register.1.length = s.rail.cabins.length := List.length_map _

theorem State.recorded_room {s : State} (h : s.register.1.length < 12) (hand : Handed) :
    (s.recorded hand).register =
        (s.register.1 ++ [(s.register.2, hand.cabin, hand.inferred, hand.profile, 0)], s.register.2 + 1) ∧
      ((s.recorded hand).rail.cabins.getLast?.map fun r => r.door) = some .assumedClosed := by
  have happend : s.recorded hand = s.appendStation hand := if_pos (by rw [← s.register_length]; exact h)
  rw [happend]
  refine ⟨Prod.ext ?_ rfl, ?_⟩
  · exact List.map_append
  · have hlast : (s.appendStation hand).rail.cabins.getLast? =
        some ⟨s.rail.generator, hand.cabin, hand.inferred, hand.profile, 0, .assumedClosed⟩ := List.getLast?_concat ..
    rw [hlast]
    rfl

theorem State.recorded_full {s : State} (h : 12 ≤ s.register.1.length) (hand : Handed) :
    (s.recorded hand).register = s.register ∧ (s.recorded hand).Raised .stationFull := by
  have hfull : s.recorded hand = s.stationFull hand.cabin :=
    if_neg (Nat.not_lt.mpr (by rw [← s.register_length]; exact h))
  rw [hfull, State.stationFull, State.locateSome_eq]
  exact ⟨(State.Reports.raiseMomentary s _ _).register, s.raiseMomentary_raised _ _⟩

theorem State.recorded_lists (s : State) (hand : Handed) : (s.recorded hand).tracker.lists = s.tracker.lists := by
  unfold State.recorded
  split
  · rfl
  · rw [State.stationFull, State.locateSome_eq]
    exact (State.Reports.raiseMomentary s _ _).lists

theorem State.recorded_causes {s : State} {c : Cause} (h : s.Raised c) (hand : Handed) : (s.recorded hand).Raised c := by
  unfold State.recorded
  split
  · exact h
  · rw [State.stationFull, State.locateSome_eq]
    exact (State.Reports.raiseMomentary s _ _).causes c h

end Sys2Proof.Machine


/-! What a read from ARR leaves (R92, R101, R104, R105), together. -/

namespace Sys2Proof.Machine

/-! ## The parts of the statement -/

theorem State.recorded_eq (u : State) (cabin : Option Nat) (inferred : Bool) (p : Profile) :
    u.recorded ⟨cabin, inferred, p⟩ =
      if u.rail.cabins.length < 12 then
        (u.modRail fun v =>
          { v with
            cabins := v.cabins ++ [⟨v.generator, cabin, inferred, p, 0, .assumedClosed⟩]
            generator := v.generator + 1 }).countRail Ctr.recorded
      else
        ((u.raiseMomentary .stationFull { cabin := cabin }).countRail Ctr.stationFull).modTracker fun v =>
          { v with cabins := v.cabins.map fun e => if some e.id = cabin then { e with location := .nowhere } else e } := by
  rw [State.recorded, State.stationFull, State.locateSome_eq]
  rfl

theorem Tracker.profileOf_some (u : Tracker) (id : Nat) :
    u.profileOf (some id) =
      match u.entry id with
      | some e => e.profile
      | none => u.settings.profile := rfl

theorem State.unknownArrival_eq (s : State) (t : Track) (cabin : Option Nat) :
    s.unknownArrival t cabin =
      State.trackRaiseIn (s.tracker.modes.get t) t (s.countTracker (Ctr.unknownArrivals (trackIndex t))) .orderFault
        { cabin := cabin } := by
  rw [State.unknownArrival, State.trackRaise_eq]
  rfl

theorem State.orderFaultIf_eq (s : State) (b : Bool) (t : Track) (cabin : Option Nat) :
    s.orderFaultIf b t cabin =
      if b = false then s else State.trackRaiseIn (s.tracker.modes.get t) t s .orderFault { cabin := cabin } := by
  rw [State.orderFaultIf, State.trackRaise_eq]
  cases b <;> rfl

/-- A placement, its removals and its reports written out. -/
theorem State.place_written (s : State) (id : Nat) (l : Location) :
    s.place id l =
      (((((s.unlisted id).orderFaultIf (s.rail.cabins.any fun r => decide (r.cabin = some id)) .up (some id)).orderFaultIf
        (s.tracker.lists.up.any fun r => decide (r.cabin = some id)) .up (some id)).orderFaultIf
        (s.tracker.lists.down.any fun r => decide (r.cabin = some id)) .down (some id)).modTracker fun v =>
          { v with cabins := v.cabins.map fun e => if e.id = id then { e with location := l } else e }) := by
  rw [State.place_eq]
  rfl

theorem State.unlisted_written (s : State) (id : Nat) :
    s.unlisted id =
      (match s.rail.cabins.find? fun (r : StationRecord) => decide (r.cabin = some id) with
        | some x =>
          ((s.modRail fun u => { u with cabins := u.cabins.filter fun (r : StationRecord) => !decide (r.cabin = some id) }).countRail
            Ctr.placementRemoval).modDoors fun u =>
              { u with channels := u.channels.map fun (c : Channel) =>
                if (c.served.map Served.number) = some x.number then { c with served := none } else c }
        | none => s).modTracker fun v =>
          { v with lists := ⟨v.lists.up.filter fun (r : TrainRecord) => !decide (r.cabin = some id),
            v.lists.down.filter fun (r : TrainRecord) => !decide (r.cabin = some id)⟩ } := by
  rw [State.unlisted, State.offStation]
  simp only [othersThan, ne_eq, decide_not]
  cases s.rail.cabins.find? fun (r : StationRecord) => decide (r.cabin = some id) with
  | none => rfl
  | some x => exact congrArg (State.modTracker · _) (State.recordLeft_eq _ x.number)

theorem exec_arrRead {s : State} (hpin : s.pinHeld = false) (read : Option Nat) :
    exec (.arrRead read) s = .next (s.arrRead (readable read)) := State.live_run hpin fun s => s.arrRead (readable read)

theorem State.touched_down (s : State) (id : Nat) : (s.touched id).tracker.lists = s.tracker.lists := rfl

/-! ## A read that gives an ID -/

section
variable {s u : State} {id : Nat} (hlow : 1 ≤ id) (hhigh : id ≤ 4095)
include hlow hhigh

theorem State.arrRead_given {taken : State} (hr : (s.countRail (Ctr.reads 0)).resolve id = (u, true))
    (ht : u.valleyArrivalGiven id = taken) :
    s.arrRead (readable (some id)) =
      (taken.place id .station).recorded
        ⟨some id, false, (taken.place id .station).tracker.profileOf (some id)⟩ := by
  rw [readable_some hlow hhigh]
  refine State.arrRead_some (State.valleyArrival_cabin ?_)
  rw [← ht]
  exact State.valleyArrivalTake_given hr

theorem State.arrRead_unresolved {taken : State} (hr : (s.countRail (Ctr.reads 0)).resolve id = (u, false))
    (ht : u.valleyArrivalUnresolved = taken) :
    s.arrRead (readable (some id)) = taken.recorded ⟨none, false, taken.tracker.settings.profile⟩ := by
  rw [readable_some hlow hhigh]
  refine State.arrRead_some (State.valleyArrival_none ?_)
  rw [← ht]
  exact State.valleyArrivalTake_unresolved hr

end

/-- What a placing at STATION of a cabin with an entry leaves, the cabin's own record taken from the DOWN list first. -/
theorem State.placed_station {s u : State} {id : Nat} (h : State.TakesFrom .down s u) :
    (u.place id .station).tracker.lists.up = othersThan id s.tracker.lists.up ∧
      (∀ r ∈ (u.place id .station).tracker.lists.down, r.cabin ≠ some id) ∧
      (u.place id .station).register = (registerWithout id s.register.1, s.register.2) ∧
      (u.place id .station).tracker.profileOf (some id) = s.tracker.profileOf (some id) := by
  have hreports := u.placeReported_reports id
  have hup : u.tracker.lists.up = s.tracker.lists.up := h.list (x := .up) nofun
  have hlists : (u.place id .station).tracker.lists = ⟨othersThan id u.tracker.lists.up, othersThan id u.tracker.lists.down⟩ := by
    rw [State.place_eq]
    exact hreports.lists.trans (by rw [State.unlisted_tracker])
  refine ⟨by rw [hlists, hup], fun r hr => ?_, ?_, ?_⟩
  · rw [hlists] at hr
    exact othersThan_ne hr
  · rw [State.place_eq]
    refine hreports.register.trans ((u.unlisted_register id).trans ?_)
    rw [h.register]
  · have hentry : (u.placeReported id).tracker.entry id = s.tracker.entry id :=
      (hreports.entry id).trans ((congrArg (fun v : Tracker => v.entry id) (u.unlisted_tracker id)).trans (h.entry id))
    have hsettings : (u.place id .station).tracker.settings = s.tracker.settings := by
      rw [State.place_eq]
      exact hreports.settings.trans ((congrArg Tracker.settings (u.unlisted_tracker id)).trans h.settings)
    have hplaced : (u.place id .station).tracker.entry id =
        (s.tracker.entry id).map fun e => { e with location := .station } := by
      rw [State.place_eq, State.locate_entry, hentry]
    rw [Tracker.profileOf_some, Tracker.profileOf_some, hplaced, hsettings]
    cases s.tracker.entry id <;> rfl

/-- What a read of a cabin with an entry leaves of the lists. -/
theorem State.arrRead_known {s : State} {read : Option Nat} {id : Nat} {e : CabinEntry} (he : s.tracker.entry id = some e)
    (hread : readable read = some id) :
    (s.arrRead (readable read)).tracker.lists.up = othersThan id s.tracker.lists.up ∧
      (∀ r ∈ (s.arrRead (readable read)).tracker.lists.down, r.cabin ≠ some id) ∧
      ((registerWithout id s.register.1).length < 12 →
        (s.arrRead (readable read)).register =
            (registerWithout id s.register.1 ++ [(s.register.2, some id, false, e.profile, 0)], s.register.2 + 1) ∧
          ((s.arrRead (readable read)).rail.cabins.getLast?.map fun r => r.door) = some .assumedClosed) ∧
      (12 ≤ (registerWithout id s.register.1).length →
        (s.arrRead (readable read)).register = (registerWithout id s.register.1, s.register.2) ∧
          (s.arrRead (readable read)).Raised .stationFull) := by
  have hin : (s.tracker.entry id).isSome = true := by rw [he]; rfl
  have hresolve : (s.countRead 0 (some id)).resolve id = ((s.countRead 0 (some id)).touched id, true) :=
    State.resolve_known (s := s.countRead 0 (some id)) hin
  have harr := State.arrRead_some (State.valleyArrival_cabin (State.valleyArrivalTake_given hresolve))
  have htaken := State.valleyArrivalGiven_takes ((s.countRead 0 (some id)).touched id) id
  obtain ⟨hup, hdown, hregister, hprofile⟩ := State.placed_station (id := id) htaken
  have hentry : ((s.countRead 0 (some id)).touched id).tracker.profileOf (some id) = e.profile := by
    rw [Tracker.profileOf_some, State.touched_entry]
    exact (congrArg (fun x : Option CabinEntry =>
      match x.map (fun e : CabinEntry => { e with idle := e.idle.map fun _ => 0 }) with
      | some e => e.profile
      | none => s.tracker.settings.profile) he)
  rw [hread, harr, hprofile, hentry]
  generalize (((s.countRead 0 (some id)).touched id).valleyArrivalGiven id).place id .station = v at hup hdown hregister
  have hregister : v.register = (registerWithout id s.register.1, s.register.2) := hregister
  refine ⟨?_, ?_, fun hlen => ?_, fun hlen => ?_⟩
  · rw [State.recorded_lists]; exact hup
  · rw [State.recorded_lists]; exact hdown
  · have hroom := State.recorded_room (s := v) (by rw [hregister]; exact hlen) ⟨some id, false, e.profile⟩
    rw [hregister] at hroom
    exact hroom
  · have hfull := State.recorded_full (s := v) (by rw [hregister]; exact hlen) ⟨some id, false, e.profile⟩
    rw [hregister] at hfull
    exact hfull

/-- What an unreadable read leaves, the DOWN list empty. -/
theorem State.arrRead_empty {s : State} (hempty : s.tracker.lists.down = []) :
    (s.arrRead none).Raised .tagUnread ∧ (s.arrRead none).tracker.lists = s.tracker.lists ∧
      (s.register.1.length < 12 →
        (s.arrRead none).register =
          (s.register.1 ++ [(s.register.2, none, false, s.tracker.settings.profile, 0)], s.register.2 + 1)) ∧
      (12 ≤ s.register.1.length →
        (s.arrRead none).register = s.register ∧ (s.arrRead none).Raised .stationFull) := by
  have harr := State.arrRead_none
    (State.valleyArrival_none (State.valleyArrivalTake_empty (s := s.countRead 0 none) hempty))
  have hreports : (s.countRead 0 none).Reports ((s.countRead 0 none).raiseMomentary .tagUnread {}) :=
    .raiseMomentary _ _ _
  have hraised := (s.countRead 0 none).raiseMomentary_raised .tagUnread {}
  rw [harr]
  generalize (s.countRead 0 none).raiseMomentary .tagUnread {} = v at hreports hraised
  have hregister : v.register = s.register := hreports.register
  refine ⟨State.recorded_causes hraised _, (State.recorded_lists _ _).trans hreports.lists, fun hlen => ?_, fun hlen => ?_⟩
  · have hroom := (State.recorded_room (s := v) (by rw [hregister]; exact hlen)
      ⟨none, false, s.tracker.settings.profile⟩).1
    rw [hregister] at hroom
    exact hroom
  · have hfull := State.recorded_full (s := v) (by rw [hregister]; exact hlen)
      ⟨none, false, s.tracker.settings.profile⟩
    rw [hregister] at hfull
    exact hfull

/-- Settles O22: the record a read takes, its checks, the placing and the recording, each by its equation. -/
theorem arrRead : Obligations.ArrRead := by
  refine ⟨fun s read hpin => ?read, fun s t old new r age h => ?checks, fun s id l => ?place, fun s read hpin => ?leaves⟩
  case checks =>
    intro raised ordered launch length d judged missed
    have hjudged : judged = s.arrivalJudged t old r age := by
      cases t <;> rfl
    rw [State.arrivalChecks_eq h, hjudged]
    rfl
  case place =>
    intro isIt others faulty railed cleared
    have hcleared : cleared = s.unlisted id := (s.unlisted_written id).symm
    have hmodes : (s.unlisted id).tracker.modes = s.tracker.modes := by rw [State.unlisted_tracker]
    have hfaulty : ∀ (b : Bool) (t : Track) {u : State}, u.tracker.modes = s.tracker.modes →
        u.orderFaultIf b t (some id) = faulty b (s.tracker.modes.get t) (trackIndex t) u := fun b t u hu => by
      rw [State.orderFaultIf_eq, hu]
      rfl
    have hstation := State.Reports.orderFaultIf (s.unlisted id) (s.rail.cabins.any fun r => isIt r.cabin) .up (some id)
    have hup := State.Reports.orderFaultIf ((s.unlisted id).orderFaultIf (s.rail.cabins.any fun r => isIt r.cabin) .up (some id))
      (s.tracker.lists.up.any fun r => isIt r.cabin) .up (some id)
    rw [State.place_written, hfaulty _ .down (hup.modes.trans (hstation.modes.trans hmodes)),
      hfaulty _ .up (hstation.modes.trans hmodes), hfaulty _ .up hmodes, hcleared]
    rfl
  case read =>
    intro unread counted recorded profile unlisted oldest
    have hexec := exec_arrRead hpin read
    refine ⟨fun hunread => ?_, fun id hread hlow hhigh => ?_⟩
    · intro u
      rw [readable_none hunread] at hexec
      refine ⟨fun hempty => ?empty, fun r hr => ⟨fun hnone => ?anonymous, fun id hid => ?named⟩⟩
      case empty =>
        rw [hexec, State.arrRead_none (State.valleyArrival_none (State.valleyArrivalTake_empty (s := u) hempty)),
          State.recorded_eq]
        rfl
      case anonymous =>
        have htake := State.valleyArrivalTake_oldest (s := u) hr
        rw [hnone] at htake
        rw [hexec, State.arrRead_none (State.valleyArrival_none htake), State.recorded_eq,
          (u.arrivalChecks_takes .down 0 0).settings]
        rfl
      case named =>
        have htake := State.valleyArrivalTake_oldest (s := u) hr
        rw [hid] at htake
        rw [hexec, State.arrRead_none (State.valleyArrival_cabin htake), State.recorded_eq]
        rfl
    · intro learns resolved given
      rw [hread] at hexec
      have hunlisted : ∀ (u : State) (cabin : Option Nat), u.tracker.modes = s.tracker.modes →
          u.unknownArrival .down cabin = unlisted u cabin := fun u cabin hmodes => by
        rw [State.unknownArrival_eq, hmodes]
        show State.trackRaiseIn s.tracker.modes.down .down _ _ _ = if s.tracker.modes.down = .tracked then _ else _
        cases s.tracker.modes.down <;> rfl
      refine ⟨fun hknown => ?known, fun hunknown hlearns => ?unknown⟩
      case known =>
        have hresolve : counted.resolve id = (resolved, true) := by
          by_cases hin : (s.tracker.entry id).isSome = true
          · have hresolved : resolved = counted.touched id := if_pos hin
            rw [hresolved]
            exact State.resolve_known hin
          · obtain ⟨hnone, hlearn, hroom⟩ := hknown.resolve_left hin
            have hresolved : resolved = counted.learnt id := if_neg hin
            rw [hresolved]
            exact State.resolve_learns (s := counted) hnone hlearn hroom
        have hlists : resolved.tracker.lists = s.tracker.lists := by
          simp only [resolved]
          split <;> rfl
        have hdown : resolved.tracker.lists.get .down = s.tracker.lists.down := by rw [hlists]; rfl
        have hmodes : resolved.tracker.modes = s.tracker.modes := by
          simp only [resolved]
          split <;> rfl
        have hgiven : ∀ {taken : State}, resolved.valleyArrivalGiven id = taken → given taken := fun {taken} ht => by
          show exec (.arrRead read) s = _
          rw [hread, hexec, State.arrRead_given hlow hhigh hresolve ht, State.recorded_eq]
          rfl
        clear_value resolved
        refine ⟨fun old new r h hr hold => hgiven ?_, fun habsent => ⟨fun r hr hnone => hgiven ?_, fun hnone => hgiven ?_⟩⟩
        · exact State.valleyArrivalGiven_own (Tracker.placeOf_first (hdown.trans h) hr hold)
        · exact State.valleyArrivalGiven_anonymous (Tracker.placeOf_absent (by rw [hdown]; exact habsent))
            (Tracker.oldestAnonymous_iff.mpr ⟨r, by rw [hdown]; exact hr, hnone⟩)
        · exact (State.valleyArrivalGiven_unknown (Tracker.placeOf_absent (by rw [hdown]; exact habsent))
            (Tracker.oldestAnonymous_false (by rw [hdown]; exact hnone))).trans (hunlisted _ _ hmodes)
      case unknown =>
        intro u ends
        have hresolve : counted.resolve id = (u, false) :=
          State.resolve_unknown (s := counted) hunknown fun ⟨hlearn, hroom⟩ => hlearns ⟨hunknown, hlearn, hroom⟩
        have hreports : counted.Reports u := counted.unknownTag_reports id
        have hdown : u.tracker.lists.get .down = s.tracker.lists.down := by rw [hreports.lists]; rfl
        have hends : ∀ {taken : State}, u.valleyArrivalUnresolved = taken → ends taken := fun {taken} ht => by
          have hsettings : taken.tracker.settings = s.tracker.settings := by
            rw [← ht, u.valleyArrivalUnresolved_takes.settings, hreports.settings]
            rfl
          show exec (.arrRead read) s = _
          rw [hread, hexec, State.arrRead_unresolved hlow hhigh hresolve ht, State.recorded_eq, hsettings]
        refine ⟨fun r hr hnone => hends ?_, fun hnone => hends ?_⟩
        · exact State.valleyArrivalUnresolved_anonymous
            (Tracker.oldestAnonymous_iff.mpr ⟨r, by rw [hdown]; exact hr, hnone⟩)
        · exact (State.valleyArrivalUnresolved_unknown (Tracker.oldestAnonymous_false (by rw [hdown]; exact hnone))).trans
            (hunlisted _ _ hreports.modes)
  case leaves =>
    intro view
    have hexec := exec_arrRead hpin read
    have htravel := s.arrRead_sameTravel (readable read)
    refine ⟨_, hexec, htravel.1, htravel.2, fun id e hread hlow hhigh he => ?known, fun hunread hempty => ?empty⟩
    case known =>
      intro rest
      obtain ⟨hup, hdown, hroom, hfull⟩ := State.arrRead_known he (readable_some hlow hhigh)
      have hrest : registerWithout id s.register.1 = rest.map StationRecord.listing := registerWithout_map id s.rail.cabins
      rw [hrest, List.length_map] at hroom hfull
      rw [hread]
      refine ⟨hup, hdown, fun hlen => ?_, fun hlen => ?_⟩
      · obtain ⟨hregister, hlast⟩ := hroom hlen
        exact ⟨congrArg Prod.fst hregister, hlast, congrArg Prod.snd hregister⟩
      · obtain ⟨hregister, hraised⟩ := hfull hlen
        exact ⟨congrArg Prod.fst hregister, congrArg Prod.snd hregister, hraised⟩
    case empty =>
      obtain ⟨htag, hlists, hroom, hfull⟩ := State.arrRead_empty hempty
      rw [readable_none hunread]
      refine ⟨htag, hlists, fun hlen => ?_, fun hlen => ?_⟩
      · exact congrArg Prod.fst (hroom (by rw [State.register_length]; exact hlen))
      · obtain ⟨hregister, hraised⟩ := hfull (by rw [State.register_length]; exact hlen)
        exact ⟨congrArg Prod.fst hregister, hraised⟩

end Sys2Proof.Machine


/-! The summit link's timers (R139, R142) and beats (R137 to R140). -/

namespace Sys2Proof.Machine

/-! ## Causes present, and causes gone -/

/-- A cause is in the set with its condition present. -/
def State.Present (s : State) (c : Cause) : Prop := ∃ r ∈ s.chain.causes, r.code = c ∧ r.present = true

/-- A cause is in the set with its condition present nowhere. -/
def State.Gone (s : State) (c : Cause) : Prop := ∀ r ∈ s.chain.causes, r.code = c → r.present = false

theorem State.raise_present {s : State} {c : Cause} (h : s.Present c) (c' : Cause) (d : Detail) (m : Bool) :
    (s.raise c' d m).Present c := by
  obtain ⟨r, hr, hcode, hpresent⟩ := h
  rw [State.Present, State.raise_causes]
  split
  · refine ⟨_, List.mem_map_of_mem hr, ?_⟩
    split
    · exact ⟨hcode, by rw [CauseRecord.again, hpresent]; rfl⟩
    · exact ⟨hcode, hpresent⟩
  · exact ⟨r, List.mem_append_left _ hr, hcode, hpresent⟩

theorem State.raiseHeld_present (s : State) (c : Cause) (d : Detail) : (s.raiseHeld c d).Present c := by
  obtain ⟨r, hr, hcode, hpresent, -⟩ := s.raise_mem c d false
  exact ⟨r, hr, hcode, hpresent rfl⟩

theorem State.withdraw_gone (s : State) (c : Cause) : (s.withdraw c).Gone c := by
  intro r hr hcode
  by_cases hin : s.inSet c = true
  · rw [State.withdraw_known hin] at hr
    obtain ⟨x, -, rfl⟩ := List.mem_map.mp hr
    revert hcode
    split
    · exact fun _ => rfl
    · exact fun hcode => absurd hcode ‹_›
  · rw [State.withdraw_stray (Bool.eq_false_iff.mpr hin)] at hr
    exact absurd (State.inSet_true.mpr ⟨r, hr, hcode⟩) hin

theorem State.Gone.withdraw {s : State} {c : Cause} (h : s.Gone c) (c' : Cause) : (s.withdraw c').Gone c := by
  intro r hr hcode
  by_cases hin : s.inSet c' = true
  · rw [State.withdraw_known hin] at hr
    obtain ⟨x, hx, rfl⟩ := List.mem_map.mp hr
    revert hcode
    split
    · exact fun _ => rfl
    · exact h x hx
  · rw [State.withdraw_stray (Bool.eq_false_iff.mpr hin)] at hr
    exact h r hr hcode

theorem State.Gone.raise {s : State} {c c' : Cause} (h : s.Gone c) (hne : c' ≠ c) (d : Detail) (m : Bool) :
    (s.raise c' d m).Gone c := by
  intro r hr hcode
  rw [State.raise_causes] at hr
  split at hr
  · obtain ⟨x, hx, rfl⟩ := List.mem_map.mp hr
    revert hcode
    split
    · next hx' => exact fun hcode => absurd (hx'.symm.trans hcode) hne
    · exact h x hx
  · obtain hr | hr := List.mem_append.mp hr
    · exact h r hr hcode
    · rw [List.mem_singleton.mp hr] at hcode
      exact absurd hcode hne

/-! ## The loss of the line leaves the rope, the tracker and the link -/

/-- A step of the telephony unit: rope, tracker and link stay, and no cause present becomes gone. -/
structure State.Calls (s u : State) : Prop where
  rope : u.rope = s.rope
  tracker : u.tracker = s.tracker
  link : u.link = s.link
  present : ∀ c, s.Present c → u.Present c

namespace State.Calls

variable {s u v : State}

theorem refl (s : State) : s.Calls s := ⟨rfl, rfl, rfl, fun _ => id⟩

theorem trans (h : s.Calls u) (k : u.Calls v) : s.Calls v :=
  ⟨k.rope.trans h.rope, k.tracker.trans h.tracker, k.link.trans h.link, fun c hc => k.present c (h.present c hc)⟩

theorem of_chain (hrope : u.rope = s.rope) (htracker : u.tracker = s.tracker) (hlink : u.link = s.link)
    (hchain : u.chain = s.chain) : s.Calls u :=
  ⟨hrope, htracker, hlink, fun _ h => by rw [State.Present, hchain]; exact h⟩

theorem freeCall (s : State) (i : Fin 4) (reason : ClearReason) (quiet excused : Bool) :
    s.Calls (s.freeCall i reason quiet excused) := by
  have hfreed : s.Calls (s.freeCore i reason quiet).resumption :=
    of_chain (by simp) (by simp) (by simp) (by simp)
  unfold State.freeCall
  dsimp only
  split
  · exact hfreed.trans ⟨by simp, by simp, by simp, fun _ h => State.raise_present h _ _ true⟩
  · exact hfreed

theorem fallback (s : State) (i : Fin 4) (reason : ClearReason) : s.Calls (s.fallback i reason) := by
  unfold State.fallback
  split
  · exact of_chain (by simp) (by simp) (by simp) (by simp)
  · exact freeCall s i reason true false

theorem foldl {op : State → Fin 4 → State} (hop : ∀ (s : State) (i : Fin 4), s.Calls (op s i)) (l : List (Fin 4)) (s : State) :
    s.Calls (l.foldl op s) := by
  induction l generalizing s with
  | nil => exact refl s
  | cons i l ih => exact (hop s i).trans (ih _)

theorem lineLost (s : State) : s.Calls s.lineLost := by
  have hheld : s.Calls s.loseHeld :=
    (of_chain (s := s) (u := s.modTel fun u => { u with stack := [] }) rfl rfl rfl rfl).trans
      (foldl (fun s i => freeCall s i .lineLost true false) _ _)
  have hlose : ∀ (s : State) (i : Fin 4), s.Calls (s.loseRecord i) := fun s i => by
    unfold State.loseRecord
    dsimp only
    split
    · exact freeCall s i .lineLost true false
    · exact refl s
  have hturn : ∀ (s : State) (i : Fin 4), s.Calls (s.turnHelp i) := fun s i => by
    unfold State.turnHelp
    dsimp only
    split
    · exact fallback s i .lineLost
    · exact refl s
  exact (hheld.trans (foldl hlose allRecords _)).trans (foldl hturn allRecords _)

end State.Calls

/-- What the entry to SILENT leaves of the link, and SUMMIT_SILENT where the link was LINKED. -/
theorem State.enterSilent_leaves (s : State) :
    s.enterSilent.link =
        { s.link with
          state := .silent, late := none, guard := none, lastBeat := none
          counters := bump s.link.counters Ctr.silentEntry } ∧
      s.enterSilent.rope = s.rope ∧ s.enterSilent.tracker = s.tracker ∧
      (s.link.state = .linked → s.enterSilent.Present .summitSilent) := by
  rw [State.enterSilent]
  split
  · obtain ⟨hrope, htracker, hlink, hpresent⟩ := State.Calls.lineLost
      (((s.modLink fun u => { u with state := .silent, late := none, guard := none, lastBeat := none }).countLink
        Ctr.silentEntry).raiseHeld .summitSilent {})
    exact ⟨hlink.trans (State.raiseHeld_link _ _ _), hrope.trans (State.raiseHeld_rope _ _ _),
      htracker.trans (State.raiseHeld_tracker _ _ _), fun _ => hpresent _ (State.raiseHeld_present _ _ _)⟩
  · next hstate =>
    obtain ⟨hrope, htracker, hlink, -⟩ := State.Calls.lineLost
      ((s.modLink fun u => { u with state := .silent, late := none, guard := none, lastBeat := none }).countLink
        Ctr.silentEntry)
    exact ⟨hlink, hrope, htracker, fun h => absurd h hstate⟩

/-! ## Beats -/

/-- The timers, the number and the counters of an accepted beat. -/
def State.beaten (s : State) (n : Byte) : State :=
  let gap := beatGap s.link.lastBeat n
  let v := (s.modLink fun u => { u with guard := some 100, late := some 400, lastBeat := some n }).countLink Ctr.acceptedBeat
  if gap then v.countLink Ctr.beatGap else v

theorem State.acceptBeat_eq (s : State) (n : Byte) (c : Category) :
    s.acceptBeat n c = (s.beaten n).followLink.readRequest c := rfl

theorem State.beaten_chain (s : State) (n : Byte) : (s.beaten n).chain = s.chain := by
  unfold State.beaten
  dsimp only
  split <;> rfl

theorem State.beaten_link (s : State) (n : Byte) :
    (s.beaten n).link =
      { s.link with
        guard := some 100, late := some 400, lastBeat := some n
        counters := if beatGap s.link.lastBeat n then bump (bump s.link.counters Ctr.acceptedBeat) Ctr.beatGap
          else bump s.link.counters Ctr.acceptedBeat } := by
  unfold State.beaten
  dsimp only
  split <;> rfl

/-- A step of the link supervisor that leaves the rope and the tracker. -/
def State.SameRun (s u : State) : Prop := u.rope = s.rope ∧ u.tracker = s.tracker

theorem State.beaten_sameRun (s : State) (n : Byte) : s.SameRun (s.beaten n) := by
  unfold State.beaten
  dsimp only
  split <;> exact ⟨rfl, rfl⟩

theorem State.followLink_sameRun (s : State) : s.SameRun s.followLink := by
  unfold State.followLink
  split
  · exact ⟨rfl, rfl⟩
  · exact ⟨by simp, by simp⟩
  · exact ⟨rfl, rfl⟩

theorem State.readRequest_sameRun (s : State) (c : Category) : s.SameRun (s.readRequest c) := by
  unfold State.readRequest
  dsimp only
  split
  · exact ⟨by simp, by simp⟩
  · split
    · exact ⟨by simp, by simp⟩
    · exact ⟨rfl, rfl⟩

theorem State.followLink_link (s : State) :
    s.followLink.link =
      { s.link with
        state :=
          match s.link.state with
          | .silent => .recovering
          | .recovering | .linked => .linked
        counters := if s.link.state = .recovering then bump s.link.counters Ctr.recovery else s.link.counters } := by
  unfold State.followLink
  split
  · next h => simp only [h]; rfl
  · next h => simp only [State.withdraw_link, h]; rfl
  · next h => simp only [h]; exact congrArg (fun x => { s.link with state := x }) h

theorem State.followLink_gone {s : State} (h : s.link.state = .recovering) : s.followLink.Gone .summitSilent := by
  rw [State.followLink, h]
  exact State.withdraw_gone _ _

theorem State.readRequest_link (s : State) (c : Category) : (s.readRequest c).link = { s.link with request := c } := by
  unfold State.readRequest
  dsimp only
  split
  · rw [State.raiseHeld_link]; rfl
  · split
    · rw [State.withdraw_link]; rfl
    · rfl

theorem State.readRequest_gone {s : State} (h : s.Gone .summitSilent) (c : Category) :
    (s.readRequest c).Gone .summitSilent := by
  unfold State.readRequest
  dsimp only
  split
  · exact State.Gone.raise (s := s.modLink fun u => { u with request := c }) (c' := .summitStop) h nofun _ _
  · split
    · exact State.Gone.withdraw (s := s.modLink fun u => { u with request := c }) h _
    · exact h

theorem State.readRequest_raises {s : State} {c : Category} (h : s.link.request.rank < c.rank) :
    ∃ r ∈ (s.readRequest c).chain.causes, r.code = .summitStop ∧ r.present = true ∧ c.rank ≤ r.category.rank := by
  have hraised : s.readRequest c =
      (s.modLink fun u => { u with request := c }).raise .summitStop { requested := some c } false := if_pos h
  rw [hraised]
  obtain ⟨r, hr, hcode, hpresent, hrank⟩ := State.raise_mem (s.modLink fun u => { u with request := c }) .summitStop
    { requested := some c } false
  exact ⟨r, hr, hcode, hpresent rfl, hrank⟩

theorem State.readRequest_withdraws {s : State} (h : s.link.request ≠ .none) : (s.readRequest .none).Gone .summitStop := by
  have hwithdrawn : s.readRequest .none = (s.modLink fun u => { u with request := .none }).withdraw .summitStop := by
    have hrank : ¬ s.link.request.rank < Category.none.rank := Nat.not_lt.mpr (Nat.zero_le _)
    rw [State.readRequest]
    exact (if_neg hrank).trans (if_pos ⟨h, rfl⟩)
  rw [hwithdrawn]
  exact State.withdraw_gone _ _

theorem State.takeBeat_accepts {s : State} (h : s.link.guard = none) (n : Byte) (c : Category) :
    s.takeBeat 2 (.beat n (some c)) = s.acceptBeat n c := by
  unfold State.takeBeat
  dsimp only
  rw [if_neg (not_not.mpr rfl), h]
  rfl

theorem State.takeBeat_early {s : State} {g : Nat} (h : s.link.guard = some g) (n : Byte) (c : Category) :
    s.takeBeat 2 (.beat n (some c)) = s.countLink Ctr.earlyBeat := by
  unfold State.takeBeat
  dsimp only
  rw [if_neg (not_not.mpr rfl), h]
  rfl

theorem State.takeBeat_malformed {s : State} {n : Nat} {contents : Contents} (h : ∀ m x, contents ≠ .beat m (some x)) :
    s.takeBeat n contents = s.countLink Ctr.malformedBeat := by
  unfold State.takeBeat
  split
  · next m x => exact absurd rfl (h m x)
  · rfl

end Sys2Proof.Machine


/-! Arrivals and departures at the summit (R88, R90, R91): what each leaves of the lists and the cabin table. -/

namespace Sys2Proof.Machine

/-! ## What an event of the tracker keeps -/

/-- An event of the tracker: the odometer, the link, the track modes and the settings stay, and no cause leaves the set. -/
structure State.KeepsLine (s u : State) : Prop where
  odo : u.rope.odo = s.rope.odo
  link : u.link = s.link
  modes : u.tracker.modes = s.tracker.modes
  settings : u.tracker.settings = s.tracker.settings
  causes : ∀ c, s.Raised c → u.Raised c

namespace State.KeepsLine

variable {s u v : State}

theorem refl (s : State) : s.KeepsLine s := ⟨rfl, rfl, rfl, rfl, fun _ => id⟩

theorem trans (h : s.KeepsLine u) (k : u.KeepsLine v) : s.KeepsLine v :=
  ⟨k.odo.trans h.odo, k.link.trans h.link, k.modes.trans h.modes, k.settings.trans h.settings,
    fun c hc => k.causes c (h.causes c hc)⟩

theorem of_reports (h : s.Reports u) : s.KeepsLine u := ⟨h.odo, h.link, h.modes, h.settings, h.causes⟩

theorem of_takes {t : Track} (h : State.TakesFrom t s u) : s.KeepsLine u :=
  ⟨h.odo, h.link, h.modes, h.settings, fun _ => h.causes⟩

theorem of_modTracker (s : State) {f : Tracker → Tracker} (hmodes : (f s.tracker).modes = s.tracker.modes)
    (hsettings : (f s.tracker).settings = s.tracker.settings) : s.KeepsLine (s.modTracker f) :=
  ⟨rfl, rfl, hmodes, hsettings, fun _ => id⟩

theorem locate (s : State) (id : Nat) (l : Location) : s.KeepsLine (s.locate id l) := of_modTracker s rfl rfl

theorem locateSome (s : State) (cabin : Option Nat) (l : Location) : s.KeepsLine (s.locateSome cabin l) := by
  rw [State.locateSome_eq]
  exact of_modTracker s rfl rfl

theorem unlisted (s : State) (id : Nat) : s.KeepsLine (s.unlisted id) :=
  ⟨by rw [s.unlisted_odo id], s.unlisted_link id, by rw [s.unlisted_tracker id], by rw [s.unlisted_tracker id], fun c h => by
    rw [State.Raised, s.unlisted_chain id]; exact h⟩

theorem resolve (s : State) (id : Nat) : s.KeepsLine (s.resolve id).1 := by
  unfold State.resolve
  split
  · exact ⟨rfl, rfl, rfl, rfl, fun _ h => h⟩
  · split
    · exact ⟨rfl, rfl, rfl, rfl, fun _ h => h⟩
    · exact of_reports (s.unknownTag_reports id)

theorem appendTrain (s : State) (t : Track) (r : TrainRecord) (counter : Fin 22) :
    s.KeepsLine (s.appendTrain t r counter) := by
  unfold State.appendTrain
  split
  · exact ⟨rfl, rfl, rfl, rfl, fun _ => id⟩
  · exact ((of_reports (.raiseMomentary s _ _)).trans (locateSome _ r.cabin .nowhere)).trans (of_modTracker _ rfl rfl)

end State.KeepsLine

/-! ## A cabin's records taken from every list -/

/-- A step that reports, takes every record of a cabin from the lists, and reports again. -/
def State.Clears (id : Nat) (s u : State) : Prop := ∃ v, s.Reports v ∧ (v.unlisted id).Reports u

namespace State.Clears

variable {id : Nat} {s u : State}

theorem keepsLine (h : State.Clears id s u) : s.KeepsLine u := by
  obtain ⟨v, hv, hu⟩ := h
  exact ((State.KeepsLine.of_reports hv).trans (.unlisted v id)).trans (.of_reports hu)

theorem lists (h : State.Clears id s u) :
    u.tracker.lists = ⟨othersThan id s.tracker.lists.up, othersThan id s.tracker.lists.down⟩ := by
  obtain ⟨v, hv, hu⟩ := h
  rw [hu.lists, v.unlisted_tracker id, hv.lists]

theorem cabins (h : State.Clears id s u) : u.tracker.cabins = s.tracker.cabins := by
  obtain ⟨v, hv, hu⟩ := h
  rw [hu.cabins, v.unlisted_tracker id, hv.cabins]

theorem entry (h : State.Clears id s u) (x : Nat) : u.tracker.entry x = s.tracker.entry x := by
  rw [Tracker.entry, Tracker.entry, h.cabins]

theorem register (h : State.Clears id s u) : u.register = (registerWithout id s.register.1, s.register.2) := by
  obtain ⟨v, hv, hu⟩ := h
  rw [hu.register, v.unlisted_register id, hv.register]

end State.Clears

theorem State.placeReported_clears (s : State) (id : Nat) : State.Clears id s (s.placeReported id) :=
  ⟨s, .refl s, s.placeReported_reports id⟩

/-- An unknown summit arrival but for the cabin's location. -/
def State.unknownSummitReported (s : State) (id : Nat) : State :=
  ((s.unlisted id).unknownArrival .up (some id)).orderFaultIf
    (s.tracker.lists.down.any fun r => decide (r.cabin = some id)) .down (some id)

theorem State.unknownSummitArrival_eq (s : State) (id : Nat) :
    s.unknownSummitArrival id = (s.unknownSummitReported id).locate id .summit := by
  rw [State.unknownSummitArrival, State.removeEverywhere_eq]
  rfl

theorem State.unknownSummitReported_clears (s : State) (id : Nat) : State.Clears id s (s.unknownSummitReported id) :=
  ⟨s, .refl s, (State.unknownArrival_reports _ .up _).trans (.orderFaultIf _ _ .down _)⟩

/-- A departure but for the cabin's location and its record. -/
def State.departureReported (s : State) (id : Nat) : State :=
  let wrong := s.tracker.departsWrongly id
  let v := s.orderFaultIf wrong .down (some id)
  (((v.unlisted id).orderFaultIf (v.rail.cabins.any fun r => decide (r.cabin = some id)) .up (some id)).orderFaultIf
    (v.tracker.lists.up.any fun r => decide (r.cabin = some id)) .up (some id)).orderFaultIf
    ((v.tracker.lists.down.any fun r => decide (r.cabin = some id)) && !wrong) .down (some id)

theorem State.placeDeparture_eq (s : State) (id : Nat) : s.placeDeparture id = (s.departureReported id).locate id .down := by
  rw [State.placeDeparture, State.removeEverywhere_eq]
  rfl

theorem State.departureReported_clears (s : State) (id : Nat) : State.Clears id s (s.departureReported id) :=
  ⟨_, .orderFaultIf s _ .down _,
    ((State.Reports.orderFaultIf _ _ .up _).trans (.orderFaultIf _ _ .up _)).trans (.orderFaultIf _ _ .down _)⟩

/-- A cause of a track in TRACKED is raised. -/
theorem State.trackRaise_raised {s : State} {t : Track} (h : s.tracker.modes.get t = .tracked) (c : Cause) (d : Detail) :
    (s.trackRaise t c d).Raised c := by
  rw [State.trackRaise_eq, h]
  exact s.raiseMomentary_raised c d

theorem State.departureReported_raised {s : State} {id : Nat} (h : s.tracker.modes.down = .tracked)
    (hwrong : s.tracker.departsWrongly id = true) : (s.departureReported id).Raised .orderFault := by
  have hfault : (s.orderFaultIf true .down (some id)).Raised .orderFault :=
    State.trackRaise_raised (t := .down) h _ _
  rw [State.departureReported, hwrong]
  refine (State.Reports.orderFaultIf _ _ .down _).causes _ ((State.Reports.orderFaultIf _ _ .up _).causes _
    ((State.Reports.orderFaultIf _ _ .up _).causes _ ?_))
  exact (State.KeepsLine.unlisted _ id).causes _ hfault

theorem State.unknownArrival_raised {s : State} {t : Track} (h : s.tracker.modes.get t = .tracked) (cabin : Option Nat) :
    (s.unknownArrival t cabin).Raised .orderFault :=
  State.trackRaise_raised (s := s.countTracker _) h _ _

theorem State.unknownSummitReported_raised {s : State} (h : s.tracker.modes.up = .tracked) (id : Nat) :
    (s.unknownSummitReported id).Raised .orderFault :=
  (State.Reports.orderFaultIf _ _ .down _).causes _
    (State.unknownArrival_raised (s := s.unlisted id) (t := .up) (by rw [s.unlisted_tracker id]; exact h) _)

/-! ## What the arrival checks find -/

section
variable {s : State} {t : Track} {old new : List TrainRecord} {r : TrainRecord}
  (hl : s.tracker.lists.get t = old ++ r :: new) (ht : s.tracker.modes.get t = .tracked)
include hl

theorem State.arrivalChecks_list (age : Nat) : (s.arrivalChecks t old.length age).tracker.lists.get t = old ++ new := by
  rw [State.arrivalChecks_eq hl]
  exact PerTrack.get_set_self _ t _

theorem State.arrivalChecks_reported {c : Cause} {age : Nat} (h : (s.arrivalJudged t old r age).Raised c) :
    (s.arrivalChecks t old.length age).Raised c := by
  rw [State.arrivalChecks_eq hl]
  exact (State.Reports.foldl_missIn _ t r.cabin _ _).causes c h

include ht

theorem State.arrivalChecks_orderFault (hold : old ≠ []) (age : Nat) :
    (s.arrivalChecks t old.length age).Raised .orderFault := by
  refine State.arrivalChecks_reported hl ?_
  have hordered : (s.arrivalOrdered t old r).Raised .orderFault := by
    rw [State.arrivalOrdered, if_neg hold, ht]
    exact s.raiseMomentary_raised _ _
  unfold State.arrivalJudged
  split
  · exact hordered
  · split
    · exact (State.Reports.offerDeviation _ t _).causes _ hordered
    · exact (State.Reports.raiseIn _ t _ _ _).causes _ hordered

theorem State.arrivalChecks_mismatch {age : Nat} (hage : age ≠ 1023)
    (h : s.rope.table.arrivalWindow < (s.arrivalDeviation t r age).natAbs) :
    (s.arrivalChecks t old.length age).Raised .arrivalMismatch := by
  refine State.arrivalChecks_reported hl ?_
  rw [State.arrivalJudged, if_neg hage, if_neg (Nat.not_le.mpr h), ht]
  exact State.raiseMomentary_raised _ _ _

end

/-! ## A record appended to a train list (R88, R91) -/

section
variable {s : State} {t : Track} {r : TrainRecord} {counter : Fin 22}

theorem State.appendTrain_room (h : (s.tracker.lists.get t).length < 96) :
    s.appendTrain t r counter =
      (s.modTracker fun u => { u with lists := u.lists.set t (u.lists.get t ++ [r]) }).countTracker counter := if_pos h

theorem State.appendTrain_full (h : 96 ≤ (s.tracker.lists.get t).length) :
    s.appendTrain t r counter =
      ((s.raiseMomentary .trackFull { cabin := r.cabin }).locateSome r.cabin .nowhere).countTracker
        (Ctr.trackFull (trackIndex t)) := if_neg (Nat.not_lt.mpr h)

theorem State.appendTrain_full_lists (h : 96 ≤ (s.tracker.lists.get t).length) :
    (s.appendTrain t r counter).tracker.lists = s.tracker.lists ∧ (s.appendTrain t r counter).Raised .trackFull := by
  rw [State.appendTrain_full h, State.locateSome_eq]
  exact ⟨(State.Reports.raiseMomentary s _ _).lists, s.raiseMomentary_raised _ _⟩

end

end Sys2Proof.Machine


/-! The summit link together: timers, beats, terminal events (R137 to R144, R90, R91). -/

namespace Sys2Proof.Machine

/-! ## Arrivals at the summit -/

theorem State.summitArrivalGiven_own {s : State} {id i : Nat} (h : s.tracker.placeOf .up id = some i) (age : Nat) :
    s.summitArrivalGiven id age = (s.arrivalChecks .up i age).locate id .summit := by
  rw [State.summitArrivalGiven, h]

theorem State.summitArrivalGiven_anonymous {s : State} {id : Nat} (h : s.tracker.placeOf .up id = none)
    (hold : s.tracker.oldestAnonymous .up = true) (age : Nat) :
    s.summitArrivalGiven id age = (s.arrivalChecks .up 0 age).place id .summit := by
  rw [State.summitArrivalGiven, h, hold]
  rfl

theorem State.summitArrivalGiven_unknown {s : State} {id : Nat} (h : s.tracker.placeOf .up id = none)
    (hold : s.tracker.oldestAnonymous .up = false) (age : Nat) :
    s.summitArrivalGiven id age = s.unknownSummitArrival id := by
  rw [State.summitArrivalGiven, h, hold]
  rfl

theorem State.summitArrival_given {s : State} {id : Nat} {e : CabinEntry} (hid : id ≠ 0) (he : s.tracker.entry id = some e)
    (age : Nat) : s.summitArrival id age = (s.touched id).summitArrivalGiven id age := by
  rw [State.summitArrival, if_neg hid, State.resolve_known (by rw [he]; rfl)]

theorem State.summitArrival_unread (s : State) (age : Nat) : s.summitArrival 0 age = s.summitArrivalUnread age := rfl

theorem State.summitArrival_unresolved {s : State} {id : Nat} (hid : id ≠ 0) (hnone : s.tracker.entry id = none)
    (hlearn : ¬ (s.tracker.settings.learning = true ∧ s.tracker.cabins.length < 192)) (age : Nat) :
    s.summitArrival id age = (s.unknownTag id).summitArrivalUnresolved age := by
  rw [State.summitArrival, if_neg hid, State.resolve_unknown hnone hlearn]

/-- The location of a cabin with an entry once it is written. -/
theorem State.locate_location {s : State} {id : Nat} {e : CabinEntry} (he : s.tracker.entry id = some e) (l : Location) :
    ((s.locate id l).tracker.entry id).map (fun e => e.location) = some l := by
  rw [State.locate_entry, he]
  rfl

theorem State.touched_known {s : State} {id : Nat} {e : CabinEntry} (he : s.tracker.entry id = some e) :
    ∃ x, (s.touched id).tracker.entry id = some x ∧ x.profile = e.profile ∧ x.location = e.location := by
  rw [State.touched_entry, he]
  exact ⟨_, rfl, rfl, rfl⟩

theorem State.summitArrivalGiven_location {s : State} {id : Nat} {e : CabinEntry} (he : s.tracker.entry id = some e)
    (age : Nat) : ((s.summitArrivalGiven id age).tracker.entry id).map (fun e => e.location) = some .summit := by
  have hchecked : ∀ i, (s.arrivalChecks .up i age).tracker.entry id = some e := fun i =>
    ((s.arrivalChecks_takes .up i age).entry id).trans he
  unfold State.summitArrivalGiven
  split
  · exact State.locate_location (hchecked _) _
  · split
    · rw [State.place_eq]
      exact State.locate_location (((State.placeReported_clears _ id).entry id).trans (hchecked 0)) _
    · rw [State.unknownSummitArrival_eq]
      exact State.locate_location (((s.unknownSummitReported_clears id).entry id).trans he) _

/-- Causes and lists are untouched by a location written. -/
theorem State.Raised.locate {s : State} {c : Cause} (h : s.Raised c) (id : Nat) (l : Location) : (s.locate id l).Raised c := h

theorem State.arrivalChecks_other (s : State) (i age : Nat) :
    (s.arrivalChecks .up i age).tracker.lists.down = s.tracker.lists.down :=
  (s.arrivalChecks_takes .up i age).list (x := .down) nofun

section
variable {s : State} {id age : Nat}

theorem State.arrives_own {old new : List TrainRecord} {r : TrainRecord} (hl : s.tracker.lists.up = old ++ r :: new)
    (hr : r.cabin = some id) (hold : ∀ x ∈ old, x.cabin ≠ some id) :
    (s.summitArrivalGiven id age).tracker.lists.up = old ++ new ∧
      (s.summitArrivalGiven id age).tracker.lists.down = s.tracker.lists.down ∧
      (old ≠ [] → s.tracker.modes.up = .tracked → (s.summitArrivalGiven id age).Raised .orderFault) ∧
      (age ≠ 1023 ∧ s.rope.table.arrivalWindow < (s.arrivalDeviation .up r age).natAbs → s.tracker.modes.up = .tracked →
        (s.summitArrivalGiven id age).Raised .arrivalMismatch) := by
  have hget : s.tracker.lists.get .up = old ++ r :: new := hl
  rw [State.summitArrivalGiven_own (Tracker.placeOf_first hget hr hold)]
  refine ⟨?_, ?_, fun hne ht => ?_, fun ⟨hage, hfar⟩ ht => ?_⟩
  · exact State.arrivalChecks_list hget age
  · exact s.arrivalChecks_other _ age
  · exact (State.arrivalChecks_orderFault hget ht hne age).locate id .summit
  · exact (State.arrivalChecks_mismatch hget ht hage hfar).locate id .summit

theorem State.arrives_anonymous {r : TrainRecord} {rest : List TrainRecord} (hl : s.tracker.lists.up = r :: rest)
    (hr : r.cabin = none) (hrest : ∀ x ∈ rest, x.cabin ≠ some id) :
    (s.summitArrivalGiven id age).tracker.lists.up = rest ∧
      (s.summitArrivalGiven id age).tracker.lists.down = othersThan id s.tracker.lists.down ∧
      (age ≠ 1023 ∧ s.rope.table.arrivalWindow < (s.arrivalDeviation .up r age).natAbs → s.tracker.modes.up = .tracked →
        (s.summitArrivalGiven id age).Raised .arrivalMismatch) := by
  have hget : s.tracker.lists.get .up = [] ++ r :: rest := hl
  have habsent : s.tracker.placeOf .up id = none := Tracker.placeOf_absent fun x hx => by
    rw [hget] at hx
    obtain rfl | hx := List.mem_cons.mp hx
    · rw [hr]; exact nofun
    · exact hrest x hx
  have hold : s.tracker.oldestAnonymous .up = true := Tracker.oldestAnonymous_iff.mpr ⟨r, by rw [hget]; rfl, hr⟩
  have hclears := (s.arrivalChecks .up 0 age).placeReported_clears id
  have hup : (s.arrivalChecks .up 0 age).tracker.lists.up = rest := State.arrivalChecks_list hget age
  rw [State.summitArrivalGiven_anonymous habsent hold, State.place_eq]
  refine ⟨?_, ?_, fun ⟨hage, hfar⟩ ht => ?_⟩
  · exact (congrArg PerTrack.up hclears.lists).trans ((congrArg (othersThan id) hup).trans (othersThan_eq_self hrest))
  · exact (congrArg PerTrack.down hclears.lists).trans (congrArg (othersThan id) (s.arrivalChecks_other 0 age))
  · exact hclears.keepsLine.causes _ (State.arrivalChecks_mismatch hget ht hage hfar)

theorem State.arrives_unknown (hl : ∀ x ∈ s.tracker.lists.up, x.cabin ≠ some id)
    (hold : s.tracker.oldestAnonymous .up = false) :
    (s.summitArrivalGiven id age).tracker.lists.up = s.tracker.lists.up ∧
      (s.summitArrivalGiven id age).tracker.lists.down = othersThan id s.tracker.lists.down ∧
      (s.tracker.modes.up = .tracked → (s.summitArrivalGiven id age).Raised .orderFault) := by
  have hclears := s.unknownSummitReported_clears id
  rw [State.summitArrivalGiven_unknown (Tracker.placeOf_absent hl) hold, State.unknownSummitArrival_eq]
  refine ⟨?_, ?_, fun ht => ?_⟩
  · exact (congrArg PerTrack.up hclears.lists).trans (othersThan_eq_self hl)
  · exact congrArg PerTrack.down hclears.lists
  · exact (State.unknownSummitReported_raised ht id).locate id .summit

end

/-- An ARRIVAL that gives no ID takes the oldest record (R90). -/
theorem State.summitArrivalUnread_leaves (s : State) (age : Nat) :
    (s.summitArrivalUnread age).Raised .tagUnread ∧
      (s.summitArrivalUnread age).tracker.lists.up = s.tracker.lists.up.tail ∧
      (s.summitArrivalUnread age).tracker.lists.down = s.tracker.lists.down ∧
      (s.tracker.lists.up = [] → s.tracker.modes.up = .tracked → (s.summitArrivalUnread age).Raised .orderFault) ∧
      ∀ (r : TrainRecord) (rest : List TrainRecord) (id : Nat) (e : CabinEntry), s.tracker.lists.up = r :: rest →
        r.cabin = some id → s.tracker.entry id = some e →
        ((s.summitArrivalUnread age).tracker.entry id).map (fun e => e.location) = some .summit := by
  cases hl : s.tracker.lists.up with
  | nil =>
    have hunread : s.summitArrivalUnread age = (s.raiseMomentary .tagUnread {}).unknownArrival .up none := by
      rw [State.summitArrivalUnread, hl]
    have htag := s.raiseMomentary_raised .tagUnread {}
    have hreports := (State.Reports.raiseMomentary s .tagUnread {}).trans (State.unknownArrival_reports _ .up none)
    rw [hunread]
    refine ⟨(State.unknownArrival_reports _ .up none).causes _ htag, ?_, ?_, fun _ ht => ?_, fun r rest id e h => nomatch h⟩
    · rw [hreports.lists, hl]; rfl
    · rw [hreports.lists]
    · exact State.unknownArrival_raised (t := .up) (by rw [State.raiseMomentary_tracker]; exact ht) none
  | cons r rest =>
    have hget : s.tracker.lists.get .up = [] ++ r :: rest := hl
    have hunread : s.summitArrivalUnread age =
        ((s.arrivalChecks .up 0 age).raiseMomentary .tagUnread { cabin := r.cabin }).locateSome r.cabin .summit := by
      rw [State.summitArrivalUnread, hl]
    have hup : (s.arrivalChecks .up 0 age).tracker.lists.up = rest := State.arrivalChecks_list hget age
    have hreports := State.Reports.raiseMomentary (s.arrivalChecks .up 0 age) .tagUnread { cabin := r.cabin }
    have hlocated := State.KeepsLine.locateSome
      ((s.arrivalChecks .up 0 age).raiseMomentary .tagUnread { cabin := r.cabin }) r.cabin .summit
    have hlists : (s.summitArrivalUnread age).tracker.lists = (s.arrivalChecks .up 0 age).tracker.lists := by
      rw [hunread, State.locateSome_eq]
      exact hreports.lists
    refine ⟨?_, ?_, ?_, nofun, fun r' rest' id e h hid he => ?_⟩
    · rw [hunread]
      exact hlocated.causes _ (State.raiseMomentary_raised _ _ _)
    · rw [hlists]; exact hup
    · rw [hlists]; exact s.arrivalChecks_other 0 age
    · obtain ⟨rfl, -⟩ := List.cons.inj h
      rw [hid] at hreports hunread
      rw [hunread]
      exact State.locate_location ((hreports.entry id).trans (((s.arrivalChecks_takes .up 0 age).entry id).trans he)) _

theorem State.summitArrivalUnresolved_leaves (s : State) (age : Nat) :
    (s.summitArrivalUnresolved age).tracker.cabins = s.tracker.cabins ∧
      (s.summitArrivalUnresolved age).tracker.lists.down = s.tracker.lists.down ∧
      (s.summitArrivalUnresolved age).tracker.lists.up =
        (if s.tracker.oldestAnonymous .up then s.tracker.lists.up.tail else s.tracker.lists.up) ∧
      s.KeepsLine (s.summitArrivalUnresolved age) := by
  unfold State.summitArrivalUnresolved
  split
  · next hold =>
    have htakes := s.arrivalChecks_takes .up 0 age
    obtain ⟨r, hr, -⟩ := Tracker.oldestAnonymous_iff.mp hold
    obtain ⟨rest, hl⟩ := List.head?_eq_some_iff.mp hr
    refine ⟨htakes.cabins, s.arrivalChecks_other 0 age, ?_, .of_takes htakes⟩
    have hup : s.tracker.lists.up = r :: rest := hl
    rw [hup]
    exact State.arrivalChecks_list (old := []) hl age
  · have hreports := s.unknownArrival_reports .up none
    exact ⟨hreports.cabins, by rw [hreports.lists], by rw [hreports.lists], .of_reports hreports⟩

theorem State.summitArrivalGiven_keepsLine (s : State) (id age : Nat) : s.KeepsLine (s.summitArrivalGiven id age) := by
  unfold State.summitArrivalGiven
  split
  · exact (State.KeepsLine.of_takes (s.arrivalChecks_takes .up _ age)).trans (.locate _ id .summit)
  · split
    · rw [State.place_eq]
      exact ((State.KeepsLine.of_takes (s.arrivalChecks_takes .up 0 age)).trans
        (State.placeReported_clears _ id).keepsLine).trans (.locate _ id .summit)
    · rw [State.unknownSummitArrival_eq]
      exact (s.unknownSummitReported_clears id).keepsLine.trans (.locate _ id .summit)

theorem State.summitArrivalUnread_keepsLine (s : State) (age : Nat) : s.KeepsLine (s.summitArrivalUnread age) := by
  unfold State.summitArrivalUnread
  split
  · exact ((State.KeepsLine.of_takes (s.arrivalChecks_takes .up 0 age)).trans
      (.of_reports (.raiseMomentary _ _ _))).trans (.locateSome _ _ .summit)
  · exact .of_reports ((State.Reports.raiseMomentary s _ _).trans (State.unknownArrival_reports _ .up none))

theorem State.summitArrival_keepsLine (s : State) (id age : Nat) : s.KeepsLine (s.summitArrival id age) := by
  have hresolve := State.KeepsLine.resolve s id
  unfold State.summitArrival
  split
  · exact s.summitArrivalUnread_keepsLine age
  · cases h : s.resolve id with
    | mk u given =>
      rw [h] at hresolve
      cases given with
      | true => exact hresolve.trans (u.summitArrivalGiven_keepsLine id age)
      | false => exact hresolve.trans (u.summitArrivalUnresolved_leaves age).2.2.2

/-! ## Departures from the summit -/

theorem State.placeDeparture_keepsLine (s : State) (id : Nat) : s.KeepsLine (s.placeDeparture id) := by
  rw [State.placeDeparture_eq]
  exact (s.departureReported_clears id).keepsLine.trans (.locate _ id .down)

theorem State.summitDeparture_keepsLine (s : State) (id age : Nat) : s.KeepsLine (s.summitDeparture id age) := by
  have hresolve := State.KeepsLine.resolve s id
  unfold State.summitDeparture State.appendDeparture
  split
  · exact (State.KeepsLine.of_reports (.raiseMomentary s _ _)).trans (.appendTrain _ _ _ _)
  · cases h : s.resolve id with
    | mk u given =>
      rw [h] at hresolve
      cases given with
      | true => exact (hresolve.trans (u.placeDeparture_keepsLine id)).trans (.appendTrain _ _ _ _)
      | false => exact hresolve.trans (.appendTrain _ _ _ _)

theorem State.summitDeparture_given {s : State} {id : Nat} {e : CabinEntry} (hid : id ≠ 0)
    (he : s.tracker.entry id = some e) (age : Nat) :
    s.summitDeparture id age = ((s.touched id).placeDeparture id).appendDeparture (some id) age := by
  rw [State.summitDeparture, if_neg hid, State.resolve_known (by rw [he]; rfl)]

theorem State.summitDeparture_unread (s : State) (age : Nat) :
    s.summitDeparture 0 age = (s.raiseMomentary .tagUnread {}).appendDeparture none age := rfl

theorem State.summitDeparture_unresolved {s : State} {id : Nat} (hid : id ≠ 0) (hnone : s.tracker.entry id = none)
    (hlearn : ¬ (s.tracker.settings.learning = true ∧ s.tracker.cabins.length < 192)) (age : Nat) :
    s.summitDeparture id age = (s.unknownTag id).appendDeparture none age := by
  rw [State.summitDeparture, if_neg hid, State.resolve_unknown hnone hlearn]

/-- A departure without a cabin. -/
theorem State.appendDeparture_anonymous (s : State) (age : Nat) :
    (s.appendDeparture none age).tracker.lists =
        ⟨s.tracker.lists.up,
          if s.tracker.lists.down.length < 96 then
            s.tracker.lists.down ++ [⟨none, false, s.rope.departureOdo age, 0, s.tracker.settings.profile⟩]
          else s.tracker.lists.down⟩ ∧
      (96 ≤ s.tracker.lists.down.length → (s.appendDeparture none age).Raised .trackFull) ∧
      s.KeepsLine (s.appendDeparture none age) := by
  refine ⟨?_, fun h => (State.appendTrain_full_lists (t := .down) h).2, .appendTrain s _ _ _⟩
  by_cases h : s.tracker.lists.down.length < 96
  · rw [if_pos h, State.appendDeparture, State.appendTrain_room (t := .down) h]
    rfl
  · rw [if_neg h, State.appendDeparture, (State.appendTrain_full_lists (t := .down) (Nat.not_lt.mp h)).1]

/-- A departure of a cabin with an entry. -/
theorem State.departs_given {s : State} {id : Nat} {e : CabinEntry} (he : s.tracker.entry id = some e) (age : Nat) :
    ((s.placeDeparture id).appendDeparture (some id) age).tracker.lists.up = othersThan id s.tracker.lists.up ∧
      (s.tracker.modes.down = .tracked → e.location ≠ .summit →
        ((s.placeDeparture id).appendDeparture (some id) age).Raised .orderFault) ∧
      ((othersThan id s.tracker.lists.down).length < 96 →
        ((s.placeDeparture id).appendDeparture (some id) age).tracker.lists.down =
            othersThan id s.tracker.lists.down ++ [⟨some id, false, s.rope.departureOdo age, 0, e.profile⟩] ∧
          (((s.placeDeparture id).appendDeparture (some id) age).tracker.entry id).map (fun e => e.location) = some .down) ∧
      (96 ≤ (othersThan id s.tracker.lists.down).length →
        ((s.placeDeparture id).appendDeparture (some id) age).tracker.lists.down = othersThan id s.tracker.lists.down ∧
          ((s.placeDeparture id).appendDeparture (some id) age).Raised .trackFull ∧
          (((s.placeDeparture id).appendDeparture (some id) age).tracker.entry id).map (fun e => e.location) =
            some .nowhere) := by
  have hclears := s.departureReported_clears id
  have hplaced : (s.placeDeparture id).tracker.entry id = some { e with location := .down } := by
    rw [State.placeDeparture_eq, State.locate_entry, hclears.entry id, he]
    rfl
  have hlists : (s.placeDeparture id).tracker.lists =
      ⟨othersThan id s.tracker.lists.up, othersThan id s.tracker.lists.down⟩ := by
    rw [State.placeDeparture_eq]
    exact hclears.lists
  have hfault : s.tracker.modes.down = .tracked → e.location ≠ .summit → (s.placeDeparture id).Raised .orderFault := by
    intro ht hloc
    rw [State.placeDeparture_eq]
    refine (State.departureReported_raised ht ?_).locate id .down
    rw [Tracker.departsWrongly, he]
    exact decide_eq_true hloc
  have hrope : (s.placeDeparture id).rope = s.rope := by simp
  have hprofile : (s.placeDeparture id).tracker.profileOf (some id) = e.profile := by
    rw [Tracker.profileOf_some, hplaced]
  rw [State.appendDeparture, hrope, hprofile]
  generalize s.placeDeparture id = v at hplaced hlists hfault
  have hdown : v.tracker.lists.get .down = othersThan id s.tracker.lists.down := by rw [hlists]; rfl
  refine ⟨?_, fun ht hloc => (State.KeepsLine.appendTrain v _ _ _).causes _ (hfault ht hloc), fun hlen => ?_, fun hlen => ?_⟩
  · by_cases hlen : (v.tracker.lists.get .down).length < 96
    · rw [State.appendTrain_room hlen]
      exact congrArg PerTrack.up hlists
    · rw [(State.appendTrain_full_lists (Nat.not_lt.mp hlen)).1, hlists]
  · rw [State.appendTrain_room (by rw [hdown]; exact hlen)]
    refine ⟨?_, ?_⟩
    · exact congrArg (· ++ _) hdown
    · exact congrArg (Option.map fun e => e.location) hplaced
  · have hfull : 96 ≤ (v.tracker.lists.get .down).length := by rw [hdown]; exact hlen
    obtain ⟨hsame, hraised⟩ := State.appendTrain_full_lists (r := ⟨some id, false, s.rope.departureOdo age, 0, e.profile⟩)
      (counter := Ctr.departures) hfull
    refine ⟨by rw [hsame, hlists], hraised, ?_⟩
    rw [State.appendTrain_full hfull]
    exact State.locate_location (((State.Reports.raiseMomentary v _ _).entry id).trans hplaced) .nowhere

end Sys2Proof.Machine


/-! The summit link supervisor, together (chapter 8, R90, R91). -/

namespace Sys2Proof.Machine

theorem State.takeTerminal_malformed {s : State} {ev : Option TerminalKind} {cabin age : Nat}
    (h : ev = none ∨ 4095 < cabin ∨ 1023 < age) : s.takeTerminal (.terminal ev cabin age) = s.countLink Ctr.malformedEvent := by
  cases ev with
  | none => rfl
  | some event => exact if_pos (h.resolve_left nofun)

section
variable {s : State} {cabin age : Nat} (hcabin : cabin ≤ 4095) (hage : age ≤ 1023)
include hcabin hage

theorem State.takeTerminal_arrival :
    s.takeTerminal (.terminal (some .arrival) cabin age) = (s.countLink Ctr.arrivalEvent).summitArrival cabin age :=
  if_neg fun h => h.elim (fun h => absurd hcabin (Nat.not_le.mpr h)) fun h => absurd hage (Nat.not_le.mpr h)

theorem State.takeTerminal_departure :
    s.takeTerminal (.terminal (some .departure) cabin age) =
      (s.countLink Ctr.departureEvent).summitDeparture cabin age :=
  if_neg fun h => h.elim (fun h => absurd hcabin (Nat.not_le.mpr h)) fun h => absurd hage (Nat.not_le.mpr h)

end

/-- A consumed frame of the summit reaches the supervisor with the link, the rope and the tracker as they were. -/
theorem summitFrame_reaches {s : State} {bytes : List Byte} {contents : Contents} {k : Kind} (hpin : s.pinHeld = false)
    (hopen : s.line.mode = .active ∨ s.line.mode = .warned ∨ s.line.mode = .muted) (hcheck : frameCheck bytes = none)
    (hsrc : ((bytes.getD 1 0).extractLsb' 0 7 : Addr) = 63) (hk : k = .beat ∨ k = .terminalEvent)
    (hkind : kindOfCode ((bytes.getD 2 0).toNat / 16) = some k) :
    ∃ u : State, u.link = s.link ∧ u.rope = s.rope ∧ u.tracker = s.tracker ∧
      (k = .beat → exec (.frameReceived .line bytes contents) s = .next (u.takeBeat (bytes.length - 6) contents)) ∧
      (k = .terminalEvent → exec (.frameReceived .line bytes contents) s = .next (u.takeTerminal contents)) := by
  obtain ⟨-, hconsumed, -⟩ := goodFrameIsForwarded s .line bytes contents k hpin hopen hcheck hkind
  obtain ⟨-, -, hbeat, hterminal, -⟩ := hconsumed (.inr (.inr (.inl ⟨hk, rfl, hsrc⟩)))
  refine ⟨_, ?_, ?_, ?_, hbeat, hterminal⟩
  · split <;> simp
  · split <;> simp
  · split <;> simp

/-- A departure without a cabin, after causes raised that leave the rope. -/
theorem State.departs_anonymous {s v : State} (h : s.Reports v) (hrope : v.rope = s.rope) (age : Nat) :
    (v.appendDeparture none age).tracker.lists =
        ⟨s.tracker.lists.up,
          if s.tracker.lists.down.length < 96 then
            s.tracker.lists.down ++ [⟨none, false, s.rope.departureOdo age, 0, s.tracker.settings.profile⟩]
          else s.tracker.lists.down⟩ ∧
      (96 ≤ s.tracker.lists.down.length → (v.appendDeparture none age).Raised .trackFull) ∧
      ∀ c, v.Raised c → (v.appendDeparture none age).Raised c := by
  obtain ⟨hlists, hfull, hkeeps⟩ := v.appendDeparture_anonymous age
  rw [h.lists, h.settings, hrope] at hlists
  rw [h.lists] at hfull
  exact ⟨hlists, hfull, hkeeps.causes⟩

/-- Settles O30: timers and beats by the equation of each, terminal events by the record or cabin each meets. -/
theorem summitLinkTimersAndBeats : Obligations.SummitLinkTimersAndBeats := by
  refine ⟨fun s hpin => ?timers, fun s number c => ?beats, fun s bytes contents hpin hopen hcheck hsrc => ?frames,
    fun s event cabin age => ?events, fun s cabin age hcabin hage => ?arrival, fun s cabin age hcabin hage => ?departure⟩
  case timers =>
    have hlate : exec .lateTimerExpiry s = .next s.lateExpiry := State.live_run hpin State.lateExpiry
    refine ⟨State.live_run hpin State.guardExpiry, State.live_run hpin State.valleyBeat, fun h => ?_, fun n h => ?_⟩
    · rw [hlate, State.lateExpiry, h]
      rfl
    · have hsilent : s.lateExpiry = s.enterSilent := if_pos (by rw [h]; rfl)
      exact ⟨_, by rw [hlate, hsilent], s.enterSilent_leaves⟩
  case beats =>
    refine ⟨fun hguard => ?accepted, fun g => fun hg => State.takeBeat_early hg number c, fun n hn => ?length,
      fun n contents => State.takeBeat_malformed, fun n => State.takeBeat_malformed nofun, State.takeBeat_malformed nofun⟩
    case length => exact if_pos hn
    case accepted =>
      have hlink := s.beaten_link number
      obtain ⟨hrope, htracker⟩ := s.beaten_sameRun number
      have hrequest : (s.beaten number).followLink.link.request = s.link.request := by
        rw [State.followLink_link, hlink]
      rw [State.takeBeat_accepts hguard, State.acceptBeat_eq]
      refine ⟨?_, ?_, ?_, fun hstate => ?_, fun hrank => ?_, fun hne hc => ?_⟩
      · rw [State.readRequest_link, State.followLink_link, hlink]
        rfl
      · rw [((s.beaten number).followLink.readRequest_sameRun c).1, (s.beaten number).followLink_sameRun.1, hrope]
      · rw [((s.beaten number).followLink.readRequest_sameRun c).2, (s.beaten number).followLink_sameRun.2, htracker]
      · exact State.readRequest_gone (State.followLink_gone (by rw [hlink]; exact hstate)) c
      · exact State.readRequest_raises (by rw [hrequest]; exact hrank)
      · rw [hc]
        exact State.readRequest_withdraws (by rw [hrequest]; exact hne)
  case frames =>
    refine ⟨fun hcode => ?_, fun hcode => ?_⟩
    · obtain ⟨u, hlink, hrope, htracker, hbeat, -⟩ := summitFrame_reaches (contents := contents) hpin hopen hcheck hsrc (.inl rfl)
        (by rw [hcode]; rfl)
      exact ⟨u, hbeat rfl, hlink, hrope, htracker⟩
    · obtain ⟨u, hlink, hrope, htracker, -, hterminal⟩ := summitFrame_reaches (contents := contents) hpin hopen hcheck hsrc
        (.inr rfl) (by rw [hcode]; rfl)
      exact ⟨u, hterminal rfl, hlink, hrope, htracker⟩
  case events =>
    refine ⟨fun ev => State.takeTerminal_malformed, rfl, fun hcabin hage => ?_⟩
    cases event with
    | arrival =>
      have hkeeps := (s.countLink Ctr.arrivalEvent).summitArrival_keepsLine cabin age
      rw [State.takeTerminal_arrival hcabin hage]
      exact ⟨hkeeps.link, hkeeps.modes, hkeeps.settings, hkeeps.odo⟩
    | departure =>
      have hkeeps := (s.countLink Ctr.departureEvent).summitDeparture_keepsLine cabin age
      rw [State.takeTerminal_departure hcabin hage]
      exact ⟨hkeeps.link, hkeeps.modes, hkeeps.settings, hkeeps.odo⟩
  case arrival =>
    rw [State.takeTerminal_arrival hcabin hage]
    refine ⟨fun e hne he => ?given, fun hzero => ?unread, fun hne hnone hlearn => ?unknown⟩
    case given =>
      rw [State.summitArrival_given (s := s.countLink Ctr.arrivalEvent) hne he]
      obtain ⟨x, hx, -, -⟩ := State.touched_known (s := s.countLink Ctr.arrivalEvent) he
      refine ⟨State.summitArrivalGiven_location hx age, fun old new r hl hr hold => ?_, fun r rest hl hr hrest => ?_,
        fun hl hold => ?_⟩
      · exact State.arrives_own (s := (s.countLink Ctr.arrivalEvent).touched cabin) hl hr hold
      · exact State.arrives_anonymous (s := (s.countLink Ctr.arrivalEvent).touched cabin) hl hr hrest
      · exact State.arrives_unknown (s := (s.countLink Ctr.arrivalEvent).touched cabin) hl hold
    case unread =>
      rw [hzero, State.summitArrival_unread]
      exact (s.countLink Ctr.arrivalEvent).summitArrivalUnread_leaves age
    case unknown =>
      have hlearn' : ¬ (s.tracker.settings.learning = true ∧ s.tracker.cabins.length < 192) := fun ⟨hl, hroom⟩ =>
        hlearn.elim (fun h => by rw [hl] at h; cases h) fun h => absurd hroom (Nat.not_lt.mpr h)
      have hreports := (s.countLink Ctr.arrivalEvent).unknownTag_reports cabin
      obtain ⟨hcabins, hdown, hup, hkeeps⟩ := ((s.countLink Ctr.arrivalEvent).unknownTag cabin).summitArrivalUnresolved_leaves age
      rw [State.summitArrival_unresolved (s := s.countLink Ctr.arrivalEvent) hne hnone hlearn']
      refine ⟨hkeeps.causes _ (State.unknownTag_raised _ cabin), hcabins.trans hreports.cabins, ?_, ?_⟩
      · rw [hdown, hreports.lists]; rfl
      · rw [hup, Tracker.oldestAnonymous, hreports.lists]; rfl
  case departure =>
    intro t inSet others odo anonymous
    have hrope : t.rope = s.rope := by
      simp only [t, State.takeTerminal_departure hcabin hage, State.summitDeparture_rope]
      rfl
    refine ⟨hrope, fun e hne he => ?given, fun hzero => ?unread, fun hne hnone hlearn => ?unknown⟩
    case given =>
      have ht : t = (((s.countLink Ctr.departureEvent).touched cabin).placeDeparture cabin).appendDeparture (some cabin) age :=
        (State.takeTerminal_departure hcabin hage).trans
          (State.summitDeparture_given (s := s.countLink Ctr.departureEvent) hne he age)
      obtain ⟨x, hx, hprofile, hlocation⟩ := State.touched_known (s := s.countLink Ctr.departureEvent) he
      have hleaves := State.departs_given hx age
      rw [← ht, hprofile, hlocation] at hleaves
      exact hleaves
    case unread =>
      have ht : t = ((s.countLink Ctr.departureEvent).raiseMomentary .tagUnread {}).appendDeparture none age := by
        rw [show t = _ from State.takeTerminal_departure hcabin hage, hzero]
        rfl
      have hreports := State.Reports.raiseMomentary (s.countLink Ctr.departureEvent) .tagUnread {}
      obtain ⟨hlists, hfull, hkeeps⟩ := State.departs_anonymous hreports (State.raiseMomentary_rope _ _ _) age
      rw [← ht] at hlists hfull hkeeps
      exact ⟨hkeeps _ (State.raiseMomentary_raised _ _ _), hlists, hfull⟩
    case unknown =>
      have hlearn' : ¬ (s.tracker.settings.learning = true ∧ s.tracker.cabins.length < 192) := fun ⟨hl, hroom⟩ =>
        hlearn.elim (fun h => by rw [hl] at h; cases h) fun h => absurd hroom (Nat.not_lt.mpr h)
      have ht : t = ((s.countLink Ctr.departureEvent).unknownTag cabin).appendDeparture none age :=
        (State.takeTerminal_departure hcabin hage).trans
          (State.summitDeparture_unresolved (s := s.countLink Ctr.departureEvent) hne hnone hlearn' age)
      obtain ⟨hlists, -, hkeeps⟩ := State.departs_anonymous ((s.countLink Ctr.departureEvent).unknownTag_reports cabin)
        (State.raiseMomentary_rope _ _ _) age
      rw [← ht] at hlists hkeeps
      exact ⟨hkeeps _ (State.unknownTag_raised _ cabin), hlists⟩

end Sys2Proof.Machine


/-! The station list through raised causes, and the launch of a record (R109 to R111). -/

namespace Sys2Proof.Machine

/-! ## The station list through a raise: a halt may write doors UNKNOWN -/

/-- A step that leaves the detectors, and of each record of the station list all but a door state written UNKNOWN. -/
structure State.RailKept (s u : State) : Prop where
  records : ∃ f : StationRecord → StationRecord, u.rail.cabins = s.rail.cabins.map f ∧
    ∀ r, (f r).listing = r.listing ∧ ((f r).door = r.door ∨ (f r).door = .unknown)
  detectors : u.rail.detectors = s.rail.detectors

namespace State.RailKept

variable {s u v : State}

theorem of_eq (hcabins : u.rail.cabins = s.rail.cabins) (hdetectors : u.rail.detectors = s.rail.detectors) : s.RailKept u :=
  ⟨⟨id, hcabins.trans (List.map_id _).symm, fun _ => ⟨rfl, .inl rfl⟩⟩, hdetectors⟩

theorem refl (s : State) : s.RailKept s := of_eq rfl rfl

theorem trans (h : s.RailKept u) (k : u.RailKept v) : s.RailKept v := by
  obtain ⟨⟨f, hf, hkeep⟩, hdetectors⟩ := h
  obtain ⟨⟨g, hg, hkeep'⟩, hdetectors'⟩ := k
  refine ⟨⟨g ∘ f, by rw [hg, hf, List.map_map], fun r => ⟨((hkeep' (f r)).1).trans (hkeep r).1, ?_⟩⟩,
    hdetectors'.trans hdetectors⟩
  obtain hdoor | hdoor := (hkeep' (f r)).2
  · exact (hkeep r).2.imp hdoor.trans hdoor.trans
  · exact .inr hdoor

theorem doorWrite (s : State) (n : BitVec 16) : s.RailKept (s.doorWrite n .unknown) := by
  unfold State.doorWrite
  split
  · refine ⟨⟨_, rfl, fun r => ?_⟩, rfl⟩
    split
    · exact ⟨rfl, .inr rfl⟩
    · exact ⟨rfl, .inl rfl⟩
  · exact of_eq rfl rfl

theorem channelWrite (s : State) (k : Fin 8) : s.RailKept (s.channelWrite k .unknown) := by
  unfold State.channelWrite
  split
  · exact refl s
  · split
    · exact (doorWrite s _).trans (of_eq rfl rfl)
    · exact refl s

theorem haltChannel (s : State) (k : Fin 8) : s.RailKept (s.haltChannel k) := by
  have hwrite : s.RailKept
      (if (s.channel k).action.isSome then (s.countDoors (Ctr.halt k)).channelWrite k .unknown else s) := by
    split
    · exact (of_eq (s := s) (u := s.countDoors (Ctr.halt k)) rfl rfl).trans (channelWrite _ k)
    · exact refl s
  unfold State.haltChannel
  dsimp only
  split
  · exact hwrite.trans (of_eq rfl rfl)
  · exact refl s

theorem haltAll (s : State) : s.RailKept s.haltAll := by
  have hfold : ∀ (l : List (Fin 8)) (s : State), s.RailKept (l.foldl State.haltChannel s) := by
    intro l
    induction l with
    | nil => exact fun s => refl s
    | cons k l ih => exact fun s => (haltChannel s k).trans (ih _)
  exact hfold _ s

theorem raise (s : State) (c : Cause) (d : Detail) (m : Bool) : s.RailKept (s.raise c d m) := by
  by_cases hrises : s.chain.asserted = .emergency ∨ (s.raise c d m).chain.asserted ≠ .emergency
  · obtain ⟨-, hrail⟩ := State.raise_haltsNot hrises
    exact of_eq (by rw [hrail]) (by rw [hrail])
  · obtain ⟨hold, hnew⟩ := not_or.mp hrises
    obtain ⟨-, hrail⟩ := State.raise_halts hold (Decidable.of_not_not hnew)
    exact (haltAll s).trans (of_eq (by rw [hrail]) (by rw [hrail]))

theorem raiseMomentary (s : State) (c : Cause) (d : Detail) : s.RailKept (s.raiseMomentary c d) := raise s c d true

theorem trackRaise (s : State) (t : Track) (c : Cause) (d : Detail) : s.RailKept (s.trackRaise t c d) := by
  unfold State.trackRaise
  split
  · exact raiseMomentary s c d
  · exact of_eq rfl rfl

theorem findIdx (h : s.RailKept u) (q : Option Nat → Bool) :
    (u.rail.cabins.findIdx? fun r => q r.cabin) = s.rail.cabins.findIdx? fun r => q r.cabin := by
  obtain ⟨⟨f, hf, hkeep⟩, -⟩ := h
  have hcabin : (fun r : StationRecord => q r.cabin) ∘ f = fun r => q r.cabin :=
    funext fun r => congrArg (fun x : BitVec 16 × Option Nat × Bool × Profile × Nat => q x.2.1) (hkeep r).1
  rw [hf, List.findIdx?_map, hcabin]

/-- The record at a place is the one that stood there, but for a door state written UNKNOWN. -/
theorem getElem (h : s.RailKept u) {i : Nat} {r : StationRecord} (hr : s.rail.cabins[i]? = some r) :
    ∃ d, u.rail.cabins[i]? = some { r with door := d } ∧ (d = r.door ∨ d = .unknown) := by
  obtain ⟨⟨f, hf, hkeep⟩, -⟩ := h
  obtain ⟨hlisting, hdoor⟩ := hkeep r
  have hsame : f r = { r with door := (f r).door } := by
    simp only [StationRecord.listing, Prod.mk.injEq] at hlisting
    obtain ⟨hnumber, hcabin, hinferred, hprofile, hprogress⟩ := hlisting
    exact (StationRecord.mk.injEq ..).mpr ⟨hnumber, hcabin, hinferred, hprofile, hprogress, rfl⟩
  refine ⟨(f r).door, ?_, hdoor⟩
  rw [hf, List.getElem?_map, hr, ← hsame]
  rfl

theorem fitted (h : s.RailKept u) (d : Fin 9) : u.fitted d = s.fitted d := by
  rw [State.fitted, State.fitted, h.detectors]

end State.RailKept

/-! ## The record a launch read takes (R109, R110) -/

/-- A list without its first record of a cabin. -/
theorem eraseIdx_first {cabin : Option Nat} {l : List StationRecord} {i : Nat}
    (h : (l.findIdx? fun r => decide (r.cabin = cabin)) = some i) :
    l.eraseIdx i =
      (l.takeWhile fun x => decide (x.cabin ≠ cabin)) ++ (l.dropWhile fun x => decide (x.cabin ≠ cabin)).tail := by
  induction l generalizing i with
  | nil => cases h
  | cons r l ih =>
    by_cases hr : r.cabin = cabin
    · rw [List.findIdx?_cons, decide_eq_true hr] at h
      cases h
      rw [List.takeWhile_cons_of_neg (by simpa using hr), List.dropWhile_cons_of_neg (by simpa using hr)]
      rfl
    · rw [List.findIdx?_cons, decide_eq_false hr] at h
      obtain ⟨j, hj, rfl⟩ := Option.map_eq_some_iff.mp h
      rw [List.takeWhile_cons_of_pos (by simpa using hr), List.dropWhile_cons_of_pos (by simpa using hr),
        List.eraseIdx_cons_succ, ih hj]
      rfl

/-- The launch of a record, listed or formed (R111), with LCK fitted or not and the odometer as it stood at the read. -/
def State.launched (fitted : Bool) (odo : Odo) (u : State) (listed inferred : Bool) (r : StationRecord) : State :=
  let v := if r.door = .closedLocked then u else u.raiseMomentary .doorNotLocked { cabin := r.cabin }
  let v := if fitted = true ∧ r.progress < 9 then v.countRail Ctr.unchecked else v
  let v := if listed then
      (v.modRail fun w =>
        { w with cabins :=
          (w.cabins.takeWhile fun x => decide (x.cabin ≠ r.cabin)) ++
            (w.cabins.dropWhile fun x => decide (x.cabin ≠ r.cabin)).tail }).modDoors fun w =>
        { w with channels := w.channels.map fun (c : Channel) =>
          if (c.served.map Served.number) = some r.number then { c with served := none } else c }
    else v
  let v := v.countRail Ctr.railLaunches
  let v : State := match r.cabin with
    | some id =>
      (v.modTracker fun w =>
        { w with cabins := w.cabins.map fun (e : CabinEntry) =>
          if e.id = id then { e with trips := min 65535 (e.trips + 1) } else e }).place id .up
    | none => v
  if v.tracker.lists.up.length < 96 then
    (v.modTracker fun w =>
      { w with lists := { w.lists with up := w.lists.up ++ [⟨r.cabin, inferred, odo, 0, r.profile⟩] }
        }).countTracker Ctr.launches
  else
    ((v.raiseMomentary .trackFull { cabin := r.cabin }).modTracker fun w =>
      { w with cabins := w.cabins.map fun e => if some e.id = r.cabin then { e with location := .nowhere } else e
        }).countTracker (Ctr.trackFull 0)

/-- The hand-off of a launch, written out (R88). -/
theorem State.valleyLaunch_written (v : State) (cabin : Option Nat) (inferred : Bool) (p : Profile) :
    v.valleyLaunch cabin inferred p =
      let x : State := match cabin with
        | some id =>
          (v.modTracker fun w =>
            { w with cabins := w.cabins.map fun (e : CabinEntry) =>
              if e.id = id then { e with trips := min 65535 (e.trips + 1) } else e }).place id .up
        | none => v
      if x.tracker.lists.up.length < 96 then
        (x.modTracker fun w =>
          { w with lists := { w.lists with up := w.lists.up ++ [⟨cabin, inferred, v.rope.odo, 0, p⟩] }
            }).countTracker Ctr.launches
      else
        ((x.raiseMomentary .trackFull { cabin := cabin }).modTracker fun w =>
          { w with cabins := w.cabins.map fun e => if some e.id = cabin then { e with location := .nowhere } else e
            }).countTracker (Ctr.trackFull 0) := by
  have hplaced : (v.countTrip cabin).placeSome cabin .up = match cabin with
      | some id =>
        (v.modTracker fun w =>
          { w with cabins := w.cabins.map fun (e : CabinEntry) =>
            if e.id = id then { e with trips := min 65535 (e.trips + 1) } else e }).place id .up
      | none => v := by
    cases cabin with
    | none => rfl
    | some id =>
      refine congrArg (fun f : CabinEntry → CabinEntry => (v.modTracker fun w =>
        { w with cabins := w.cabins.map fun e => if e.id = id then f e else e }).place id .up) (funext fun e => ?_)
      rw [satAdd_one]
  have hrope : ((v.countTrip cabin).placeSome cabin .up).rope = v.rope := by
    cases cabin <;> simp [State.placeSome]
  dsimp only
  rw [State.valleyLaunch, hrope, hplaced]
  generalize (match cabin with
      | some id =>
        (v.modTracker fun w =>
          { w with cabins := w.cabins.map fun (e : CabinEntry) =>
            if e.id = id then { e with trips := min 65535 (e.trips + 1) } else e }).place id .up
      | none => v) = x
  by_cases h : x.tracker.lists.up.length < 96
  · rw [if_pos h]
    exact State.appendTrain_room (t := .up) h
  · rw [if_neg h, ← State.locateSome_eq]
    exact State.appendTrain_full (t := .up) (Nat.not_lt.mp h)

end Sys2Proof.Machine


/-! Reads from LCH (R109 to R111): the record chosen or formed, and its launch. -/

namespace Sys2Proof.Machine

/-! ## The launch once its record is chosen -/

/-- The door check of a launch. -/
def State.doorChecked (u : State) (r : StationRecord) : State :=
  if r.door = .closedLocked then u else u.raiseNotLocked r.cabin

/-- The door check and the lock-check record of a launch. -/
def State.lockChecked (u : State) (fitted : Bool) (r : StationRecord) : State :=
  if fitted = true ∧ r.progress < 9 then (u.doorChecked r).countRail Ctr.unchecked else u.doorChecked r

theorem State.doorChecked_keeps (u : State) (r : StationRecord) :
    u.RailKept (u.doorChecked r) ∧ (u.doorChecked r).rope = u.rope ∧ u.Reports (u.doorChecked r) := by
  unfold State.doorChecked
  split
  · exact ⟨.refl u, rfl, .refl u⟩
  · exact ⟨.raiseMomentary u _ _, State.raiseMomentary_rope _ _ _, .raiseMomentary u _ _⟩

theorem State.lockChecked_keeps (u : State) (fitted : Bool) (r : StationRecord) :
    u.RailKept (u.lockChecked fitted r) ∧ (u.lockChecked fitted r).rope = u.rope ∧ u.Reports (u.lockChecked fitted r) := by
  obtain ⟨hrail, hrope, hreports⟩ := u.doorChecked_keeps r
  unfold State.lockChecked
  split
  · exact ⟨hrail.trans (.of_eq rfl rfl), hrope, hreports.trans (.of_eq rfl rfl ⟨_, rfl⟩ rfl rfl)⟩
  · exact ⟨hrail, hrope, hreports⟩

theorem State.completeLaunch_eq {u : State} {place : Option Nat} {read : LaunchRead} {v : State} {r : StationRecord}
    (h : u.launchRecord place read = (v, r)) :
    u.completeLaunch place read =
      (((v.lockChecked (v.fitted 8) r).removeChosen place r).countRail Ctr.railLaunches).valleyLaunch r.cabin
        (launchInferred place read) r.profile := by
  have hfitted : (v.doorChecked r).fitted 8 = v.fitted 8 := (v.doorChecked_keeps r).1.fitted 8
  have hchecked : v.lockChecked (v.fitted 8) r =
      if (v.doorChecked r).fitted 8 && decide (r.progress < 9) then (v.doorChecked r).countRail Ctr.unchecked
      else v.doorChecked r := by
    rw [hfitted, State.lockChecked]
    simp only [Bool.and_eq_true, decide_eq_true_eq]
  unfold State.completeLaunch
  rw [h, hchecked]
  rfl

theorem State.completeLaunch_listed {u : State} {i : Nat} {read : LaunchRead} {r : StationRecord}
    (hr : u.rail.cabins[i]? = some r) (hfirst : (u.rail.cabins.findIdx? fun x => decide (x.cabin = r.cabin)) = some i) :
    u.completeLaunch (some i) read =
      State.launched (u.fitted 8) u.rope.odo u true (launchInferred (some i) read) r := by
  have hrecord : u.launchRecord (some i) read = (u, r) := by
    rw [State.launchRecord, Option.bind_some, hr]
  obtain ⟨hrail, hrope, -⟩ := u.lockChecked_keeps (u.fitted 8) r
  rw [State.completeLaunch_eq hrecord, State.valleyLaunch_written]
  have hremoved : (u.lockChecked (u.fitted 8) r).removeChosen (some i) r =
      ((u.lockChecked (u.fitted 8) r).modRail fun w =>
        { w with cabins :=
          (w.cabins.takeWhile fun x => decide (x.cabin ≠ r.cabin)) ++
            (w.cabins.dropWhile fun x => decide (x.cabin ≠ r.cabin)).tail }).modDoors fun w =>
        { w with channels := w.channels.map fun (c : Channel) =>
          if (c.served.map Served.number) = some r.number then { c with served := none } else c } := by
    have herase := eraseIdx_first ((hrail.findIdx fun x => decide (x = r.cabin)).trans hfirst)
    rw [State.removeChosen, State.recordLeft_eq, State.modRail, herase]
    rfl
  rw [hremoved]
  have hodo : ((((u.lockChecked (u.fitted 8) r).modRail fun w =>
        { w with cabins :=
          (w.cabins.takeWhile fun x => decide (x.cabin ≠ r.cabin)) ++
            (w.cabins.dropWhile fun x => decide (x.cabin ≠ r.cabin)).tail }).modDoors fun w =>
        { w with channels := w.channels.map fun (c : Channel) =>
          if (c.served.map Served.number) = some r.number then { c with served := none } else c }).countRail
      Ctr.railLaunches).rope.odo = u.rope.odo := congrArg Rope.odo hrope
  rw [hodo]
  rfl

theorem State.completeLaunch_formed (u : State) (read : LaunchRead) :
    u.completeLaunch none read =
      State.launched (u.fitted 8) u.rope.odo (u.countRail Ctr.unlisted) false false (u.formedLaunch read) := by
  have hrecord : u.launchRecord none read = (u.countRail Ctr.unlisted, u.formedLaunch read) := rfl
  have hinferred : launchInferred none read = false := Bool.and_false _
  obtain ⟨-, hrope, -⟩ := (u.countRail Ctr.unlisted).lockChecked_keeps (u.fitted 8) (u.formedLaunch read)
  have hodo : (((u.countRail Ctr.unlisted).lockChecked (u.fitted 8) (u.formedLaunch read)).countRail
      Ctr.railLaunches).rope.odo = u.rope.odo := congrArg Rope.odo hrope
  rw [State.completeLaunch_eq hrecord, hinferred, State.valleyLaunch_written]
  have hkept : ((u.countRail Ctr.unlisted).lockChecked ((u.countRail Ctr.unlisted).fitted 8) (u.formedLaunch read)).removeChosen
      none (u.formedLaunch read) = (u.countRail Ctr.unlisted).lockChecked (u.fitted 8) (u.formedLaunch read) := rfl
  rw [hkept, hodo]
  rfl

/-! ## The causes of a choice -/

/-- The order of a launch: counted, and a cause of the UP track (R109). -/
def State.launchFault (s : State) (cabin : Option Nat) : State :=
  (s.countRail Ctr.launchOrder).trackRaise .up .orderFault { cabin := cabin }

theorem State.launchFault_railKept (s : State) (cabin : Option Nat) : s.RailKept (s.launchFault cabin) :=
  (State.RailKept.of_eq (s := s) (u := s.countRail Ctr.launchOrder) rfl rfl).trans (.trackRaise _ .up _ _)

theorem State.launchFault_reports (s : State) (cabin : Option Nat) : s.Reports (s.launchFault cabin) :=
  (State.Reports.of_eq (s := s) (u := s.countRail Ctr.launchOrder) rfl rfl ⟨_, rfl⟩ rfl rfl).trans (.trackRaise _ .up _ _)

theorem State.launchFault_rope (s : State) (cabin : Option Nat) : (s.launchFault cabin).rope = s.rope := by
  simp [State.launchFault]

theorem State.launch_inOrder {s : State} {read : LaunchRead} (h : s.rail.launchPlace read = some 0) :
    s.launch read = (s.launchUnread read).completeLaunch (some 0) read := by
  rw [State.launch, h]
  rfl

theorem State.launch_outOfOrder {s : State} {read : LaunchRead} {place : Option Nat} (h : s.rail.launchPlace read = place)
    (hne : place ≠ some 0) :
    s.launch read = ((s.launchUnread read).launchFault read.cabin).completeLaunch place read := by
  have horder : launchOutOfOrder place = true := decide_eq_true hne
  rw [State.launch, h, horder]
  rfl

/-! ## A read -/

theorem State.lchRead_given {s u : State} {id : Nat} (h : (s.countRead 1 (some id)).resolve id = (u, true)) :
    s.lchRead (some id) = u.launch (.given id) := by
  unfold State.lchRead
  simp only [h]

theorem State.lchRead_unresolved {s u : State} {id : Nat} (h : (s.countRead 1 (some id)).resolve id = (u, false)) :
    s.lchRead (some id) = u.launch .unresolved := by
  unfold State.lchRead
  simp only [h]

theorem exec_lchRead {s : State} (hpin : s.pinHeld = false) (read : Option Nat) :
    exec (.lchRead read) s = .next (s.lchRead (readable read)) := State.live_run hpin fun s => s.lchRead (readable read)

section
variable {u : State}

theorem State.formedLaunch_reports {v : State} (h : u.Reports v) (read : LaunchRead) :
    v.formedLaunch read = u.formedLaunch read := by
  have hprofile : v.tracker.profileOf read.cabin = u.tracker.profileOf read.cabin := by
    cases read with
    | given id =>
      show v.tracker.profileOf (some id) = u.tracker.profileOf (some id)
      rw [Tracker.profileOf_some, Tracker.profileOf_some, h.entry, h.settings]
    | unresolved => exact congrArg CabinSettings.profile h.settings
    | unreadable => exact congrArg CabinSettings.profile h.settings
  rw [State.formedLaunch, hprofile]
  rfl

/-- The state a launch of a cabin's own record starts from, the record standing behind `old`. -/
def State.launchFrom (u : State) (old : List StationRecord) (id : Nat) : State :=
  if old = [] then u else u.launchFault (some id)

theorem State.launchFrom_keeps (u : State) (old : List StationRecord) (id : Nat) :
    u.RailKept (u.launchFrom old id) ∧ (u.launchFrom old id).rope = u.rope ∧ u.Reports (u.launchFrom old id) := by
  unfold State.launchFrom
  split
  · exact ⟨.refl u, rfl, .refl u⟩
  · exact ⟨u.launchFault_railKept _, u.launchFault_rope _, u.launchFault_reports _⟩

section
variable {id : Nat} {old new : List StationRecord} {r : StationRecord} (h : u.rail.cabins = old ++ r :: new)
include h

theorem State.launchFrom_record :
    ∃ d, (d = r.door ∨ d = .unknown) ∧ (u.launchFrom old id).rail.cabins[old.length]? = some { r with door := d } := by
  have hget : u.rail.cabins[old.length]? = some r := by
    rw [h, List.getElem?_append_right (Nat.le_refl _), Nat.sub_self]
    rfl
  obtain ⟨d, hd, hdoor⟩ := (u.launchFrom_keeps old id).1.getElem hget
  exact ⟨d, hdoor, hd⟩

variable (hr : r.cabin = some id) (hold : ∀ x ∈ old, x.cabin ≠ some id)
include hr hold

theorem State.launch_chosen : u.launch (.given id) = (u.launchFrom old id).completeLaunch (some old.length) (.given id) := by
  have hplace : u.rail.launchPlace (.given id) = some old.length := by
    rw [StationRail.launchPlace, h]
    exact findIdx_first (fun x hx => decide_eq_false (hold x hx)) (decide_eq_true hr)
  by_cases hempty : old = []
  · rw [State.launchFrom, if_pos hempty, hempty]
    exact State.launch_inOrder (by rw [hplace, hempty]; rfl)
  · rw [State.launchFrom, if_neg hempty]
    exact State.launch_outOfOrder hplace fun he => hempty (List.eq_nil_of_length_eq_zero (Option.some.inj he))

/-- The launch of a cabin whose own record stands in the station list behind `old`. -/
theorem State.launch_own :
    ∃ d, ((u.launchFrom old id).rail.cabins[old.length]?.map fun x => x.door) = some d ∧
      u.launch (.given id) =
        State.launched (u.fitted 8) u.rope.odo (u.launchFrom old id) true false { r with door := d } := by
  obtain ⟨hkept, hrope, -⟩ := u.launchFrom_keeps old id
  obtain ⟨d, -, hd⟩ := State.launchFrom_record (id := id) h
  have hfirst : ((u.launchFrom old id).rail.cabins.findIdx? fun x => decide (x.cabin = r.cabin)) = some old.length := by
    rw [hkept.findIdx fun x => decide (x = r.cabin), h, hr]
    exact findIdx_first (fun x hx => decide_eq_false (hold x hx)) (decide_eq_true hr)
  refine ⟨d, by rw [hd]; rfl, ?_⟩
  rw [State.launch_chosen h hr hold, State.completeLaunch_listed hd hfirst, hkept.fitted 8, hrope]
  rfl

end

/-- The launch of a cabin without a record in the station list. -/
theorem State.launch_absent {id : Nat} (h : ∀ x ∈ u.rail.cabins, x.cabin ≠ some id) :
    u.launch (.given id) =
      State.launched (u.fitted 8) u.rope.odo ((u.launchFault (some id)).countRail Ctr.unlisted) false false
        (u.formedLaunch (.given id)) := by
  have hplace : u.rail.launchPlace (.given id) = none := findIdx_absent fun x hx => decide_eq_false (h x hx)
  rw [State.launch_outOfOrder hplace nofun]
  show (u.launchFault (some id)).completeLaunch none (.given id) = _
  rw [State.completeLaunch_formed, State.formedLaunch_reports (u.launchFault_reports _),
    (u.launchFault_railKept _).fitted 8, u.launchFault_rope]

/-- The launch of a record without a cabin for an ID that is not resolved. -/
theorem State.launch_anonymous {r : StationRecord} (h : u.rail.cabins[0]? = some r) (hr : r.cabin = none) :
    u.launch .unresolved = State.launched (u.fitted 8) u.rope.odo u true false r := by
  obtain ⟨rest, hl⟩ := List.head?_eq_some_iff.mp ((List.head?_eq_getElem? (l := u.rail.cabins)).trans h)
  have hplace : u.rail.launchPlace .unresolved = some 0 := by
    rw [StationRail.launchPlace, hl]
    exact if_pos hr
  rw [State.launch_inOrder hplace]
  refine State.completeLaunch_listed h ?_
  show (u.rail.cabins.findIdx? fun x => decide (x.cabin = r.cabin)) = some 0
  rw [hl, List.findIdx?_cons, decide_eq_true rfl]
  rfl

theorem State.launch_unlisted (h : ∀ r, u.rail.cabins.head? = some r → r.cabin ≠ none) :
    u.launch .unresolved =
      State.launched (u.fitted 8) u.rope.odo ((u.launchFault none).countRail Ctr.unlisted) false false
        (u.formedLaunch .unresolved) := by
  have hplace : u.rail.launchPlace .unresolved = none := by
    rw [StationRail.launchPlace]
    cases hl : u.rail.cabins with
    | nil => rfl
    | cons r l => exact if_neg (h r (by rw [hl]; rfl))
  rw [State.launch_outOfOrder hplace nofun]
  show (u.launchFault none).completeLaunch none .unresolved = _
  rw [State.completeLaunch_formed, State.formedLaunch_reports (u.launchFault_reports _),
    (u.launchFault_railKept _).fitted 8, u.launchFault_rope]

/-- The launch of the oldest record for an unreadable tag. -/
theorem State.launch_oldest {r : StationRecord} (h : u.rail.cabins.head? = some r) :
    ∃ d, (((u.raiseMomentary .tagUnread { cabin := r.cabin }).rail.cabins.head?).map fun x => x.door) = some d ∧
      u.launch .unreadable =
        State.launched (u.fitted 8) u.rope.odo (u.raiseMomentary .tagUnread { cabin := r.cabin }) true true
          { r with door := d } := by
  obtain ⟨rest, hl⟩ := List.head?_eq_some_iff.mp h
  have hplace : u.rail.launchPlace .unreadable = some 0 := by
    rw [StationRail.launchPlace, hl]
    rfl
  have hraised : u.launchUnread .unreadable = u.raiseMomentary .tagUnread { cabin := r.cabin } := by
    rw [State.launchUnread, hl]
    rfl
  have hkept := State.RailKept.raiseMomentary u .tagUnread { cabin := r.cabin }
  obtain ⟨d, hd, -⟩ := hkept.getElem (i := 0) (r := r) (by rw [hl]; rfl)
  have hfirst : (u.rail.cabins.findIdx? fun x => decide (x.cabin = r.cabin)) = some 0 := by
    rw [hl, List.findIdx?_cons, decide_eq_true rfl]
    rfl
  refine ⟨d, by rw [List.head?_eq_getElem?, hd]; rfl, ?_⟩
  rw [State.launch_inOrder hplace, hraised,
    State.completeLaunch_listed hd ((hkept.findIdx fun x => decide (x = r.cabin)).trans hfirst), hkept.fitted 8,
    State.raiseMomentary_rope]
  rfl

theorem State.launch_empty (h : u.rail.cabins = []) :
    u.launch .unreadable =
      State.launched (u.fitted 8) u.rope.odo
        (((u.raiseMomentary .tagUnread {}).launchFault none).countRail Ctr.unlisted) false false
        (u.formedLaunch .unreadable) := by
  have hplace : u.rail.launchPlace .unreadable = none := by
    rw [StationRail.launchPlace, h]
    rfl
  have hraised : u.launchUnread .unreadable = u.raiseMomentary .tagUnread {} := by
    rw [State.launchUnread, h]
    rfl
  have hkept := (State.RailKept.raiseMomentary u .tagUnread {}).trans (State.launchFault_railKept _ none)
  rw [State.launch_outOfOrder hplace nofun, hraised]
  show ((u.raiseMomentary .tagUnread {}).launchFault none).completeLaunch none .unreadable = _
  rw [State.completeLaunch_formed,
    State.formedLaunch_reports ((State.Reports.raiseMomentary u .tagUnread {}).trans (State.launchFault_reports _ none)),
    hkept.fitted 8, State.launchFault_rope, State.raiseMomentary_rope]

end

end Sys2Proof.Machine


/-! What a read from LCH leaves (R88, R101, R109 to R111), together. -/

namespace Sys2Proof.Machine

/-! ## The hand-off of a launch -/

theorem State.countTrip_entry (v : State) (id : Nat) :
    (v.countTrip (some id)).tracker.entry id =
      (v.tracker.entry id).map fun e => { e with trips := satAdd 65535 e.trips 1 } :=
  v.tracker.modEntry_entry id fun _ => rfl

/-- A launch of a cabin with an entry, the UP list with room for it. -/
theorem State.valleyLaunch_leaves {v : State} {id : Nat} (hentry : (v.tracker.entry id).isSome = true)
    (hroom : (othersThan id v.tracker.lists.up).length < 96) (inferred : Bool) (p : Profile) :
    (v.valleyLaunch (some id) inferred p).tracker.lists =
        ⟨othersThan id v.tracker.lists.up ++ [⟨some id, inferred, v.rope.odo, 0, p⟩], othersThan id v.tracker.lists.down⟩ ∧
      ((v.valleyLaunch (some id) inferred p).tracker.entry id).map (fun e => e.location) = some .up ∧
      (v.valleyLaunch (some id) inferred p).register = (registerWithout id v.register.1, v.register.2) ∧
      ∀ c, v.Raised c → (v.valleyLaunch (some id) inferred p).Raised c := by
  obtain ⟨e, he⟩ := Option.isSome_iff_exists.mp hentry
  have hclears := (v.countTrip (some id)).placeReported_clears id
  have hplaced : (v.countTrip (some id)).placeSome (some id) .up =
      ((v.countTrip (some id)).placeReported id).locate id .up := State.place_eq _ id .up
  have hlists : ((v.countTrip (some id)).placeReported id).tracker.lists =
      ⟨othersThan id v.tracker.lists.up, othersThan id v.tracker.lists.down⟩ := hclears.lists
  have hentry' : ((v.countTrip (some id)).placeReported id).tracker.entry id =
      some { e with trips := satAdd 65535 e.trips 1 } := by
    rw [hclears.entry, State.countTrip_entry, he]
    rfl
  have hcauses := hclears.keepsLine.causes
  have hregister : ((v.countTrip (some id)).placeReported id).register = (registerWithout id v.register.1, v.register.2) :=
    hclears.register
  have hodo : ((v.countTrip (some id)).placeReported id).rope.odo = v.rope.odo := hclears.keepsLine.odo
  rw [State.valleyLaunch, hplaced]
  generalize (v.countTrip (some id)).placeReported id = x at hlists hentry' hcauses hregister hodo
  have happend := State.appendTrain_room (s := x.locate id .up) (t := .up)
    (r := ⟨some id, inferred, (x.locate id .up).rope.odo, 0, p⟩) (counter := Ctr.launches)
    (by show x.tracker.lists.up.length < 96; rw [hlists]; exact hroom)
  rw [happend]
  refine ⟨?_, ?_, ?_, fun c hc => hcauses c hc⟩
  · rw [← hodo]
    exact congrArg (fun l : PerTrack (List TrainRecord) => l.set .up (l.get .up ++ [_])) hlists
  · exact State.locate_location hentry' .up
  · exact hregister

theorem State.removeChosen_keeps (v : State) (place : Option Nat) (r : StationRecord) :
    (v.removeChosen place r).rope = v.rope ∧ (v.removeChosen place r).link = v.link ∧
      (v.removeChosen place r).tracker = v.tracker ∧ (v.removeChosen place r).chain = v.chain := by
  cases place <;> exact ⟨rfl, rfl, rfl, rfl⟩

theorem State.completeLaunch_keeps (u : State) (place : Option Nat) (read : LaunchRead) :
    (u.completeLaunch place read).rope = u.rope ∧ (u.completeLaunch place read).link = u.link := by
  have hrecord : (u.launchRecord place read).1.rope = u.rope ∧ (u.launchRecord place read).1.link = u.link := by
    unfold State.launchRecord
    split <;> exact ⟨rfl, rfl⟩
  cases h : u.launchRecord place read with
  | mk v r =>
    rw [h] at hrecord
    obtain ⟨-, hrope, hreports⟩ := v.lockChecked_keeps (v.fitted 8) r
    obtain ⟨hrope', hlink', -, -⟩ := (v.lockChecked (v.fitted 8) r).removeChosen_keeps place r
    rw [State.completeLaunch_eq h, State.valleyLaunch_rope, State.valleyLaunch_link]
    exact ⟨(hrope'.trans hrope).trans hrecord.1, (hlink'.trans hreports.link).trans hrecord.2⟩

theorem State.launchUnread_keeps (u : State) (read : LaunchRead) :
    (u.launchUnread read).rope = u.rope ∧ (u.launchUnread read).link = u.link := by
  cases read with
  | given id => exact ⟨rfl, rfl⟩
  | unresolved => exact ⟨rfl, rfl⟩
  | unreadable => exact ⟨State.raiseMomentary_rope _ _ _, State.raiseMomentary_link _ _ _⟩

theorem State.launch_keeps (u : State) (read : LaunchRead) : (u.launch read).rope = u.rope ∧ (u.launch read).link = u.link := by
  obtain ⟨hrope, hlink⟩ := u.launchUnread_keeps read
  by_cases h : u.rail.launchPlace read = some 0
  · obtain ⟨hrope', hlink'⟩ := (u.launchUnread read).completeLaunch_keeps (some 0) read
    rw [State.launch_inOrder h]
    exact ⟨hrope'.trans hrope, hlink'.trans hlink⟩
  · obtain ⟨hrope', hlink'⟩ := ((u.launchUnread read).launchFault read.cabin).completeLaunch_keeps (u.rail.launchPlace read) read
    rw [State.launch_outOfOrder rfl h]
    exact ⟨(hrope'.trans (State.launchFault_rope _ _)).trans hrope,
      (hlink'.trans (State.launchFault_reports _ _).link).trans hlink⟩

theorem State.lchRead_keeps (s : State) (read : Option Nat) : (s.lchRead read).rope = s.rope ∧ (s.lchRead read).link = s.link := by
  cases read with
  | none => exact (s.countRead 1 none).launch_keeps .unreadable
  | some id =>
    have hlink := (State.KeepsLine.resolve (s.countRead 1 (some id)) id).link
    have hrope := State.resolve_rope (s.countRead 1 (some id)) id
    cases h : (s.countRead 1 (some id)).resolve id with
    | mk u given =>
      rw [h] at hrope hlink
      cases given with
      | true =>
        rw [State.lchRead_given h]
        exact ⟨(u.launch_keeps _).1.trans hrope, (u.launch_keeps _).2.trans hlink⟩
      | false =>
        rw [State.lchRead_unresolved h]
        exact ⟨(u.launch_keeps _).1.trans hrope, (u.launch_keeps _).2.trans hlink⟩

/-! ## The launch of a listed cabin -/

section
variable {u : State} {id : Nat} {old new : List StationRecord} {r : StationRecord}

theorem State.doorChecked_raised {r : StationRecord} (h : r.door ≠ .closedLocked) (u : State) :
    (u.doorChecked r).Raised .doorNotLocked := by
  rw [State.doorChecked, if_neg h]
  exact u.raiseMomentary_raised _ _

theorem eraseIdx_middle {α : Type} (l m : List α) (x : α) : (l ++ x :: m).eraseIdx l.length = l ++ m := by
  rw [List.eraseIdx_append_of_length_le (Nat.le_refl _), Nat.sub_self]
  rfl

/-- What the launch of a listed cabin with an entry leaves. -/
theorem State.launch_leaves (hentry : (u.tracker.entry id).isSome = true) (h : u.rail.cabins = old ++ r :: new)
    (hr : r.cabin = some id) (hold : ∀ x ∈ old, x.cabin ≠ some id)
    (hroom : (othersThan id u.tracker.lists.up).length < 96) :
    (u.launch (.given id)).rail.cabins.map StationRecord.listing =
        (old ++ new.filter fun x => decide (x.cabin ≠ some id)).map StationRecord.listing ∧
      (u.launch (.given id)).tracker.lists =
        ⟨othersThan id u.tracker.lists.up ++ [⟨some id, false, u.rope.odo, 0, r.profile⟩],
          othersThan id u.tracker.lists.down⟩ ∧
      ((u.launch (.given id)).tracker.entry id).map (fun e => e.location) = some .up ∧
      (r.door ≠ .closedLocked → (u.launch (.given id)).Raised .doorNotLocked) ∧
      (old ≠ [] → u.tracker.modes.up = .tracked → (u.launch (.given id)).Raised .orderFault) := by
  obtain ⟨-, hrope, hreports⟩ := u.launchFrom_keeps old id
  obtain ⟨d, hdoor, hd⟩ := State.launchFrom_record (id := id) h
  have hrecord : (u.launchFrom old id).launchRecord (some old.length) (.given id) =
      (u.launchFrom old id, { r with door := d }) := by
    rw [State.launchRecord, Option.bind_some, hd]
  rw [State.launch_chosen h hr hold, State.completeLaunch_eq hrecord]
  obtain ⟨-, hrope', hreports'⟩ := (u.launchFrom old id).lockChecked_keeps ((u.launchFrom old id).fitted 8)
    { r with door := d }
  have hall := hreports.trans hreports'
  have hchecked : r.door ≠ .closedLocked →
      ((u.launchFrom old id).lockChecked ((u.launchFrom old id).fitted 8) { r with door := d }).Raised .doorNotLocked := by
    intro hne
    have hopen : d ≠ .closedLocked := by
      obtain rfl | rfl := hdoor
      · exact hne
      · exact nofun
    unfold State.lockChecked
    split <;> exact State.doorChecked_raised hopen _
  have hfault : old ≠ [] → u.tracker.modes.up = .tracked →
      ((u.launchFrom old id).lockChecked ((u.launchFrom old id).fitted 8) { r with door := d }).Raised .orderFault := by
    intro hne ht
    refine hreports'.causes _ ?_
    rw [State.launchFrom, if_neg hne]
    exact State.trackRaise_raised (s := u.countRail Ctr.launchOrder) (t := .up) ht _ _
  have hodo : ((u.launchFrom old id).lockChecked ((u.launchFrom old id).fitted 8) { r with door := d }).rope.odo = u.rope.odo := by
    rw [hrope', hrope]
  generalize (u.launchFrom old id).lockChecked ((u.launchFrom old id).fitted 8) { r with door := d } = w at *
  have hregister : ((w.removeChosen (some old.length) { r with door := d }).countRail Ctr.railLaunches).register.1 =
      (old ++ new).map StationRecord.listing := by
    have herased : ((w.removeChosen (some old.length) { r with door := d }).countRail Ctr.railLaunches).register.1 =
        (w.rail.cabins.eraseIdx old.length).map StationRecord.listing := rfl
    have hw : w.rail.cabins.map StationRecord.listing = u.rail.cabins.map StationRecord.listing :=
      congrArg Prod.fst hall.register
    rw [herased, ← List.eraseIdx_map, hw, h, List.eraseIdx_map, eraseIdx_middle]
  have htracker : ((w.removeChosen (some old.length) { r with door := d }).countRail Ctr.railLaunches).tracker =
      w.tracker := rfl
  have hrope : ((w.removeChosen (some old.length) { r with door := d }).countRail Ctr.railLaunches).rope = w.rope := rfl
  have hchain : ((w.removeChosen (some old.length) { r with door := d }).countRail Ctr.railLaunches).chain = w.chain := rfl
  generalize (w.removeChosen (some old.length) { r with door := d }).countRail Ctr.railLaunches = v at *
  have hfilter : (old ++ new).filter (fun x => decide (x.cabin ≠ some id)) =
      old ++ new.filter fun x => decide (x.cabin ≠ some id) := by
    rw [List.filter_append, List.filter_eq_self.mpr fun x hx => decide_eq_true (hold x hx)]
  have hlaunch : v.valleyLaunch r.cabin (launchInferred (some old.length) (.given id)) r.profile =
      v.valleyLaunch (some id) false r.profile := by
    rw [hr]
    rfl
  obtain ⟨hlists, hlocation, hleft, hcauses⟩ := State.valleyLaunch_leaves (v := v) (id := id)
    (by rw [htracker, hall.entry]; exact hentry) (by rw [htracker, hall.lists]; exact hroom) false r.profile
  have hcaused : ∀ {c}, w.Raised c → (v.valleyLaunch (some id) false r.profile).Raised c := fun {c} hc =>
    hcauses c (by rw [State.Raised, hchain]; exact hc)
  show (v.valleyLaunch r.cabin (launchInferred (some old.length) (.given id)) r.profile).rail.cabins.map _ = _ ∧ _
  rw [hlaunch]
  refine ⟨?_, ?_, hlocation, fun hne => hcaused (hchecked hne), fun hne ht => hcaused (hfault hne ht)⟩
  · refine (congrArg Prod.fst hleft).trans ?_
    rw [hregister, registerWithout_map, hfilter]
  · rw [hlists, htracker, hall.lists, hrope, hodo]

end

end Sys2Proof.Machine


/-! The read from LCH (R109 to R111). -/

namespace Sys2Proof.Machine

/-- The order of a launch, as the mode of the UP track takes it. -/
theorem State.launchFault_written (u : State) (cabin : Option Nat) {m : TrackMode} (h : u.tracker.modes.up = m) :
    u.launchFault cabin =
      if m = .tracked then (u.countRail Ctr.launchOrder).raiseMomentary .orderFault { cabin := cabin }
      else (u.countRail Ctr.launchOrder).countTracker (Ctr.untrackedEvents 0) := by
  have hmode : (u.countRail Ctr.launchOrder).tracker.modes.get .up = m := h
  rw [State.launchFault, State.trackRaise, hmode]
  cases m <;> rfl

/-- Settles O23: the record of a launch is the cabin's own, the oldest or one formed, and its launch follows R111. -/
theorem lchRead : Obligations.LchRead := by
  unfold Obligations.LchRead
  refine ⟨fun s read hpin => ?exact, fun s read hpin => ?leaves⟩
  case exact =>
    intro unread counted faulty launched formed
    have hexec := exec_lchRead hpin read
    have hfaulty : ∀ (u : State) (cabin : Option Nat), u.tracker.modes = s.tracker.modes →
        u.launchFault cabin = faulty u cabin := fun u cabin hmodes =>
      u.launchFault_written cabin (by rw [hmodes])
    refine ⟨fun hunread => ?unread, fun id hread hlow hhigh => ?given⟩
    case unread =>
      intro u
      rw [readable_none hunread] at hexec
      refine ⟨fun hempty => ?empty, fun r hr => ?oldest⟩
      case empty =>
        rw [hexec]
        refine congrArg Host.Outcome.next ?_
        have hmodes : (u.raiseMomentary .tagUnread {}).tracker.modes = s.tracker.modes :=
          (State.Reports.raiseMomentary u .tagUnread {}).modes
        show u.launch .unreadable = _
        rw [State.launch_empty (u := u) hempty, hfaulty _ _ hmodes]
        rfl
      case oldest =>
        intro v
        obtain ⟨d, hd, hlaunch⟩ := State.launch_oldest (u := u) hr
        rw [hexec, hd]
        exact congrArg Host.Outcome.next hlaunch
    case given =>
      intro learns resolved now
      rw [hread, readable_some hlow hhigh] at hexec
      rw [hread]
      refine ⟨fun hknown => ?known, fun hunknown hlearns => ?unknown⟩
      case known =>
        have hresolve : counted.resolve id = (resolved, true) := by
          by_cases hin : (s.tracker.entry id).isSome = true
          · have hresolved : resolved = counted.touched id := if_pos hin
            rw [hresolved]
            exact State.resolve_known hin
          · obtain ⟨hnone, hlearn, hroom⟩ := hknown.resolve_left hin
            have hresolved : resolved = counted.learnt id := if_neg hin
            rw [hresolved]
            exact State.resolve_learns (s := counted) hnone hlearn hroom
        have hmodes : resolved.tracker.modes = s.tracker.modes := by
          simp only [resolved]
          split <;> rfl
        have hsettings : resolved.tracker.settings = s.tracker.settings := by
          simp only [resolved]
          split <;> rfl
        have hrail : resolved.rail.cabins = s.rail.cabins ∧ resolved.fitted 8 = s.fitted 8 ∧
            resolved.rope.odo = s.rope.odo := by
          simp only [resolved]
          split <;> exact ⟨rfl, rfl, rfl⟩
        obtain ⟨hcabins, hfitted, hodo⟩ := hrail
        rw [hexec, State.lchRead_given hresolve]
        clear_value resolved
        refine ⟨fun old new r h hr hold => ?own, fun habsent => ?absent⟩
        case own =>
          intro u
          have hfrom : resolved.launchFrom old id = u := by
            rw [State.launchFrom, hfaulty _ _ hmodes]
          obtain ⟨d, hd, hlaunch⟩ := State.launch_own (hcabins.trans h) hr hold
          rw [hfrom] at hd hlaunch
          have hnow : now u old.length r = { r with door := d } := by
            simp only [now, hd]
            rfl
          rw [hnow, hlaunch, hfitted, hodo]
          rfl
        case absent =>
          rw [State.launch_absent (by rw [hcabins]; exact habsent), hfaulty _ _ hmodes, hfitted, hodo]
          refine congrArg (fun p => Host.Outcome.next (formed resolved (some id) p))
            (?_ : resolved.tracker.profileOf (some id) = _)
          rw [Tracker.profileOf_some]
          cases resolved.tracker.entry id with
          | none => exact congrArg CabinSettings.profile hsettings
          | some e => rfl
      case unknown =>
        intro u
        have hresolve : counted.resolve id = (u, false) :=
          State.resolve_unknown (s := counted) hunknown fun ⟨hlearn, hroom⟩ => hlearns ⟨hunknown, hlearn, hroom⟩
        have hreports : counted.Reports u := counted.unknownTag_reports id
        have hkept : counted.RailKept u :=
          (State.RailKept.raiseMomentary counted _ _).trans (.of_eq rfl rfl)
        have hfitted : u.fitted 8 = s.fitted 8 := hkept.fitted 8
        have hodo : u.rope.odo = s.rope.odo := hreports.odo
        have hsettings : u.tracker.settings = s.tracker.settings := hreports.settings
        rw [hexec, State.lchRead_unresolved hresolve]
        refine ⟨fun r hr hnone => ?anonymous, fun hnone => ?named⟩
        case anonymous =>
          obtain ⟨d, hd, -⟩ := hkept.getElem (i := 0) (r := r) ((List.head?_eq_getElem?).symm.trans hr)
          have hnow : now u 0 r = { r with door := d } := by
            simp only [now, hd]
            rfl
          rw [hnow, State.launch_anonymous hd hnone, hfitted, hodo]
          rfl
        case named =>
          have hnamed : ∀ r, u.rail.cabins.head? = some r → r.cabin ≠ none := fun r hr => by
            obtain ⟨⟨f, hf, hsame⟩, -⟩ := hkept
            rw [hf, List.head?_map] at hr
            obtain ⟨x, hx, rfl⟩ := Option.map_eq_some_iff.mp hr
            have hcabin : (f x).cabin = x.cabin := congrArg (fun l => l.2.1) (hsame x).1
            rw [hcabin]
            exact hnone x hx
          have hform : u.formedLaunch .unresolved = ⟨0, none, false, s.tracker.settings.profile, 0, .assumedClosed⟩ := by
            rw [← hsettings]
            rfl
          rw [State.launch_unlisted hnamed, hform, hfaulty _ _ hreports.modes, hfitted, hodo]
          rfl
  case leaves =>
    intro view
    obtain ⟨hrope, hlink⟩ := s.lchRead_keeps (readable read)
    refine ⟨_, exec_lchRead hpin read, hrope, hlink, fun id old new r hread hlow hhigh hentry h hr hold hroom => ?_⟩
    have hresolve : (s.countRead 1 (some id)).resolve id = ((s.countRead 1 (some id)).touched id, true) :=
      State.resolve_known (s := s.countRead 1 (some id)) hentry
    have htouched : (((s.countRead 1 (some id)).touched id).tracker.entry id).isSome = true := by
      rw [State.touched_entry, Option.isSome_map]
      exact hentry
    obtain ⟨hrail, hlists, hlocation, hdoor, horder⟩ :=
      State.launch_leaves (u := (s.countRead 1 (some id)).touched id) htouched h hr hold hroom
    rw [hread, readable_some hlow hhigh, State.lchRead_given hresolve]
    exact ⟨hrail, congrArg PerTrack.up hlists, congrArg PerTrack.down hlists, hlocation, hdoor, horder⟩

end Sys2Proof.Machine


/-! The seat sequences (R86): what they hold, when two of their seats clash, and what a rebuild leaves. -/

namespace Sys2Proof.Machine

/-! ## The seats of a sequence -/

theorem allSeats_nodup : allSeats.Nodup := by
  refine List.nodup_flatMap.mpr ⟨fun p _ => ?_, (List.nodup_finRange 48).imp fun {p q} hpq => ?_⟩
  · exact (List.nodup_finRange 4).map fun a b h => congrArg SeatRef.seat h
  · intro x hx hx'
    obtain ⟨a, -, rfl⟩ := List.mem_map.mp hx
    obtain ⟨b, -, hb⟩ := List.mem_map.mp hx'
    exact hpq (congrArg SeatRef.post hb).symm

theorem inSequence_iff {s : State} {t : Track} {x : SeatRef} :
    inSequence s.poller t x = true ↔
      (s.post x.post).fitted = true ∧ (s.seat x).fitted = true ∧ (s.seat x).track = t ∧ (s.seat x).window ≠ 0 := by
  show (((s.seat x).fitted && (s.post x.post).fitted && decide ((s.seat x).track = t)) && decide ((s.seat x).window ≠ 0)) = true ↔ _
  rw [Bool.and_eq_true, Bool.and_eq_true, Bool.and_eq_true, decide_eq_true_eq, decide_eq_true_eq]
  exact ⟨fun ⟨⟨⟨hseat, hpost⟩, htrack⟩, hwindow⟩ => ⟨hpost, hseat, htrack, hwindow⟩,
    fun ⟨hpost, hseat, htrack, hwindow⟩ => ⟨⟨⟨hseat, hpost⟩, htrack⟩, hwindow⟩⟩

section
variable (pos : SeatRef → Nat)

theorem insertSeat_perm (r : SeatRef) (l : List SeatRef) : (insertSeat pos r l).Perm (r :: l) := by
  induction l with
  | nil => exact .refl _
  | cons x l ih =>
    rw [insertSeat]
    split
    · exact .refl _
    · exact (ih.cons x).trans (.swap r x l)

theorem insertSeat_rising (r : SeatRef) {l : List SeatRef} (h : l.Pairwise fun x y => pos x ≤ pos y) :
    (insertSeat pos r l).Pairwise fun x y => pos x ≤ pos y := by
  induction l with
  | nil => exact List.pairwise_singleton _ _
  | cons x l ih =>
    obtain ⟨hx, hl⟩ := List.pairwise_cons.mp h
    rw [insertSeat]
    split
    · next hr =>
      refine List.pairwise_cons.mpr ⟨fun y hy => ?_, h⟩
      obtain rfl | hy := List.mem_cons.mp hy
      · exact hr.le
      · exact hr.le.trans (hx y hy)
    · next hr =>
      refine List.pairwise_cons.mpr ⟨fun y hy => ?_, ih hl⟩
      obtain rfl | hy := List.mem_cons.mp ((insertSeat_perm pos r l).mem_iff.mp hy)
      · exact Nat.not_lt.mp hr
      · exact hx y hy

theorem foldl_insertSeat (m l : List SeatRef) (h : l.Pairwise fun x y => pos x ≤ pos y) :
    (m.foldl (fun l r => insertSeat pos r l) l).Perm (m ++ l) ∧
      (m.foldl (fun l r => insertSeat pos r l) l).Pairwise fun x y => pos x ≤ pos y := by
  induction m generalizing l with
  | nil => exact ⟨.refl _, h⟩
  | cons r m ih =>
    obtain ⟨hperm, hrising⟩ := ih _ (insertSeat_rising pos r h)
    exact ⟨hperm.trans (((insertSeat_perm pos r l).append_left m).trans List.perm_middle), hrising⟩

end

theorem buildSequence_perm (u : Poller) (t : Track) : (buildSequence u t).Perm (allSeats.filter (inSequence u t)) := by
  have h := (foldl_insertSeat (seatPosition u) (allSeats.filter (inSequence u t)) [] List.Pairwise.nil).1
  rwa [List.append_nil] at h

/-- The sequence of a track: its seats in service, each once, in rising position. -/
theorem buildSequence_seats (s : State) (t : Track) :
    ((buildSequence s.poller t).Pairwise fun x y => (s.seat x).position ≤ (s.seat y).position) ∧
      (buildSequence s.poller t).Nodup ∧
      ∀ x : SeatRef, x ∈ buildSequence s.poller t ↔
        (s.post x.post).fitted = true ∧ (s.seat x).fitted = true ∧ (s.seat x).track = t ∧ (s.seat x).window ≠ 0 := by
  refine ⟨(foldl_insertSeat _ _ [] List.Pairwise.nil).2,
    (buildSequence_perm _ _).nodup_iff.mpr (allSeats_nodup.filter _), fun x => ?_⟩
  rw [(buildSequence_perm _ _).mem_iff, List.mem_filter]
  exact (and_iff_right (mem_allSeats x)).trans inSequence_iff

/-! ## Two seats of one sequence at one position -/

/-- Two different seats that share a sequence and a position, given which posts are fitted and the seat table (R86). -/
def Clash (fitted : Post → Bool) (entry : SeatRef → SeatEntry) : Prop :=
  let listed := fun x : SeatRef => fitted x.post = true ∧ (entry x).fitted = true ∧ (entry x).window ≠ 0
  ∃ x : SeatRef, listed x ∧ ∃ y : SeatRef, listed y ∧ x ≠ y ∧ (entry x).track = (entry y).track ∧
    (entry x).position = (entry y).position

theorem Clash.congr {f g : Post → Bool} {d e : SeatRef → SeatEntry} (hf : ∀ p, f p = g p) (he : ∀ x, d x = e x) :
    Clash f d ↔ Clash g e := by
  rw [funext hf, funext he]

theorem positions_nodup_iff {s : State} {t : Track} :
    ((allSeats.filter (inSequence s.poller t)).map (seatPosition s.poller)).Nodup ↔
      ∀ x, inSequence s.poller t x = true → ∀ y, inSequence s.poller t y = true → (s.seat x).position = (s.seat y).position →
        x = y := by
  rw [List.nodup_map_iff_inj_on (allSeats_nodup.filter _)]
  constructor
  · intro h x hx y hy hpos
    exact h x (List.mem_filter.mpr ⟨mem_allSeats x, hx⟩) y (List.mem_filter.mpr ⟨mem_allSeats y, hy⟩) hpos
  · intro h x hx y hy hpos
    exact h x (List.mem_filter.mp hx).2 y (List.mem_filter.mp hy).2 hpos

theorem State.distinctPositions_iff (s : State) :
    s.poller.distinctPositions = false ↔ Clash (fun p => (s.post p).fitted) s.seat := by
  rw [Poller.distinctPositions, decide_eq_false_iff_not, positions_nodup_iff, positions_nodup_iff]
  constructor
  · intro h
    by_contra hno
    have hdistinct : ∀ t : Track, ∀ x, inSequence s.poller t x = true → ∀ y, inSequence s.poller t y = true →
        (s.seat x).position = (s.seat y).position → x = y := by
      intro t x hx y hy hpos
      by_contra hne
      obtain ⟨hxp, hxs, hxt, hxw⟩ := inSequence_iff.mp hx
      obtain ⟨hyp, hys, hyt, hyw⟩ := inSequence_iff.mp hy
      exact hno ⟨x, ⟨hxp, hxs, hxw⟩, y, ⟨hyp, hys, hyw⟩, hne, hxt.trans hyt.symm, hpos⟩
    exact h ⟨hdistinct .up, hdistinct .down⟩
  · rintro ⟨x, ⟨hxp, hxs, hxw⟩, y, ⟨hyp, hys, hyw⟩, hne, htrack, hpos⟩ ⟨hup, hdown⟩
    have hx : inSequence s.poller (s.seat x).track x = true := inSequence_iff.mpr ⟨hxp, hxs, rfl, hxw⟩
    have hy : inSequence s.poller (s.seat x).track y = true := inSequence_iff.mpr ⟨hyp, hys, htrack.symm, hyw⟩
    cases ht : (s.seat x).track with
    | up => rw [ht] at hx hy; exact hne (hup x hx y hy hpos)
    | down => rw [ht] at hx hy; exact hne (hdown x hx y hy hpos)

/-! ## A rebuild -/

theorem findIdx_le_eq_takeWhile (f : SeatRef → Int) (x : Int) (l : List SeatRef) :
    (l.findIdx fun r => decide (x ≤ f r)) = (l.takeWhile fun r => decide (f r < x)).length := by
  induction l with
  | nil => rfl
  | cons r l ih =>
    by_cases h : x ≤ f r
    · rw [List.findIdx_cons, List.takeWhile_cons_of_neg (by simpa using h), decide_eq_true h]
      rfl
    · rw [List.findIdx_cons, List.takeWhile_cons_of_pos (by simpa using h), decide_eq_false h, ih]
      rfl

/-- The sequence of a track and its records after a rebuild, each on a changed sequence at its first seat not behind it. -/
def State.Renewed (s t : State) (track : Track) : Prop :=
  let l := buildSequence t.poller track
  t.tracker.seqs.get track = l ∧
  t.tracker.lists.get track =
    if l = s.tracker.seqs.get track then s.tracker.lists.get track
    else (s.tracker.lists.get track).map fun r =>
      { r with next :=
        (l.takeWhile fun x => decide (((t.seat x).position : Int) < s.rope.position track r)).length }

theorem State.rebuildTrack_poller (s : State) (t : Track) : (s.rebuildTrack t).poller = s.poller := by
  unfold State.rebuildTrack
  dsimp only
  split <;> rfl

theorem State.rebuildTrack_renewed (s : State) (t : Track) : s.Renewed (s.rebuildTrack t) t := by
  unfold State.Renewed
  rw [State.rebuildTrack_poller]
  unfold State.rebuildTrack
  dsimp only
  by_cases h : buildSequence s.poller t = s.tracker.seqs.get t
  · rw [if_pos h, if_pos h]
    exact ⟨h.symm, rfl⟩
  · rw [if_neg h, if_neg h]
    refine ⟨PerTrack.get_set_self _ _ _, (PerTrack.get_set_self _ _ _).trans (List.map_congr_left fun r _ => ?_)⟩
    exact congrArg (fun n => ({ r with next := n } : TrainRecord))
      (findIdx_le_eq_takeWhile (fun x => ((s.seat x).position : Int)) (s.rope.position t r) (buildSequence s.poller t))

theorem State.rebuildTrack_ne (s : State) {t x : Track} (h : x ≠ t) :
    (s.rebuildTrack t).tracker.seqs.get x = s.tracker.seqs.get x ∧
      (s.rebuildTrack t).tracker.lists.get x = s.tracker.lists.get x := by
  unfold State.rebuildTrack
  dsimp only
  split
  · exact ⟨rfl, rfl⟩
  · exact ⟨PerTrack.get_set_ne _ h _, PerTrack.get_set_ne _ h _⟩

theorem State.rebuildSequences_poller (s : State) : s.rebuildSequences.poller = s.poller := by
  rw [State.rebuildSequences, State.rebuildTrack_poller, State.rebuildTrack_poller]

theorem State.seat_of_poller {s t : State} (h : t.poller = s.poller) : t.seat = s.seat :=
  funext fun r => congrArg (fun u : Poller => u.seats[seatIndex r.post r.seat]) h

theorem State.Renewed.congr {s s' t t' : State} {track : Track} (h : s.Renewed t track)
    (hbefore : s'.tracker.seqs.get track = s.tracker.seqs.get track ∧ s'.tracker.lists.get track = s.tracker.lists.get track)
    (hrope : s'.rope = s.rope) (hpoller : t'.poller = t.poller)
    (hafter : t'.tracker.seqs.get track = t.tracker.seqs.get track ∧ t'.tracker.lists.get track = t.tracker.lists.get track) :
    s'.Renewed t' track := by
  unfold State.Renewed
  rw [hbefore.1, hbefore.2, hrope, hafter.1, hafter.2, hpoller, State.seat_of_poller hpoller]
  exact h

theorem State.rebuildSequences_renewed {s u : State} (htracker : u.tracker = s.tracker) (hrope : u.rope = s.rope) (t : Track) :
    s.Renewed u.rebuildSequences t := by
  have hbefore : s.tracker.seqs.get t = u.tracker.seqs.get t ∧ s.tracker.lists.get t = u.tracker.lists.get t := by
    rw [htracker]; exact ⟨rfl, rfl⟩
  cases t with
  | up =>
    exact (u.rebuildTrack_renewed .up).congr hbefore hrope.symm (State.rebuildTrack_poller _ _)
      ((u.rebuildTrack .up).rebuildTrack_ne (t := .down) nofun)
  | down =>
    have hfirst := u.rebuildTrack_ne (t := .up) (x := .down) nofun
    refine ((u.rebuildTrack .up).rebuildTrack_renewed .down).congr ⟨?_, ?_⟩ (by simp [hrope]) rfl ⟨rfl, rfl⟩
    · exact hbefore.1.trans hfirst.1.symm
    · exact hbefore.2.trans hfirst.2.symm

end Sys2Proof.Machine


/-! Writes of the post and seat tables (R36, R49, R86): what each leaves. -/

namespace Sys2Proof.Machine

/-! ## Shares given up -/

/-- A step of the poller that may tell the stop chain: no other block changes. -/
def State.PollsOnly (s t : State) : Prop := ∃ u c, t = { s with poller := u, chain := c }

theorem State.PollsOnly.refl (s : State) : s.PollsOnly s := ⟨s.poller, s.chain, rfl⟩

theorem State.PollsOnly.trans {s t u : State} (h : s.PollsOnly t) (k : t.PollsOnly u) : s.PollsOnly u := by
  obtain ⟨_, _, rfl⟩ := h
  obtain ⟨v, c, rfl⟩ := k
  exact ⟨v, c, rfl⟩

theorem State.PollsOnly.withdraw (s : State) (c : Cause) : s.PollsOnly (s.withdraw c) := by
  unfold State.withdraw
  split
  · exact ⟨_, _, rfl⟩
  · exact ⟨_, _, rfl⟩

/-- A state after a share has been given up: its cause is withdrawn, or another share still holds it. -/
def State.GivesUp (c : Cause) (s t : State) : Prop := t = s ∨ t = s.withdraw c

section
variable {s t : State} {c : Cause} (h : State.GivesUp c s t)
include h

theorem State.GivesUp.poller : t.poller = s.poller := by
  obtain rfl | rfl := h
  · rfl
  · exact State.withdraw_poller s c

theorem State.GivesUp.only : s.PollsOnly t := by
  obtain rfl | rfl := h
  · exact .refl t
  · exact .withdraw s c

theorem State.GivesUp.gone {c' : Cause} (hc : s.Gone c') : t.Gone c' := by
  obtain rfl | rfl := h
  · exact hc
  · exact hc.withdraw c

end

theorem State.modPost_same {s : State} {p : Post} {f : PostEntry → PostEntry} (h : f (s.post p) = s.post p) :
    s.modPost p f = s := by
  rw [State.modPost, State.modPoller, upd_same h]

theorem State.modSeat_same {s : State} {r : SeatRef} {f : SeatEntry → SeatEntry} (h : f (s.seat r) = s.seat r) :
    s.modSeat r f = s := by
  rw [State.modSeat, State.modPoller, upd_same h]

theorem State.dropAbsent_givesUp (s : State) (p : Post) :
    State.GivesUp .postAbsent (s.modPost p fun e => { e with absentShare := false }) (s.dropAbsent p) := by
  cases hshare : (s.post p).absentShare with
  | false =>
    rw [State.dropAbsent_none hshare]
    exact .inl (State.modPost_same (by rw [← hshare])).symm
  | true =>
    obtain ⟨hkept, hgone⟩ := State.dropAbsent_share hshare
    by_cases hother : ∃ q, q ≠ p ∧ (s.post q).absentShare = true
    · exact .inl (hkept hother)
    · exact .inr (hgone fun q hq => Bool.eq_false_iff.mpr fun hq' => hother ⟨q, hq, hq'⟩)

theorem State.dropSilent_givesUp (s : State) (p : Post) :
    State.GivesUp .postSilent (s.modPost p fun e => { e with silentShare := false }) (s.dropSilent p) := by
  cases hshare : (s.post p).silentShare with
  | false =>
    rw [State.dropSilent_none hshare]
    exact .inl (State.modPost_same (by rw [← hshare])).symm
  | true =>
    obtain ⟨hkept, hgone⟩ := State.dropSilent_share hshare
    by_cases hother : ∃ q, q ≠ p ∧ (s.post q).silentShare = true
    · exact .inl (hkept hother)
    · exact .inr (hgone fun q hq => Bool.eq_false_iff.mpr fun hq' => hother ⟨q, hq, hq'⟩)

theorem State.dropLimit_givesUp (s : State) (r : SeatRef) :
    State.GivesUp .seatLimit (s.modSeat r fun e => { e with limitShare := false }) (s.dropLimit r) := by
  cases hshare : (s.seat r).limitShare with
  | false =>
    rw [State.dropLimit_none hshare]
    exact .inl (State.modSeat_same (by rw [← hshare])).symm
  | true =>
    obtain ⟨hkept, hgone⟩ := State.dropLimit_share hshare
    by_cases hother : ∃ q, q ≠ r ∧ (s.seat q).limitShare = true
    · exact .inl (hkept hother)
    · exact .inr (hgone fun q hq => Bool.eq_false_iff.mpr fun hq' => hother ⟨q, hq, hq'⟩)

theorem State.dropSwitch_givesUp (s : State) (r : SeatRef) :
    State.GivesUp .seatSwitch (s.modSeat r fun e => { e with switchShare := false }) (s.dropSwitch r) := by
  cases hshare : (s.seat r).switchShare with
  | false =>
    rw [State.dropSwitch_none hshare]
    exact .inl (State.modSeat_same (by rw [← hshare])).symm
  | true =>
    obtain ⟨hkept, hgone⟩ := State.dropSwitch_share hshare
    by_cases hother : ∃ q, q ≠ r ∧ (s.seat q).switchShare = true
    · exact .inl (hkept hother)
    · exact .inr (hgone fun q hq => Bool.eq_false_iff.mpr fun hq' => hother ⟨q, hq, hq'⟩)

/-! ## Seats cleared -/

/-- A seat entry with its beyond-stop count at 0 and its shares gone. -/
def SeatEntry.cleared (e : SeatEntry) : SeatEntry := { e with beyond := 0, limitShare := false, switchShare := false }

/-- The seats of a list cleared, the posts and the queues of posts left as they were. -/
structure State.SeatsCleared (l : List SeatRef) (s t : State) : Prop where
  only : s.PollsOnly t
  post : t.post = s.post
  attention : t.poller.attention = s.poller.attention
  sweep : t.poller.sweep = s.poller.sweep
  seat : ∀ x, t.seat x = if x ∈ l then (s.seat x).cleared else s.seat x
  gone : ∀ c, s.Gone c → t.Gone c

theorem State.modPost_poller_congr {s t : State} (h : t.poller = s.poller) (p : Post) (f : PostEntry → PostEntry) :
    (t.modPost p f).poller = (s.modPost p f).poller :=
  congrArg (fun u : Poller => { u with posts := upd u.posts p f }) h

theorem State.modSeat_poller_congr {s t : State} (h : t.poller = s.poller) (r : SeatRef) (f : SeatEntry → SeatEntry) :
    (t.modSeat r f).poller = (s.modSeat r f).poller :=
  congrArg (fun u : Poller => { u with seats := upd u.seats (seatIndex r.post r.seat) f }) h

theorem State.clearSeat_cleared (s : State) (r : SeatRef) : State.SeatsCleared [r] s (s.clearSeat r) := by
  have hlimit := (s.modSeat r fun e => { e with beyond := 0 }).dropLimit_givesUp r
  have hswitch := ((s.modSeat r fun e => { e with beyond := 0 }).dropLimit r).dropSwitch_givesUp r
  have hpoller : (s.clearSeat r).poller = (s.modSeat r SeatEntry.cleared).poller := by
    refine (hswitch.poller.trans (State.modSeat_poller_congr hlimit.poller r _)).trans ?_
    rw [State.modSeat_modSeat, State.modSeat_modSeat]
    rfl
  have hmod : ∀ (v : State) (f : SeatEntry → SeatEntry), v.PollsOnly (v.modSeat r f) := fun v f => ⟨_, v.chain, rfl⟩
  refine ⟨?_, ?_, ?_, ?_, fun x => ?_, fun c hc => ?_⟩
  · exact ((hmod _ _).trans ((hmod _ _).trans hlimit.only)).trans ((hmod _ _).trans hswitch.only)
  · exact funext fun q => (congrArg (fun u : Poller => u.posts[q]) hpoller).trans rfl
  · rw [hpoller]
    rfl
  · rw [hpoller]
    rfl
  · rw [State.seat_of_poller hpoller]
    by_cases hx : x = r
    · rw [if_pos (by simp [hx]), hx, State.modSeat_seat]
    · rw [if_neg (by simp [hx]), State.modSeat_seat_ne _ _ hx]
  · exact hswitch.gone (hlimit.gone hc)

theorem State.foldl_clearSeat (l : List SeatRef) (s : State) : State.SeatsCleared l s (l.foldl State.clearSeat s) := by
  induction l generalizing s with
  | nil => exact ⟨.refl s, rfl, rfl, rfl, fun x => (if_neg List.not_mem_nil).symm, fun _ h => h⟩
  | cons r l ih =>
    have hfirst := s.clearSeat_cleared r
    have hrest := ih (s.clearSeat r)
    refine ⟨hfirst.only.trans hrest.only, hrest.post.trans hfirst.post, hrest.attention.trans hfirst.attention,
      hrest.sweep.trans hfirst.sweep, fun x => ?_, fun c hc => hrest.gone c (hfirst.gone c hc)⟩
    refine (hrest.seat x).trans ?_
    rw [hfirst.seat x]
    by_cases hl : x ∈ l
    · rw [if_pos hl, if_pos (List.mem_cons_of_mem r hl)]
      split <;> rfl
    · rw [if_neg hl]
      by_cases hx : x = r
      · rw [if_pos (by simp [hx]), if_pos (by simp [hx])]
      · rw [if_neg (by simp [hx]), if_neg (by simp [hx, hl])]

theorem mem_seatsOf {p : Post} {x : SeatRef} : x ∈ seatsOf p ↔ x.post = p := by
  obtain ⟨q, k⟩ := x
  constructor
  · intro h
    simp only [seatsOf, List.mem_cons, SeatRef.mk.injEq, List.not_mem_nil, or_false] at h
    obtain ⟨h, -⟩ | ⟨h, -⟩ | ⟨h, -⟩ | ⟨h, -⟩ := h <;> exact h
  · rintro rfl
    fin_cases k <;> simp [seatsOf]

/-! ## A post taken out of service (R36) -/

/-- What taking a post out of service leaves. -/
structure State.Unfits (p : Post) (s t : State) : Prop where
  only : s.PollsOnly t
  unfitted : t.post p = ⟨false, 0, 0, false, false, false⟩
  others : ∀ q, q ≠ p → t.post q = s.post q
  attention : p ∉ t.poller.attention
  sweep : p ∉ t.poller.sweep
  seat : ∀ x, t.seat x = if x.post = p then (s.seat x).cleared else s.seat x
  absent : (s.post p).absentShare = true → (∀ q, q ≠ p → (s.post q).absentShare = false) → t.Gone .postAbsent
  silent : (s.post p).silentShare = true → (∀ q, q ≠ p → (s.post q).silentShare = false) → t.Gone .postSilent

/-- The poller with a post's entry and its places in the queues gone, its shares not yet given up (R36). -/
def Poller.without (u : Poller) (p : Post) : Poller :=
  { u with
    ask := u.ask.map (·.unfit p)
    attention := u.attention.filter (· != p)
    sweep := u.sweep.filter (· != p)
    posts := upd u.posts p fun e => { e with fitted := false, absent := 0, missed := 0, attention := false } }

theorem State.unfitPost_eq (s : State) (p : Post) :
    s.unfitPost p =
      (seatsOf p).foldl State.clearSeat (((s.modPoller fun u => u.without p).dropAbsent p).dropSilent p) := rfl

theorem State.unfitPost_unfits (s : State) (p : Post) : State.Unfits p s (s.unfitPost p) := by
  have habsent := (s.modPoller fun u => u.without p).dropAbsent_givesUp p
  have hsilent := ((s.modPoller fun u => u.without p).dropAbsent p).dropSilent_givesUp p
  have hself : (s.modPoller fun u => u.without p).post p =
      ⟨false, 0, 0, false, (s.post p).absentShare, (s.post p).silentShare⟩ := upd_self _ _ _
  have hother : ∀ q, q ≠ p → (s.modPoller fun u => u.without p).post q = s.post q := fun q hq => upd_ne _ _ _ _ hq
  have hpoller : (((s.modPoller fun u => u.without p).dropAbsent p).dropSilent p).poller =
      ((s.modPoller fun u => u.without p).modPost p fun e => { e with absentShare := false, silentShare := false }).poller := by
    refine (hsilent.poller.trans (State.modPost_poller_congr habsent.poller p _)).trans ?_
    rw [State.modPost_modPost]
  have hcleared := State.foldl_clearSeat (seatsOf p) (((s.modPoller fun u => u.without p).dropAbsent p).dropSilent p)
  have hmod : ∀ (v : State) (f : PostEntry → PostEntry), v.PollsOnly (v.modPost p f) := fun v f => ⟨_, v.chain, rfl⟩
  have hpost : ∀ q, ((s.unfitPost p).post q) =
      ((s.modPoller fun u => u.without p).modPost p fun e => { e with absentShare := false, silentShare := false }).post q :=
    fun q => (congrFun hcleared.post q).trans (congrArg (fun u : Poller => u.posts[q]) hpoller)
  refine ⟨?_, ?_, fun q hq => ?_, ?_, ?_, fun x => ?_, fun hp hnone => ?_, fun hp hnone => ?_⟩
  · have hfirst : s.PollsOnly (s.modPoller fun u => u.without p) := ⟨_, s.chain, rfl⟩
    exact hfirst.trans (((hmod _ _).trans habsent.only).trans (((hmod _ _).trans hsilent.only).trans hcleared.only))
  · rw [hpost, State.modPost_post, hself]
  · rw [hpost, State.modPost_post_ne _ _ hq, hother q hq]
  · rw [State.unfitPost_eq, hcleared.attention, hpoller]
    exact fun h => absurd (List.mem_filter.mp h).2 (by simp)
  · rw [State.unfitPost_eq, hcleared.sweep, hpoller]
    exact fun h => absurd (List.mem_filter.mp h).2 (by simp)
  · have hseat : (((s.modPoller fun u => u.without p).dropAbsent p).dropSilent p).seat = s.seat :=
      (State.seat_of_poller hpoller).trans rfl
    rw [State.unfitPost_eq, hcleared.seat x, hseat]
    simp only [mem_seatsOf]
  · refine hcleared.gone _ (hsilent.gone ?_)
    have hgone := (State.dropAbsent_share (s := s.modPoller fun u => u.without p) (p := p) (by rw [hself]; exact hp)).2
      fun q hq => by rw [hother q hq]; exact hnone q hq
    show ((s.modPoller fun u => u.without p).dropAbsent p).Gone .postAbsent
    rw [hgone]
    exact State.withdraw_gone _ _
  · have hdropped : ∀ q, (((s.modPoller fun u => u.without p).dropAbsent p).post q).silentShare =
        ((s.modPoller fun u => u.without p).post q).silentShare := fun q => by
      refine (congrArg (fun u : Poller => (u.posts[q]).silentShare) habsent.poller).trans ?_
      by_cases hq : q = p
      · rw [hq]
        exact (congrArg PostEntry.silentShare
          ((s.modPoller fun u => u.without p).modPost_post p fun e => { e with absentShare := false })).trans rfl
      · exact congrArg PostEntry.silentShare (State.modPost_post_ne _ _ hq)
    have hgone := (State.dropSilent_share (s := (s.modPoller fun u => u.without p).dropAbsent p) (p := p)
      (by rw [hdropped, hself]; exact hp)).2 fun q hq => by rw [hdropped, hother q hq]; exact hnone q hq
    refine hcleared.gone _ ?_
    rw [hgone]
    exact State.withdraw_gone _ _

end Sys2Proof.Machine


/-! The writes of the post and seat tables, taken and refused (R36, R49, R58, R86). -/

namespace Sys2Proof.Machine

/-! ## What a taken write leaves -/

theorem State.rebuildTrack_tracker (s : State) (t : Track) : ∃ k, s.rebuildTrack t = { s with tracker := k } := by
  unfold State.rebuildTrack
  dsimp only
  split
  · exact ⟨s.tracker, rfl⟩
  · exact ⟨_, rfl⟩

theorem State.rebuildSequences_tracker (s : State) : ∃ k, s.rebuildSequences = { s with tracker := k } := by
  obtain ⟨k, hk⟩ := s.rebuildTrack_tracker .up
  obtain ⟨k', hk'⟩ := (s.rebuildTrack .up).rebuildTrack_tracker .down
  refine ⟨k', hk'.trans ?_⟩
  rw [hk]

theorem State.sendAsk_reach {s : State} (h : s.askReady = true) : ∃ u l, s.sendAsk = { s with poller := u, line := l } := by
  obtain ⟨-, hmode, hroom, hwaits⟩ := s.askReady_iff.mp h
  cases hnext : s.poller.nextAsk with
  | none => exact ⟨s.poller, s.line, by rw [State.sendAsk, hnext]⟩
  | some p => exact ⟨_, _, State.sendAsk_room hnext hmode hroom⟩

/-- A due ask changes the poller and the line port alone. -/
theorem State.dueAsk_reach (s : State) : ∃ u l, s.dueAsk = { s with poller := u, line := l } := by
  have hpick : s.duePick .line = { s with line := s.line.duePick s.admin.part.scheduler } := rfl
  unfold State.dueAsk
  dsimp only
  split
  · next hready =>
    obtain ⟨u, l, h⟩ := State.sendAsk_reach hready
    exact ⟨u, l, h⟩
  · exact ⟨s.poller, _, hpick⟩

theorem State.post_of_kept {s t : State} (h : t.poller.kept = s.poller.kept) (p : Post) :
    t.post p = { s.post p with attention := (t.post p).attention } := Poller.post_of_kept h p

/-- A write of a post's fitted field (R36, R86). -/
theorem State.takePostWrite_leaves {s : State} {p : Post} {b : Bool} (h : (s.post p).fitted ≠ b) :
    ((s.takePostWrite p b).post p).fitted = b ∧
      (∀ q, q ≠ p → ((s.takePostWrite p b).post q).fitted = (s.post q).fitted) ∧
      (∀ track, s.Renewed (s.takePostWrite p b) track) ∧
      s.changesOnly (s.takePostWrite p b) [.postPoller, .cabinTracker, .linePort, .stopChain] ∧
      (∀ x, (s.takePostWrite p b).seat x = if x.post = p ∧ b = false then (s.seat x).cleared else s.seat x) ∧
      (b = false → (s.takePostWrite p b).post p = ⟨false, 0, 0, false, false, false⟩ ∧
        p ∉ (s.takePostWrite p b).poller.attention ∧ p ∉ (s.takePostWrite p b).poller.sweep ∧
        ((s.post p).absentShare = true → (∀ q, q ≠ p → (s.post q).absentShare = false) →
          (s.takePostWrite p b).Gone .postAbsent) ∧
        ((s.post p).silentShare = true → (∀ q, q ≠ p → (s.post q).silentShare = false) →
          (s.takePostWrite p b).Gone .postSilent)) := by
  have hreach : ∀ {v : State}, s.dueAsk.PollsOnly v →
      s.changesOnly v.rebuildSequences [.postPoller, .cabinTracker, .linePort, .stopChain] := by
    rintro _ ⟨u, c, rfl⟩
    obtain ⟨_, l, hask⟩ := s.dueAsk_reach
    obtain ⟨k, hk⟩ := State.rebuildSequences_tracker { s.dueAsk with poller := u, chain := c }
    rw [hk, hask]
    refine ⟨fun b hb => ?_, rfl, rfl⟩
    cases b <;> simp [State.sameBlock] at hb ⊢
  have hpost : ∀ q, s.dueAsk.post q = { s.post q with attention := (s.dueAsk.post q).attention } :=
    State.post_of_kept s.dueAsk_kept
  have hseat : s.dueAsk.seat = s.seat := funext (State.seat_of_kept s.dueAsk_kept)
  have htaken : s.takePostWrite p b =
      (if b then s.dueAsk.modPost p fun e => { e with fitted := true } else s.dueAsk.unfitPost p).rebuildSequences :=
    if_neg h
  have hrebuilt : ∀ v : State, (∀ q, v.rebuildSequences.post q = v.post q) ∧ v.rebuildSequences.seat = v.seat := fun v =>
    ⟨fun q => congrArg (fun u : Poller => u.posts[q]) v.rebuildSequences_poller, State.seat_of_poller v.rebuildSequences_poller⟩
  rw [htaken]
  cases b with
  | true =>
    rw [if_pos rfl]
    obtain ⟨hposts, hseats⟩ := hrebuilt (s.dueAsk.modPost p fun e => { e with fitted := true })
    refine ⟨?_, fun q hq => ?_, fun track => State.rebuildSequences_renewed ?_ ?_ track, hreach ⟨_, s.dueAsk.chain, rfl⟩,
      fun x => ?_, nofun⟩
    · rw [hposts, State.modPost_post]
    · rw [hposts, State.modPost_post_ne _ _ hq, hpost q]
    · simp
    · simp
    · rw [if_neg (by simp), hseats]
      exact congrFun hseat x
  | false =>
    rw [if_neg Bool.false_ne_true]
    obtain ⟨hposts, hseats⟩ := hrebuilt (s.dueAsk.unfitPost p)
    have hunfits := s.dueAsk.unfitPost_unfits p
    have hchain : (s.dueAsk.unfitPost p).rebuildSequences.chain = (s.dueAsk.unfitPost p).chain := by simp
    have hkept : (s.dueAsk.unfitPost p).tracker = s.tracker ∧ (s.dueAsk.unfitPost p).rope = s.rope := by
      obtain ⟨u, c, hu⟩ := hunfits.only
      rw [hu]
      exact ⟨s.dueAsk_tracker, s.dueAsk_rope⟩
    obtain ⟨htracker, hrope⟩ := hkept
    refine ⟨?_, fun q hq => ?_, State.rebuildSequences_renewed htracker hrope, hreach hunfits.only, fun x => ?_,
      fun _ => ⟨?_, ?_, ?_, fun hp hnone => ?_, fun hp hnone => ?_⟩⟩
    · rw [hposts, hunfits.unfitted]
    · rw [hposts, hunfits.others q hq, hpost q]
    · rw [hseats, hunfits.seat x, hseat]
      simp only [and_true]
    · rw [hposts, hunfits.unfitted]
    · rw [State.rebuildSequences_poller]
      exact hunfits.attention
    · rw [State.rebuildSequences_poller]
      exact hunfits.sweep
    · rw [State.Gone, hchain]
      exact hunfits.absent (by rw [hpost p]; exact hp) fun q hq => by rw [hpost q]; exact hnone q hq
    · rw [State.Gone, hchain]
      exact hunfits.silent (by rw [hpost p]; exact hp) fun q hq => by rw [hpost q]; exact hnone q hq

/-- A write of a seat's entry (R49, R86). -/
theorem State.takeSeatWrite_leaves (s : State) (r : SeatRef) (f : SeatFields) (t : Track) (m : Compare) :
    (∀ track, s.Renewed (s.takeSeatWrite r f t m) track) ∧
      s.changesOnly (s.takeSeatWrite r f t m) [.postPoller, .cabinTracker, .stopChain] ∧
      (∀ x, x ≠ r → (s.takeSeatWrite r f t m).seat x = s.seat x) ∧
      (s.takeSeatWrite r f t m).seat r =
        ⟨f.fitted, t, f.position, f.window, m, f.warn, f.stop, f.confirm, f.supervised, 0, false, false⟩ := by
  have hcleared := s.clearSeat_cleared r
  have htaken : s.takeSeatWrite r f t m = ((s.clearSeat r).modSeat r fun e => e.written f t m).rebuildSequences := rfl
  have hseats : (s.takeSeatWrite r f t m).seat = ((s.clearSeat r).modSeat r fun e => e.written f t m).seat :=
    State.seat_of_poller (State.rebuildSequences_poller _)
  refine ⟨?_, ?_, fun x hx => ?_, ?_⟩
  · exact State.rebuildSequences_renewed (by simp) (by simp)
  · obtain ⟨u, c, hc⟩ := hcleared.only
    obtain ⟨k, hk⟩ := State.rebuildSequences_tracker ((s.clearSeat r).modSeat r fun e => e.written f t m)
    rw [htaken, hk, hc]
    refine ⟨fun b hb => ?_, rfl, rfl⟩
    cases b <;> simp [State.sameBlock, State.modSeat, State.modPoller] at hb ⊢
  · rw [hseats, State.modSeat_seat_ne _ _ hx, hcleared.seat x, if_neg (by simp [hx])]
  · rw [hseats, State.modSeat_seat, hcleared.seat r, if_pos (by simp)]
    rfl

/-! ## A write of a post (R36) -/

theorem State.postClashes_iff {s : State} {p : Post} {b : Bool} :
    s.postClashes p b = true ↔ b = true ∧ Clash (fun q => decide (q = p) || (s.post q).fitted) s.seat := by
  have hfitted : ∀ q, ((s.modPost p fun e => { e with fitted := true }).post q).fitted =
      (decide (q = p) || (s.post q).fitted) := fun q => by
    by_cases hq : q = p
    · rw [hq, State.modPost_post, decide_eq_true rfl]
      rfl
    · rw [State.modPost_post_ne _ _ hq, decide_eq_false hq]
      rfl
  have hclash := (State.distinctPositions_iff (s.modPost p fun e => { e with fitted := true })).trans
    (Clash.congr (g := fun q => decide (q = p) || (s.post q).fitted) (e := s.seat) hfitted fun _ => rfl)
  rw [State.postClashes, Bool.and_eq_true, Bool.not_eq_true', hclash]

theorem State.doPostWrite_eq (s : State) (p : Post) (b : Bool) :
    s.doPostWrite (p.val + 1) b =
      if s.postClashes p b then s.refuse .badValue
      else if (s.post p).fitted ≠ b ∧ s.still = false then s.refuse .inMotion
      else (s.takePostWrite p b).done := by
  rw [State.doPostWrite, post?_val]

theorem State.doPostWrite_none {s : State} {n : Nat} (h : n = 0 ∨ 48 < n) (b : Bool) :
    s.doPostWrite n b = s.refuse .badValue := by
  rw [State.doPostWrite, post?_none h]

/-! ## A write of a seat (R49) -/

theorem State.seatClashes_iff {s : State} {r : SeatRef} {f : SeatFields} {t : Track} {m : Compare} :
    s.seatClashes r f t m = true ↔
      trackLength s.rope.table t ≤ f.position ∨
        Clash (fun q => (s.post q).fitted) fun x => if x = r then (s.seat r).written f t m else s.seat x := by
  have hentry : ∀ x, (s.modSeat r fun e => e.written f t m).seat x =
      if x = r then (s.seat r).written f t m else s.seat x := fun x => by
    by_cases hx : x = r
    · rw [if_pos hx, hx, State.modSeat_seat]
    · rw [if_neg hx, State.modSeat_seat_ne _ _ hx]
  have hclash := (State.distinctPositions_iff (s.modSeat r fun e => e.written f t m)).trans
    (Clash.congr (g := fun q => (s.post q).fitted) (fun _ => rfl) hentry)
  rw [State.seatClashes, Bool.or_eq_true, decide_eq_true_eq, Bool.not_eq_true', hclash]

theorem seatInRange_iff {f : SeatFields} :
    seatInRange f = true ↔ f.position ≤ 8000000 ∧ f.window ≤ 65535 ∧ f.warn ≤ 32767 ∧ f.stop ≤ 32767 ∧ 1 ≤ f.confirm ∧
      f.confirm ≤ 4 ∧ f.warn ≤ f.stop := by
  simp [seatInRange, and_assoc]

theorem State.doSeatWrite_eq {f : SeatFields} {t : Track} {m : Compare} (ht : f.track = some t) (hm : f.compare = some m)
    (s : State) (r : SeatRef) :
    s.doSeatWrite (r.post.val + 1) r.seat.val f =
      if seatInRange f = false ∨ s.seatClashes r f t m then s.refuse .badValue
      else if (s.seat r).written f t m ≠ s.seat r ∧ s.still = false then s.refuse .inMotion
      else (s.takeSeatWrite r f t m).done := by
  unfold State.doSeatWrite
  simp only [post?_val, index?_val, ht, hm]

theorem State.doSeatWrite_outside {s : State} {post seat : Nat} {f : SeatFields}
    (h : post = 0 ∨ 48 < post ∨ 3 < seat ∨ f.track = none ∨ f.compare = none ∨ seatInRange f = false) :
    s.doSeatWrite post seat f = s.refuse .badValue := by
  unfold State.doSeatWrite
  split
  · next p k t m hp hk ht hm =>
    obtain h | h | h | h | h | h := h
    · rw [post?_none (.inl h)] at hp; cases hp
    · rw [post?_none (.inr h)] at hp; cases hp
    · rw [index?_none h] at hk; cases hk
    · rw [h] at ht; cases ht
    · rw [h] at hm; cases hm
    · exact if_pos (.inl h)
  · rfl

end Sys2Proof.Machine


/-! The writes of the rope, station, channel and cause tables (R58, R98, R115, R172), and the stop-relevant writes together. -/

namespace Sys2Proof.Machine

/-! ## The rope table (R58) -/

theorem ropeInRange_iff {f : RopeFields} :
    ropeInRange f = true ↔ 1 ≤ f.pitch ∧ f.pitch ≤ 65535 ∧ 100 ≤ f.overspeed ∧ f.overspeed ≤ 20000 ∧ 500 ≤ f.tachSilent ∧
      f.tachSilent ≤ 10000 ∧ f.launchUp ≤ 65535 ∧ f.launchDown ≤ 65535 ∧ 1000 ≤ f.lengthUp ∧ f.lengthUp ≤ 8000000 ∧
      1000 ≤ f.lengthDown ∧ f.lengthDown ≤ 8000000 ∧ f.arrivalWindow ≤ 65535 ∧ 1 ≤ f.slipLimit ∧ f.slipLimit ≤ 65535 ∧
      1 ≤ f.stopTime ∧ f.stopTime ≤ 120 := by
  simp [ropeInRange, and_assoc]

theorem Poller.seatBeyond_iff {u : Poller} {f : RopeFields} :
    u.seatBeyond f = true ↔ ∃ e ∈ u.seats.toList, e.fitted = true ∧ trackLength f e.track ≤ e.position := by
  rw [Poller.seatBeyond, List.any_eq_true]
  simp only [Bool.and_eq_true, decide_eq_true_eq]

theorem State.doRopeWrite_refused {s : State} {f : RopeFields} (h : ropeInRange f = false ∨ s.poller.seatBeyond f = true) :
    s.doRopeWrite f = s.refuse .badValue := if_pos h

theorem State.doRopeWrite_inRange {s : State} {f : RopeFields} (h : ropeInRange f = true) (hb : s.poller.seatBeyond f = false) :
    s.doRopeWrite f =
      if s.rope.table ≠ f ∧ s.still = false then s.refuse .inMotion
      else ((s.modRope fun u => { u with table := f }).judgeSlip).done :=
  if_neg (by rw [h, hb]; decide)

/-! ## The station table (R98) -/

theorem State.doStationWrite_none {s : State} {d : Option Detector} {f : StationFields}
    (h : d = none ∨ f.polarity = none ∨ 255 < f.debounce) : s.doStationWrite d f = s.refuse .badValue := by
  unfold State.doStationWrite
  split
  · next d pol hpol =>
    obtain h | h | h := h
    · cases h
    · rw [h] at hpol; cases hpol
    · exact if_pos h
  · rfl

theorem State.doStationWrite_eq {e : StationEntry} (h : e.debounce ≤ 255) (s : State) (d : Detector) :
    s.doStationWrite (some d) ⟨e.fitted, some e.polarity, e.debounce⟩ =
      if (s.rail.detectors[detectorIndex d]).entry ≠ e ∧ s.still = false then s.refuse .inMotion
      else (s.modDetector (detectorIndex d) fun u => u.written e).done :=
  if_neg (Nat.not_lt.mpr h)

/-- A write that leaves fitted and polarity replaces the entry alone. -/
theorem State.modDetector_written {s : State} {i : Fin 9} {e : StationEntry}
    (hfitted : (s.rail.detectors[i]).entry.fitted = e.fitted) (hpol : (s.rail.detectors[i]).entry.polarity = e.polarity) :
    (s.modDetector i fun u => u.written e) =
      { s with rail := { s.rail with detectors := upd s.rail.detectors i fun u => { u with entry := e } } } := by
  have hsame : (s.rail.detectors[i]).written e = { s.rail.detectors[i] with entry := e } :=
    if_pos ⟨hfitted.symm, hpol.symm⟩
  exact congrArg (fun l => ({ s with rail := { s.rail with detectors := l } } : State)) (upd_congr hsame)

/-- A write that changes fitted or polarity sets the filter afresh. -/
theorem State.modDetector_afresh {s : State} {i : Fin 9} {e : StationEntry}
    (h : (s.rail.detectors[i]).entry.fitted ≠ e.fitted ∨ (s.rail.detectors[i]).entry.polarity ≠ e.polarity) :
    (s.modDetector i fun u => u.written e) =
      { s with rail :=
        { s.rail with detectors := upd s.rail.detectors i fun u =>
          { u with
            entry := e, timer := none
            present := e.fitted && (match e.polarity with
              | .presentHigh => u.level
              | .presentLow => !u.level) } } } := by
  have hafresh : (s.rail.detectors[i]).written e = { s.rail.detectors[i] with
      entry := e, timer := none
      present := e.fitted && (match e.polarity with
        | .presentHigh => (s.rail.detectors[i]).level
        | .presentLow => !(s.rail.detectors[i]).level) } := by
    rw [DetectorUnit.written, if_neg fun ⟨hf, hp⟩ => h.elim (· hf.symm) (· hp.symm), detectorAfresh]
    cases e.polarity <;> rfl
  exact congrArg (fun l => ({ s with rail := { s.rail with detectors := l } } : State)) (upd_congr hafresh)

/-! ## The channel table (R115) -/

theorem State.doChannelWrite_none {s : State} {n : Nat} {role : Option Role} {sw : Option Switching}
    {good drive reverse attempts : Nat}
    (h : 7 < n ∨ role = none ∨ sw = none ∨ 255 < good ∨ drive = 0 ∨ 255 < drive ∨ reverse = 0 ∨ 50 < reverse ∨
      attempts = 0 ∨ 7 < attempts) :
    s.doChannelWrite (.channel n role sw good drive reverse attempts) = s.refuse .badValue := by
  unfold State.doChannelWrite
  dsimp only
  split
  · next k r w hk =>
    obtain h | h | h | h := h
    · rw [index?_none h] at hk; cases hk
    · cases h
    · cases h
    · exact if_neg (by omega)
  · rfl

theorem State.doChannelWrite_channel {e : ChannelEntry} (hgood : e.powerGood ≤ 255) (hdrive : 1 ≤ e.driveTime)
    (hdrive' : e.driveTime ≤ 255) (hreverse : 1 ≤ e.reverseTime) (hreverse' : e.reverseTime ≤ 50) (hattempts : 1 ≤ e.attempts)
    (hattempts' : e.attempts ≤ 7) (s : State) (k : Fin 8) :
    s.doChannelWrite (.channel k.val (some e.role) (some e.switching) e.powerGood e.driveTime e.reverseTime e.attempts) =
      s.writeChannel k e := by
  unfold State.doChannelWrite
  simp only [index?_val]
  exact if_pos ⟨hgood, hdrive, hdrive', hreverse, hreverse', hattempts, hattempts'⟩

theorem State.writeChannel_moving {s : State} {k : Fin 8} {e : ChannelEntry} (hrole : (s.channel k).entry.role ≠ e.role)
    (hstill : s.still = false) : s.writeChannel k e = s.refuse .inMotion := if_pos ⟨hrole, hstill⟩

section
variable {s : State} {k : Fin 8} {e : ChannelEntry} (h : s.still = true ∨ (s.channel k).entry.role = e.role)
include h

theorem State.writeChannel_judged :
    s.writeChannel k e =
      if s.switchingInUse k e.switching then s.refuse .inUse else (s.modChannel k fun c => c.written e).done := by
  refine if_neg fun ⟨hrole, hmoving⟩ => ?_
  obtain h | h := h
  · rw [h] at hmoving; cases hmoving
  · exact hrole h

theorem State.writeChannel_same (hsw : (s.channel k).entry.switching = e.switching) :
    s.writeChannel k e = (s.modChannel k fun c => { c with entry := e }).done := by
  have hfree : s.switchingInUse k e.switching = false := by
    unfold State.switchingInUse
    dsimp only
    rw [hsw]
    simp
  rw [State.writeChannel_judged h, hfree]
  have hwritten : (s.channel k).written e = { s.channel k with entry := e } := by
    rw [Channel.written, if_pos hsw.symm]
  exact congrArg State.done (State.modChannel_congr hwritten)

theorem State.writeChannel_inUse (hsw : (s.channel k).entry.switching ≠ e.switching)
    (hused : (s.channel k).state.powered = true ∨ ∃ g : Fin 2, e.switching = .group g ∧ s.doors.groupOn[g] = true) :
    s.writeChannel k e = s.refuse .inUse := by
  have hinUse : s.switchingInUse k e.switching = true := by
    unfold State.switchingInUse
    dsimp only
    rw [decide_eq_true hsw, Bool.true_and, Bool.or_eq_true]
    refine hused.imp id fun ⟨g, hg, hon⟩ => ?_
    rw [hg]
    exact hon
  rw [State.writeChannel_judged h, hinUse]
  rfl

theorem State.writeChannel_joins (hsw : (s.channel k).entry.switching ≠ e.switching)
    (hoff : (s.channel k).state.powered = false) (hgroup : ∀ g : Fin 2, e.switching = .group g → s.doors.groupOn[g] = false) :
    s.writeChannel k e = (s.modChannel k fun c => { c with entry := e, groupOff := false }).done := by
  have hfree : s.switchingInUse k e.switching = false := by
    unfold State.switchingInUse
    dsimp only
    rw [decide_eq_true hsw, Bool.true_and, hoff, Bool.false_or]
    cases hg : e.switching with
    | group g => exact hgroup g hg
    | individual => rfl
  have hwritten : (s.channel k).written e = { s.channel k with entry := e, groupOff := false } := by
    rw [Channel.written, if_neg (Ne.symm hsw)]
  rw [State.writeChannel_judged h, hfree]
  exact congrArg State.done (State.modChannel_congr hwritten)

end

/-! ## The cause table (R172) -/

/-- A cause table write with its category clamped up to the fixed minimum. -/
theorem State.doCauseWrite_eq (s : State) (c : Cause) (cat : Category) (call notice : Bool) :
    s.doCauseWrite (causeCode c).val ⟨some cat, call, notice⟩ =
      let clamped := decide (cat.rank < (causeMinimum c).rank)
      let taken := if clamped then causeMinimum c else cat
      let v := if clamped then s.countChain Ctr.clamp else s
      if taken.rank < ((s.chain.table[causeCode c]).category).rank ∧ s.still = false then v.refuse .inMotion
      else
        (State.judgeRise { v with chain :=
          { v.chain with
            table := upd s.chain.table (causeCode c) fun _ => ⟨taken, call, notice⟩
            causes := s.chain.causes.map fun r =>
              if r.code = c ∧ r.category.rank < taken.rank then { r with category := taken } else r } },
          .done, .causeTaken clamped taken) := by
  have hsup : cat.sup (causeMinimum c) =
      if decide (cat.rank < (causeMinimum c).rank) = true then causeMinimum c else cat := by
    rw [Category.sup]
    simp only [decide_eq_true_eq]
  have hrises : ∀ (taken : Category) (r : CauseRecord),
      (if r.code = c then { r with category := r.category.sup taken } else r) =
        if r.code = c ∧ r.category.rank < taken.rank then { r with category := taken } else r := by
    intro taken r
    by_cases hcode : r.code = c
    · rw [if_pos hcode]
      by_cases hlow : r.category.rank < taken.rank
      · rw [if_pos ⟨hcode, hlow⟩, Category.sup, if_pos hlow]
      · rw [if_neg fun h => hlow h.2, Category.sup, if_neg hlow]
    · rw [if_neg hcode, if_neg fun h => hcode h.1]
  unfold State.doCauseWrite
  simp only [causeOfCode_code, hsup, State.takeCauseWrite, hrises]
  cases decide (cat.rank < (causeMinimum c).rank) <;> rfl

end Sys2Proof.Machine


/-! The stop-relevant writes (R36, R49, R58, R98, R115, R172, R187), by table. -/

namespace Sys2Proof.Machine

/-- Settles O47: each table's write outside its ranges, in motion and taken; then the sequences the tables give. -/
theorem stopRelevantWrites : Obligations.StopRelevantWrites := by
  unfold Obligations.StopRelevantWrites
  refine ⟨fun s rq tag hpin hcon => ?writes, fun s track => buildSequence_seats s track⟩
  case writes =>
    intro answers still renewed clash refused
    have hpost : ∀ n b, exec (.postTableWrite rq tag n b) s =
        .next (State.settleRequest rq .tableWrite tag (s.doPostWrite n b)) := fun n b =>
      State.live_request_console hpin hcon .tableWrite tag fun s => s.doPostWrite n b
    have hseat : ∀ n k f, exec (.seatTableWrite rq tag n k f) s =
        .next (State.settleRequest rq .tableWrite tag (s.doSeatWrite n k f)) := fun n k f =>
      State.live_request_console hpin hcon .tableWrite tag fun s => s.doSeatWrite n k f
    have hrope : ∀ f, exec (.ropeTableWrite rq tag f) s =
        .next (State.settleRequest rq .tableWrite tag (s.doRopeWrite f)) := fun f =>
      State.live_request_console hpin hcon .tableWrite tag fun s => s.doRopeWrite f
    have hstation : ∀ d f, exec (.stationTableWrite rq tag d f) s =
        .next (State.settleRequest rq .tableWrite tag (s.doStationWrite d f)) := fun d f =>
      State.live_request_console hpin hcon .tableWrite tag fun s => s.doStationWrite d f
    have hchannel : ∀ w, exec (.channelTableWrite rq tag w) s =
        .next (State.settleRequest rq .tableWrite tag (s.doChannelWrite w)) := fun w =>
      State.live_request_console hpin hcon .tableWrite tag fun s => s.doChannelWrite w
    have hcause : ∀ code f, exec (.causeTableWrite rq tag code f) s =
        .next (State.settleRequest rq .tableWrite tag (s.doCauseWrite code f)) := fun code f =>
      State.live_request_console hpin hcon .tableWrite tag fun s => s.doCauseWrite code f
    have hmoves : still = true → s.still ≠ false := fun h h' => by
      have h'' : s.still = true := h
      rw [h'] at h''
      cases h''
    refine ⟨fun p b => ?post, fun n b h => ?postOutside, fun r f track m ht hm hpos hwin hwarn hstop hlow hhigh => ?seat,
      fun post seat f h => ?seatOutside, fun f => ?rope, fun d f h => ?stationOutside,
      fun n role sw good drive reverse attempts h => ?channelOutside, fun d e hd => ?station,
      fun k e hg hd hd' hr hr' ha ha' => ?channel, fun c cat call notice => ?cause⟩
    case post =>
      intro clashes write
      have hexec : exec write s = _ := hpost (p.val + 1) b
      rw [State.doPostWrite_eq] at hexec
      refine ⟨fun hc => ?_, fun hc => ?_⟩
      · show exec write s = _
        rw [hexec, if_pos (State.postClashes_iff.mpr hc)]
        rfl
      · rw [if_neg fun h => hc (State.postClashes_iff.mp h)] at hexec
        refine ⟨fun hsame => ?_, fun hne hmoving => ?_, fun hne hstill => ?_⟩
        · rw [hexec, if_neg fun h => h.1 hsame, State.takePostWrite, if_pos hsame]
          rfl
        · rw [hexec, if_pos ⟨hne, hmoving⟩]
          rfl
        · rw [if_neg fun h => hmoves hstill h.2] at hexec
          exact ⟨_, hexec, State.takePostWrite_leaves hne⟩
    case postOutside =>
      show exec _ s = _
      rw [hpost, State.doPostWrite_none h]
      rfl
    case seat =>
      intro clashes write
      have hexec : exec write s = _ := hseat (r.post.val + 1) r.seat.val f
      have hrange : seatInRange f = true :=
        seatInRange_iff.mpr ⟨hpos, hwin, hwarn.trans hstop, hstop, hlow, hhigh, hwarn⟩
      rw [State.doSeatWrite_eq ht hm] at hexec
      refine ⟨fun hc => ?_, fun hc => ?_⟩
      · show exec write s = _
        rw [hexec, if_pos (.inr (State.seatClashes_iff.mpr hc))]
        rfl
      · rw [if_neg fun h => h.elim (by rw [hrange]; decide) fun h => hc (State.seatClashes_iff.mp h)] at hexec
        refine ⟨fun hne hmoving => ?_, fun hfree => ?_⟩
        · rw [hexec, if_pos ⟨hne, hmoving⟩]
          rfl
        · rw [if_neg fun h => hfree.elim (fun hstill => hmoves hstill h.2) h.1] at hexec
          exact ⟨_, hexec, s.takeSeatWrite_leaves r f track m⟩
    case seatOutside =>
      have hout : post = 0 ∨ 48 < post ∨ 3 < seat ∨ f.track = none ∨ f.compare = none ∨ seatInRange f = false := by
        refine h.imp id (Or.imp id (Or.imp id (Or.imp id (Or.imp id fun hrange => Bool.eq_false_iff.mpr fun hin => ?_))))
        rw [seatInRange_iff] at hin
        omega
      show exec _ s = _
      rw [hseat, State.doSeatWrite_outside hout]
      rfl
    case rope =>
      intro inRange beyond
      refine ⟨fun h => ?_, fun hin hnear => ?_⟩
      · have hrefused : ropeInRange f = false ∨ s.poller.seatBeyond f = true :=
          h.imp (fun hout => Bool.eq_false_iff.mpr fun hin => hout (ropeInRange_iff.mp hin)) Poller.seatBeyond_iff.mpr
        show exec _ s = _
        rw [hrope, State.doRopeWrite_refused hrefused]
        rfl
      · have hbeyond : s.poller.seatBeyond f = false := Bool.eq_false_iff.mpr fun h => hnear (Poller.seatBeyond_iff.mp h)
        rw [hrope, State.doRopeWrite_inRange (ropeInRange_iff.mpr hin) hbeyond]
        refine ⟨fun hne hmoving => ?_, fun hfree => ?_⟩
        · rw [if_pos ⟨hne, hmoving⟩]
          rfl
        · rw [if_neg fun h => hfree.elim (fun hstill => hmoves hstill h.2) h.1]
          rfl
    case stationOutside =>
      show exec _ s = _
      rw [hstation, State.doStationWrite_none h]
      rfl
    case channelOutside =>
      show exec _ s = _
      rw [hchannel, State.doChannelWrite_none h]
      rfl
    case station =>
      intro i write
      have hexec : exec write s = _ := hstation (some d) ⟨e.fitted, some e.polarity, e.debounce⟩
      rw [State.doStationWrite_eq hd] at hexec
      refine ⟨fun hne hmoving => ?_, fun hfree hfitted hpol => ?_, fun hstill hchanged => ?_⟩
      · rw [hexec, if_pos ⟨hne, hmoving⟩]
        rfl
      · rw [hexec, if_neg fun h => hfree.elim (fun hstill => hmoves hstill h.2) h.1,
          State.modDetector_written hfitted hpol]
        rfl
      · rw [hexec, if_neg fun h => hmoves hstill h.2, State.modDetector_afresh hchanged]
        rfl
    case channel =>
      intro write
      have hexec : exec write s = _ := hchannel
        (.channel k.val (some e.role) (some e.switching) e.powerGood e.driveTime e.reverseTime e.attempts)
      rw [State.doChannelWrite_channel hg hd hd' hr hr' ha ha'] at hexec
      refine ⟨fun hne hmoving => ?_, fun hfree hsw => ?_, fun hfree hsw => ⟨fun hused => ?_, fun hoff hgroup => ?_⟩⟩
      · rw [hexec, State.writeChannel_moving hne hmoving]
        rfl
      · rw [hexec, State.writeChannel_same hfree hsw]
        rfl
      · rw [hexec, State.writeChannel_inUse hfree hsw hused]
        rfl
      · rw [hexec, State.writeChannel_joins hfree hsw hoff hgroup]
        rfl
    case cause =>
      intro write clamped taken present v
      have hexec : exec write s = _ := hcause (causeCode c).val ⟨some cat, call, notice⟩
      rw [State.doCauseWrite_eq] at hexec
      refine ⟨fun hlow hmoving => ?_, fun hfree => ?_⟩
      · exact hexec.trans (congrArg (fun r => Host.Outcome.next (State.settleRequest rq .tableWrite tag r))
          (if_pos ⟨hlow, hmoving⟩))
      · exact hexec.trans (congrArg (fun r => Host.Outcome.next (State.settleRequest rq .tableWrite tag r))
          (if_neg fun h => hfree.elim (fun hstill => hmoves hstill h.2) (Nat.not_le.mpr h.1)))

end Sys2Proof.Machine
